-- ==== Sys2Proof/Word.lean ====
section
/-!
DEFINITION. The words of the PX6464: a register and a host transfer is 32 bits (R6), a byte of deck SRAM or of the
attached store is 8 bits. Field values, times and counts are natural numbers, signed quantities are integers.
-/
namespace Sys2Proof

/-- A register word, as the host writes and reads it (R6). -/
abbrev Word := BitVec 32

/-- A byte of memory. -/
abbrev Byte := BitVec 8

end Sys2Proof
end

