-- ==== Sys2Proof/Syntax.lean ====
section
/-!
DEFINITION. The commands of the PX6464: one constructor for each row of the table of operations and events, with the
operands that the row's rule gives it. What the device measures or receives from outside is an operand.
-/
namespace Sys2Proof

/-- Who writes a register or asks for an action (R412). -/
inductive Origin where
  | none | host | link | service | firmware | loop | keystone
deriving DecidableEq, Repr

/-- What the time servo measures in one update: the offset in sixteenths of a nanosecond (R36, R489) and the value of r
that the servo commits when the update is accepted (R32, R40). -/
structure Update where
  offset16 : Int
  rate : Int
deriving DecidableEq, Repr

/-- A received IEEE 1588 message, by the options of R35, and the update that it completes, if it completes one. -/
structure PtpMsg where
  port : Nat
  ethernet : Bool
  destOk : Bool
  peerDelay : Bool
  unicastNegotiation : Bool
  securityTlv : Bool
  timeReceiver : Bool
  domain : Nat
  update : Option Update
deriving DecidableEq, Repr

/-- The settings of the host's function that its configuration writes leave (R425, R433, R435, R436): the power state D3hot, Bus Master
Enable, MSI-X Enable, Function Mask, the mask of vector v as bit v, the base addresses, a Max_Payload_Size of 256 bytes, and whether the
Unsupported Request of Advanced Error Reporting is cleared. -/
structure HostCfg where
  d3hot : Bool
  busMaster : Bool
  enable : Bool
  funcMask : Bool
  mask : Nat
  bar0 : Nat
  bar2 : Nat
  payload256 : Bool
  aerClear : Bool
deriving DecidableEq, Repr

/-- What a fit found for a path (R158): the small-signal gain g, in 2^-16; the solution da over the columns (t, k) but a(0, 0), in 2^-29, or
none where the program wrote its set itself (R211); and the powers of e and of g times the band of x. -/
structure FitResult where
  path : Nat
  g : Int × Int
  da : List (Int × Int)
  errPow : Nat
  sigPow : Nat
deriving DecidableEq, Repr

/-- What the observation receiver brings of a finished capture (R153, R154): did a sample reach full scale, and the words of y. -/
structure CapResult where
  overload : Bool
  y : List Nat
deriving DecidableEq, Repr

/-- A frame received at a fronthaul port (R265): the port, the addresses, the 802.1Q tag (0: none), the EtherType and the Ethernet payload behind
it. -/
structure XkFrame where
  port : Nat
  dst : Nat
  src : Nat
  tci : Nat
  etype : Nat
  payload : List Nat
deriving DecidableEq, Repr

/-- The samples that the chain of one RX path delivered of one uplink symbol, prefix first, for air time that the model's clock
passed in one step (R119, log entry 61). -/
structure UlSamples where
  path : Nat
  x : List (Int × Int)
deriving DecidableEq, Repr

/-- A program of the microcode directory (R193): entry bundle, class, local memory needed in bytes, and its ovf_trap bit. -/
structure TrussProg where
  entry : Nat
  cls : Nat
  need : Nat
  trap : Bool
deriving DecidableEq, Repr

/-- A source of a truss vector operation (R194): a vector register, an accumulator, or the K bus through AG2, as a vector or
as one word broadcast to every lane. -/
inductive TSrc where
  | v (k : Nat)
  | a (k : Nat)
  | kBus
  | kBroadcast
deriving DecidableEq, Repr

/-- A destination of a truss vector operation: a vector register or an accumulator. -/
inductive TDst where
  | v (k : Nat)
  | a (k : Nat)
deriving DecidableEq, Repr

/-- What an AGSET writes (R202, R204). -/
inductive AgField where
  | base | length | pointer | offset | mode | rrsize
deriving DecidableEq, Repr

/-- Where an operation stands in its program (R194, R205): its stage in a LOOPM kernel, and whether it is the last of its bundle. -/
structure TBun where
  stg : Nat
  last : Bool
deriving DecidableEq, Repr

/-- A response measured in a calibration run (R223, R224), in the steps of the array trims (R220): 0.025 dB, 0.3515625 degrees and
7.8125 ps. -/
structure CalMeas where
  mag : Int
  phase : Int
  delay : Int
deriving DecidableEq, Repr

/-- One path's outcome of a calibration run (R228, R232): the pre-measured levels and the measured result, which R228 judges; the trim word
that the run gives for kinds 1 to 6 (kvco and band for SYNTH), the path's response for the array kinds; and the words of the measured
responses that host-assisted mode exports. -/
structure CalOutcome where
  path : Nat
  kind : Nat
  pre : List Int
  post : List Int
  trim : Nat
  band : Nat
  meas : CalMeas
  resp : List Nat
deriving DecidableEq, Repr

/-- The commands (spec/opcode_table.json), in the table's order. -/
inductive Instr where
  /-- R9: A write to a register that has no row of its own acts by the access code of each field. -/
  | registerWrite (org : Origin) (off width : Nat) (l : List Word)
  /-- R24: A write to SPAN_ADAPT_MODE changes the mode of adaptive functions in Ready, and is refused in any other power state. -/
  | adaptModeWrite (org : Origin) (v : Word)
  /-- R17: A crossing transfer arrives; a single-bit error is corrected, and an uncorrectable one is delivered as zeros. -/
  | crossingTransfer (p : Nat) (up : Bool) (errBits : Nat)
  /-- R33: A read of TL_NT latches TL_SNAP_TICK and TL_SNAP_FRAME on the same air tick. -/
  | tlNtRead
  /-- R35: A received IEEE 1588 message is used by the time servo, or is discarded and counted when it uses an unsupported option. -/
  | ptpMessage (m : PtpMsg)
  /-- R63: A rising edge on 1PPS in under ref_sel 1 is timestamped and forms an update. -/
  | ppsEdge (rate : Int)
  /-- R63: No 1PPS edge for 2 s raises E007, and the servo continues on PTP alone. -/
  | ppsLost
  /-- R62: At each second boundary of network time, 1PPS out rises for 10 ms while the quality is LOCKED or HOLDOVER. -/
  | ppsOut
  /-- R42: No accepted update for loss_timeout moves a LOCKED device to HOLDOVER. -/
  | lossTimeout
  /-- R44: TL_ERR_EST is recomputed every 1 ms from the state of the time quality. -/
  | errEstRecompute
  /-- R43: When transmit stops being permitted, each bay in TX or Loopback is muted at its next symbol boundary and passes to Warm. -/
  | timeMute (b : Nat)
  /-- R32: A write to TL_RATE_LO commits both halves of r, clamped to ±100 ppm. -/
  | rateCommit (org : Origin) (v : Word)
  /-- R32: With role LEADER or FOLLOWER, a committed r takes effect at the start of the frame after the ALIGN frame that carries it. -/
  | rateApply
  /-- R30: A write to TL_FRAME_OFFSET is stored for the next step, or refused when it is out of range. -/
  | frameOffsetWrite (org : Origin) (v : Word)
  /-- R41: TL_CMD.restep in Ready clears stepped, moves the time quality to FREE and is recorded as a governed change. -/
  | restep
  /-- R60: TL_CMD.align in Ready with role FOLLOWER makes the device capture the next valid ALIGN edge. -/
  | align
  /-- R56: TL_CMD.cancel_all cancels every armed entry that the lead rule allows. -/
  | cancelAll
  /-- R59: A leader drives one ALIGN frame on ALIGN_OUT at every frame boundary. -/
  | alignFrameSend
  /-- R61: A follower checks a received ALIGN frame and takes r, frame and time quality from it. -/
  | alignFrameReceived (payload crc : Nat)
  /-- R61: An ALIGN frame that is missing at its frame boundary is counted. -/
  | alignFrameMissed
  /-- R414: TL_NT passing from 0xFFFF_FFFF to 0 by advance increments LEDGER_EPOCH. -/
  | ledgerEpochWrap
  /-- R50: A write to a timetable entry word stores fields, or is ignored with armed_wr when the entry is ARMED. -/
  | ttEntryWrite (org : Origin) (i w : Nat) (v : Word)
  /-- R51: A write of arm = 1 checks form, count and lead, and makes the entry ARMED, REFUSED or late. -/
  | ttArm (org : Origin) (i rep late : Nat)
  /-- R56: A write of cancel = 1 cancels an ARMED entry when at least 1,967 ticks remain before its execution. -/
  | ttCancel (org : Origin) (i : Nat)
  /-- R99: A timetable FE_STATE entry requests a front-end state for a bay at its air time. -/
  | feState (i : Nat)
  /-- R182: A timetable BEAM_SWITCH entry puts a rail weight buffer in force and optionally starts a load. -/
  | beamSwitch (i : Nat)
  /-- R148: A timetable DPD_APPLY entry changes the coefficient set of each targeted path. -/
  | dpdApply (i : Nat)
  /-- R111: A timetable GAIN_SET entry sets the receive and transmit attenuation of a bay or path. -/
  | gainSet (i : Nat)
  /-- R135: A timetable RESP_SWAP entry changes a pier stage response, by cross-fade when the stage produces valid output. -/
  | respSwap (i : Nat)
  /-- R133: A SYNC restarts the sample chains of a span from an empty state. -/
  | sync (i : Nat)
  /-- R78: A timetable COMMIT entry requests the commit of the shadow at its air time. -/
  | commit (i : Nat)
  /-- R225: A timetable CAL_RUN entry checks its bay and starts a calibration run of the named kind. -/
  | calRun (i : Nat)
  /-- R152: A timetable CAPTURE entry starts a capture of one path when its conditions hold at T − settle. -/
  | capture (i : Nat)
  /-- R207: A timetable TRUSS_JOB entry dispatches a job descriptor to a logical truss engine. -/
  | trussJob (i : Nat)
  /-- R347: A timetable DMA_START entry starts a DMA channel at a descriptor in deck SRAM. -/
  | dmaStart (i : Nat)
  /-- R438: A timetable NOTIFY entry raises E158 with its tag. -/
  | notify (i : Nat)
  /-- R423: A timetable SNAPSHOT entry writes a SNAPSHOT record, latches its sequence and chain head, and raises E155. -/
  | snapshot (i : Nat)
  /-- R68: SPAN_CMD.form starts a full or partial formation from a span-map image. -/
  | form (v : Word)
  /-- R66: The keystone's hash of the image completes and the formation passes to CHECKING or is refused. -/
  | loadingDone
  /-- R77: The checks of header, records, references and capacities complete, and the formation passes to FORMING or is refused. -/
  | checkingDone
  /-- R66: The writing of shadow memory completes, form_state enters SHADOW_READY, and E145 is raised. -/
  | shadowReady
  /-- R77: An uncorrectable error of shadow memory during FORMING refuses the formation with reason MEM_ERR. -/
  | formMemErr
  /-- R70: SPAN_CMD.abort discards the shadow and records reason ABORTED. -/
  | abort (v : Word)
  /-- R78: SPAN_CMD.commit requests a commit at the next reference-grid boundary at least 1,967 ticks later. -/
  | spanCmdCommit (v : Word)
  /-- R79: A die swaps its active and shadow structure pointers and acknowledges within the freeze window. -/
  | swapAck (die : Nat)
  /-- R79: At the end of the freeze window, the device writes REG_INIT pairs, loads modes, advances the seal epoch and resumes dispatch. -/
  | commitRelease
  /-- R84: SPAN_CMD.unform in Ready requests an unform at the next reference-grid boundary. -/
  | unform (v : Word)
  /-- R84: At the unform's release, bays go Off, entries are cancelled and RWL fields unlock. -/
  | unformRelease
  /-- R89: A read of DECK_SEAL_EPOCH latches the published seal into DECK_SEAL0 to DECK_SEAL7. -/
  | sealEpochRead
  /-- R88: After a change that advances the epoch, the seals are recomputed and published with the epoch within 1 ms. -/
  | sealRecompute
  /-- R90: A pier recomputes its leaf seal and the deck compares it with its own copy. -/
  | pierSealCheck (p : Nat) (agree : Bool)
  /-- R90: The reload of a diverged pier completes, and the pier is restored or held. -/
  | pierReloadDone (p : Nat) (agree : Bool)
  /-- R92: A write to DECK_HOSTLEVEL declares the host's interface level in Ready, or is refused with E152. -/
  | hostlevelWrite (org : Origin) (v : Word)
  /-- R99: A write of BAY_FE_CTRL.req requests a front-end state, pending until a boundary for RF states. -/
  | feRequest (b st : Nat)
  /-- R102: A pending register request for RX, TX or Loopback takes effect at its boundary and is checked. -/
  | feRequestEffect (b : Nat)
  /-- R97: An Off, Standby or Warm transition of a bay completes. -/
  | transitionComplete (b : Nat)
  /-- R104: A bay's synthesiser reaches lock. -/
  | synthLock (b band : Nat)
  /-- R104: At the first subframe boundary after lock, the synthesiser aligns its phase and lo_ready rises. -/
  | phaseAligned (b : Nat)
  /-- R98: 1,573 air ticks after it starts, a turnaround ends in its new state. -/
  | turnaroundComplete (b : Nat)
  /-- R106: A bay's synthesiser loses lock, the bay is muted within 2 µs, and E064 + 8p is raised. -/
  | synthUnlock (b : Nat)
  /-- R107: 100 µs after a loss of lock without relock, the synthesiser repeats the full band search. -/
  | relockSearch (b : Nat)
  /-- R107: 1 ms after a loss of lock without relock, the bay passes to Standby with failed set, and E065 + 8p is raised. -/
  | synthFail (b : Nat)
  /-- R112: A write to BAY_GAIN_k is shown at once and applies at the next reference-grid boundary at least 1,967 ticks later. -/
  | gainWrite (n tx rx : Nat)
  /-- R138: A register write deferred to a symbol boundary takes effect there, such as a stage shift, dl_att, arch scale or girder shift. -/
  | deferredWriteEffect
  /-- R113: At the end of a slot, a path with ovl_cnt samples above threshold in a symbol counts an overloaded slot. -/
  | rxOverload (n : Nat) (symbols : List (List (Int × Int)))
  /-- R115: A detected path fault silences the path within 2 µs and sets its fault-shed bit. -/
  | pathFault (n cause : Nat)
  /-- R115: A fault shed completes with the clear code driven, and E066 + 8p is raised. -/
  | shedComplete (n us : Nat)
  /-- R176: At the symbol boundary after a shed or rejoin, the girders use the recomputed scales ρ. -/
  | renormalise (c : Nat)
  /-- R116: A write to BAY_SHED host bits sheds or releases paths at the next symbol boundary of the bay's carriers. -/
  | hostShed (b tx rx : Nat)
  /-- R116: A write of 1 to a fault bit of BAY_SHED clears the fault shed. -/
  | faultShedClear (b tx rx : Nat)
  /-- R116: A path whose shed causes are cleared rejoins at the first symbol boundary in a guard period of its bay. -/
  | pathRejoin (n persists : Nat)
  /-- R136: A cross-fade ends after 64 samples, and a queued swap starts. -/
  | crossFadeEnd (n dir : Nat)
  /-- R146: A write to a coefficient set is accepted or ignored with wr_refused, and clears the set's ready and bad bits. -/
  | coefWrite (org : Origin) (n set w : Nat) (v : Word)
  /-- R145: BAY_DPD_CMD.expand starts the expansion of a coefficient set into its LUTs. -/
  | expand (n set : Nat)
  /-- R145: An expansion completes and the set becomes ready or bad. -/
  | expansionDone (b : Nat)
  /-- R162: BAY_DPD_CMD.clear_fb ends FALLBACK for a path and restores its tx_att. -/
  | clearFb (n : Nat)
  /-- R154: A finished capture crosses to the deck and is written to its slot with its status and OWR. -/
  | captureWritten (b : Nat) (r : CapResult)
  /-- R161: At the next reference-grid slot boundary, the path returns to its held set or enters FALLBACK. -/
  | revert (n : Nat)
  /-- R160: No OK verification capture within verify_to releases the held set unverified. -/
  | verifyTimeout (n : Nat)
  /-- R159: No OK capture for 500 ms while transmitting puts the path in HOLD, and E069 + 8p is raised. -/
  | obsFail (n : Nat)
  /-- R168: A write to the codebook window stages a word, and a write to word 63 commits the entry. -/
  | codebookWrite (org : Origin) (e j : Nat) (l : List Word)
  /-- R170: A write of the last word at the dynamic port acts on the assembled update record. -/
  | dynamicUpdate (org : Origin) (off : Nat) (l : List Word)
  /-- R172: A write to GIRDER_CB_REVALID reads a codebook entry and clears its invalid bit when every word decodes. -/
  | revalidate (e : Nat)
  /-- R180: The girder starts the downlink pass of a symbol at T − 3S, putting pending dynamic copies in force. -/
  | dlPassStart (c frame slot sym : Nat)
  /-- R175: The enabled layers of a carrier change at the first symbol boundary after a port move or a throttle step. -/
  | layersChange (c : Nat)
  /-- R181: A write to PIER_RAIL stores a rail weight, or is ignored when the buffer is in force or loading. -/
  | railWrite (org : Origin) (p i set : Nat) (v : Word)
  /-- R183: A rail weight load into the inactive buffer of the targeted paths completes. -/
  | railLoadDone
  /-- R207: A write to TRUSS_DISPATCH dispatches a host STATS job to a logical engine. -/
  | hostDispatch (eng desc : Nat)
  /-- R207: Firmware dispatches a job to a logical engine. -/
  | firmwareDispatch (eng desc : Nat)
  /-- R206: A host write to a job descriptor is stored, or ignored for firmware or busy descriptors. -/
  | jobDescriptorWrite (org : Origin) (j w : Nat) (v : Word)
  /-- R209: A job reaching the head of its queue starts and moves its input into local memory. -/
  | jobStart (e : Nat)
  /-- R210: A job ends and the engine writes result and then status. -/
  | jobEnd (e result : Nat) (fit : Option FitResult)
  /-- R209: A job still running when its budget expires ends TIMEOUT, and E104 is raised. -/
  | jobTimeout (e : Nat)
  /-- R196: Instruction that adds X·Y to an accumulator. -/
  | mac (e acc : Nat) (x y : TSrc) (o : TBun)
  /-- R196: Instruction that adds X·conj(Y) to an accumulator. -/
  | macc (e acc : Nat) (x y : TSrc) (o : TBun)
  /-- R196: Instruction that adds X·K to an accumulator. -/
  | mack (e acc : Nat) (x k : TSrc) (o : TBun)
  /-- R196: Instruction that clears an accumulator and begins a sum with one product. -/
  | macz (e acc : Nat) (x y : TSrc) (o : TBun)
  /-- R194: Lane-wise vector addition instruction. -/
  | add (e : Nat) (dst : TDst) (x y : TSrc) (o : TBun)
  /-- R194: Lane-wise vector subtraction instruction. -/
  | sub (e : Nat) (dst : TDst) (x y : TSrc) (o : TBun)
  /-- R194: Lane-wise vector multiplication instruction. -/
  | mul (e : Nat) (dst : TDst) (x y : TSrc) (o : TBun)
  /-- R194: Lane-wise conjugation instruction. -/
  | conj (e : Nat) (dst : TDst) (x : TSrc) (o : TBun)
  /-- R194: Lane-wise shift right instruction. -/
  | shr (e : Nat) (dst : TDst) (x : TSrc) (sh : Nat) (o : TBun)
  /-- R194: Lane-wise squared magnitude instruction. -/
  | mag2 (e : Nat) (dst : TDst) (x : TSrc) (o : TBun)
  /-- R194: Lane-wise minimum instruction. -/
  | min (e : Nat) (dst : TDst) (x y : TSrc) (o : TBun)
  /-- R194: Lane-wise maximum instruction. -/
  | max (e : Nat) (dst : TDst) (x y : TSrc) (o : TBun)
  /-- R196: Instruction that clears an accumulator and begins a new sum. -/
  | clracc (e acc : Nat) (o : TBun)
  /-- R199: Instruction that shifts each lane's accumulator left by its smallest exponent and writes the shift. -/
  | norm (e acc k : Nat) (o : TBun)
  /-- R199: Instruction that writes the smallest exp40 over an accumulator's lanes to a scalar. -/
  | exp (e sreg acc : Nat) (o : TBun)
  /-- R200: Instruction that copies the block exponent BX to a scalar. -/
  | bxd (e sreg : Nat) (o : TBun)
  /-- R200: Instruction that sets the block exponent BX to 15. -/
  | bxclr (e : Nat) (o : TBun)
  /-- R201: Instruction that loads a vector on the X bus through AG0. -/
  | ldx (e k : Nat) (o : TBun)
  /-- R201: Instruction that loads a vector on the Y bus through AG1. -/
  | ldy (e k : Nat) (o : TBun)
  /-- R201: Instruction that loads a vector on the K bus through AG2. -/
  | ldk (e k : Nat) (o : TBun)
  /-- R201: Instruction that loads one word on the K bus, broadcast to every lane. -/
  | ldkb (e k : Nat) (o : TBun)
  /-- R198: Instruction that stores accumulator components with rounding shift and 16-bit saturation. -/
  | st16 (e acc sh : Nat) (bx : Bool) (o : TBun)
  /-- R198: Instruction that stores accumulator components with rounding shift and 32-bit saturation. -/
  | st32 (e acc sh : Nat) (bx : Bool) (o : TBun)
  /-- R202: Instruction that writes an address generator's base, length, pointer, offset or mode. -/
  | agset (e g : Nat) (f : AgField) (v : Int) (o : TBun)
  /-- R202: Instruction that adds to an address generator's pointer. -/
  | agadd (e g : Nat) (v : Int) (o : TBun)
  /-- R203: Instruction that begins a hardware loop of n passes. -/
  | loop (e n start after : Nat) (o : TBun)
  /-- R205: Instruction that begins a rotating loop without predication. -/
  | loopR (e n start after : Nat) (o : TBun)
  /-- R205: Instruction that runs a modulo-scheduled loop of n iterations in S stages. -/
  | loopm (e n stages start after : Nat) (o : TBun)
  /-- R203: Instruction mark that ends a loop body. -/
  | endl (e : Nat)
  /-- R194: Branch instruction. -/
  | br (e target : Nat) (o : TBun)
  /-- R194: Call instruction. -/
  | call (e target ret : Nat) (o : TBun)
  /-- R194: Return instruction. -/
  | ret (e : Nat) (o : TBun)
  /-- R194: Instruction that halts the program. -/
  | halt (e : Nat) (o : TBun)
  /-- R211: Port instruction that moves data from outside into local memory. -/
  | get (e l a n : Nat) (o : TBun)
  /-- R211: Port instruction that moves data from local memory to deck SRAM. -/
  | put (e l a n : Nat) (o : TBun)
  /-- R211: Port instruction that writes a pier coefficient window with origin LOOP. -/
  | wrcoef (e n set w l : Nat) (o : TBun)
  /-- R211: Port instruction that writes a dynamic update within the engine's identifier range. -/
  | wrdyn (e k carrier frame slot sym l : Nat) (o : TBun)
  /-- R194: Port instruction that waits for a port transfer. -/
  | waitp (e : Nat) (o : TBun)
  /-- R213: An engine that detects a fault stops at once, enters FAILED and raises E102. -/
  | trussFault (e cause : Nat)
  /-- R213: No bundle retired for 100 µs while RUNNING is a hang fault. -/
  | engineHang (e : Nat)
  /-- R214: At the next slot boundary a spare adopts the failed engine's logical number, and E103 is raised. -/
  | trussMigrated
  /-- R217: TRUSS_CMD.reinstate in Ready reloads and tests a failed engine. -/
  | reinstate (e : Nat)
  /-- R217: The reinstatement test ends, and the engine becomes SPARE or stays FAILED. -/
  | reinstateDone (e : Nat) (pass : Bool)
  /-- R193: The keystone loader checks the truss microcode hash and writes program memory. -/
  | ucodeLoad (dir : List TrussProg) (major minor : Nat)
  /-- R225: The occupancy of a calibration run ends, and the bay turns round to Warm or to a requested state. -/
  | calRunEnd (b : Nat)
  /-- R232: The result of a run is computed or exported, judged plausible or not, and becomes PENDING. -/
  | calResult (b : Nat) (ref : CalMeas) (l : List CalOutcome)
  /-- R231: Pending corrections come into force at a turnaround or an idle slot boundary. -/
  | correctionInForce (b : Nat)
  /-- R232: BAY_CAL_CMD.apply submits host-written trims, which become pending or are discarded as implausible. -/
  | calApply (b k kind : Nat)
  /-- R233: The retry interval after a failure makes the kind due again. -/
  | calRetry (n kind : Nat)
  /-- R236: Firmware writes a bay's calibration record to the attached store. -/
  | calRecordWrite (b : Nat)
  /-- R244: The differential input of a lane stays above the assert level for 10 µs. -/
  | signalDetect (l : Nat)
  /-- R244: The lane input stays below the deassert level for 1 µs and the lane returns to SEEK. -/
  | lossOfSignal (l : Nat)
  /-- R243: A lane's clock recovery loses lock and the lane returns to SEEK. -/
  | clockLockLoss (l : Nat)
  /-- R243: 100 ms in SEEK without signal detect puts the lane in WAIT. -/
  | seekTimeout (l : Nat)
  /-- R244: The back-off of WAIT ends and the lane returns to SEEK. -/
  | backoffEnd (l : Nat)
  /-- R243: 50 ms in ACQUIRE and VERIFY together puts the lane in WAIT. -/
  | acquireTimeout (l : Nat)
  /-- R245: At the end of each 65,536-symbol block, the lane's merit is updated and checked against LANE_MERIT_MIN. -/
  | meritUpdate (l : Nat) (merit : Int) (eq : Nat)
  /-- R243: 1 ms of VERIFY with every merit update at the limit puts the lane in UP, and E016 is raised. -/
  | laneUp (l : Nat)
  /-- R247: Alignment and deskew complete, the port enters UP, E019 is raised and timestamp latencies are measured. -/
  | portUp (p rx tx : Nat)
  /-- R247: 1 ms of ALIGNING without lock returns both lanes to SEEK and counts a failed attempt. -/
  | aligningExpired (p : Nat)
  /-- R257: An uncorrectable codeword is counted and raises E024. -/
  | fecUncorrected (p n corr : Nat)
  /-- R257: An UP port loses alignment marker lock. -/
  | amLockLoss (p : Nat)
  /-- R258: Flows of the faulted port move to the other port under the fallback plan, and E020 is raised. -/
  | failover (ns : Nat)
  /-- R260: With revert 1, the faulted port has stayed UP for its hold time. -/
  | revertHoldExpired
  /-- R260: At the next frame boundary, traffic returns to the PORTS arrangement, and E021 is raised. -/
  | failback
  /-- R260: LINK_CMD.failback requests a return to the PORTS arrangement, refused unless both ports are UP. -/
  | failbackCmd
  /-- R251: LINK_CMD.reseek returns a port's lanes to SEEK, refused while it carries flows. -/
  | reseek (p : Nat)
  /-- R251: A write to LINK_REST rests or wakes lane directions, refused on a port that carries flows. -/
  | linkRestWrite (v : Word)
  /-- R250: A write to LINK_LANEL_TXEQ sets transmit taps when the taps are valid, and is refused otherwise. -/
  | txeqWrite (org : Origin) (l : Nat) (v : Word)
  /-- R277: A received sections message has each downlink section checked and accepted or discarded. -/
  | sectionsMessage (f : XkFrame)
  /-- R280: A received uplink plan tells the device which resource blocks and beams to combine and send. -/
  | uplinkPlan (f : XkFrame)
  /-- R282: A received weight update is applied as a dynamic update. -/
  | weightUpdate (f : XkFrame)
  /-- R281: After an uplink symbol, the device sends the planned sections of each flow. -/
  | ulSectionsSend (c frame slot sym : Nat) (rx : List UlSamples)
  /-- R281: Frames of a symbol that have not left by 3S are dropped, and E031 is raised. -/
  | ulOverrun (f : Nat)
  /-- R283: A received echo request is answered with an echo response carrying timestamps. -/
  | echoRequest (f : XkFrame) (turn : Nat)
  /-- R284: Within 1 ms of a change of time quality or tx_permit, a time report is sent on every UP port. -/
  | timeReport
  /-- R285: A management read request is executed and answered. -/
  | mgmtRead (f : XkFrame) (waiting : Nat)
  /-- R286: A management write request writes RWG fields as the host would, and is answered. -/
  | mgmtWrite (f : XkFrame) (waiting : Nat)
  /-- R288: At every frame boundary, the device builds a heartbeat and sends it on every UP port. -/
  | heartbeat
  /-- R289: A heartbeat-family frame from the distributed unit is taken as a sign of life. -/
  | peerHeartbeat (f : XkFrame)
  /-- R289: No heartbeat-family frame for peer_to sets peer_silent, and E028 is raised. -/
  | peerSilent
  /-- R290: An offer from the distributed unit is answered with a capability result. -/
  | capabilityOffer (f : XkFrame)
  /-- R290: Every 1 s while caps is OFFERED, the device sends its offer again. -/
  | capsOfferResend
  /-- R293: A capability result takes effect at its frame boundary, and E029 is raised when a version changed. -/
  | capsChanged
  /-- R299: KEY_CMD.offer makes the keystone fetch the offered image set. -/
  | offer
  /-- R300: The fetched images are hashed and compared with the manifests, and the set boots, activates or is refused. -/
  | fetchDone (table : List Nat) (images : List (List Nat)) (busErr : Option Nat) (conv : List (List Nat))
  /-- R318: Activation copies the staged manifest, flips the commit word and starts firmware. -/
  | activationDone (ok : Bool) (conv : List (List Nat))
  /-- R296: The ROM stage completes after reading OTP and initialising deck SRAM. -/
  | romDone (lost : Nat)
  /-- R312: The STORE stage verifies the manifest slots, applies soft spares and writes the START record. -/
  | storeDone (present : Bool)
  /-- R298: Firmware moves the deck from FIRC to its PLL once a valid REFCLK is present. -/
  | pllSwitch (khz : Nat)
  /-- R314: OPEN takes the staging lock and empties the buffer. -/
  | stageOpen (org : Origin)
  /-- R315: WRITE writes bytes at an offset of the staging buffer. -/
  | stageWrite (org : Origin) (off : Nat) (v : Word)
  /-- R316: CLOSE verifies the buffer and starts writing it to the staging slot. -/
  | stageClose (org : Origin)
  /-- R316: The staging slot is programmed and committed, the manifest is pending, and a STAGED record is written. -/
  | stageCommitDone (ok : Bool)
  /-- R315: ABORT discards the buffer and releases the lock. -/
  | stageAbort (org : Origin)
  /-- R315: CLEAR marks the staging slot not pending. -/
  | stageClear (org : Origin)
  /-- R315: STATUS returns the session state and the last refusal. -/
  | stageStatus
  /-- R314: 10 minutes without an operation from the owner end the session. -/
  | stageTimeout
  /-- R325: KEY_OTP_CMD op PROG_SLOT programs a key hash and valid bit into slot 2 or 3. -/
  | progSlot (slot : Nat)
  /-- R325: KEY_OTP_CMD op REVOKE programs the revoke bit of a key slot. -/
  | revoke (slot : Nat)
  /-- R325: An OTP operation completes and sets done. -/
  | otpDone (words : Nat)
  /-- R328: After firmware starts, the keystone opens a block if needed, advances the counter and builds the bottom tree. -/
  | attestPrepare (good : Bool)
  /-- R329: KEY_CMD.attest builds and signs a report from the nonce. -/
  | attest
  /-- R329: The report window is complete, and KEY_ATT_STAT.done rises. -/
  | reportDone
  /-- R339: The scrubber reads the next code word in a free cycle of its bank. -/
  | scrubRead (w err : Nat)
  /-- R339: A scrub lap completes, and a lap longer than lap_max raises E039. -/
  | scrubLapEnd
  /-- R335: A corrected word is written back in the next free cycle of its bank. -/
  | writeBack
  /-- R338: A merge buffer entry retires after 256 deck cycles without a write. -/
  | mergeRetire
  /-- R337: Firmware reads a poisoned word, firmware stops, and E036 is raised. -/
  | firmwareMemErr (a : Nat)
  /-- R341: After a Rest entry, the remaps of soft-spared rows are appended to the soft-spare map. -/
  | spareRecordWrite
  /-- R343: MEM_INJECT.arm in Ready arms a bit-error injection at the next write to a word. -/
  | injectArm
  /-- R347: DMA_CHn_CTRL.start starts a channel run from DESC_LO and DESC_HI. -/
  | channelStart (org : Origin) (n : Nat)
  /-- R354: DMA_CHn_CTRL.stop requests a stop at the next descriptor boundary. -/
  | channelStop (org : Origin) (n : Nat)
  /-- R353: DMA_CMD.clear_halt returns every channel to IDLE after a bus error. -/
  | clearHalt
  /-- R350: A fetched descriptor is checked and executed, or stops the channel with PROG_ERR or LOOP. -/
  | descriptorFetch (n : Nat) (ok : Bool) (host : List Nat)
  /-- R348: A granted 64-byte burst of a channel moves data. -/
  | dmaBurst (n : Nat) (ok : Bool) (host : List Nat)
  /-- R348: A descriptor completes, writes back status and raises E043 when irq is set. -/
  | descriptorDone (n : Nat)
  /-- R349: A rising edge of a request line grants one burst to a request-driven descriptor. -/
  | requestEdge (line : Nat)
  /-- R353: An engine access without response for 10 µs halts every channel, and E042 is raised. -/
  | dmaHalt (space : Nat) (write : Bool) (cause addr : Nat)
  /-- R360: The housekeeping ADC completes a conversion of the next channel and evaluates its limit. -/
  | hkConversion (raw : Nat)
  /-- R361: HK_URG.go requests an urgent conversion of a channel. -/
  | urgentRequest (ch : Nat)
  /-- R361: The urgent conversion runs when the current conversion finishes and writes HK_URG_RES. -/
  | urgentConversion (raw : Nat)
  /-- R362: HK_CAL_CMD step ZERO starts the zero measurement of a group. -/
  | hkCalZero (g : Nat)
  /-- R362: HK_CAL_CMD step FULL starts the full-scale measurement of a group. -/
  | hkCalFull (g fs : Nat)
  /-- R362: A measurement over 64 conversion cycles completes and reports ZERO_DONE or FULL_DONE. -/
  | hkCalMeasureDone
  /-- R363: HK_CAL_CMD step COMPUTE writes the group's correction or reports IMPLAUSIBLE. -/
  | hkCalCompute (g : Nat)
  /-- R362: HK_CAL_CMD step ABORT discards the measurements. -/
  | hkCalAbort (g : Nat)
  /-- R366: Every 2 ms the parapet evaluates sensors, die temperatures, levels, throttle and band-gaps. -/
  | housekeepingRound (deckGap : Nat)
  /-- R372: A throttle step takes effect at the first symbol boundary at least 1,967 ticks after its round. -/
  | throttleStepEffect
  /-- R375: At the end of the shutdown ramp, bays go Off, piers power down and the device is in Rest. -/
  | shutdownRampEnd
  /-- R376: A die comparator trips at 125 °C, silences TX, drives clear codes and holds the device in reset. -/
  | fixedTrip (dies : Nat)
  /-- R376: The last tripped comparator releases, starting the 10 ms reset hold. -/
  | tripRelease (dies : Nat)
  /-- R376: 10 ms after release the device leaves reset and starts as after RESET_N. -/
  | tripHoldEnd
  /-- R367: HK_PAR_CMD.readmit makes an excluded sensor trusted again. -/
  | readmit (i : Nat)
  /-- R377: Every 1 µs each stay DAC modulator takes a new word and drives the level of R378. -/
  | stayUpdate
  /-- R379: A write to HK_ANCHk in Ready puts an override word in force. -/
  | anchOverride (k : Nat) (v : Word)
  /-- R380: STAY_CLR_N low for over 100 ns makes ordinary outputs drive their clear codes, and E057 is raised. -/
  | stayClear
  /-- R380: STAY_CLR_N rising returns outputs to their R378 level at the next update. -/
  | stayClearRelease
  /-- R381: VDDA_3V3 below 2.9 V puts every stay output in high impedance, and E062 is raised. -/
  | staySupplyLost
  /-- R381: VDDA_3V3 returns, and outputs follow rows 2 and 6 of R378. -/
  | staySupplyReturn
  /-- R382: HK_CKu_CMD.start begins a check job, refused for busy, bad parameters or alive errors. -/
  | checkStart (org : Origin) (u alive : Nat)
  /-- R382: A check job completes and writes result and then status. -/
  | checkDone (u : Nat)
  /-- R390: PWR_CMD target Active requests entry to Active at the next reference-grid boundary. -/
  | enterActive
  /-- R390: PWR_CMD target Ready requests entry to Ready. -/
  | enterReady
  /-- R395: PWR_CMD target Rest requests entry to Rest. -/
  | enterRest
  /-- R397: PWR_CMD target Dormant requests entry to Dormant and closes the ledger. -/
  | enterDormant
  /-- R403: PWR_CMD target Off requests entry to Off and closes the ledger. -/
  | enterOff
  /-- R392: At the commit point of an entry, the refusers are checked again and the entry aborts or switches domains. -/
  | entryCommitPoint
  /-- R392: An entry completes, a held request is acted on, and E128 is raised. -/
  | entryComplete
  /-- R389: The starting entry after a reset or wake completes to Ready or Rest. -/
  | startingEntryComplete
  /-- R399: WAKE_N low for 1 µs in Dormant starts a wake. -/
  | wakePin
  /-- R399: The sleep count reaching PWR_WAKE_TIMER starts a wake and pulls WAKE_N low. -/
  | wakeTimer
  /-- R399: With PWR_OK high, the deck domain powers, counters restart and the keystone starts at ROM. -/
  | wakePowerUp
  /-- R46: A crystal failure detected during Dormant moves the sleep counter to RC. -/
  | sleepSourceChanged
  /-- R405: Each millisecond, the voltage loop samples the timing margins and adjusts the target. -/
  | avsSample (margin measured fail : Nat)
  /-- R405: A host write of PWR_AVS_TARGET in host-assisted mode is clamped and sent. -/
  | avsTargetWrite (org : Origin) (v : Word) (measured fail : Nat)
  /-- R419: The ledger forms the next record from its input queue and writes it, or loses it when the ring is full. -/
  | ledgerRecordForm
  /-- R419: As soon as a slot frees, a GAP record describing the lost records is written. -/
  | gapRecord
  /-- R417: At the end of each 100 ms interval, each active loop writes one EXCURSION record. -/
  | excursionInterval
  /-- R421: Firmware writes the undrained records as an archive block in the store. -/
  | archiveBlock
  /-- R421: The archive block is read back and the drain pointers advance, or the block is retried. -/
  | archiveBlockDone (ok : Bool)
  /-- R421: Every 1 s while arc_fail is 1, firmware tries the archive again. -/
  | archiveRetry
  /-- R421: LEDGER_ARC_CMD.flush requests a drain of the undrained records now. -/
  | flush
  /-- R422: LEDGER_ARC_CMD.go reads an archive sector into the archive window. -/
  | archiveRead (sector : Nat)
  /-- R422: The sector read completes and sets done or err. -/
  | archiveReadDone (ok : Bool)
  /-- R415: A read of LEDGER_WR_SEQ latches the chain head into LEDGER_HEAD0 to 7. -/
  | wrSeqRead
  /-- R424: A write of 1 to a pending bit clears it, and EVT_N or FAULT_N rises when none remains. -/
  | eventClear (w : Nat) (v : Word)
  /-- R425: Clearing an MSI-X mask sends the held message of each vector with an enabled pending event. -/
  | msixUnmask (cfg : HostCfg)
  /-- R443: A write of DECK_RESET with confirm 0xC3 resets the device as RESET_N does. -/
  | deviceReset (v : Word)
  /-- R436: A Function Level Reset, hot reset or link-down reset resets the PCIe endpoint only. -/
  | functionLevelReset
  /-- R436: The PCIe data link goes down while firmware runs, and E156 is raised. -/
  | hostLinkDown
  /-- R444: Service port opcode 0x05 returns the status byte and clears err. -/
  | status
  /-- R445: Service port opcode 0x02 receives a request frame on SVC_IO0. -/
  | writeReqSingle (frame : List Nat)
  /-- R445: Service port opcode 0x32 receives a request frame on four lines. -/
  | writeReqQuad (frame : List Nat)
  /-- R446: Service port opcode 0x0B returns the response frame on SVC_IO1. -/
  | readRespSingle
  /-- R446: Service port opcode 0x6B returns the response frame on four lines. -/
  | readRespQuad
  /-- R448: Service request GET_STATUS returns the 112-byte status response. -/
  | getStatus
  /-- R449: Service request LEDGER_RING returns ring records from a given sequence. -/
  | ledgerRing
  /-- R447: Service request LEDGER_ARCHIVE returns one archive sector as stored. -/
  | ledgerArchive (ok : Bool)
  /-- R457: VAON comes within range and the always-on domain leaves its power-on reset. -/
  | powerOn
  /-- R457: VAON leaving its range while another rail is present resets the device as at power-on. -/
  | vaonLoss
  /-- R461: RESET_N held low for its filter time resets the device. -/
  | resetN
  /-- R296: RESET_N released with PWR_OK high starts the boot ROM on FIRC. -/
  | resetRelease
  /-- R459: PWR_OK falling outside Dormant silences TX, drives safe stay levels and holds the deck in reset. -/
  | pwrOkFall
  /-- R467: The 32.768 kHz crystal comes within limits and xtal_ok rises. -/
  | xtalStart
  /-- R470: JTAG instruction BYPASS. -/
  | bypass
  /-- R470: JTAG instruction SAMPLE/PRELOAD. -/
  | samplePreload
  /-- R470: JTAG instruction EXTEST, acting as BYPASS while RESET_N is high. -/
  | extest
  /-- R470: JTAG instruction EXTEST_PULSE of IEEE 1149.6, acting as BYPASS while RESET_N is high. -/
  | extestPulse
  /-- R470: JTAG instruction EXTEST_TRAIN of IEEE 1149.6, acting as BYPASS while RESET_N is high. -/
  | extestTrain
  /-- R337: A host PCIe read of an SRAM-backed window (capture, codebook, ring) decodes check bits, corrects or poisons the word, and
  returns a poisoned completion for a poisoned word. -/
  | hostWindowRead (off width err : Nat)
  /-- R459: PWR_OK rising outside Dormant, with RESET_N already released, ends the reset hold that PWR_OK low imposed. -/
  | pwrOkRise
  /-- R467: The 32.768 kHz crystal leaves its limits outside Dormant, xtal_ok falls, and the sleep counter runs on the RC oscillator. -/
  | crystalFailure
  /-- R470: TRST_N low, or the TAP reaching Test-Logic-Reset, selects BYPASS in the JTAG port. -/
  | testLogicReset
deriving DecidableEq, Repr

end Sys2Proof
end

