-- ==== Sys2Proof/Config.lean ====
section
/-!
DEFINITION. What the spec leaves open, as constants without a body: nothing can be proved of their values. Each is named
in an assumption-log row.
-/
namespace Sys2Proof.Config

/-- A value that the spec leaves open, by the model's counter `Dev.draws` (log entry 4). -/
opaque freeValue : Nat → Nat

/-- What the device's secret keys decide of its signatures, byte by byte (R303, R327, R329, log entry 5): of the top tree's signature of a boot's
bottom public key, by top leaf and boot; of that key, by boot; of a report's signature, by boot, bottom leaf and message. -/
opaque hssTopSign : Nat → Nat → Nat → Nat
opaque hssBottom : Nat → Nat → Nat
opaque hssSign : Nat → Nat → List Nat → Nat → Nat

/-- The 32 top-tree nodes at height 10 (R328), byte by byte, by the top-tree public key: the device derives them from its
secret seed (log entry 5). -/
opaque hssNode : List Nat → Nat → Nat

/-- Tap k of response `idx` of the ROM, in 2^-24, for k before its centre: the spec gives the response's figures and not its taps (R126,
log entry 61). -/
opaque romTap : Nat → Nat → Int

/-- Which way the cosine and the sine of num / den of a turn are rounded to 2^-30, an odd number for up: the spec does not give the rounding of
an oscillator's phasor (R123, R178, R179, log entry 61). -/
opaque phasorUp : Nat → Nat → Nat × Nat

/-- Which way the gain of a carrier attenuation of n x 0.25 dB is rounded to 2^-16, an odd number for up (R125, log entry 61). -/
opaque quarterUp : Nat → Nat

/-- Sample k of 64 of the stimulus that a calibration kind drives on path n, as DAC codes I and Q at full output: the spec gives neither the
orthogonal sequences nor the tones (R222, log entry 60). -/
opaque calTone : Nat → Nat → Nat → Int × Int

/-- The temperature of a sensor with an OTP trim, in 0.125 °C, from the sum and the number of its raw codes: the spec gives neither the diode's
characteristic nor the trim's form (R359, R366, log entry 45). -/
opaque sensTemp : Nat → Nat → Nat → Int

/-- The ADC codes of sample i of path n, I and Q: what the antenna receives (R121, log entry 61). -/
opaque adcCode : Nat → Nat → Int × Int

/-- The ADC codes of sample i of path n while its TX driver, at these DAC codes, is switched to the internal return: the spec gives the coupling
no gain (R222, log entry 60). -/
opaque returnCode : Nat → Nat → Int × Int → Int × Int

/-- How the difference of its two clocks moves the fill of an expansion buffer, 2p receiving and 2p + 1 transmitting, in the air tick that begins
at an instant: 0 not, odd up, else down by a block (R253, log entry 3). -/
opaque expbSlip : Nat → Nat → Nat

end Sys2Proof.Config
end

