-- ==== Sys2Proof/Machine/Fld.lean ====
section
/-!
DEFINITION. What a register field is, what a register bank of the spec's tables is, and the bit-field helpers.
-/
namespace Sys2Proof.Machine

/-- The access codes of R9. -/
inductive Acc where
  | rw | ro | w1c | wo | rwg | rwl
deriving DecidableEq, Repr

/-- One field of one register: the BAR0 offset, the bit range and the value after reset (R10). -/
structure Fld where
  off : Nat
  hi : Nat
  lo : Nat
  rst : Nat
deriving DecidableEq, Repr

/-- A field of a register bank, as its table gives it. -/
structure FieldDef where
  hi : Nat
  lo : Nat
  acc : Acc
  rst : Nat
deriving DecidableEq, Repr

/-- A bank of registers of one table: the offset of the first, (count, stride) of each index with the larger stride
first, and the fields. -/
structure RegDef where
  base : Nat
  dims : List (Nat × Nat)
  fields : List FieldDef
deriving DecidableEq, Repr

/-- Bits hi to lo of w, as a number. -/
def bits (w hi lo : Nat) : Nat := (w >>> lo) % 2 ^ (hi + 1 - lo)

/-- Bit i of w. -/
def bit (w i : Nat) : Bool := w.testBit i

/-- w with bits hi to lo replaced by v. -/
def putBits (w hi lo v : Nat) : Nat :=
  w - (bits w hi lo <<< lo) + ((v % 2 ^ (hi + 1 - lo)) <<< lo)

/-- 1 for true and 0 for false. -/
def ofBool (b : Bool) : Nat := if b then 1 else 0

/-- The number of values a field of this range holds. -/
def Fld.size (x : Fld) : Nat := 2 ^ (x.hi + 1 - x.lo)

/-- The place of a field in the register file. -/
def Fld.key (x : Fld) : Nat := x.off * 32 + x.lo

/-- The offset of bay b's register block (R118, R441): pier window b div 2, second block for an odd bay. -/
def bayBase (b : Nat) : Nat := 0x3000000 + 0x400000 * (b / 2) + 0x1000 * (b % 2)

/-- Is off an offset of the bank at base with these indices? -/
def inBank (off : Nat) : Nat → List (Nat × Nat) → Bool
  | base, [] => off == base
  | base, (n, st) :: ds =>
    decide (base ≤ off) && decide ((off - base) / st < n) && inBank off (base + (off - base) / st * st) ds

end Sys2Proof.Machine
end

