-- ==== Sys2Proof/Machine/Fields.lean ====
section
/-!
DEFINITION. The named fields of every register table of the spec, one definition a field, each with the bit range and
the reset value its table gives (a dash of the table, a live field, is written 0: log entry 3).
The name is the register's and the field's; the operands are the indices of the register.
-/
namespace Sys2Proof.Machine

/-! PIER_XING: 01_architecture.md, R488. -/
def PIER_XING_corrected (p : Nat) : Fld := ⟨0x3004088 + 0x400000 * p, 31, 16, 0x0⟩
def PIER_XING_uncorrected (p : Nat) : Fld := ⟨0x3004088 + 0x400000 * p, 15, 0, 0x0⟩
/-! SPAN_ADAPT_MODE: 01_architecture.md, R26. -/
def SPAN_ADAPT_MODE_refused : Fld := ⟨0x200020, 31, 31, 0x0⟩
def SPAN_ADAPT_MODE_pending : Fld := ⟨0x200020, 21, 16, 0x0⟩
def SPAN_ADAPT_MODE_therm_mode : Fld := ⟨0x200020, 5, 5, 0x0⟩
def SPAN_ADAPT_MODE_avs_mode : Fld := ⟨0x200020, 4, 4, 0x0⟩
def SPAN_ADAPT_MODE_lane_mode : Fld := ⟨0x200020, 3, 3, 0x0⟩
def SPAN_ADAPT_MODE_ulw_mode : Fld := ⟨0x200020, 2, 2, 0x0⟩
def SPAN_ADAPT_MODE_acal_mode : Fld := ⟨0x200020, 1, 1, 0x0⟩
def SPAN_ADAPT_MODE_dpd_mode : Fld := ⟨0x200020, 0, 0, 0x0⟩
/-! TL_NT: 02_air_timeline.md, R65. -/
def TL_NT_ns : Fld := ⟨0x100000, 31, 0, 0x0⟩
/-! TL_SNAP_TICK: 02_air_timeline.md, R65. -/
def TL_SNAP_TICK_tick_in_frame : Fld := ⟨0x100004, 23, 0, 0x0⟩
/-! TL_SNAP_FRAME: 02_air_timeline.md, R65. -/
def TL_SNAP_FRAME_frame_in_second : Fld := ⟨0x100008, 16, 10, 0x0⟩
def TL_SNAP_FRAME_frame : Fld := ⟨0x100008, 9, 0, 0x0⟩
/-! TL_QUALITY: 02_air_timeline.md, R65. -/
def TL_QUALITY_follower : Fld := ⟨0x10000c, 6, 6, 0x0⟩
def TL_QUALITY_source_changed : Fld := ⟨0x10000c, 5, 5, 0x0⟩
def TL_QUALITY_stepped : Fld := ⟨0x10000c, 4, 4, 0x0⟩
def TL_QUALITY_tx_permit : Fld := ⟨0x10000c, 3, 3, 0x0⟩
def TL_QUALITY_state : Fld := ⟨0x10000c, 2, 0, 0x0⟩
/-! TL_ERR_EST: 02_air_timeline.md, R65. -/
def TL_ERR_EST_err_ns : Fld := ⟨0x100010, 31, 0, 0xffffffff⟩
/-! TL_RATE_LO: 02_air_timeline.md, R65. -/
def TL_RATE_LO_rate_lo : Fld := ⟨0x100014, 31, 0, 0x0⟩
/-! TL_RATE_HI: 02_air_timeline.md, R65. -/
def TL_RATE_HI_rate_hi : Fld := ⟨0x100018, 3, 0, 0x0⟩
/-! TL_JUMP_MAX: 02_air_timeline.md, R65. -/
def TL_JUMP_MAX_ns : Fld := ⟨0x10001c, 31, 0, 0xfa⟩
/-! TL_FRAME_OFFSET: 02_air_timeline.md, R65. -/
def TL_FRAME_OFFSET_ticks : Fld := ⟨0x100020, 23, 0, 0x0⟩
/-! TL_REF_CFG: 02_air_timeline.md, R65. -/
def TL_REF_CFG_lock_thresh : Fld := ⟨0x100024, 31, 16, 0x64⟩
def TL_REF_CFG_lock_count : Fld := ⟨0x100024, 15, 8, 0x10⟩
def TL_REF_CFG_pps_out_en : Fld := ⟨0x100024, 2, 2, 0x1⟩
def TL_REF_CFG_ref_sel : Fld := ⟨0x100024, 1, 0, 0x0⟩
/-! TL_HO_CFG: 02_air_timeline.md, R65. -/
def TL_HO_CFG_loss_timeout : Fld := ⟨0x100028, 31, 16, 0x7d0⟩
def TL_HO_CFG_stab : Fld := ⟨0x100028, 15, 0, 0x64⟩
/-! TL_CMD: 02_air_timeline.md, R65. -/
def TL_CMD_cancel_all : Fld := ⟨0x10002c, 2, 2, 0x0⟩
def TL_CMD_align : Fld := ⟨0x10002c, 1, 1, 0x0⟩
def TL_CMD_restep : Fld := ⟨0x10002c, 0, 0, 0x0⟩
/-! TL_STATUS: 02_air_timeline.md, R65. -/
def TL_STATUS_refused_run : Fld := ⟨0x100030, 31, 16, 0x0⟩
def TL_STATUS_step_held : Fld := ⟨0x100030, 7, 7, 0x0⟩
def TL_STATUS_cancel_late : Fld := ⟨0x100030, 6, 6, 0x0⟩
def TL_STATUS_armed_wr : Fld := ⟨0x100030, 5, 5, 0x0⟩
def TL_STATUS_param_refused : Fld := ⟨0x100030, 4, 4, 0x0⟩
def TL_STATUS_rate_clamp : Fld := ⟨0x100030, 3, 3, 0x0⟩
def TL_STATUS_align_refused : Fld := ⟨0x100030, 2, 2, 0x0⟩
def TL_STATUS_restep_refused : Fld := ⟨0x100030, 1, 1, 0x0⟩
def TL_STATUS_jump_refused : Fld := ⟨0x100030, 0, 0, 0x0⟩
/-! TL_SLEEP: 02_air_timeline.md, R65. -/
def TL_SLEEP_src_active : Fld := ⟨0x100034, 2, 2, 0x0⟩
def TL_SLEEP_xtal_ok : Fld := ⟨0x100034, 1, 1, 0x0⟩
def TL_SLEEP_src : Fld := ⟨0x100034, 0, 0, 0x0⟩
/-! TL_SLEEP_CNT_LO: 02_air_timeline.md, R65. -/
def TL_SLEEP_CNT_LO_count_lo : Fld := ⟨0x100038, 31, 0, 0x0⟩
/-! TL_SLEEP_CNT_HI: 02_air_timeline.md, R65. -/
def TL_SLEEP_CNT_HI_count_hi : Fld := ⟨0x10003c, 7, 0, 0x0⟩
/-! TL_ALIGN_CFG: 02_air_timeline.md, R65. -/
def TL_ALIGN_CFG_comp : Fld := ⟨0x100040, 7, 4, 0x0⟩
def TL_ALIGN_CFG_role : Fld := ⟨0x100040, 1, 0, 0x0⟩
/-! TL_ALIGN_STAT: 02_air_timeline.md, R65. -/
def TL_ALIGN_STAT_aligned : Fld := ⟨0x100044, 20, 20, 0x0⟩
def TL_ALIGN_STAT_last_dev : Fld := ⟨0x100044, 19, 16, 0x0⟩
def TL_ALIGN_STAT_missing : Fld := ⟨0x100044, 15, 8, 0x0⟩
def TL_ALIGN_STAT_crc_err : Fld := ⟨0x100044, 7, 0, 0x0⟩
/-! TL_TS_LAT_A: 02_air_timeline.md, R65. -/
def TL_TS_LAT_A_ingress : Fld := ⟨0x100048, 31, 16, 0x0⟩
def TL_TS_LAT_A_egress : Fld := ⟨0x100048, 15, 0, 0x0⟩
/-! TL_TS_LAT_B: 02_air_timeline.md, R65. -/
def TL_TS_LAT_B_ingress : Fld := ⟨0x10004c, 31, 16, 0x0⟩
def TL_TS_LAT_B_egress : Fld := ⟨0x10004c, 15, 0, 0x0⟩
/-! TL_TT_COUNT: 02_air_timeline.md, R65. -/
def TL_TT_COUNT_refused : Fld := ⟨0x100050, 31, 16, 0x0⟩
def TL_TT_COUNT_late : Fld := ⟨0x100050, 15, 0, 0x0⟩
/-! DECK_IFLEVEL: 03_span_map.md, R95. -/
def DECK_IFLEVEL_min_major : Fld := ⟨0x8, 31, 24, 0x1⟩
def DECK_IFLEVEL_min_minor : Fld := ⟨0x8, 23, 16, 0x0⟩
def DECK_IFLEVEL_major : Fld := ⟨0x8, 15, 8, 0x1⟩
def DECK_IFLEVEL_minor : Fld := ⟨0x8, 7, 0, 0x2⟩
/-! DECK_HOSTLEVEL: 03_span_map.md, R95. -/
def DECK_HOSTLEVEL_eff_major : Fld := ⟨0xc, 31, 24, 0x1⟩
def DECK_HOSTLEVEL_eff_minor : Fld := ⟨0xc, 23, 16, 0x0⟩
def DECK_HOSTLEVEL_host_major : Fld := ⟨0xc, 15, 8, 0x0⟩
def DECK_HOSTLEVEL_host_minor : Fld := ⟨0xc, 7, 0, 0x0⟩
/-! DECK_SEAL: 03_span_map.md, R95. -/
def DECK_SEAL_seal (i : Nat) : Fld := ⟨0x20 + 0x4 * i, 31, 0, 0x0⟩
/-! DECK_SEAL_EPOCH: 03_span_map.md, R95. -/
def DECK_SEAL_EPOCH_epoch : Fld := ⟨0x40, 31, 0, 0x0⟩
/-! DECK_SEAL_STAT: 03_span_map.md, R95. -/
def DECK_SEAL_STAT_held : Fld := ⟨0x44, 8, 8, 0x0⟩
def DECK_SEAL_STAT_diverged : Fld := ⟨0x44, 7, 4, 0x0⟩
def DECK_SEAL_STAT_busy : Fld := ⟨0x44, 0, 0, 0x0⟩
/-! SPAN_CMD: 03_span_map.md, R95. -/
def SPAN_CMD_image : Fld := ⟨0x200000, 5, 4, 0x0⟩
def SPAN_CMD_unform : Fld := ⟨0x200000, 3, 3, 0x0⟩
def SPAN_CMD_commit : Fld := ⟨0x200000, 2, 2, 0x0⟩
def SPAN_CMD_abort : Fld := ⟨0x200000, 1, 1, 0x0⟩
def SPAN_CMD_form : Fld := ⟨0x200000, 0, 0, 0x0⟩
/-! SPAN_STATUS: 03_span_map.md, R95. -/
def SPAN_STATUS_formed : Fld := ⟨0x200004, 31, 31, 0x0⟩
def SPAN_STATUS_partial : Fld := ⟨0x200004, 30, 30, 0x0⟩
def SPAN_STATUS_cmd_refused : Fld := ⟨0x200004, 29, 29, 0x0⟩
def SPAN_STATUS_win_failed : Fld := ⟨0x200004, 15, 8, 0x0⟩
def SPAN_STATUS_commit_refused : Fld := ⟨0x200004, 7, 7, 0x0⟩
def SPAN_STATUS_busy : Fld := ⟨0x200004, 6, 6, 0x0⟩
def SPAN_STATUS_image : Fld := ⟨0x200004, 5, 4, 0x0⟩
def SPAN_STATUS_form_state : Fld := ⟨0x200004, 3, 0, 0x0⟩
/-! SPAN_SRC_ADDR: 03_span_map.md, R95. -/
def SPAN_SRC_ADDR_addr : Fld := ⟨0x200008, 31, 6, 0x0⟩
/-! SPAN_SRC_LEN: 03_span_map.md, R95. -/
def SPAN_SRC_LEN_len : Fld := ⟨0x20000c, 22, 0, 0x0⟩
/-! SPAN_REFUSE: 03_span_map.md, R95. -/
def SPAN_REFUSE_offset : Fld := ⟨0x200010, 31, 8, 0x0⟩
def SPAN_REFUSE_reason : Fld := ⟨0x200010, 7, 0, 0x0⟩
/-! SPAN_MAP_ID: 03_span_map.md, R95. -/
def SPAN_MAP_ID_map_id : Fld := ⟨0x200014, 31, 0, 0x0⟩
/-! SPAN_MAP_VER: 03_span_map.md, R95. -/
def SPAN_MAP_VER_level_needed : Fld := ⟨0x200018, 31, 16, 0x0⟩
def SPAN_MAP_VER_fmt_major : Fld := ⟨0x200018, 15, 8, 0x0⟩
def SPAN_MAP_VER_fmt_minor : Fld := ⟨0x200018, 7, 0, 0x0⟩
/-! SPAN_FORM_TIME: 03_span_map.md, R95. -/
def SPAN_FORM_TIME_us : Fld := ⟨0x20001c, 31, 0, 0x0⟩
/-! BAY_FE_CTRL: 04_bays_and_synthesisers.md, R118. -/
def BAY_FE_CTRL_req (b : Nat) : Fld := ⟨bayBase b + 0x0, 2, 0, 0x0⟩
/-! BAY_FE_STAT: 04_bays_and_synthesisers.md, R118. -/
def BAY_FE_STAT_last_refuse (b : Nat) : Fld := ⟨bayBase b + 0x4, 15, 13, 0x0⟩
def BAY_FE_STAT_held (b : Nat) : Fld := ⟨bayBase b + 0x4, 12, 12, 0x0⟩
def BAY_FE_STAT_mute_cause (b : Nat) : Fld := ⟨bayBase b + 0x4, 11, 10, 0x0⟩
def BAY_FE_STAT_muted (b : Nat) : Fld := ⟨bayBase b + 0x4, 9, 9, 0x0⟩
def BAY_FE_STAT_lo_ready (b : Nat) : Fld := ⟨bayBase b + 0x4, 8, 8, 0x0⟩
def BAY_FE_STAT_in_transition (b : Nat) : Fld := ⟨bayBase b + 0x4, 7, 7, 0x0⟩
def BAY_FE_STAT_target (b : Nat) : Fld := ⟨bayBase b + 0x4, 6, 4, 0x0⟩
def BAY_FE_STAT_state (b : Nat) : Fld := ⟨bayBase b + 0x4, 2, 0, 0x0⟩
/-! BAY_SYNTH_STAT: 04_bays_and_synthesisers.md, R118. -/
def BAY_SYNTH_STAT_unlock_count (b : Nat) : Fld := ⟨bayBase b + 0x8, 23, 16, 0x0⟩
def BAY_SYNTH_STAT_band (b : Nat) : Fld := ⟨bayBase b + 0x8, 11, 4, 0x0⟩
def BAY_SYNTH_STAT_failed (b : Nat) : Fld := ⟨bayBase b + 0x8, 3, 3, 0x0⟩
def BAY_SYNTH_STAT_aligned (b : Nat) : Fld := ⟨bayBase b + 0x8, 2, 2, 0x0⟩
def BAY_SYNTH_STAT_cal_busy (b : Nat) : Fld := ⟨bayBase b + 0x8, 1, 1, 0x0⟩
def BAY_SYNTH_STAT_locked (b : Nat) : Fld := ⟨bayBase b + 0x8, 0, 0, 0x0⟩
/-! BAY_LO_KHZ: 04_bays_and_synthesisers.md, R118. -/
def BAY_LO_KHZ_lo_khz (b : Nat) : Fld := ⟨bayBase b + 0xc, 31, 0, 0x0⟩
/-! BAY_RX_CFG: 04_bays_and_synthesisers.md, R118. -/
def BAY_RX_CFG_ovl_evt_en (b : Nat) : Fld := ⟨bayBase b + 0x10, 24, 24, 0x1⟩
def BAY_RX_CFG_ovl_cnt (b : Nat) : Fld := ⟨bayBase b + 0x10, 23, 16, 0x4⟩
def BAY_RX_CFG_ovl_thr (b : Nat) : Fld := ⟨bayBase b + 0x10, 12, 8, 0x2⟩
def BAY_RX_CFG_dc_tc (b : Nat) : Fld := ⟨bayBase b + 0x10, 3, 0, 0x6⟩
/-! BAY_SHED: 04_bays_and_synthesisers.md, R118. -/
def BAY_SHED_rx_fault (b : Nat) : Fld := ⟨bayBase b + 0x14, 31, 24, 0x0⟩
def BAY_SHED_tx_fault (b : Nat) : Fld := ⟨bayBase b + 0x14, 23, 16, 0x0⟩
def BAY_SHED_rx_host (b : Nat) : Fld := ⟨bayBase b + 0x14, 15, 8, 0x0⟩
def BAY_SHED_tx_host (b : Nat) : Fld := ⟨bayBase b + 0x14, 7, 0, 0x0⟩
/-! BAY_COUNT: 04_bays_and_synthesisers.md, R118. -/
def BAY_COUNT_fe_refused (b : Nat) : Fld := ⟨bayBase b + 0x18, 31, 16, 0x0⟩
def BAY_COUNT_lo_not_ready (b : Nat) : Fld := ⟨bayBase b + 0x18, 15, 0, 0x0⟩
/-! BAY_ACTIVE: 04_bays_and_synthesisers.md, R118. -/
def BAY_ACTIVE_rx_live (b : Nat) : Fld := ⟨bayBase b + 0x1c, 31, 24, 0x0⟩
def BAY_ACTIVE_tx_live (b : Nat) : Fld := ⟨bayBase b + 0x1c, 23, 16, 0x0⟩
def BAY_ACTIVE_rx_active (b : Nat) : Fld := ⟨bayBase b + 0x1c, 15, 8, 0x0⟩
def BAY_ACTIVE_tx_active (b : Nat) : Fld := ⟨bayBase b + 0x1c, 7, 0, 0x0⟩
/-! BAY_GAIN: 04_bays_and_synthesisers.md, R118. -/
def BAY_GAIN_tx_att (b k : Nat) : Fld := ⟨bayBase b + 0x20 + 0x4 * k, 13, 8, 0x3f⟩
def BAY_GAIN_rx_att (b k : Nat) : Fld := ⟨bayBase b + 0x20 + 0x4 * k, 5, 0, 0x0⟩
/-! BAY_RX_PEAK: 04_bays_and_synthesisers.md, R118. -/
def BAY_RX_PEAK_ovl_slots (b k : Nat) : Fld := ⟨bayBase b + 0x40 + 0x4 * k, 31, 16, 0x0⟩
def BAY_RX_PEAK_peak (b k : Nat) : Fld := ⟨bayBase b + 0x40 + 0x4 * k, 13, 0, 0x0⟩
/-! BAY_FAULT_CAUSE: 04_bays_and_synthesisers.md, R118. -/
def BAY_FAULT_CAUSE_cause (b : Nat) : Fld := ⟨bayBase b + 0x60, 31, 0, 0x0⟩
/-! BAY_TXCH: 05_sample_chains.md, R138. -/
def BAY_TXCH_fading (b k : Nat) : Fld := ⟨bayBase b + 0x200 + 0x4 * k, 31, 31, 0x0⟩
def BAY_TXCH_queued (b k : Nat) : Fld := ⟨bayBase b + 0x200 + 0x4 * k, 30, 30, 0x0⟩
def BAY_TXCH_sh2 (b k : Nat) : Fld := ⟨bayBase b + 0x200 + 0x4 * k, 26, 24, 0x0⟩
def BAY_TXCH_sh1 (b k : Nat) : Fld := ⟨bayBase b + 0x200 + 0x4 * k, 23, 21, 0x0⟩
def BAY_TXCH_sh0 (b k : Nat) : Fld := ⟨bayBase b + 0x200 + 0x4 * k, 20, 18, 0x0⟩
def BAY_TXCH_resp2 (b k : Nat) : Fld := ⟨bayBase b + 0x200 + 0x4 * k, 14, 10, 0x0⟩
def BAY_TXCH_resp1 (b k : Nat) : Fld := ⟨bayBase b + 0x200 + 0x4 * k, 9, 5, 0x0⟩
def BAY_TXCH_resp0 (b k : Nat) : Fld := ⟨bayBase b + 0x200 + 0x4 * k, 4, 0, 0x0⟩
/-! BAY_RXCH: 05_sample_chains.md, R138. -/
def BAY_RXCH_fading (b k : Nat) : Fld := ⟨bayBase b + 0x220 + 0x4 * k, 31, 31, 0x0⟩
def BAY_RXCH_queued (b k : Nat) : Fld := ⟨bayBase b + 0x220 + 0x4 * k, 30, 30, 0x0⟩
def BAY_RXCH_sh2 (b k : Nat) : Fld := ⟨bayBase b + 0x220 + 0x4 * k, 26, 24, 0x0⟩
def BAY_RXCH_sh1 (b k : Nat) : Fld := ⟨bayBase b + 0x220 + 0x4 * k, 23, 21, 0x0⟩
def BAY_RXCH_sh0 (b k : Nat) : Fld := ⟨bayBase b + 0x220 + 0x4 * k, 20, 18, 0x0⟩
def BAY_RXCH_resp2 (b k : Nat) : Fld := ⟨bayBase b + 0x220 + 0x4 * k, 14, 10, 0x0⟩
def BAY_RXCH_resp1 (b k : Nat) : Fld := ⟨bayBase b + 0x220 + 0x4 * k, 9, 5, 0x0⟩
def BAY_RXCH_resp0 (b k : Nat) : Fld := ⟨bayBase b + 0x220 + 0x4 * k, 4, 0, 0x0⟩
/-! BAY_CH_SAT: 05_sample_chains.md, R138. -/
def BAY_CH_SAT_rx_sat (b k : Nat) : Fld := ⟨bayBase b + 0x240 + 0x4 * k, 31, 16, 0x0⟩
def BAY_CH_SAT_tx_sat (b k : Nat) : Fld := ⟨bayBase b + 0x240 + 0x4 * k, 15, 0, 0x0⟩
/-! BAY_IF_KHZ: 05_sample_chains.md, R138. -/
def BAY_IF_KHZ_if_khz (b : Nat) : Fld := ⟨bayBase b + 0x260, 31, 0, 0x0⟩
/-! BAY_CH_STAT: 05_sample_chains.md, R138. -/
def BAY_CH_STAT_rx_valid (b : Nat) : Fld := ⟨bayBase b + 0x264, 31, 24, 0x0⟩
def BAY_CH_STAT_tx_valid (b : Nat) : Fld := ⟨bayBase b + 0x264, 23, 16, 0x0⟩
def BAY_CH_STAT_swap_replaced (b : Nat) : Fld := ⟨bayBase b + 0x264, 15, 8, 0x0⟩
def BAY_CH_STAT_swap_done (b : Nat) : Fld := ⟨bayBase b + 0x264, 7, 0, 0x0⟩
/-! ARCH_CC_CFG: 05_sample_chains.md, R139. -/
def ARCH_CC_CFG_ul_lat (c : Nat) : Fld := ⟨0xc00f00 + 0x4 * c, 9, 9, 0x0⟩
def ARCH_CC_CFG_dl_lat (c : Nat) : Fld := ⟨0xc00f00 + 0x4 * c, 8, 8, 0x0⟩
def ARCH_CC_CFG_dl_att (c : Nat) : Fld := ⟨0xc00f00 + 0x4 * c, 5, 0, 0x0⟩
/-! ARCH_CC_DLLAT: 05_sample_chains.md, R139. -/
def ARCH_CC_DLLAT_ps (c : Nat) : Fld := ⟨0xc00f20 + 0x4 * c, 31, 0, 0x0⟩
/-! ARCH_CC_ULLAT: 05_sample_chains.md, R139. -/
def ARCH_CC_ULLAT_ps (c : Nat) : Fld := ⟨0xc00f40 + 0x4 * c, 31, 0, 0x0⟩
/-! ARCH_CC_STAT: 05_sample_chains.md, R139. -/
def ARCH_CC_STAT_sync1 : Fld := ⟨0xc00f60, 31, 24, 0x0⟩
def ARCH_CC_STAT_sync0 : Fld := ⟨0xc00f60, 23, 16, 0x0⟩
def ARCH_CC_STAT_sat : Fld := ⟨0xc00f60, 15, 0, 0x0⟩
/-! BAY_CAPD: 06_coupled_predistortion.md, R164. -/
def BAY_CAPD_ovw (b i : Nat) : Fld := ⟨bayBase b + 0x300 + 0x8 * i, 31, 31, 0x0⟩
def BAY_CAPD_slot (b i : Nat) : Fld := ⟨bayBase b + 0x300 + 0x8 * i, 28, 27, 0x0⟩
def BAY_CAPD_pos (b i : Nat) : Fld := ⟨bayBase b + 0x300 + 0x8 * i, 26, 24, 0x0⟩
def BAY_CAPD_att (b i : Nat) : Fld := ⟨bayBase b + 0x300 + 0x8 * i, 21, 17, 0x0⟩
def BAY_CAPD_nb (b i : Nat) : Fld := ⟨bayBase b + 0x300 + 0x8 * i, 16, 16, 0x0⟩
def BAY_CAPD_len (b i : Nat) : Fld := ⟨bayBase b + 0x300 + 0x8 * i, 15, 12, 0x0⟩
/-! BAY_CAPT: 06_coupled_predistortion.md, R164. -/
def BAY_CAPT_tag (b i : Nat) : Fld := ⟨bayBase b + 0x304 + 0x8 * i, 15, 0, 0x0⟩
/-! BAY_OBS_CFG: 06_coupled_predistortion.md, R164. -/
def BAY_OBS_CFG_settle (b : Nat) : Fld := ⟨bayBase b + 0x340, 23, 16, 0x19⟩
/-! BAY_OBS_STAT: 06_coupled_predistortion.md, R164. -/
def BAY_OBS_STAT_cap_failed (b : Nat) : Fld := ⟨bayBase b + 0x344, 31, 24, 0x0⟩
def BAY_OBS_STAT_cap_spoiled (b : Nat) : Fld := ⟨bayBase b + 0x344, 23, 16, 0x0⟩
def BAY_OBS_STAT_cap_ok (b : Nat) : Fld := ⟨bayBase b + 0x344, 15, 8, 0x0⟩
def BAY_OBS_STAT_exp_busy (b : Nat) : Fld := ⟨bayBase b + 0x344, 5, 5, 0x0⟩
def BAY_OBS_STAT_busy (b : Nat) : Fld := ⟨bayBase b + 0x344, 4, 4, 0x0⟩
def BAY_OBS_STAT_slot_full (b : Nat) : Fld := ⟨bayBase b + 0x344, 3, 0, 0x0⟩
/-! BAY_DPD: 06_coupled_predistortion.md, R164. -/
def BAY_DPD_cause (b k : Nat) : Fld := ⟨bayBase b + 0x360 + 0x4 * k, 31, 28, 0x0⟩
def BAY_DPD_state (b k : Nat) : Fld := ⟨bayBase b + 0x360 + 0x4 * k, 27, 24, 0x0⟩
def BAY_DPD_reverts (b k : Nat) : Fld := ⟨bayBase b + 0x360 + 0x4 * k, 23, 16, 0x0⟩
def BAY_DPD_apply_skipped (b k : Nat) : Fld := ⟨bayBase b + 0x360 + 0x4 * k, 15, 14, 0x0⟩
def BAY_DPD_wr_refused (b k : Nat) : Fld := ⟨bayBase b + 0x360 + 0x4 * k, 13, 12, 0x0⟩
def BAY_DPD_verify (b k : Nat) : Fld := ⟨bayBase b + 0x360 + 0x4 * k, 11, 11, 0x0⟩
def BAY_DPD_bad1 (b k : Nat) : Fld := ⟨bayBase b + 0x360 + 0x4 * k, 10, 10, 0x0⟩
def BAY_DPD_bad0 (b k : Nat) : Fld := ⟨bayBase b + 0x360 + 0x4 * k, 9, 9, 0x0⟩
def BAY_DPD_ready1 (b k : Nat) : Fld := ⟨bayBase b + 0x360 + 0x4 * k, 8, 8, 0x0⟩
def BAY_DPD_ready0 (b k : Nat) : Fld := ⟨bayBase b + 0x360 + 0x4 * k, 7, 7, 0x0⟩
def BAY_DPD_in_force (b k : Nat) : Fld := ⟨bayBase b + 0x360 + 0x4 * k, 6, 6, 0x0⟩
def BAY_DPD_linear (b k : Nat) : Fld := ⟨bayBase b + 0x360 + 0x4 * k, 5, 5, 0x1⟩
def BAY_DPD_dpd_en (b k : Nat) : Fld := ⟨bayBase b + 0x360 + 0x4 * k, 0, 0, 0x1⟩
/-! BAY_OBS_LAG: 06_coupled_predistortion.md, R164. -/
def BAY_OBS_LAG_lag (b k : Nat) : Fld := ⟨bayBase b + 0x380 + 0x4 * k, 9, 0, 0x0⟩
/-! BAY_DPD_CMD: 06_coupled_predistortion.md, R164. -/
def BAY_DPD_CMD_clear_fb (b : Nat) : Fld := ⟨bayBase b + 0x3a0, 8, 8, 0x0⟩
def BAY_DPD_CMD_expand (b : Nat) : Fld := ⟨bayBase b + 0x3a0, 7, 7, 0x0⟩
def BAY_DPD_CMD_set (b : Nat) : Fld := ⟨bayBase b + 0x3a0, 3, 3, 0x0⟩
def BAY_DPD_CMD_k (b : Nat) : Fld := ⟨bayBase b + 0x3a0, 2, 0, 0x0⟩
/-! BAY_DPD_CFG: 06_coupled_predistortion.md, R164. -/
def BAY_DPD_CFG_fb_att (b : Nat) : Fld := ⟨bayBase b + 0x3a4, 27, 24, 0x6⟩
def BAY_DPD_CFG_verify_to (b : Nat) : Fld := ⟨bayBase b + 0x3a4, 23, 16, 0xa⟩
def BAY_DPD_CFG_lut_max (b : Nat) : Fld := ⟨bayBase b + 0x3a4, 12, 8, 0x10⟩
def BAY_DPD_CFG_div_db (b : Nat) : Fld := ⟨bayBase b + 0x3a4, 7, 4, 0x3⟩
/-! BAY_DPD_MET: 06_coupled_predistortion.md, R164. -/
def BAY_DPD_MET_owr (b k : Nat) : Fld := ⟨bayBase b + 0x3c0 + 0x4 * k, 31, 16, 0x8000⟩
def BAY_DPD_MET_eps (b k : Nat) : Fld := ⟨bayBase b + 0x3c0 + 0x4 * k, 15, 0, 0x8000⟩
/-! GIRDER_CFG: 07_girder_and_arch.md, R186. -/
def GIRDER_CFG_sat_evt_en : Fld := ⟨0xb00000, 8, 8, 0x1⟩
def GIRDER_CFG_renorm_max : Fld := ⟨0xb00000, 6, 4, 0x3⟩
def GIRDER_CFG_renorm : Fld := ⟨0xb00000, 0, 0, 0x1⟩
/-! GIRDER_CB_FALLBACK: 07_girder_and_arch.md, R186. -/
def GIRDER_CB_FALLBACK_fb_valid : Fld := ⟨0xb00004, 31, 31, 0x1⟩
def GIRDER_CB_FALLBACK_index : Fld := ⟨0xb00004, 11, 0, 0x0⟩
/-! GIRDER_CB_REVALID: 07_girder_and_arch.md, R186. -/
def GIRDER_CB_REVALID_index : Fld := ⟨0xb00008, 11, 0, 0x0⟩
/-! GIRDER_CB_STAT: 07_girder_and_arch.md, R186. -/
def GIRDER_CB_STAT_torn : Fld := ⟨0xb0000c, 31, 24, 0x0⟩
def GIRDER_CB_STAT_invalid_count : Fld := ⟨0xb0000c, 23, 16, 0x0⟩
def GIRDER_CB_STAT_last_cause : Fld := ⟨0xb0000c, 15, 14, 0x0⟩
def GIRDER_CB_STAT_reval_fail : Fld := ⟨0xb0000c, 13, 13, 0x0⟩
def GIRDER_CB_STAT_reval_ok : Fld := ⟨0xb0000c, 12, 12, 0x0⟩
def GIRDER_CB_STAT_last_id : Fld := ⟨0xb0000c, 11, 0, 0x0⟩
/-! GIRDER_SHIFT: 07_girder_and_arch.md, R186. -/
def GIRDER_SHIFT_ul_sh (c : Nat) : Fld := ⟨0xb00010 + 0x4 * c, 6, 4, 0x0⟩
def GIRDER_SHIFT_dl_sh (c : Nat) : Fld := ⟨0xb00010 + 0x4 * c, 2, 0, 0x0⟩
/-! GIRDER_SAT: 07_girder_and_arch.md, R186. -/
def GIRDER_SAT_ul_sat (g : Nat) : Fld := ⟨0xb00030 + 0x4 * g, 31, 16, 0x0⟩
def GIRDER_SAT_dl_sat (g : Nat) : Fld := ⟨0xb00030 + 0x4 * g, 15, 0, 0x0⟩
/-! GIRDER_USE_COUNT: 07_girder_and_arch.md, R186. -/
def GIRDER_USE_COUNT_null_uses : Fld := ⟨0xb00040, 31, 16, 0x0⟩
def GIRDER_USE_COUNT_fallback_uses : Fld := ⟨0xb00040, 15, 0, 0x0⟩
/-! GIRDER_DYN_STAT: 07_girder_and_arch.md, R186. -/
def GIRDER_DYN_STAT_dyn_late : Fld := ⟨0xb00044, 31, 16, 0x0⟩
def GIRDER_DYN_STAT_dyn_replaced : Fld := ⟨0xb00044, 15, 0, 0x0⟩
/-! GIRDER_RENORM: 07_girder_and_arch.md, R186. -/
def GIRDER_RENORM_rx_capped : Fld := ⟨0xb00048, 31, 16, 0x0⟩
def GIRDER_RENORM_tx_capped : Fld := ⟨0xb00048, 15, 0, 0x0⟩
/-! GIRDER_LAYERS: 07_girder_and_arch.md, R186. -/
def GIRDER_LAYERS_ul_formed (c : Nat) : Fld := ⟨0xb00050 + 0x4 * c, 28, 24, 0x0⟩
def GIRDER_LAYERS_ul_enabled (c : Nat) : Fld := ⟨0xb00050 + 0x4 * c, 20, 16, 0x0⟩
def GIRDER_LAYERS_dl_formed (c : Nat) : Fld := ⟨0xb00050 + 0x4 * c, 12, 8, 0x0⟩
def GIRDER_LAYERS_dl_enabled (c : Nat) : Fld := ⟨0xb00050 + 0x4 * c, 4, 0, 0x0⟩
/-! GIRDER_CB_INVAL: 07_girder_and_arch.md, R186. -/
def GIRDER_CB_INVAL_invalid (w : Nat) : Fld := ⟨0xb00100 + 0x4 * w, 31, 0, 0x0⟩
/-! ARCH_CFG: 07_girder_and_arch.md, R187. -/
def ARCH_CFG_ul_phcomp (c : Nat) : Fld := ⟨0xc00000 + 0x4 * c, 17, 17, 0x0⟩
def ARCH_CFG_dl_phcomp (c : Nat) : Fld := ⟨0xc00000 + 0x4 * c, 16, 16, 0x0⟩
def ARCH_CFG_ul_scale (c : Nat) : Fld := ⟨0xc00000 + 0x4 * c, 11, 8, 0x0⟩
def ARCH_CFG_dl_scale (c : Nat) : Fld := ⟨0xc00000 + 0x4 * c, 3, 0, 0x0⟩
/-! ARCH_EXP: 07_girder_and_arch.md, R187. -/
def ARCH_EXP_fft_log2 (c : Nat) : Fld := ⟨0xc00020 + 0x4 * c, 19, 16, 0x0⟩
def ARCH_EXP_ul_emax (c : Nat) : Fld := ⟨0xc00020 + 0x4 * c, 15, 12, 0x0⟩
def ARCH_EXP_ul_emin (c : Nat) : Fld := ⟨0xc00020 + 0x4 * c, 11, 8, 0x0⟩
/-! ARCH_SAT: 07_girder_and_arch.md, R187. -/
def ARCH_SAT_ul_sat : Fld := ⟨0xc00040, 31, 16, 0x0⟩
def ARCH_SAT_dl_sat : Fld := ⟨0xc00040, 15, 0, 0x0⟩
/-! PIER_RAIL: 07_girder_and_arch.md, R188. -/
def PIER_RAIL_q (p i s : Nat) : Fld := ⟨0x3004000 + 0x400000 * p + 0x8 * i + 0x4 * s, 31, 16, 0x0⟩
def PIER_RAIL_i (p i s : Nat) : Fld := ⟨0x3004000 + 0x400000 * p + 0x8 * i + 0x4 * s, 15, 0, 0x4000⟩
/-! PIER_RAIL_SEL: 07_girder_and_arch.md, R188. -/
def PIER_RAIL_SEL_loading (p : Nat) : Fld := ⟨0x3004080 + 0x400000 * p, 31, 16, 0x0⟩
def PIER_RAIL_SEL_in_force (p : Nat) : Fld := ⟨0x3004080 + 0x400000 * p, 15, 0, 0x0⟩
/-! PIER_RAIL_STAT: 07_girder_and_arch.md, R188. -/
def PIER_RAIL_STAT_switches (p : Nat) : Fld := ⟨0x3004084 + 0x400000 * p, 31, 16, 0x0⟩
def PIER_RAIL_STAT_wr_refused (p : Nat) : Fld := ⟨0x3004084 + 0x400000 * p, 15, 8, 0x0⟩
def PIER_RAIL_STAT_failed (p : Nat) : Fld := ⟨0x3004084 + 0x400000 * p, 7, 0, 0x0⟩
/-! TRUSS_CFG: 08_truss_engines.md, R219. -/
def TRUSS_CFG_host_jobs : Fld := ⟨0xa00000, 0, 0, 0x1⟩
/-! TRUSS_STAT: 08_truss_engines.md, R219. -/
def TRUSS_STAT_failed : Fld := ⟨0xa00004, 31, 16, 0x0⟩
def TRUSS_STAT_spare : Fld := ⟨0xa00004, 15, 0, 0x0⟩
/-! TRUSS_DISPATCH: 08_truss_engines.md, R219. -/
def TRUSS_DISPATCH_desc : Fld := ⟨0xa00008, 15, 8, 0x0⟩
def TRUSS_DISPATCH_engine : Fld := ⟨0xa00008, 3, 0, 0x0⟩
/-! TRUSS_CMD: 08_truss_engines.md, R219. -/
def TRUSS_CMD_reinstate : Fld := ⟨0xa0000c, 8, 8, 0x0⟩
def TRUSS_CMD_engine : Fld := ⟨0xa0000c, 3, 0, 0x0⟩
/-! TRUSS_MAP_LO: 08_truss_engines.md, R219. -/
def TRUSS_MAP_LO_map : Fld := ⟨0xa00010, 31, 0, 0x76543210⟩
/-! TRUSS_MAP_HI: 08_truss_engines.md, R219. -/
def TRUSS_MAP_HI_map : Fld := ⟨0xa00014, 31, 0, 0xfedcba98⟩
/-! TRUSS_UCODE_VER: 08_truss_engines.md, R219. -/
def TRUSS_UCODE_VER_loaded : Fld := ⟨0xa00018, 31, 31, 0x0⟩
def TRUSS_UCODE_VER_hash_fail : Fld := ⟨0xa00018, 30, 30, 0x0⟩
def TRUSS_UCODE_VER_major : Fld := ⟨0xa00018, 23, 16, 0x0⟩
def TRUSS_UCODE_VER_minor : Fld := ⟨0xa00018, 15, 8, 0x0⟩
def TRUSS_UCODE_VER_programs : Fld := ⟨0xa00018, 7, 0, 0x0⟩
/-! TRUSS_REFUSE: 08_truss_engines.md, R219. -/
def TRUSS_REFUSE_count : Fld := ⟨0xa0001c, 31, 16, 0x0⟩
def TRUSS_REFUSE_desc : Fld := ⟨0xa0001c, 15, 8, 0x0⟩
def TRUSS_REFUSE_reason : Fld := ⟨0xa0001c, 3, 0, 0x0⟩
/-! TRUSS_ENG_STAT: 08_truss_engines.md, R219. -/
def TRUSS_ENG_STAT_fault_cause (e : Nat) : Fld := ⟨0xa01000 + 0x40 * e, 31, 28, 0x0⟩
def TRUSS_ENG_STAT_last_status (e : Nat) : Fld := ⟨0xa01000 + 0x40 * e, 27, 24, 0x0⟩
def TRUSS_ENG_STAT_queue (e : Nat) : Fld := ⟨0xa01000 + 0x40 * e, 23, 20, 0x0⟩
def TRUSS_ENG_STAT_job (e : Nat) : Fld := ⟨0xa01000 + 0x40 * e, 19, 12, 0x0⟩
def TRUSS_ENG_STAT_logical (e : Nat) : Fld := ⟨0xa01000 + 0x40 * e, 11, 8, 0x0⟩
def TRUSS_ENG_STAT_state (e : Nat) : Fld := ⟨0xa01000 + 0x40 * e, 2, 0, 0x0⟩
/-! TRUSS_ENG_COUNT: 08_truss_engines.md, R219. -/
def TRUSS_ENG_COUNT_done (e : Nat) : Fld := ⟨0xa01004 + 0x40 * e, 31, 16, 0x0⟩
def TRUSS_ENG_COUNT_failed (e : Nat) : Fld := ⟨0xa01004 + 0x40 * e, 15, 0, 0x0⟩
/-! TRUSS_ENG_OVF: 08_truss_engines.md, R219. -/
def TRUSS_ENG_OVF_ovf_sums (e : Nat) : Fld := ⟨0xa01008 + 0x40 * e, 31, 16, 0x0⟩
def TRUSS_ENG_OVF_circ_resize (e : Nat) : Fld := ⟨0xa01008 + 0x40 * e, 11, 8, 0x0⟩
def TRUSS_ENG_OVF_acc_ovf (e : Nat) : Fld := ⟨0xa01008 + 0x40 * e, 3, 0, 0x0⟩
/-! TRUSS_ENG_CYC: 08_truss_engines.md, R219. -/
def TRUSS_ENG_CYC_busy (e : Nat) : Fld := ⟨0xa0100c + 0x40 * e, 31, 0, 0x0⟩
/-! TRUSS_ENG_STALL: 08_truss_engines.md, R219. -/
def TRUSS_ENG_STALL_bank (e : Nat) : Fld := ⟨0xa01010 + 0x40 * e, 31, 20, 0x0⟩
def TRUSS_ENG_STALL_interlock (e : Nat) : Fld := ⟨0xa01010 + 0x40 * e, 19, 8, 0x0⟩
def TRUSS_ENG_STALL_st_sat (e : Nat) : Fld := ⟨0xa01010 + 0x40 * e, 7, 0, 0x0⟩
/-! BAY_CAL_CFG: 09_array_calibration.md, R239. -/
def BAY_CAL_CFG_ext_src (b : Nat) : Fld := ⟨bayBase b + 0x400, 24, 24, 0x0⟩
def BAY_CAL_CFG_cal_lvl (b : Nat) : Fld := ⟨bayBase b + 0x400, 23, 16, 0x28⟩
def BAY_CAL_CFG_retry (b : Nat) : Fld := ⟨bayBase b + 0x400, 15, 8, 0xa⟩
def BAY_CAL_CFG_cal_temp_step (b : Nat) : Fld := ⟨bayBase b + 0x400, 4, 0, 0x5⟩
/-! BAY_CAL_STAT: 09_array_calibration.md, R239. -/
def BAY_CAL_STAT_kind (b : Nat) : Fld := ⟨bayBase b + 0x404, 31, 28, 0x0⟩
def BAY_CAL_STAT_running (b : Nat) : Fld := ⟨bayBase b + 0x404, 27, 27, 0x0⟩
def BAY_CAL_STAT_stale (b : Nat) : Fld := ⟨bayBase b + 0x404, 15, 8, 0x0⟩
def BAY_CAL_STAT_due (b : Nat) : Fld := ⟨bayBase b + 0x404, 7, 0, 0x0⟩
/-! BAY_CAL_CMD: 09_array_calibration.md, R239. -/
def BAY_CAL_CMD_apply (b : Nat) : Fld := ⟨bayBase b + 0x408, 8, 8, 0x0⟩
def BAY_CAL_CMD_k (b : Nat) : Fld := ⟨bayBase b + 0x408, 6, 4, 0x0⟩
def BAY_CAL_CMD_kind (b : Nat) : Fld := ⟨bayBase b + 0x408, 3, 0, 0x0⟩
/-! BAY_CAL_SYN: 09_array_calibration.md, R239. -/
def BAY_CAL_SYN_kvco (b : Nat) : Fld := ⟨bayBase b + 0x40c, 7, 0, 0x0⟩
/-! BAY_CAL_PATH: 09_array_calibration.md, R239. -/
def BAY_CAL_PATH_count (b k : Nat) : Fld := ⟨bayBase b + 0x420 + 0x4 * k, 31, 16, 0x0⟩
def BAY_CAL_PATH_age (b k : Nat) : Fld := ⟨bayBase b + 0x420 + 0x4 * k, 15, 0, 0xffff⟩
/-! BAY_CAL_LAST: 09_array_calibration.md, R239. -/
def BAY_CAL_LAST_valid (b k : Nat) : Fld := ⟨bayBase b + 0x440 + 0x4 * k, 31, 31, 0x0⟩
def BAY_CAL_LAST_frame (b k : Nat) : Fld := ⟨bayBase b + 0x440 + 0x4 * k, 30, 21, 0x0⟩
def BAY_CAL_LAST_cycle (b k : Nat) : Fld := ⟨bayBase b + 0x440 + 0x4 * k, 20, 0, 0x0⟩
/-! BAY_CAL_RES: 09_array_calibration.md, R239. -/
def BAY_CAL_RES_status (b k : Nat) : Fld := ⟨bayBase b + 0x460 + 0x4 * k, 23, 0, 0x0⟩
/-! BAY_CAL_FAIL: 09_array_calibration.md, R239. -/
def BAY_CAL_FAIL_fails (b k : Nat) : Fld := ⟨bayBase b + 0x480 + 0x4 * k, 15, 0, 0x0⟩
/-! TRIM_ARRAY: 09_array_calibration.md, R239. -/
def TRIM_ARRAY_delay (b k w : Nat) : Fld := ⟨bayBase b + 0x600 + 0x20 * k + 0x4 * w, 31, 24, 0x0⟩
def TRIM_ARRAY_gain (b k w : Nat) : Fld := ⟨bayBase b + 0x600 + 0x20 * k + 0x4 * w, 23, 16, 0x0⟩
def TRIM_ARRAY_phase (b k w : Nat) : Fld := ⟨bayBase b + 0x600 + 0x20 * k + 0x4 * w, 9, 0, 0x0⟩
/-! TRIM_ARRAY_PEND: 09_array_calibration.md, R239. -/
def TRIM_ARRAY_PEND_delay (b k w : Nat) : Fld := ⟨bayBase b + 0x700 + 0x20 * k + 0x4 * w, 31, 24, 0x0⟩
def TRIM_ARRAY_PEND_gain (b k w : Nat) : Fld := ⟨bayBase b + 0x700 + 0x20 * k + 0x4 * w, 23, 16, 0x0⟩
def TRIM_ARRAY_PEND_phase (b k w : Nat) : Fld := ⟨bayBase b + 0x700 + 0x20 * k + 0x4 * w, 9, 0, 0x0⟩
/-! TRIM_AB: 09_array_calibration.md, R239. -/
def TRIM_AB_b (b k w : Nat) : Fld := ⟨bayBase b + 0x608 + 0x20 * k + 0x4 * w, 25, 16, 0x0⟩
def TRIM_AB_a (b k w : Nat) : Fld := ⟨bayBase b + 0x608 + 0x20 * k + 0x4 * w, 9, 0, 0x0⟩
/-! TRIM_AB_PEND: 09_array_calibration.md, R239. -/
def TRIM_AB_PEND_b (b k w : Nat) : Fld := ⟨bayBase b + 0x708 + 0x20 * k + 0x4 * w, 25, 16, 0x0⟩
def TRIM_AB_PEND_a (b k w : Nat) : Fld := ⟨bayBase b + 0x708 + 0x20 * k + 0x4 * w, 9, 0, 0x0⟩
/-! LINK_CFG: 10_lanes_and_ports.md, R264. -/
def LINK_CFG_rx_pol_b : Fld := ⟨0x500000, 13, 12, 0x0⟩
def LINK_CFG_tx_pol_b : Fld := ⟨0x500000, 11, 10, 0x0⟩
def LINK_CFG_medium_b : Fld := ⟨0x500000, 9, 9, 0x0⟩
def LINK_CFG_en_b : Fld := ⟨0x500000, 8, 8, 0x1⟩
def LINK_CFG_rx_pol_a : Fld := ⟨0x500000, 5, 4, 0x0⟩
def LINK_CFG_tx_pol_a : Fld := ⟨0x500000, 3, 2, 0x0⟩
def LINK_CFG_medium_a : Fld := ⟨0x500000, 1, 1, 0x0⟩
def LINK_CFG_en_a : Fld := ⟨0x500000, 0, 0, 0x1⟩
/-! LINK_CMD: 10_lanes_and_ports.md, R264. -/
def LINK_CMD_reseek_b : Fld := ⟨0x500004, 2, 2, 0x0⟩
def LINK_CMD_reseek_a : Fld := ⟨0x500004, 1, 1, 0x0⟩
def LINK_CMD_failback : Fld := ⟨0x500004, 0, 0, 0x0⟩
/-! LINK_STAT: 10_lanes_and_ports.md, R264. -/
def LINK_STAT_param_refused : Fld := ⟨0x500008, 7, 7, 0x0⟩
def LINK_STAT_failback_refused : Fld := ⟨0x500008, 6, 6, 0x0⟩
def LINK_STAT_rest_refused : Fld := ⟨0x500008, 5, 5, 0x0⟩
def LINK_STAT_timing_port : Fld := ⟨0x500008, 4, 4, 0x0⟩
def LINK_STAT_fallback : Fld := ⟨0x500008, 3, 3, 0x0⟩
def LINK_STAT_active : Fld := ⟨0x500008, 2, 0, 0x3⟩
/-! LINK_MERIT_MIN: 10_lanes_and_ports.md, R264. -/
def LINK_MERIT_MIN_min : Fld := ⟨0x50000c, 8, 0, 0xb4⟩
/-! LINK_FAILOVER: 10_lanes_and_ports.md, R264. -/
def LINK_FAILOVER_count : Fld := ⟨0x500010, 31, 16, 0x0⟩
def LINK_FAILOVER_last_ns : Fld := ⟨0x500010, 15, 0, 0x0⟩
/-! LINK_DISCARD: 10_lanes_and_ports.md, R264. -/
def LINK_DISCARD_ctl_b : Fld := ⟨0x500014, 31, 24, 0x0⟩
def LINK_DISCARD_ptp_b : Fld := ⟨0x500014, 23, 16, 0x0⟩
def LINK_DISCARD_ctl_a : Fld := ⟨0x500014, 15, 8, 0x0⟩
def LINK_DISCARD_ptp_a : Fld := ⟨0x500014, 7, 0, 0x0⟩
/-! LINK_REST: 10_lanes_and_ports.md, R264. -/
def LINK_REST_rx_rest : Fld := ⟨0x500018, 11, 8, 0x0⟩
def LINK_REST_tx_rest : Fld := ⟨0x500018, 3, 0, 0x0⟩
/-! LINK_PORT_STAT: 10_lanes_and_ports.md, R264. -/
def LINK_PORT_STAT_ups (p : Nat) : Fld := ⟨0x500100 + 0x40 * p, 31, 24, 0x0⟩
def LINK_PORT_STAT_lost_frames (p : Nat) : Fld := ⟨0x500100 + 0x40 * p, 23, 16, 0x0⟩
def LINK_PORT_STAT_attempts (p : Nat) : Fld := ⟨0x500100 + 0x40 * p, 11, 8, 0x0⟩
def LINK_PORT_STAT_role (p : Nat) : Fld := ⟨0x500100 + 0x40 * p, 5, 4, 0x0⟩
def LINK_PORT_STAT_carrying (p : Nat) : Fld := ⟨0x500100 + 0x40 * p, 3, 3, 0x0⟩
def LINK_PORT_STAT_state (p : Nat) : Fld := ⟨0x500100 + 0x40 * p, 2, 0, 0x0⟩
/-! LINK_PORT_FEC: 10_lanes_and_ports.md, R264. -/
def LINK_PORT_FEC_uncorrected (p : Nat) : Fld := ⟨0x500104 + 0x40 * p, 31, 16, 0x0⟩
def LINK_PORT_FEC_corrected (p : Nat) : Fld := ⟨0x500104 + 0x40 * p, 15, 0, 0x0⟩
/-! LINK_PORT_EXPB: 10_lanes_and_ports.md, R264. -/
def LINK_PORT_EXPB_dropped (p : Nat) : Fld := ⟨0x500108 + 0x40 * p, 31, 16, 0x0⟩
def LINK_PORT_EXPB_rx_fill (p : Nat) : Fld := ⟨0x500108 + 0x40 * p, 15, 8, 0x0⟩
def LINK_PORT_EXPB_tx_fill (p : Nat) : Fld := ⟨0x500108 + 0x40 * p, 7, 0, 0x0⟩
/-! LINK_LANE_STAT: 10_lanes_and_ports.md, R264. -/
def LINK_LANE_STAT_merit (L : Nat) : Fld := ⟨0x500200 + 0x40 * L, 31, 16, 0x8000⟩
def LINK_LANE_STAT_backoff (L : Nat) : Fld := ⟨0x500200 + 0x40 * L, 11, 10, 0x0⟩
def LINK_LANE_STAT_rx_rest (L : Nat) : Fld := ⟨0x500200 + 0x40 * L, 9, 9, 0x0⟩
def LINK_LANE_STAT_tx_rest (L : Nat) : Fld := ⟨0x500200 + 0x40 * L, 8, 8, 0x0⟩
def LINK_LANE_STAT_cdr_lock (L : Nat) : Fld := ⟨0x500200 + 0x40 * L, 7, 7, 0x0⟩
def LINK_LANE_STAT_sig_det (L : Nat) : Fld := ⟨0x500200 + 0x40 * L, 6, 6, 0x0⟩
def LINK_LANE_STAT_state (L : Nat) : Fld := ⟨0x500200 + 0x40 * L, 2, 0, 0x0⟩
/-! LINK_LANE_TXEQ: 10_lanes_and_ports.md, R264. -/
def LINK_LANE_TXEQ_post1 (L : Nat) : Fld := ⟨0x500204 + 0x40 * L, 31, 24, 0xf8⟩
def LINK_LANE_TXEQ_main (L : Nat) : Fld := ⟨0x500204 + 0x40 * L, 23, 16, 0x70⟩
def LINK_LANE_TXEQ_pre1 (L : Nat) : Fld := ⟨0x500204 + 0x40 * L, 15, 8, 0xf8⟩
def LINK_LANE_TXEQ_pre2 (L : Nat) : Fld := ⟨0x500204 + 0x40 * L, 7, 0, 0x0⟩
/-! LINK_LANE_RXEQ: 10_lanes_and_ports.md, R264. -/
def LINK_LANE_RXEQ_dfe1 (L : Nat) : Fld := ⟨0x500208 + 0x40 * L, 31, 24, 0x0⟩
def LINK_LANE_RXEQ_ffe_post (L : Nat) : Fld := ⟨0x500208 + 0x40 * L, 23, 16, 0x0⟩
def LINK_LANE_RXEQ_ffe_pre (L : Nat) : Fld := ⟨0x500208 + 0x40 * L, 15, 8, 0x0⟩
def LINK_LANE_RXEQ_ctle (L : Nat) : Fld := ⟨0x500208 + 0x40 * L, 4, 0, 0xc⟩
/-! LINK_LANE_COUNT: 10_lanes_and_ports.md, R264. -/
def LINK_LANE_COUNT_los (L : Nat) : Fld := ⟨0x50020c + 0x40 * L, 31, 16, 0x0⟩
def LINK_LANE_COUNT_waits (L : Nat) : Fld := ⟨0x50020c + 0x40 * L, 15, 8, 0x0⟩
def LINK_LANE_COUNT_ups (L : Nat) : Fld := ⟨0x50020c + 0x40 * L, 7, 0, 0x0⟩
/-! LINK_XK_CFG: 11_xantaka.md, R295. -/
def LINK_XK_CFG_mgmt : Fld := ⟨0x501000, 31, 30, 0x1⟩
def LINK_XK_CFG_peer_to : Fld := ⟨0x501000, 23, 16, 0xa⟩
def LINK_XK_CFG_mtu : Fld := ⟨0x501000, 13, 0, 0x5dc⟩
/-! LINK_XK_VER_LO: 11_xantaka.md, R295. -/
def LINK_XK_VER_LO_management : Fld := ⟨0x501004, 31, 24, 0x0⟩
def LINK_XK_VER_LO_timing : Fld := ⟨0x501004, 23, 16, 0x0⟩
def LINK_XK_VER_LO_control : Fld := ⟨0x501004, 15, 8, 0x0⟩
def LINK_XK_VER_LO_sections : Fld := ⟨0x501004, 7, 0, 0x0⟩
/-! LINK_XK_VER_HI: 11_xantaka.md, R295. -/
def LINK_XK_VER_HI_frame : Fld := ⟨0x501008, 17, 8, 0x0⟩
def LINK_XK_VER_HI_heartbeat : Fld := ⟨0x501008, 7, 0, 0x10⟩
/-! LINK_XK_STAT: 11_xantaka.md, R295. -/
def LINK_XK_STAT_hb_rx : Fld := ⟨0x50100c, 31, 16, 0x0⟩
def LINK_XK_STAT_mgmt_busy : Fld := ⟨0x50100c, 15, 8, 0x0⟩
def LINK_XK_STAT_peer_silent : Fld := ⟨0x50100c, 2, 2, 0x0⟩
def LINK_XK_STAT_caps : Fld := ⟨0x50100c, 1, 0, 0x0⟩
/-! LINK_XK_DISC: 11_xantaka.md, R295. -/
def LINK_XK_DISC_format : Fld := ⟨0x501010, 31, 24, 0x0⟩
def LINK_XK_DISC_version : Fld := ⟨0x501010, 23, 16, 0x0⟩
def LINK_XK_DISC_unknown_flow : Fld := ⟨0x501010, 15, 8, 0x0⟩
def LINK_XK_DISC_early : Fld := ⟨0x501010, 7, 0, 0x0⟩
/-! LINK_XK_MGMT: 11_xantaka.md, R295. -/
def LINK_XK_MGMT_writes : Fld := ⟨0x501014, 31, 16, 0x0⟩
def LINK_XK_MGMT_refused : Fld := ⟨0x501014, 15, 0, 0x0⟩
/-! LINK_XK_MAC_LO: 11_xantaka.md, R295. -/
def LINK_XK_MAC_LO_addr : Fld := ⟨0x501018, 31, 0, 0x0⟩
/-! LINK_XK_MAC_HI: 11_xantaka.md, R295. -/
def LINK_XK_MAC_HI_addr : Fld := ⟨0x50101c, 31, 0, 0x0⟩
/-! LINK_FLOW_W0: 11_xantaka.md, R295. -/
def LINK_FLOW_W0_eaxc (f : Nat) : Fld := ⟨0x508000 + 0x10 * f, 31, 16, 0x0⟩
def LINK_FLOW_W0_count (f : Nat) : Fld := ⟨0x508000 + 0x10 * f, 15, 11, 0x0⟩
def LINK_FLOW_W0_first (f : Nat) : Fld := ⟨0x508000 + 0x10 * f, 10, 6, 0x0⟩
def LINK_FLOW_W0_carrier (f : Nat) : Fld := ⟨0x508000 + 0x10 * f, 5, 3, 0x0⟩
def LINK_FLOW_W0_dir (f : Nat) : Fld := ⟨0x508000 + 0x10 * f, 2, 2, 0x0⟩
def LINK_FLOW_W0_state (f : Nat) : Fld := ⟨0x508000 + 0x10 * f, 1, 0, 0x0⟩
/-! LINK_FLOW_W1: 11_xantaka.md, R295. -/
def LINK_FLOW_W1_sections (f : Nat) : Fld := ⟨0x508004 + 0x10 * f, 31, 16, 0x0⟩
def LINK_FLOW_W1_dup (f : Nat) : Fld := ⟨0x508004 + 0x10 * f, 15, 8, 0x0⟩
def LINK_FLOW_W1_port (f : Nat) : Fld := ⟨0x508004 + 0x10 * f, 0, 0, 0x0⟩
/-! LINK_FLOW_W2: 11_xantaka.md, R295. -/
def LINK_FLOW_W2_late (f : Nat) : Fld := ⟨0x508008 + 0x10 * f, 31, 16, 0x0⟩
def LINK_FLOW_W2_too_late (f : Nat) : Fld := ⟨0x508008 + 0x10 * f, 15, 0, 0x0⟩
/-! LINK_FLOW_W3: 11_xantaka.md, R295. -/
def LINK_FLOW_W3_seq_gaps (f : Nat) : Fld := ⟨0x50800c + 0x10 * f, 31, 16, 0x0⟩
def LINK_FLOW_W3_sat (f : Nat) : Fld := ⟨0x50800c + 0x10 * f, 15, 0, 0x0⟩
/-! KEY_STATUS: 12_keystone_boot_update.md, R331. -/
def KEY_STATUS_refclk_wait : Fld := ⟨0x400000, 31, 31, 0x0⟩
def KEY_STATUS_settings : Fld := ⟨0x400000, 30, 28, 0x0⟩
def KEY_STATUS_attest_ready : Fld := ⟨0x400000, 27, 27, 0x0⟩
def KEY_STATUS_fallback : Fld := ⟨0x400000, 26, 26, 0x0⟩
def KEY_STATUS_slot_b : Fld := ⟨0x400000, 23, 22, 0x0⟩
def KEY_STATUS_slot_a : Fld := ⟨0x400000, 21, 20, 0x0⟩
def KEY_STATUS_staging : Fld := ⟨0x400000, 19, 18, 0x0⟩
def KEY_STATUS_active_slot : Fld := ⟨0x400000, 17, 17, 0x0⟩
def KEY_STATUS_active_valid : Fld := ⟨0x400000, 16, 16, 0x0⟩
def KEY_STATUS_stage : Fld := ⟨0x400000, 2, 0, 0x0⟩
/-! KEY_REFUSE: 12_keystone_boot_update.md, R331. -/
def KEY_REFUSE_count : Fld := ⟨0x400004, 31, 24, 0x0⟩
def KEY_REFUSE_item : Fld := ⟨0x400004, 23, 16, 0x0⟩
def KEY_REFUSE_reason : Fld := ⟨0x400004, 7, 0, 0x0⟩
/-! KEY_OFFER_LO: 12_keystone_boot_update.md, R331. -/
def KEY_OFFER_LO_addr : Fld := ⟨0x400008, 31, 0, 0x0⟩
/-! KEY_OFFER_HI: 12_keystone_boot_update.md, R331. -/
def KEY_OFFER_HI_addr : Fld := ⟨0x40000c, 31, 0, 0x0⟩
/-! KEY_CMD: 12_keystone_boot_update.md, R331. -/
def KEY_CMD_attest : Fld := ⟨0x400010, 1, 1, 0x0⟩
def KEY_CMD_offer : Fld := ⟨0x400010, 0, 0, 0x0⟩
/-! KEY_ACT_SEQ: 12_keystone_boot_update.md, R331. -/
def KEY_ACT_SEQ_value : Fld := ⟨0x400014, 31, 0, 0x0⟩
/-! KEY_ACT_REL: 12_keystone_boot_update.md, R331. -/
def KEY_ACT_REL_value : Fld := ⟨0x400018, 31, 0, 0x0⟩
/-! KEY_SVN: 12_keystone_boot_update.md, R331. -/
def KEY_SVN_staged : Fld := ⟨0x40001c, 22, 16, 0x0⟩
def KEY_SVN_active : Fld := ⟨0x40001c, 14, 8, 0x0⟩
def KEY_SVN_svn_min : Fld := ⟨0x40001c, 6, 0, 0x0⟩
/-! KEY_SLOTS: 12_keystone_boot_update.md, R331. -/
def KEY_SLOTS_manifest_by : Fld := ⟨0x400020, 11, 10, 0x0⟩
def KEY_SLOTS_vendor_by : Fld := ⟨0x400020, 9, 8, 0x0⟩
def KEY_SLOTS_state : Fld := ⟨0x400020, 7, 0, 0x0⟩
/-! KEY_STAGE: 12_keystone_boot_update.md, R331. -/
def KEY_STAGE_idle_s : Fld := ⟨0x400024, 31, 16, 0x0⟩
def KEY_STAGE_timeouts : Fld := ⟨0x400024, 15, 8, 0x0⟩
def KEY_STAGE_owner : Fld := ⟨0x400024, 5, 4, 0x0⟩
def KEY_STAGE_session : Fld := ⟨0x400024, 1, 0, 0x0⟩
/-! KEY_STAGE_CMD: 12_keystone_boot_update.md, R331. -/
def KEY_STAGE_CMD_clear : Fld := ⟨0x400028, 3, 3, 0x0⟩
def KEY_STAGE_CMD_abort : Fld := ⟨0x400028, 2, 2, 0x0⟩
def KEY_STAGE_CMD_close : Fld := ⟨0x400028, 1, 1, 0x0⟩
def KEY_STAGE_CMD_open : Fld := ⟨0x400028, 0, 0, 0x0⟩
/-! KEY_OTP_CMD: 12_keystone_boot_update.md, R331. -/
def KEY_OTP_CMD_busy : Fld := ⟨0x400030, 31, 31, 0x0⟩
def KEY_OTP_CMD_done : Fld := ⟨0x400030, 30, 30, 0x0⟩
def KEY_OTP_CMD_slot : Fld := ⟨0x400030, 7, 6, 0x0⟩
def KEY_OTP_CMD_op : Fld := ⟨0x400030, 3, 0, 0x0⟩
/-! KEY_OTP_DATA: 12_keystone_boot_update.md, R331. -/
def KEY_OTP_DATA_data (i : Nat) : Fld := ⟨0x400040 + 0x4 * i, 31, 0, 0x0⟩
/-! KEY_ATT_NONCE: 12_keystone_boot_update.md, R331. -/
def KEY_ATT_NONCE_data (i : Nat) : Fld := ⟨0x400060 + 0x4 * i, 31, 0, 0x0⟩
/-! KEY_ATT_STAT: 12_keystone_boot_update.md, R331. -/
def KEY_ATT_STAT_done : Fld := ⟨0x400080, 31, 31, 0x0⟩
def KEY_ATT_STAT_cause : Fld := ⟨0x400080, 30, 28, 0x0⟩
def KEY_ATT_STAT_used : Fld := ⟨0x400080, 10, 0, 0x0⟩
/-! KEY_ATT_LEAF: 12_keystone_boot_update.md, R331. -/
def KEY_ATT_LEAF_leaf : Fld := ⟨0x400084, 31, 16, 0x0⟩
def KEY_ATT_LEAF_blocks : Fld := ⟨0x400084, 7, 0, 0x0⟩
/-! KEY_BOOT_TIME: 12_keystone_boot_update.md, R331. -/
def KEY_BOOT_TIME_ms : Fld := ⟨0x400088, 31, 0, 0x0⟩
/-! MEM_CFG: 13_memory_and_dma.md, R357. -/
def MEM_CFG_lap_max : Fld := ⟨0x600000, 31, 16, 0xa⟩
def MEM_CFG_ce_evt_en : Fld := ⟨0x600000, 1, 1, 0x1⟩
def MEM_CFG_scrub_en : Fld := ⟨0x600000, 0, 0, 0x1⟩
/-! MEM_STAT: 13_memory_and_dma.md, R357. -/
def MEM_STAT_init_done : Fld := ⟨0x600004, 31, 31, 0x0⟩
def MEM_STAT_recur_pending : Fld := ⟨0x600004, 15, 8, 0x0⟩
def MEM_STAT_recur_entries : Fld := ⟨0x600004, 5, 0, 0x0⟩
/-! MEM_ERR_COUNT: 13_memory_and_dma.md, R357. -/
def MEM_ERR_COUNT_ce : Fld := ⟨0x600008, 31, 16, 0x0⟩
def MEM_ERR_COUNT_ue : Fld := ⟨0x600008, 15, 0, 0x0⟩
/-! MEM_LAST_CE: 13_memory_and_dma.md, R357. -/
def MEM_LAST_CE_region : Fld := ⟨0x60000c, 31, 28, 0x0⟩
def MEM_LAST_CE_source : Fld := ⟨0x60000c, 27, 26, 0x0⟩
def MEM_LAST_CE_addr : Fld := ⟨0x60000c, 25, 3, 0x0⟩
/-! MEM_LAST_UE: 13_memory_and_dma.md, R357. -/
def MEM_LAST_UE_region : Fld := ⟨0x600010, 31, 28, 0x0⟩
def MEM_LAST_UE_source : Fld := ⟨0x600010, 27, 26, 0x0⟩
def MEM_LAST_UE_addr : Fld := ⟨0x600010, 25, 3, 0x0⟩
/-! MEM_SCRUB: 13_memory_and_dma.md, R357. -/
def MEM_SCRUB_laps : Fld := ⟨0x600014, 31, 16, 0x0⟩
def MEM_SCRUB_lap_ms : Fld := ⟨0x600014, 15, 0, 0x0⟩
/-! MEM_MERGE: 13_memory_and_dma.md, R357. -/
def MEM_MERGE_rmw : Fld := ⟨0x600018, 31, 16, 0x0⟩
def MEM_MERGE_discarded : Fld := ⟨0x600018, 15, 0, 0x0⟩
/-! MEM_SPARE: 13_memory_and_dma.md, R357. -/
def MEM_SPARE_fuse_used : Fld := ⟨0x60001c, 31, 22, 0x0⟩
def MEM_SPARE_soft_used : Fld := ⟨0x60001c, 21, 12, 0x0⟩
def MEM_SPARE_ignored : Fld := ⟨0x60001c, 7, 0, 0x0⟩
/-! MEM_INJECT: 13_memory_and_dma.md, R357. -/
def MEM_INJECT_arm : Fld := ⟨0x600020, 31, 31, 0x0⟩
def MEM_INJECT_double : Fld := ⟨0x600020, 30, 30, 0x0⟩
def MEM_INJECT_armed : Fld := ⟨0x600020, 29, 29, 0x0⟩
def MEM_INJECT_addr : Fld := ⟨0x600020, 25, 3, 0x0⟩
/-! MEM_POISON_USE: 13_memory_and_dma.md, R357. -/
def MEM_POISON_USE_zero_subst : Fld := ⟨0x600024, 31, 16, 0x0⟩
def MEM_POISON_USE_error_resp : Fld := ⟨0x600024, 15, 0, 0x0⟩
/-! DMA_CMD: 13_memory_and_dma.md, R358. -/
def DMA_CMD_clear_halt : Fld := ⟨0x700000, 0, 0, 0x0⟩
/-! DMA_HALT_CAUSE: 13_memory_and_dma.md, R358. -/
def DMA_HALT_CAUSE_halted : Fld := ⟨0x700004, 31, 31, 0x0⟩
def DMA_HALT_CAUSE_space : Fld := ⟨0x700004, 5, 4, 0x0⟩
def DMA_HALT_CAUSE_write : Fld := ⟨0x700004, 3, 3, 0x0⟩
def DMA_HALT_CAUSE_cause : Fld := ⟨0x700004, 2, 0, 0x0⟩
/-! DMA_HALT_ADDR_LO: 13_memory_and_dma.md, R358. -/
def DMA_HALT_ADDR_LO_addr : Fld := ⟨0x700008, 31, 0, 0x0⟩
/-! DMA_HALT_ADDR_HI: 13_memory_and_dma.md, R358. -/
def DMA_HALT_ADDR_HI_addr : Fld := ⟨0x70000c, 31, 0, 0x0⟩
/-! DMA_STAT: 13_memory_and_dma.md, R358. -/
def DMA_STAT_busy : Fld := ⟨0x700010, 31, 0, 0x0⟩
/-! DMA_ERR: 13_memory_and_dma.md, R358. -/
def DMA_ERR_count : Fld := ⟨0x700014, 31, 24, 0x0⟩
def DMA_ERR_channel : Fld := ⟨0x700014, 20, 16, 0x0⟩
def DMA_ERR_reason : Fld := ⟨0x700014, 3, 0, 0x0⟩
/-! DMA_CH_CTRL: 13_memory_and_dma.md, R358. -/
def DMA_CH_CTRL_prio (n : Nat) : Fld := ⟨0x700100 + 0x40 * n, 3, 3, 0x0⟩
def DMA_CH_CTRL_stop (n : Nat) : Fld := ⟨0x700100 + 0x40 * n, 1, 1, 0x0⟩
def DMA_CH_CTRL_start (n : Nat) : Fld := ⟨0x700100 + 0x40 * n, 0, 0, 0x0⟩
/-! DMA_CH_DESC_LO: 13_memory_and_dma.md, R358. -/
def DMA_CH_DESC_LO_addr (n : Nat) : Fld := ⟨0x700104 + 0x40 * n, 31, 6, 0x0⟩
def DMA_CH_DESC_LO_space (n : Nat) : Fld := ⟨0x700104 + 0x40 * n, 1, 0, 0x0⟩
/-! DMA_CH_POS_LO: 13_memory_and_dma.md, R358. -/
def DMA_CH_POS_LO_addr (n : Nat) : Fld := ⟨0x700110 + 0x40 * n, 31, 6, 0x0⟩
def DMA_CH_POS_LO_space (n : Nat) : Fld := ⟨0x700110 + 0x40 * n, 1, 0, 0x0⟩
/-! DMA_CH_DESC_HI: 13_memory_and_dma.md, R358. -/
def DMA_CH_DESC_HI_addr (n : Nat) : Fld := ⟨0x700108 + 0x40 * n, 31, 0, 0x0⟩
/-! DMA_CH_POS_HI: 13_memory_and_dma.md, R358. -/
def DMA_CH_POS_HI_addr (n : Nat) : Fld := ⟨0x700114 + 0x40 * n, 31, 0, 0x0⟩
/-! DMA_CH_STAT: 13_memory_and_dma.md, R358. -/
def DMA_CH_STAT_tag (n : Nat) : Fld := ⟨0x70010c + 0x40 * n, 31, 24, 0x0⟩
def DMA_CH_STAT_last_status (n : Nat) : Fld := ⟨0x70010c + 0x40 * n, 23, 20, 0x0⟩
def DMA_CH_STAT_start_refused (n : Nat) : Fld := ⟨0x70010c + 0x40 * n, 17, 17, 0x0⟩
def DMA_CH_STAT_stop_pending (n : Nat) : Fld := ⟨0x70010c + 0x40 * n, 16, 16, 0x0⟩
def DMA_CH_STAT_state (n : Nat) : Fld := ⟨0x70010c + 0x40 * n, 2, 0, 0x0⟩
/-! DMA_CH_DONE: 13_memory_and_dma.md, R358. -/
def DMA_CH_DONE_bytes (n : Nat) : Fld := ⟨0x700118 + 0x40 * n, 31, 0, 0x0⟩
/-! DMA_CH_HOPMAX: 13_memory_and_dma.md, R358. -/
def DMA_CH_HOPMAX_hopmax (n : Nat) : Fld := ⟨0x70011c + 0x40 * n, 15, 0, 0x1000⟩
/-! DMA_CH_COUNT: 13_memory_and_dma.md, R358. -/
def DMA_CH_COUNT_hops (n : Nat) : Fld := ⟨0x700120 + 0x40 * n, 31, 16, 0x0⟩
def DMA_CH_COUNT_orphans (n : Nat) : Fld := ⟨0x700120 + 0x40 * n, 15, 0, 0x0⟩
/-! HK_CFG: 14_housekeeping.md, R387. -/
def HK_CFG_lim_en : Fld := ⟨0x800000, 0, 0, 0x1⟩
/-! HK_STAT: 14_housekeeping.md, R387. -/
def HK_STAT_cycles : Fld := ⟨0x800004, 31, 16, 0x0⟩
def HK_STAT_urgent_refused : Fld := ⟨0x800004, 15, 8, 0x0⟩
/-! HK_URG: 14_housekeeping.md, R387. -/
def HK_URG_go : Fld := ⟨0x800008, 8, 8, 0x0⟩
def HK_URG_ch : Fld := ⟨0x800008, 7, 0, 0x0⟩
/-! HK_URG_RES: 14_housekeeping.md, R387. -/
def HK_URG_RES_done : Fld := ⟨0x80000c, 31, 31, 0x0⟩
def HK_URG_RES_ch : Fld := ⟨0x80000c, 19, 12, 0x0⟩
def HK_URG_RES_value : Fld := ⟨0x80000c, 11, 0, 0x0⟩
/-! HK_CAL_CMD: 14_housekeeping.md, R387. -/
def HK_CAL_CMD_step : Fld := ⟨0x800010, 31, 30, 0x0⟩
def HK_CAL_CMD_group : Fld := ⟨0x800010, 19, 16, 0x0⟩
def HK_CAL_CMD_fs : Fld := ⟨0x800010, 11, 0, 0x0⟩
/-! HK_CAL_STAT: 14_housekeeping.md, R387. -/
def HK_CAL_STAT_status : Fld := ⟨0x800014, 31, 28, 0x0⟩
def HK_CAL_STAT_group : Fld := ⟨0x800014, 27, 24, 0x0⟩
def HK_CAL_STAT_zero_mean : Fld := ⟨0x800014, 23, 12, 0x0⟩
def HK_CAL_STAT_full_mean : Fld := ⟨0x800014, 11, 0, 0x0⟩
/-! HK_GRP_CAL: 14_housekeeping.md, R387. -/
def HK_GRP_CAL_offset (g : Nat) : Fld := ⟨0x800040 + 0x4 * g, 23, 16, 0x0⟩
def HK_GRP_CAL_gain (g : Nat) : Fld := ⟨0x800040 + 0x4 * g, 15, 0, 0x8000⟩
/-! HK_CH: 14_housekeeping.md, R387. -/
def HK_CH_lim_hi (c : Nat) : Fld := ⟨0x800100 + 0x4 * c, 15, 15, 0x0⟩
def HK_CH_lim_lo (c : Nat) : Fld := ⟨0x800100 + 0x4 * c, 14, 14, 0x0⟩
def HK_CH_cal (c : Nat) : Fld := ⟨0x800100 + 0x4 * c, 13, 13, 0x0⟩
def HK_CH_value (c : Nat) : Fld := ⟨0x800100 + 0x4 * c, 11, 0, 0x0⟩
/-! HK_LIM: 14_housekeeping.md, R387. -/
def HK_LIM_action (c : Nat) : Fld := ⟨0x800400 + 0x4 * c, 31, 30, 0x0⟩
def HK_LIM_gate (c : Nat) : Fld := ⟨0x800400 + 0x4 * c, 29, 29, 0x0⟩
def HK_LIM_persist (c : Nat) : Fld := ⟨0x800400 + 0x4 * c, 28, 25, 0x1⟩
def HK_LIM_high (c : Nat) : Fld := ⟨0x800400 + 0x4 * c, 23, 12, 0xfff⟩
def HK_LIM_low (c : Nat) : Fld := ⟨0x800400 + 0x4 * c, 11, 0, 0x0⟩
/-! HK_STAY: 14_housekeeping.md, R387. -/
def HK_STAY_gain (n : Nat) : Fld := ⟨0x801000 + 0x4 * n, 16, 16, 0x0⟩
def HK_STAY_code (n : Nat) : Fld := ⟨0x801000 + 0x4 * n, 15, 0, 0x0⟩
/-! HK_STAY_CLR: 14_housekeeping.md, R387. -/
def HK_STAY_CLR_gain (n : Nat) : Fld := ⟨0x801100 + 0x4 * n, 16, 16, 0x0⟩
def HK_STAY_CLR_code (n : Nat) : Fld := ⟨0x801100 + 0x4 * n, 15, 0, 0x0⟩
/-! HK_ANCH: 14_housekeeping.md, R387. -/
def HK_ANCH_override (k : Nat) : Fld := ⟨0x801200 + 0x4 * k, 31, 31, 0x0⟩
def HK_ANCH_gain (k : Nat) : Fld := ⟨0x801200 + 0x4 * k, 16, 16, 0x0⟩
def HK_ANCH_code (k : Nat) : Fld := ⟨0x801200 + 0x4 * k, 15, 0, 0x0⟩
/-! HK_STAY_DRV_LO: 14_housekeeping.md, R387. -/
def HK_STAY_DRV_LO_drv : Fld := ⟨0x801280, 31, 0, 0x0⟩
/-! HK_STAY_DRV_HI: 14_housekeeping.md, R387. -/
def HK_STAY_DRV_HI_drv : Fld := ⟨0x801284, 31, 0, 0x0⟩
/-! HK_STAY_STAT: 14_housekeeping.md, R387. -/
def HK_STAY_STAT_anch_otp : Fld := ⟨0x801288, 23, 16, 0x0⟩
def HK_STAY_STAT_anch_reverts : Fld := ⟨0x801288, 15, 8, 0x0⟩
def HK_STAY_STAT_vdda_ok : Fld := ⟨0x801288, 7, 7, 0x0⟩
def HK_STAY_STAT_clr_pin : Fld := ⟨0x801288, 6, 6, 0x0⟩
/-! HK_PAR_CMD: 14_housekeeping.md, R387. -/
def HK_PAR_CMD_readmit : Fld := ⟨0x802000, 8, 8, 0x0⟩
def HK_PAR_CMD_sensor : Fld := ⟨0x802000, 5, 0, 0x0⟩
/-! HK_PAR_STAT: 14_housekeeping.md, R387. -/
def HK_PAR_STAT_level : Fld := ⟨0x802004, 31, 30, 0x0⟩
def HK_PAR_STAT_backstop : Fld := ⟨0x802004, 29, 29, 0x0⟩
def HK_PAR_STAT_shutdown : Fld := ⟨0x802004, 28, 28, 0x0⟩
def HK_PAR_STAT_steps : Fld := ⟨0x802004, 21, 16, 0x0⟩
def HK_PAR_STAT_max_temp : Fld := ⟨0x802004, 15, 0, 0x0⟩
/-! HK_PAR_THR: 14_housekeeping.md, R387. -/
def HK_PAR_THR_host_level : Fld := ⟨0x802008, 5, 0, 0x0⟩
/-! HK_PAR_CAP: 14_housekeeping.md, R387. -/
def HK_PAR_CAP_cap_red : Fld := ⟨0x80200c, 31, 16, 0x0⟩
def HK_PAR_CAP_saving : Fld := ⟨0x80200c, 15, 0, 0x0⟩
/-! HK_PAR_DIE: 14_housekeeping.md, R387. -/
def HK_PAR_DIE_trusted (d : Nat) : Fld := ⟨0x802010 + 0x4 * d, 31, 28, 0x0⟩
def HK_PAR_DIE_level (d : Nat) : Fld := ⟨0x802010 + 0x4 * d, 27, 26, 0x0⟩
def HK_PAR_DIE_temp (d : Nat) : Fld := ⟨0x802010 + 0x4 * d, 15, 0, 0x0⟩
/-! HK_PAR_BAY: 14_housekeeping.md, R387. -/
def HK_PAR_BAY_temp (b : Nat) : Fld := ⟨0x802030 + 0x4 * b, 15, 0, 0x0⟩
/-! HK_PAR_EXCL_LO: 14_housekeeping.md, R387. -/
def HK_PAR_EXCL_LO_excl : Fld := ⟨0x802050, 31, 0, 0x0⟩
/-! HK_PAR_EXCL_HI: 14_housekeeping.md, R387. -/
def HK_PAR_EXCL_HI_excl : Fld := ⟨0x802054, 31, 0, 0x0⟩
/-! HK_PAR_TRIP: 14_housekeeping.md, R387. -/
def HK_PAR_TRIP_tripped : Fld := ⟨0x802058, 31, 31, 0x0⟩
def HK_PAR_TRIP_dies : Fld := ⟨0x802058, 4, 0, 0x0⟩
/-! HK_PAR_SENS: 14_housekeeping.md, R387. -/
def HK_PAR_SENS_deviating (i : Nat) : Fld := ⟨0x802100 + 0x4 * i, 17, 17, 0x0⟩
def HK_PAR_SENS_excluded (i : Nat) : Fld := ⟨0x802100 + 0x4 * i, 16, 16, 0x0⟩
def HK_PAR_SENS_temp (i : Nat) : Fld := ⟨0x802100 + 0x4 * i, 15, 0, 0x0⟩
/-! HK_CK_CFG: 14_housekeeping.md, R388. -/
def HK_CK_CFG_busy (u : Nat) : Fld := ⟨0x803000 + 0x40 * u, 31, 31, 0x0⟩
def HK_CK_CFG_notify (u : Nat) : Fld := ⟨0x803000 + 0x40 * u, 26, 26, 0x0⟩
def HK_CK_CFG_alive_en (u : Nat) : Fld := ⟨0x803000 + 0x40 * u, 25, 25, 0x0⟩
def HK_CK_CFG_refout (u : Nat) : Fld := ⟨0x803000 + 0x40 * u, 24, 24, 0x0⟩
def HK_CK_CFG_refin (u : Nat) : Fld := ⟨0x803000 + 0x40 * u, 23, 23, 0x0⟩
def HK_CK_CFG_width (u : Nat) : Fld := ⟨0x803000 + 0x40 * u, 6, 0, 0x20⟩
/-! HK_CK_POLY_LO: 14_housekeeping.md, R388. -/
def HK_CK_POLY_LO_value (u : Nat) : Fld := ⟨0x803004 + 0x40 * u, 31, 0, 0x0⟩
/-! HK_CK_POLY_HI: 14_housekeeping.md, R388. -/
def HK_CK_POLY_HI_value (u : Nat) : Fld := ⟨0x803008 + 0x40 * u, 31, 0, 0x0⟩
/-! HK_CK_INIT_LO: 14_housekeeping.md, R388. -/
def HK_CK_INIT_LO_value (u : Nat) : Fld := ⟨0x80300c + 0x40 * u, 31, 0, 0x0⟩
/-! HK_CK_INIT_HI: 14_housekeeping.md, R388. -/
def HK_CK_INIT_HI_value (u : Nat) : Fld := ⟨0x803010 + 0x40 * u, 31, 0, 0x0⟩
/-! HK_CK_XOR_LO: 14_housekeeping.md, R388. -/
def HK_CK_XOR_LO_value (u : Nat) : Fld := ⟨0x803014 + 0x40 * u, 31, 0, 0x0⟩
/-! HK_CK_XOR_HI: 14_housekeeping.md, R388. -/
def HK_CK_XOR_HI_value (u : Nat) : Fld := ⟨0x803018 + 0x40 * u, 31, 0, 0x0⟩
/-! HK_CK_RES_LO: 14_housekeeping.md, R388. -/
def HK_CK_RES_LO_value (u : Nat) : Fld := ⟨0x803028 + 0x40 * u, 31, 0, 0x0⟩
/-! HK_CK_RES_HI: 14_housekeeping.md, R388. -/
def HK_CK_RES_HI_value (u : Nat) : Fld := ⟨0x80302c + 0x40 * u, 31, 0, 0x0⟩
/-! HK_CK_SRC: 14_housekeeping.md, R388. -/
def HK_CK_SRC_value (u : Nat) : Fld := ⟨0x80301c + 0x40 * u, 25, 0, 0x0⟩
/-! HK_CK_LEN: 14_housekeeping.md, R388. -/
def HK_CK_LEN_value (u : Nat) : Fld := ⟨0x803020 + 0x40 * u, 25, 0, 0x0⟩
/-! HK_CK_CMD: 14_housekeeping.md, R388. -/
def HK_CK_CMD_start (u : Nat) : Fld := ⟨0x803024 + 0x40 * u, 8, 8, 0x0⟩
def HK_CK_CMD_alive (u : Nat) : Fld := ⟨0x803024 + 0x40 * u, 7, 0, 0x0⟩
/-! HK_CK_STAT: 14_housekeeping.md, R388. -/
def HK_CK_STAT_status (u : Nat) : Fld := ⟨0x803030 + 0x40 * u, 31, 28, 0x0⟩
def HK_CK_STAT_last_alive (u : Nat) : Fld := ⟨0x803030 + 0x40 * u, 15, 8, 0x0⟩
def HK_CK_STAT_jobs (u : Nat) : Fld := ⟨0x803030 + 0x40 * u, 7, 0, 0x0⟩
/-! PWR_CMD: 15_power_states.md, R409. -/
def PWR_CMD_target : Fld := ⟨0x900000, 2, 0, 0x0⟩
/-! PWR_STAT: 15_power_states.md, R409. -/
def PWR_STAT_wake_src : Fld := ⟨0x900004, 31, 30, 0x0⟩
def PWR_STAT_param_refused : Fld := ⟨0x900004, 29, 29, 0x0⟩
def PWR_STAT_last_result : Fld := ⟨0x900004, 25, 24, 0x0⟩
def PWR_STAT_held : Fld := ⟨0x900004, 11, 11, 0x0⟩
def PWR_STAT_held_target : Fld := ⟨0x900004, 10, 8, 0x0⟩
def PWR_STAT_in_entry : Fld := ⟨0x900004, 7, 7, 0x1⟩
def PWR_STAT_target : Fld := ⟨0x900004, 6, 4, 0x1⟩
def PWR_STAT_state : Fld := ⟨0x900004, 2, 0, 0x4⟩
/-! PWR_COUNT: 15_power_states.md, R409. -/
def PWR_COUNT_wakes : Fld := ⟨0x900008, 31, 24, 0x0⟩
def PWR_COUNT_aborted : Fld := ⟨0x900008, 23, 16, 0x0⟩
def PWR_COUNT_refused : Fld := ⟨0x900008, 15, 0, 0x0⟩
/-! PWR_REFUSER: 15_power_states.md, R409. -/
def PWR_REFUSER_request : Fld := ⟨0x90000c, 10, 8, 0x0⟩
def PWR_REFUSER_refuser : Fld := ⟨0x90000c, 3, 0, 0x0⟩
/-! PWR_RET_CFG: 15_power_states.md, R409. -/
def PWR_RET_CFG_wake_to : Fld := ⟨0x900010, 8, 8, 0x1⟩
def PWR_RET_CFG_retain : Fld := ⟨0x900010, 7, 0, 0x0⟩
/-! PWR_RET_STAT: 15_power_states.md, R409. -/
def PWR_RET_STAT_poison : Fld := ⟨0x900014, 31, 24, 0x0⟩
def PWR_RET_STAT_lost : Fld := ⟨0x900014, 15, 8, 0x0⟩
def PWR_RET_STAT_retained : Fld := ⟨0x900014, 7, 0, 0x0⟩
/-! PWR_RET_CRC: 15_power_states.md, R409. -/
def PWR_RET_CRC_crc (k : Nat) : Fld := ⟨0x900020 + 0x4 * k, 31, 0, 0x0⟩
/-! PWR_WAKE_TIMER_LO: 15_power_states.md, R409. -/
def PWR_WAKE_TIMER_LO_count : Fld := ⟨0x900040, 31, 0, 0x0⟩
/-! PWR_WAKE_TIMER_HI: 15_power_states.md, R409. -/
def PWR_WAKE_TIMER_HI_count : Fld := ⟨0x900044, 31, 0, 0x0⟩
/-! PWR_AVS_CFG: 15_power_states.md, R409. -/
def PWR_AVS_CFG_v_max : Fld := ⟨0x900050, 31, 22, 0x352⟩
def PWR_AVS_CFG_v_min : Fld := ⟨0x900050, 21, 12, 0x28a⟩
def PWR_AVS_CFG_rail : Fld := ⟨0x900050, 3, 0, 0x0⟩
/-! PWR_AVS_TARGET: 15_power_states.md, R409. -/
def PWR_AVS_TARGET_floor : Fld := ⟨0x900054, 25, 16, 0x0⟩
def PWR_AVS_TARGET_target : Fld := ⟨0x900054, 9, 0, 0x320⟩
/-! PWR_AVS_STAT: 15_power_states.md, R409. -/
def PWR_AVS_STAT_bus_err : Fld := ⟨0x900058, 31, 24, 0x0⟩
def PWR_AVS_STAT_margin : Fld := ⟨0x900058, 23, 16, 0x0⟩
def PWR_AVS_STAT_measured : Fld := ⟨0x900058, 9, 0, 0x0⟩
/-! DECK_EVT_SUMMARY: 16_governance_faults.md, R431. -/
def DECK_EVT_SUMMARY_halt_count : Fld := ⟨0x100, 31, 16, 0x0⟩
def DECK_EVT_SUMMARY_fault_pin : Fld := ⟨0x100, 4, 4, 0x0⟩
def DECK_EVT_SUMMARY_evt_pin : Fld := ⟨0x100, 3, 3, 0x0⟩
def DECK_EVT_SUMMARY_halt : Fld := ⟨0x100, 2, 2, 0x0⟩
def DECK_EVT_SUMMARY_degrade : Fld := ⟨0x100, 1, 1, 0x0⟩
def DECK_EVT_SUMMARY_notice : Fld := ⟨0x100, 0, 0, 0x0⟩
/-! DECK_EVT_PEND: 16_governance_faults.md, R431. -/
def DECK_EVT_PEND_pend (w : Nat) : Fld := ⟨0x110 + 0x4 * w, 31, 0, 0x0⟩
/-! DECK_EVQ_WR: 16_governance_faults.md, R431. -/
def DECK_EVQ_WR_lost : Fld := ⟨0x200, 31, 16, 0x0⟩
def DECK_EVQ_WR_wr : Fld := ⟨0x200, 7, 0, 0x0⟩
/-! DECK_EVQ_RD: 16_governance_faults.md, R431. -/
def DECK_EVQ_RD_rd : Fld := ⟨0x204, 7, 0, 0x0⟩
/-! DECK_EVT_CFG: 16_governance_faults.md, R431. -/
def DECK_EVT_CFG_count (e : Nat) : Fld := ⟨0x400 + 0x4 * e, 31, 24, 0x0⟩
def DECK_EVT_CFG_class (e : Nat) : Fld := ⟨0x400 + 0x4 * e, 23, 22, 0x0⟩
def DECK_EVT_CFG_pending (e : Nat) : Fld := ⟨0x400 + 0x4 * e, 21, 21, 0x0⟩
def DECK_EVT_CFG_pin_en (e : Nat) : Fld := ⟨0x400 + 0x4 * e, 13, 13, 0x1⟩
def DECK_EVT_CFG_msi_en (e : Nat) : Fld := ⟨0x400 + 0x4 * e, 12, 12, 0x1⟩
def DECK_EVT_CFG_vector (e : Nat) : Fld := ⟨0x400 + 0x4 * e, 4, 0, 0x0⟩
/-! LEDGER_CFG: 16_governance_faults.md, R432. -/
def LEDGER_CFG_hi_water : Fld := ⟨0x300000, 31, 16, 0x1800⟩
def LEDGER_CFG_drain_thr : Fld := ⟨0x300000, 7, 0, 0x7e⟩
/-! LEDGER_STAT: 16_governance_faults.md, R432. -/
def LEDGER_STAT_full : Fld := ⟨0x300004, 31, 31, 0x0⟩
def LEDGER_STAT_gap_pending : Fld := ⟨0x300004, 30, 30, 0x0⟩
def LEDGER_STAT_arc_fail : Fld := ⟨0x300004, 29, 29, 0x0⟩
def LEDGER_STAT_fill : Fld := ⟨0x300004, 13, 0, 0x0⟩
/-! LEDGER_WR_SEQ: 16_governance_faults.md, R432. -/
def LEDGER_WR_SEQ_seq : Fld := ⟨0x300008, 31, 0, 0x0⟩
/-! LEDGER_RD_SEQ: 16_governance_faults.md, R432. -/
def LEDGER_RD_SEQ_seq : Fld := ⟨0x30000c, 31, 0, 0x0⟩
/-! LEDGER_RD_SLOT: 16_governance_faults.md, R432. -/
def LEDGER_RD_SLOT_slot : Fld := ⟨0x300018, 12, 0, 0x0⟩
/-! LEDGER_WR_SLOT: 16_governance_faults.md, R432. -/
def LEDGER_WR_SLOT_slot : Fld := ⟨0x30001c, 12, 0, 0x0⟩
/-! LEDGER_LOST: 16_governance_faults.md, R432. -/
def LEDGER_LOST_lost : Fld := ⟨0x300010, 31, 0, 0x0⟩
/-! LEDGER_EPOCH: 16_governance_faults.md, R432. -/
def LEDGER_EPOCH_valid : Fld := ⟨0x300014, 31, 31, 0x0⟩
def LEDGER_EPOCH_epoch : Fld := ⟨0x300014, 30, 0, 0x0⟩
/-! LEDGER_HEAD: 16_governance_faults.md, R432. -/
def LEDGER_HEAD_head (i : Nat) : Fld := ⟨0x300020 + 0x4 * i, 31, 0, 0x0⟩
/-! LEDGER_SNAP_HEAD: 16_governance_faults.md, R432. -/
def LEDGER_SNAP_HEAD_head (i : Nat) : Fld := ⟨0x300060 + 0x4 * i, 31, 0, 0x0⟩
/-! LEDGER_SNAP_SEQ: 16_governance_faults.md, R432. -/
def LEDGER_SNAP_SEQ_seq : Fld := ⟨0x300040, 31, 0, 0xffffffff⟩
/-! LEDGER_ARC_SEQ: 16_governance_faults.md, R432. -/
def LEDGER_ARC_SEQ_seq : Fld := ⟨0x300080, 31, 0, 0xffffffff⟩
/-! LEDGER_ARC_CMD: 16_governance_faults.md, R432. -/
def LEDGER_ARC_CMD_go : Fld := ⟨0x300084, 31, 31, 0x0⟩
def LEDGER_ARC_CMD_flush : Fld := ⟨0x300084, 30, 30, 0x0⟩
def LEDGER_ARC_CMD_sector : Fld := ⟨0x300084, 10, 0, 0x0⟩
/-! LEDGER_ARC_STAT: 16_governance_faults.md, R432. -/
def LEDGER_ARC_STAT_done : Fld := ⟨0x300088, 31, 31, 0x0⟩
def LEDGER_ARC_STAT_err : Fld := ⟨0x300088, 30, 30, 0x0⟩
def LEDGER_ARC_STAT_busy : Fld := ⟨0x300088, 29, 29, 0x0⟩
def LEDGER_ARC_STAT_blocks_failed : Fld := ⟨0x300088, 26, 16, 0x0⟩
def LEDGER_ARC_STAT_newest : Fld := ⟨0x300088, 10, 0, 0x0⟩
/-! DECK_IDENT: 17_host_port_registers.md, R442. -/
def DECK_IDENT_ident : Fld := ⟨0x0, 31, 0, 0x6464⟩
/-! DECK_STEPPING: 17_host_port_registers.md, R442. -/
def DECK_STEPPING_stepping : Fld := ⟨0x4, 31, 0, 0xb1⟩
/-! DECK_RESET: 17_host_port_registers.md, R442. -/
def DECK_RESET_confirm : Fld := ⟨0x10, 15, 8, 0x0⟩
def DECK_RESET_reset : Fld := ⟨0x10, 0, 0, 0x0⟩
/-! DECK_HOST_ERR: 17_host_port_registers.md, R442. -/
def DECK_HOST_ERR_count : Fld := ⟨0x14, 31, 26, 0x0⟩
def DECK_HOST_ERR_write : Fld := ⟨0x14, 25, 25, 0x0⟩
def DECK_HOST_ERR_sticky : Fld := ⟨0x14, 24, 24, 0x0⟩
def DECK_HOST_ERR_offset : Fld := ⟨0x14, 23, 0, 0x0⟩
/-! DECK_DEVID: 17_host_port_registers.md, R442. -/
def DECK_DEVID_id (i : Nat) : Fld := ⟨0x50 + 0x4 * i, 31, 0, 0x0⟩

end Sys2Proof.Machine
end

