-- ==== Sys2Proof/Machine/RegTable.lean ====
section
/-!
DEFINITION. The register tables of the spec as data: for each bank its offset, its index strides and its fields with
their access codes (R9) and reset values (R10). The bus reads this table; the meanings use the named fields of Fields.lean.
-/
namespace Sys2Proof.Machine

/-- Register banks of 01_architecture.md: PIER_XING, SPAN_ADAPT_MODE. -/
def regTable_01_0 : List RegDef := [
  ⟨0x3004088, [(4, 0x400000)], [⟨31, 16, .ro, 0x0⟩, ⟨15, 0, .ro, 0x0⟩]⟩,
  ⟨0x200020, [], [⟨31, 31, .w1c, 0x0⟩, ⟨21, 16, .ro, 0x0⟩, ⟨5, 5, .rwg, 0x0⟩, ⟨4, 4, .rwg, 0x0⟩, ⟨3, 3, .rwg, 0x0⟩, ⟨2, 2, .rwg, 0x0⟩, ⟨1, 1, .rwg, 0x0⟩, ⟨0, 0, .rwg, 0x0⟩]⟩]

/-- Register banks of 02_air_timeline.md: TL_NT, TL_SNAP_TICK, TL_SNAP_FRAME, TL_QUALITY, TL_ERR_EST, TL_RATE_LO, TL_RATE_HI, TL_JUMP_MAX,
TL_FRAME_OFFSET, TL_REF_CFG, TL_HO_CFG, TL_CMD. -/
def regTable_02_0 : List RegDef := [
  ⟨0x100000, [], [⟨31, 0, .ro, 0x0⟩]⟩,
  ⟨0x100004, [], [⟨23, 0, .ro, 0x0⟩]⟩,
  ⟨0x100008, [], [⟨16, 10, .ro, 0x0⟩, ⟨9, 0, .ro, 0x0⟩]⟩,
  ⟨0x10000c, [], [⟨6, 6, .ro, 0x0⟩, ⟨5, 5, .w1c, 0x0⟩, ⟨4, 4, .ro, 0x0⟩, ⟨3, 3, .ro, 0x0⟩, ⟨2, 0, .ro, 0x0⟩]⟩,
  ⟨0x100010, [], [⟨31, 0, .ro, 0xffffffff⟩]⟩,
  ⟨0x100014, [], [⟨31, 0, .rwg, 0x0⟩]⟩,
  ⟨0x100018, [], [⟨3, 0, .rwg, 0x0⟩]⟩,
  ⟨0x10001c, [], [⟨31, 0, .rwg, 0xfa⟩]⟩,
  ⟨0x100020, [], [⟨23, 0, .rwg, 0x0⟩]⟩,
  ⟨0x100024, [], [⟨31, 16, .rwg, 0x64⟩, ⟨15, 8, .rwg, 0x10⟩, ⟨2, 2, .rwg, 0x1⟩, ⟨1, 0, .rwg, 0x0⟩]⟩,
  ⟨0x100028, [], [⟨31, 16, .rwg, 0x7d0⟩, ⟨15, 0, .rwg, 0x64⟩]⟩,
  ⟨0x10002c, [], [⟨2, 2, .wo, 0x0⟩, ⟨1, 1, .wo, 0x0⟩, ⟨0, 0, .wo, 0x0⟩]⟩]

/-- Register banks of 02_air_timeline.md: TL_STATUS, TL_SLEEP, TL_SLEEP_CNT_LO, TL_SLEEP_CNT_HI, TL_ALIGN_CFG, TL_ALIGN_STAT, TL_TS_LAT_A,
TL_TS_LAT_B, TL_TT_COUNT. -/
def regTable_02_1 : List RegDef := [
  ⟨0x100030, [], [⟨31, 16, .ro, 0x0⟩, ⟨7, 7, .w1c, 0x0⟩, ⟨6, 6, .w1c, 0x0⟩, ⟨5, 5, .w1c, 0x0⟩, ⟨4, 4, .w1c, 0x0⟩, ⟨3, 3, .w1c, 0x0⟩, ⟨2, 2, .w1c, 0x0⟩, ⟨1, 1, .w1c, 0x0⟩, ⟨0, 0, .w1c, 0x0⟩]⟩,
  ⟨0x100034, [], [⟨2, 2, .ro, 0x0⟩, ⟨1, 1, .ro, 0x0⟩, ⟨0, 0, .rw, 0x0⟩]⟩,
  ⟨0x100038, [], [⟨31, 0, .ro, 0x0⟩]⟩,
  ⟨0x10003c, [], [⟨7, 0, .ro, 0x0⟩]⟩,
  ⟨0x100040, [], [⟨7, 4, .rwl, 0x0⟩, ⟨1, 0, .rwl, 0x0⟩]⟩,
  ⟨0x100044, [], [⟨20, 20, .ro, 0x0⟩, ⟨19, 16, .ro, 0x0⟩, ⟨15, 8, .ro, 0x0⟩, ⟨7, 0, .ro, 0x0⟩]⟩,
  ⟨0x100048, [], [⟨31, 16, .ro, 0x0⟩, ⟨15, 0, .ro, 0x0⟩]⟩,
  ⟨0x10004c, [], [⟨31, 16, .ro, 0x0⟩, ⟨15, 0, .ro, 0x0⟩]⟩,
  ⟨0x100050, [], [⟨31, 16, .ro, 0x0⟩, ⟨15, 0, .ro, 0x0⟩]⟩]

/-- Register banks of 03_span_map.md: DECK_IFLEVEL, DECK_HOSTLEVEL, DECK_SEAL, DECK_SEAL_EPOCH, DECK_SEAL_STAT, SPAN_CMD, SPAN_STATUS,
SPAN_SRC_ADDR, SPAN_SRC_LEN, SPAN_REFUSE, SPAN_MAP_ID, SPAN_MAP_VER. -/
def regTable_03_0 : List RegDef := [
  ⟨0x8, [], [⟨31, 24, .ro, 0x1⟩, ⟨23, 16, .ro, 0x0⟩, ⟨15, 8, .ro, 0x1⟩, ⟨7, 0, .ro, 0x2⟩]⟩,
  ⟨0xc, [], [⟨31, 24, .ro, 0x1⟩, ⟨23, 16, .ro, 0x0⟩, ⟨15, 8, .rwg, 0x0⟩, ⟨7, 0, .rwg, 0x0⟩]⟩,
  ⟨0x20, [(8, 0x4)], [⟨31, 0, .ro, 0x0⟩]⟩,
  ⟨0x40, [], [⟨31, 0, .ro, 0x0⟩]⟩,
  ⟨0x44, [], [⟨8, 8, .ro, 0x0⟩, ⟨7, 4, .ro, 0x0⟩, ⟨0, 0, .ro, 0x0⟩]⟩,
  ⟨0x200000, [], [⟨5, 4, .wo, 0x0⟩, ⟨3, 3, .wo, 0x0⟩, ⟨2, 2, .wo, 0x0⟩, ⟨1, 1, .wo, 0x0⟩, ⟨0, 0, .wo, 0x0⟩]⟩,
  ⟨0x200004, [], [⟨31, 31, .ro, 0x0⟩, ⟨30, 30, .ro, 0x0⟩, ⟨29, 29, .w1c, 0x0⟩, ⟨15, 8, .ro, 0x0⟩, ⟨7, 7, .w1c, 0x0⟩, ⟨6, 6, .w1c, 0x0⟩, ⟨5, 4, .ro, 0x0⟩, ⟨3, 0, .ro, 0x0⟩]⟩,
  ⟨0x200008, [], [⟨31, 6, .rw, 0x0⟩]⟩,
  ⟨0x20000c, [], [⟨22, 0, .rw, 0x0⟩]⟩,
  ⟨0x200010, [], [⟨31, 8, .ro, 0x0⟩, ⟨7, 0, .ro, 0x0⟩]⟩,
  ⟨0x200014, [], [⟨31, 0, .ro, 0x0⟩]⟩,
  ⟨0x200018, [], [⟨31, 16, .ro, 0x0⟩, ⟨15, 8, .ro, 0x0⟩, ⟨7, 0, .ro, 0x0⟩]⟩]

/-- Register banks of 03_span_map.md: SPAN_FORM_TIME. -/
def regTable_03_1 : List RegDef := [
  ⟨0x20001c, [], [⟨31, 0, .ro, 0x0⟩]⟩]

/-- Register banks of 04_bays_and_synthesisers.md: BAY_FE_CTRL, BAY_FE_STAT, BAY_SYNTH_STAT, BAY_LO_KHZ, BAY_RX_CFG, BAY_SHED, BAY_COUNT,
BAY_ACTIVE, BAY_GAIN, BAY_RX_PEAK, BAY_FAULT_CAUSE. -/
def regTable_04_0 : List RegDef := [
  ⟨0x3000000, [(4, 0x400000), (2, 0x1000)], [⟨2, 0, .wo, 0x0⟩]⟩,
  ⟨0x3000004, [(4, 0x400000), (2, 0x1000)], [⟨15, 13, .ro, 0x0⟩, ⟨12, 12, .ro, 0x0⟩, ⟨11, 10, .ro, 0x0⟩, ⟨9, 9, .ro, 0x0⟩, ⟨8, 8, .ro, 0x0⟩, ⟨7, 7, .ro, 0x0⟩, ⟨6, 4, .ro, 0x0⟩, ⟨2, 0, .ro, 0x0⟩]⟩,
  ⟨0x3000008, [(4, 0x400000), (2, 0x1000)], [⟨23, 16, .ro, 0x0⟩, ⟨11, 4, .ro, 0x0⟩, ⟨3, 3, .w1c, 0x0⟩, ⟨2, 2, .ro, 0x0⟩, ⟨1, 1, .ro, 0x0⟩, ⟨0, 0, .ro, 0x0⟩]⟩,
  ⟨0x300000c, [(4, 0x400000), (2, 0x1000)], [⟨31, 0, .ro, 0x0⟩]⟩,
  ⟨0x3000010, [(4, 0x400000), (2, 0x1000)], [⟨24, 24, .rwg, 0x1⟩, ⟨23, 16, .rwg, 0x4⟩, ⟨12, 8, .rwg, 0x2⟩, ⟨3, 0, .rwg, 0x6⟩]⟩,
  ⟨0x3000014, [(4, 0x400000), (2, 0x1000)], [⟨31, 24, .w1c, 0x0⟩, ⟨23, 16, .w1c, 0x0⟩, ⟨15, 8, .rwg, 0x0⟩, ⟨7, 0, .rwg, 0x0⟩]⟩,
  ⟨0x3000018, [(4, 0x400000), (2, 0x1000)], [⟨31, 16, .ro, 0x0⟩, ⟨15, 0, .ro, 0x0⟩]⟩,
  ⟨0x300001c, [(4, 0x400000), (2, 0x1000)], [⟨31, 24, .ro, 0x0⟩, ⟨23, 16, .ro, 0x0⟩, ⟨15, 8, .ro, 0x0⟩, ⟨7, 0, .ro, 0x0⟩]⟩,
  ⟨0x3000020, [(4, 0x400000), (2, 0x1000), (8, 0x4)], [⟨13, 8, .rw, 0x3f⟩, ⟨5, 0, .rw, 0x0⟩]⟩,
  ⟨0x3000040, [(4, 0x400000), (2, 0x1000), (8, 0x4)], [⟨31, 16, .ro, 0x0⟩, ⟨13, 0, .ro, 0x0⟩]⟩,
  ⟨0x3000060, [(4, 0x400000), (2, 0x1000)], [⟨31, 0, .ro, 0x0⟩]⟩]

/-- Register banks of 05_sample_chains.md: BAY_TXCH, BAY_RXCH, BAY_CH_SAT, BAY_IF_KHZ, BAY_CH_STAT, ARCH_CC_CFG, ARCH_CC_DLLAT,
ARCH_CC_ULLAT, ARCH_CC_STAT. -/
def regTable_05_0 : List RegDef := [
  ⟨0x3000200, [(4, 0x400000), (2, 0x1000), (8, 0x4)], [⟨31, 31, .ro, 0x0⟩, ⟨30, 30, .ro, 0x0⟩, ⟨26, 24, .rwg, 0x0⟩, ⟨23, 21, .rwg, 0x0⟩, ⟨20, 18, .rwg, 0x0⟩, ⟨14, 10, .ro, 0x0⟩, ⟨9, 5, .ro, 0x0⟩, ⟨4, 0, .ro, 0x0⟩]⟩,
  ⟨0x3000220, [(4, 0x400000), (2, 0x1000), (8, 0x4)], [⟨31, 31, .ro, 0x0⟩, ⟨30, 30, .ro, 0x0⟩, ⟨26, 24, .rwg, 0x0⟩, ⟨23, 21, .rwg, 0x0⟩, ⟨20, 18, .rwg, 0x0⟩, ⟨14, 10, .ro, 0x0⟩, ⟨9, 5, .ro, 0x0⟩, ⟨4, 0, .ro, 0x0⟩]⟩,
  ⟨0x3000240, [(4, 0x400000), (2, 0x1000), (8, 0x4)], [⟨31, 16, .ro, 0x0⟩, ⟨15, 0, .ro, 0x0⟩]⟩,
  ⟨0x3000260, [(4, 0x400000), (2, 0x1000)], [⟨31, 0, .ro, 0x0⟩]⟩,
  ⟨0x3000264, [(4, 0x400000), (2, 0x1000)], [⟨31, 24, .ro, 0x0⟩, ⟨23, 16, .ro, 0x0⟩, ⟨15, 8, .ro, 0x0⟩, ⟨7, 0, .ro, 0x0⟩]⟩,
  ⟨0xc00f00, [(6, 0x4)], [⟨9, 9, .rwl, 0x0⟩, ⟨8, 8, .rwl, 0x0⟩, ⟨5, 0, .rwg, 0x0⟩]⟩,
  ⟨0xc00f20, [(6, 0x4)], [⟨31, 0, .ro, 0x0⟩]⟩,
  ⟨0xc00f40, [(6, 0x4)], [⟨31, 0, .ro, 0x0⟩]⟩,
  ⟨0xc00f60, [], [⟨31, 24, .ro, 0x0⟩, ⟨23, 16, .ro, 0x0⟩, ⟨15, 0, .ro, 0x0⟩]⟩]

/-- Register banks of 06_coupled_predistortion.md: BAY_CAPD, BAY_CAPT, BAY_OBS_CFG, BAY_OBS_STAT, BAY_DPD, BAY_OBS_LAG, BAY_DPD_CMD,
BAY_DPD_CFG, BAY_DPD_MET. -/
def regTable_06_0 : List RegDef := [
  ⟨0x3000300, [(4, 0x400000), (2, 0x1000), (8, 0x8)], [⟨31, 31, .rw, 0x0⟩, ⟨28, 27, .rw, 0x0⟩, ⟨26, 24, .rw, 0x0⟩, ⟨21, 17, .rw, 0x0⟩, ⟨16, 16, .rw, 0x0⟩, ⟨15, 12, .rw, 0x0⟩]⟩,
  ⟨0x3000304, [(4, 0x400000), (2, 0x1000), (8, 0x8)], [⟨15, 0, .rw, 0x0⟩]⟩,
  ⟨0x3000340, [(4, 0x400000), (2, 0x1000)], [⟨23, 16, .rwg, 0x19⟩]⟩,
  ⟨0x3000344, [(4, 0x400000), (2, 0x1000)], [⟨31, 24, .ro, 0x0⟩, ⟨23, 16, .ro, 0x0⟩, ⟨15, 8, .ro, 0x0⟩, ⟨5, 5, .ro, 0x0⟩, ⟨4, 4, .ro, 0x0⟩, ⟨3, 0, .w1c, 0x0⟩]⟩,
  ⟨0x3000360, [(4, 0x400000), (2, 0x1000), (8, 0x4)], [⟨31, 28, .ro, 0x0⟩, ⟨27, 24, .ro, 0x0⟩, ⟨23, 16, .ro, 0x0⟩, ⟨15, 14, .ro, 0x0⟩, ⟨13, 12, .ro, 0x0⟩, ⟨11, 11, .ro, 0x0⟩, ⟨10, 10, .ro, 0x0⟩, ⟨9, 9, .ro, 0x0⟩, ⟨8, 8, .ro, 0x0⟩, ⟨7, 7, .ro, 0x0⟩, ⟨6, 6, .ro, 0x0⟩, ⟨5, 5, .ro, 0x1⟩, ⟨0, 0, .rwg, 0x1⟩]⟩,
  ⟨0x3000380, [(4, 0x400000), (2, 0x1000), (8, 0x4)], [⟨9, 0, .rw, 0x0⟩]⟩,
  ⟨0x30003a0, [(4, 0x400000), (2, 0x1000)], [⟨8, 8, .wo, 0x0⟩, ⟨7, 7, .wo, 0x0⟩, ⟨3, 3, .wo, 0x0⟩, ⟨2, 0, .wo, 0x0⟩]⟩,
  ⟨0x30003a4, [(4, 0x400000), (2, 0x1000)], [⟨27, 24, .rwg, 0x6⟩, ⟨23, 16, .rwg, 0xa⟩, ⟨12, 8, .rwg, 0x10⟩, ⟨7, 4, .rwg, 0x3⟩]⟩,
  ⟨0x30003c0, [(4, 0x400000), (2, 0x1000), (8, 0x4)], [⟨31, 16, .ro, 0x8000⟩, ⟨15, 0, .ro, 0x8000⟩]⟩]

/-- Register banks of 07_girder_and_arch.md: GIRDER_CFG, GIRDER_CB_FALLBACK, GIRDER_CB_REVALID, GIRDER_CB_STAT, GIRDER_SHIFT, GIRDER_SAT,
GIRDER_USE_COUNT, GIRDER_DYN_STAT, GIRDER_RENORM, GIRDER_LAYERS, GIRDER_CB_INVAL, ARCH_CFG. -/
def regTable_07_0 : List RegDef := [
  ⟨0xb00000, [], [⟨8, 8, .rwg, 0x1⟩, ⟨6, 4, .rwg, 0x3⟩, ⟨0, 0, .rwg, 0x1⟩]⟩,
  ⟨0xb00004, [], [⟨31, 31, .ro, 0x1⟩, ⟨11, 0, .rwg, 0x0⟩]⟩,
  ⟨0xb00008, [], [⟨11, 0, .wo, 0x0⟩]⟩,
  ⟨0xb0000c, [], [⟨31, 24, .ro, 0x0⟩, ⟨23, 16, .ro, 0x0⟩, ⟨15, 14, .ro, 0x0⟩, ⟨13, 13, .w1c, 0x0⟩, ⟨12, 12, .w1c, 0x0⟩, ⟨11, 0, .ro, 0x0⟩]⟩,
  ⟨0xb00010, [(6, 0x4)], [⟨6, 4, .rwg, 0x0⟩, ⟨2, 0, .rwg, 0x0⟩]⟩,
  ⟨0xb00030, [(4, 0x4)], [⟨31, 16, .ro, 0x0⟩, ⟨15, 0, .ro, 0x0⟩]⟩,
  ⟨0xb00040, [], [⟨31, 16, .ro, 0x0⟩, ⟨15, 0, .ro, 0x0⟩]⟩,
  ⟨0xb00044, [], [⟨31, 16, .ro, 0x0⟩, ⟨15, 0, .ro, 0x0⟩]⟩,
  ⟨0xb00048, [], [⟨31, 16, .ro, 0x0⟩, ⟨15, 0, .ro, 0x0⟩]⟩,
  ⟨0xb00050, [(6, 0x4)], [⟨28, 24, .ro, 0x0⟩, ⟨20, 16, .ro, 0x0⟩, ⟨12, 8, .ro, 0x0⟩, ⟨4, 0, .ro, 0x0⟩]⟩,
  ⟨0xb00100, [(128, 0x4)], [⟨31, 0, .ro, 0x0⟩]⟩,
  ⟨0xc00000, [(6, 0x4)], [⟨17, 17, .ro, 0x0⟩, ⟨16, 16, .ro, 0x0⟩, ⟨11, 8, .rwg, 0x0⟩, ⟨3, 0, .rwg, 0x0⟩]⟩]

/-- Register banks of 07_girder_and_arch.md: ARCH_EXP, ARCH_SAT, PIER_RAIL, PIER_RAIL_SEL, PIER_RAIL_STAT. -/
def regTable_07_1 : List RegDef := [
  ⟨0xc00020, [(6, 0x4)], [⟨19, 16, .ro, 0x0⟩, ⟨15, 12, .ro, 0x0⟩, ⟨11, 8, .ro, 0x0⟩]⟩,
  ⟨0xc00040, [], [⟨31, 16, .ro, 0x0⟩, ⟨15, 0, .ro, 0x0⟩]⟩,
  ⟨0x3004000, [(4, 0x400000), (16, 0x8), (2, 0x4)], [⟨31, 16, .rw, 0x0⟩, ⟨15, 0, .rw, 0x4000⟩]⟩,
  ⟨0x3004080, [(4, 0x400000)], [⟨31, 16, .ro, 0x0⟩, ⟨15, 0, .ro, 0x0⟩]⟩,
  ⟨0x3004084, [(4, 0x400000)], [⟨31, 16, .ro, 0x0⟩, ⟨15, 8, .ro, 0x0⟩, ⟨7, 0, .ro, 0x0⟩]⟩]

/-- Register banks of 08_truss_engines.md: TRUSS_CFG, TRUSS_STAT, TRUSS_DISPATCH, TRUSS_CMD, TRUSS_MAP_LO, TRUSS_MAP_HI, TRUSS_UCODE_VER,
TRUSS_REFUSE, TRUSS_ENG_STAT, TRUSS_ENG_COUNT, TRUSS_ENG_OVF, TRUSS_ENG_CYC. -/
def regTable_08_0 : List RegDef := [
  ⟨0xa00000, [], [⟨0, 0, .rwg, 0x1⟩]⟩,
  ⟨0xa00004, [], [⟨31, 16, .ro, 0x0⟩, ⟨15, 0, .ro, 0x0⟩]⟩,
  ⟨0xa00008, [], [⟨15, 8, .wo, 0x0⟩, ⟨3, 0, .wo, 0x0⟩]⟩,
  ⟨0xa0000c, [], [⟨8, 8, .wo, 0x0⟩, ⟨3, 0, .wo, 0x0⟩]⟩,
  ⟨0xa00010, [], [⟨31, 0, .ro, 0x76543210⟩]⟩,
  ⟨0xa00014, [], [⟨31, 0, .ro, 0xfedcba98⟩]⟩,
  ⟨0xa00018, [], [⟨31, 31, .ro, 0x0⟩, ⟨30, 30, .ro, 0x0⟩, ⟨23, 16, .ro, 0x0⟩, ⟨15, 8, .ro, 0x0⟩, ⟨7, 0, .ro, 0x0⟩]⟩,
  ⟨0xa0001c, [], [⟨31, 16, .ro, 0x0⟩, ⟨15, 8, .ro, 0x0⟩, ⟨3, 0, .ro, 0x0⟩]⟩,
  ⟨0xa01000, [(16, 0x40)], [⟨31, 28, .ro, 0x0⟩, ⟨27, 24, .ro, 0x0⟩, ⟨23, 20, .ro, 0x0⟩, ⟨19, 12, .ro, 0x0⟩, ⟨11, 8, .ro, 0x0⟩, ⟨2, 0, .ro, 0x0⟩]⟩,
  ⟨0xa01004, [(16, 0x40)], [⟨31, 16, .ro, 0x0⟩, ⟨15, 0, .ro, 0x0⟩]⟩,
  ⟨0xa01008, [(16, 0x40)], [⟨31, 16, .ro, 0x0⟩, ⟨11, 8, .w1c, 0x0⟩, ⟨3, 0, .w1c, 0x0⟩]⟩,
  ⟨0xa0100c, [(16, 0x40)], [⟨31, 0, .ro, 0x0⟩]⟩]

/-- Register banks of 08_truss_engines.md: TRUSS_ENG_STALL. -/
def regTable_08_1 : List RegDef := [
  ⟨0xa01010, [(16, 0x40)], [⟨31, 20, .ro, 0x0⟩, ⟨19, 8, .ro, 0x0⟩, ⟨7, 0, .ro, 0x0⟩]⟩]

/-- Register banks of 09_array_calibration.md: BAY_CAL_CFG, BAY_CAL_STAT, BAY_CAL_CMD, BAY_CAL_SYN, BAY_CAL_PATH, BAY_CAL_LAST,
BAY_CAL_RES, BAY_CAL_FAIL, TRIM_ARRAY, TRIM_ARRAY_PEND, TRIM_AB, TRIM_AB_PEND. -/
def regTable_09_0 : List RegDef := [
  ⟨0x3000400, [(4, 0x400000), (2, 0x1000)], [⟨24, 24, .rwg, 0x0⟩, ⟨23, 16, .rwg, 0x28⟩, ⟨15, 8, .rwg, 0xa⟩, ⟨4, 0, .rwg, 0x5⟩]⟩,
  ⟨0x3000404, [(4, 0x400000), (2, 0x1000)], [⟨31, 28, .ro, 0x0⟩, ⟨27, 27, .ro, 0x0⟩, ⟨15, 8, .ro, 0x0⟩, ⟨7, 0, .ro, 0x0⟩]⟩,
  ⟨0x3000408, [(4, 0x400000), (2, 0x1000)], [⟨8, 8, .wo, 0x0⟩, ⟨6, 4, .wo, 0x0⟩, ⟨3, 0, .wo, 0x0⟩]⟩,
  ⟨0x300040c, [(4, 0x400000), (2, 0x1000)], [⟨7, 0, .ro, 0x0⟩]⟩,
  ⟨0x3000420, [(4, 0x400000), (2, 0x1000), (8, 0x4)], [⟨31, 16, .ro, 0x0⟩, ⟨15, 0, .ro, 0xffff⟩]⟩,
  ⟨0x3000440, [(4, 0x400000), (2, 0x1000), (8, 0x4)], [⟨31, 31, .ro, 0x0⟩, ⟨30, 21, .ro, 0x0⟩, ⟨20, 0, .ro, 0x0⟩]⟩,
  ⟨0x3000460, [(4, 0x400000), (2, 0x1000), (8, 0x4)], [⟨23, 0, .ro, 0x0⟩]⟩,
  ⟨0x3000480, [(4, 0x400000), (2, 0x1000), (8, 0x4)], [⟨15, 0, .ro, 0x0⟩]⟩,
  ⟨0x3000600, [(4, 0x400000), (2, 0x1000), (8, 0x20), (2, 0x4)], [⟨31, 24, .ro, 0x0⟩, ⟨23, 16, .ro, 0x0⟩, ⟨9, 0, .ro, 0x0⟩]⟩,
  ⟨0x3000700, [(4, 0x400000), (2, 0x1000), (8, 0x20), (2, 0x4)], [⟨31, 24, .rw, 0x0⟩, ⟨23, 16, .rw, 0x0⟩, ⟨9, 0, .rw, 0x0⟩]⟩,
  ⟨0x3000608, [(4, 0x400000), (2, 0x1000), (8, 0x20), (5, 0x4)], [⟨25, 16, .ro, 0x0⟩, ⟨9, 0, .ro, 0x0⟩]⟩,
  ⟨0x3000708, [(4, 0x400000), (2, 0x1000), (8, 0x20), (5, 0x4)], [⟨25, 16, .rw, 0x0⟩, ⟨9, 0, .rw, 0x0⟩]⟩]

/-- Register banks of 10_lanes_and_ports.md: LINK_CFG, LINK_CMD, LINK_STAT, LINK_MERIT_MIN, LINK_FAILOVER, LINK_DISCARD, LINK_REST,
LINK_PORT_STAT, LINK_PORT_FEC, LINK_PORT_EXPB, LINK_LANE_STAT, LINK_LANE_TXEQ. -/
def regTable_10_0 : List RegDef := [
  ⟨0x500000, [], [⟨13, 12, .rwl, 0x0⟩, ⟨11, 10, .rwl, 0x0⟩, ⟨9, 9, .rwl, 0x0⟩, ⟨8, 8, .rwg, 0x1⟩, ⟨5, 4, .rwl, 0x0⟩, ⟨3, 2, .rwl, 0x0⟩, ⟨1, 1, .rwl, 0x0⟩, ⟨0, 0, .rwg, 0x1⟩]⟩,
  ⟨0x500004, [], [⟨2, 2, .wo, 0x0⟩, ⟨1, 1, .wo, 0x0⟩, ⟨0, 0, .wo, 0x0⟩]⟩,
  ⟨0x500008, [], [⟨7, 7, .w1c, 0x0⟩, ⟨6, 6, .w1c, 0x0⟩, ⟨5, 5, .w1c, 0x0⟩, ⟨4, 4, .ro, 0x0⟩, ⟨3, 3, .ro, 0x0⟩, ⟨2, 0, .ro, 0x3⟩]⟩,
  ⟨0x50000c, [], [⟨8, 0, .rwg, 0xb4⟩]⟩,
  ⟨0x500010, [], [⟨31, 16, .ro, 0x0⟩, ⟨15, 0, .ro, 0x0⟩]⟩,
  ⟨0x500014, [], [⟨31, 24, .ro, 0x0⟩, ⟨23, 16, .ro, 0x0⟩, ⟨15, 8, .ro, 0x0⟩, ⟨7, 0, .ro, 0x0⟩]⟩,
  ⟨0x500018, [], [⟨11, 8, .rw, 0x0⟩, ⟨3, 0, .rw, 0x0⟩]⟩,
  ⟨0x500100, [(2, 0x40)], [⟨31, 24, .ro, 0x0⟩, ⟨23, 16, .ro, 0x0⟩, ⟨11, 8, .ro, 0x0⟩, ⟨5, 4, .ro, 0x0⟩, ⟨3, 3, .ro, 0x0⟩, ⟨2, 0, .ro, 0x0⟩]⟩,
  ⟨0x500104, [(2, 0x40)], [⟨31, 16, .ro, 0x0⟩, ⟨15, 0, .ro, 0x0⟩]⟩,
  ⟨0x500108, [(2, 0x40)], [⟨31, 16, .ro, 0x0⟩, ⟨15, 8, .ro, 0x0⟩, ⟨7, 0, .ro, 0x0⟩]⟩,
  ⟨0x500200, [(4, 0x40)], [⟨31, 16, .ro, 0x8000⟩, ⟨11, 10, .ro, 0x0⟩, ⟨9, 9, .ro, 0x0⟩, ⟨8, 8, .ro, 0x0⟩, ⟨7, 7, .ro, 0x0⟩, ⟨6, 6, .ro, 0x0⟩, ⟨2, 0, .ro, 0x0⟩]⟩,
  ⟨0x500204, [(4, 0x40)], [⟨31, 24, .rwg, 0xf8⟩, ⟨23, 16, .rwg, 0x70⟩, ⟨15, 8, .rwg, 0xf8⟩, ⟨7, 0, .rwg, 0x0⟩]⟩]

/-- Register banks of 10_lanes_and_ports.md: LINK_LANE_RXEQ, LINK_LANE_COUNT. -/
def regTable_10_1 : List RegDef := [
  ⟨0x500208, [(4, 0x40)], [⟨31, 24, .rw, 0x0⟩, ⟨23, 16, .rw, 0x0⟩, ⟨15, 8, .rw, 0x0⟩, ⟨4, 0, .rw, 0xc⟩]⟩,
  ⟨0x50020c, [(4, 0x40)], [⟨31, 16, .ro, 0x0⟩, ⟨15, 8, .ro, 0x0⟩, ⟨7, 0, .ro, 0x0⟩]⟩]

/-- Register banks of 11_xantaka.md: LINK_XK_CFG, LINK_XK_VER_LO, LINK_XK_VER_HI, LINK_XK_STAT, LINK_XK_DISC, LINK_XK_MGMT,
LINK_XK_MAC_LO, LINK_XK_MAC_HI, LINK_FLOW_W0, LINK_FLOW_W1, LINK_FLOW_W2, LINK_FLOW_W3. -/
def regTable_11_0 : List RegDef := [
  ⟨0x501000, [], [⟨31, 30, .rwg, 0x1⟩, ⟨23, 16, .rwg, 0xa⟩, ⟨13, 0, .rwg, 0x5dc⟩]⟩,
  ⟨0x501004, [], [⟨31, 24, .ro, 0x0⟩, ⟨23, 16, .ro, 0x0⟩, ⟨15, 8, .ro, 0x0⟩, ⟨7, 0, .ro, 0x0⟩]⟩,
  ⟨0x501008, [], [⟨17, 8, .ro, 0x0⟩, ⟨7, 0, .ro, 0x10⟩]⟩,
  ⟨0x50100c, [], [⟨31, 16, .ro, 0x0⟩, ⟨15, 8, .ro, 0x0⟩, ⟨2, 2, .ro, 0x0⟩, ⟨1, 0, .ro, 0x0⟩]⟩,
  ⟨0x501010, [], [⟨31, 24, .ro, 0x0⟩, ⟨23, 16, .ro, 0x0⟩, ⟨15, 8, .ro, 0x0⟩, ⟨7, 0, .ro, 0x0⟩]⟩,
  ⟨0x501014, [], [⟨31, 16, .ro, 0x0⟩, ⟨15, 0, .ro, 0x0⟩]⟩,
  ⟨0x501018, [], [⟨31, 0, .ro, 0x0⟩]⟩,
  ⟨0x50101c, [], [⟨31, 0, .ro, 0x0⟩]⟩,
  ⟨0x508000, [(320, 0x10)], [⟨31, 16, .ro, 0x0⟩, ⟨15, 11, .ro, 0x0⟩, ⟨10, 6, .ro, 0x0⟩, ⟨5, 3, .ro, 0x0⟩, ⟨2, 2, .ro, 0x0⟩, ⟨1, 0, .ro, 0x0⟩]⟩,
  ⟨0x508004, [(320, 0x10)], [⟨31, 16, .ro, 0x0⟩, ⟨15, 8, .ro, 0x0⟩, ⟨0, 0, .ro, 0x0⟩]⟩,
  ⟨0x508008, [(320, 0x10)], [⟨31, 16, .ro, 0x0⟩, ⟨15, 0, .ro, 0x0⟩]⟩,
  ⟨0x50800c, [(320, 0x10)], [⟨31, 16, .ro, 0x0⟩, ⟨15, 0, .ro, 0x0⟩]⟩]

/-- Register banks of 12_keystone_boot_update.md: KEY_STATUS, KEY_REFUSE, KEY_OFFER_LO, KEY_OFFER_HI, KEY_CMD, KEY_ACT_SEQ, KEY_ACT_REL,
KEY_SVN, KEY_SLOTS, KEY_STAGE, KEY_STAGE_CMD, KEY_OTP_CMD. -/
def regTable_12_0 : List RegDef := [
  ⟨0x400000, [], [⟨31, 31, .ro, 0x0⟩, ⟨30, 28, .ro, 0x0⟩, ⟨27, 27, .ro, 0x0⟩, ⟨26, 26, .ro, 0x0⟩, ⟨23, 22, .ro, 0x0⟩, ⟨21, 20, .ro, 0x0⟩, ⟨19, 18, .ro, 0x0⟩, ⟨17, 17, .ro, 0x0⟩, ⟨16, 16, .ro, 0x0⟩, ⟨2, 0, .ro, 0x0⟩]⟩,
  ⟨0x400004, [], [⟨31, 24, .ro, 0x0⟩, ⟨23, 16, .ro, 0x0⟩, ⟨7, 0, .ro, 0x0⟩]⟩,
  ⟨0x400008, [], [⟨31, 0, .rw, 0x0⟩]⟩,
  ⟨0x40000c, [], [⟨31, 0, .rw, 0x0⟩]⟩,
  ⟨0x400010, [], [⟨1, 1, .wo, 0x0⟩, ⟨0, 0, .wo, 0x0⟩]⟩,
  ⟨0x400014, [], [⟨31, 0, .ro, 0x0⟩]⟩,
  ⟨0x400018, [], [⟨31, 0, .ro, 0x0⟩]⟩,
  ⟨0x40001c, [], [⟨22, 16, .ro, 0x0⟩, ⟨14, 8, .ro, 0x0⟩, ⟨6, 0, .ro, 0x0⟩]⟩,
  ⟨0x400020, [], [⟨11, 10, .ro, 0x0⟩, ⟨9, 8, .ro, 0x0⟩, ⟨7, 0, .ro, 0x0⟩]⟩,
  ⟨0x400024, [], [⟨31, 16, .ro, 0x0⟩, ⟨15, 8, .ro, 0x0⟩, ⟨5, 4, .ro, 0x0⟩, ⟨1, 0, .ro, 0x0⟩]⟩,
  ⟨0x400028, [], [⟨3, 3, .wo, 0x0⟩, ⟨2, 2, .wo, 0x0⟩, ⟨1, 1, .wo, 0x0⟩, ⟨0, 0, .wo, 0x0⟩]⟩,
  ⟨0x400030, [], [⟨31, 31, .ro, 0x0⟩, ⟨30, 30, .w1c, 0x0⟩, ⟨7, 6, .wo, 0x0⟩, ⟨3, 0, .wo, 0x0⟩]⟩]

/-- Register banks of 12_keystone_boot_update.md: KEY_OTP_DATA, KEY_ATT_NONCE, KEY_ATT_STAT, KEY_ATT_LEAF, KEY_BOOT_TIME. -/
def regTable_12_1 : List RegDef := [
  ⟨0x400040, [(8, 0x4)], [⟨31, 0, .rw, 0x0⟩]⟩,
  ⟨0x400060, [(8, 0x4)], [⟨31, 0, .rw, 0x0⟩]⟩,
  ⟨0x400080, [], [⟨31, 31, .w1c, 0x0⟩, ⟨30, 28, .ro, 0x0⟩, ⟨10, 0, .ro, 0x0⟩]⟩,
  ⟨0x400084, [], [⟨31, 16, .ro, 0x0⟩, ⟨7, 0, .ro, 0x0⟩]⟩,
  ⟨0x400088, [], [⟨31, 0, .ro, 0x0⟩]⟩]

/-- Register banks of 13_memory_and_dma.md: MEM_CFG, MEM_STAT, MEM_ERR_COUNT, MEM_LAST_CE, MEM_LAST_UE, MEM_SCRUB, MEM_MERGE, MEM_SPARE,
MEM_INJECT, MEM_POISON_USE, DMA_CMD, DMA_HALT_CAUSE. -/
def regTable_13_0 : List RegDef := [
  ⟨0x600000, [], [⟨31, 16, .rwg, 0xa⟩, ⟨1, 1, .rwg, 0x1⟩, ⟨0, 0, .rwg, 0x1⟩]⟩,
  ⟨0x600004, [], [⟨31, 31, .ro, 0x0⟩, ⟨15, 8, .ro, 0x0⟩, ⟨5, 0, .ro, 0x0⟩]⟩,
  ⟨0x600008, [], [⟨31, 16, .ro, 0x0⟩, ⟨15, 0, .ro, 0x0⟩]⟩,
  ⟨0x60000c, [], [⟨31, 28, .ro, 0x0⟩, ⟨27, 26, .ro, 0x0⟩, ⟨25, 3, .ro, 0x0⟩]⟩,
  ⟨0x600010, [], [⟨31, 28, .ro, 0x0⟩, ⟨27, 26, .ro, 0x0⟩, ⟨25, 3, .ro, 0x0⟩]⟩,
  ⟨0x600014, [], [⟨31, 16, .ro, 0x0⟩, ⟨15, 0, .ro, 0x0⟩]⟩,
  ⟨0x600018, [], [⟨31, 16, .ro, 0x0⟩, ⟨15, 0, .ro, 0x0⟩]⟩,
  ⟨0x60001c, [], [⟨31, 22, .ro, 0x0⟩, ⟨21, 12, .ro, 0x0⟩, ⟨7, 0, .ro, 0x0⟩]⟩,
  ⟨0x600020, [], [⟨31, 31, .wo, 0x0⟩, ⟨30, 30, .rwg, 0x0⟩, ⟨29, 29, .ro, 0x0⟩, ⟨25, 3, .rwg, 0x0⟩]⟩,
  ⟨0x600024, [], [⟨31, 16, .ro, 0x0⟩, ⟨15, 0, .ro, 0x0⟩]⟩,
  ⟨0x700000, [], [⟨0, 0, .wo, 0x0⟩]⟩,
  ⟨0x700004, [], [⟨31, 31, .ro, 0x0⟩, ⟨5, 4, .ro, 0x0⟩, ⟨3, 3, .ro, 0x0⟩, ⟨2, 0, .ro, 0x0⟩]⟩]

/-- Register banks of 13_memory_and_dma.md: DMA_HALT_ADDR_LO, DMA_HALT_ADDR_HI, DMA_STAT, DMA_ERR, DMA_CH_CTRL, DMA_CH_DESC_LO,
DMA_CH_POS_LO, DMA_CH_DESC_HI, DMA_CH_POS_HI, DMA_CH_STAT, DMA_CH_DONE, DMA_CH_HOPMAX. -/
def regTable_13_1 : List RegDef := [
  ⟨0x700008, [], [⟨31, 0, .ro, 0x0⟩]⟩,
  ⟨0x70000c, [], [⟨31, 0, .ro, 0x0⟩]⟩,
  ⟨0x700010, [], [⟨31, 0, .ro, 0x0⟩]⟩,
  ⟨0x700014, [], [⟨31, 24, .ro, 0x0⟩, ⟨20, 16, .ro, 0x0⟩, ⟨3, 0, .ro, 0x0⟩]⟩,
  ⟨0x700100, [(32, 0x40)], [⟨3, 3, .rw, 0x0⟩, ⟨1, 1, .wo, 0x0⟩, ⟨0, 0, .wo, 0x0⟩]⟩,
  ⟨0x700104, [(32, 0x40)], [⟨31, 6, .rw, 0x0⟩, ⟨1, 0, .rw, 0x0⟩]⟩,
  ⟨0x700110, [(32, 0x40)], [⟨31, 6, .ro, 0x0⟩, ⟨1, 0, .ro, 0x0⟩]⟩,
  ⟨0x700108, [(32, 0x40)], [⟨31, 0, .rw, 0x0⟩]⟩,
  ⟨0x700114, [(32, 0x40)], [⟨31, 0, .ro, 0x0⟩]⟩,
  ⟨0x70010c, [(32, 0x40)], [⟨31, 24, .ro, 0x0⟩, ⟨23, 20, .ro, 0x0⟩, ⟨17, 17, .w1c, 0x0⟩, ⟨16, 16, .ro, 0x0⟩, ⟨2, 0, .ro, 0x0⟩]⟩,
  ⟨0x700118, [(32, 0x40)], [⟨31, 0, .ro, 0x0⟩]⟩,
  ⟨0x70011c, [(32, 0x40)], [⟨15, 0, .rw, 0x1000⟩]⟩]

/-- Register banks of 13_memory_and_dma.md: DMA_CH_COUNT. -/
def regTable_13_2 : List RegDef := [
  ⟨0x700120, [(32, 0x40)], [⟨31, 16, .ro, 0x0⟩, ⟨15, 0, .ro, 0x0⟩]⟩]

/-- Register banks of 14_housekeeping.md: HK_CFG, HK_STAT, HK_URG, HK_URG_RES, HK_CAL_CMD, HK_CAL_STAT, HK_GRP_CAL, HK_CH, HK_LIM,
HK_STAY, HK_STAY_CLR, HK_ANCH. -/
def regTable_14_0 : List RegDef := [
  ⟨0x800000, [], [⟨0, 0, .rwg, 0x1⟩]⟩,
  ⟨0x800004, [], [⟨31, 16, .ro, 0x0⟩, ⟨15, 8, .ro, 0x0⟩]⟩,
  ⟨0x800008, [], [⟨8, 8, .wo, 0x0⟩, ⟨7, 0, .wo, 0x0⟩]⟩,
  ⟨0x80000c, [], [⟨31, 31, .w1c, 0x0⟩, ⟨19, 12, .ro, 0x0⟩, ⟨11, 0, .ro, 0x0⟩]⟩,
  ⟨0x800010, [], [⟨31, 30, .wo, 0x0⟩, ⟨19, 16, .wo, 0x0⟩, ⟨11, 0, .wo, 0x0⟩]⟩,
  ⟨0x800014, [], [⟨31, 28, .ro, 0x0⟩, ⟨27, 24, .ro, 0x0⟩, ⟨23, 12, .ro, 0x0⟩, ⟨11, 0, .ro, 0x0⟩]⟩,
  ⟨0x800040, [(12, 0x4)], [⟨23, 16, .rw, 0x0⟩, ⟨15, 0, .rw, 0x8000⟩]⟩,
  ⟨0x800100, [(160, 0x4)], [⟨15, 15, .ro, 0x0⟩, ⟨14, 14, .ro, 0x0⟩, ⟨13, 13, .ro, 0x0⟩, ⟨11, 0, .ro, 0x0⟩]⟩,
  ⟨0x800400, [(160, 0x4)], [⟨31, 30, .rwg, 0x0⟩, ⟨29, 29, .rwg, 0x0⟩, ⟨28, 25, .rwg, 0x1⟩, ⟨23, 12, .rwg, 0xfff⟩, ⟨11, 0, .rwg, 0x0⟩]⟩,
  ⟨0x801000, [(64, 0x4)], [⟨16, 16, .rw, 0x0⟩, ⟨15, 0, .rw, 0x0⟩]⟩,
  ⟨0x801100, [(64, 0x4)], [⟨16, 16, .rw, 0x0⟩, ⟨15, 0, .rw, 0x0⟩]⟩,
  ⟨0x801200, [(8, 0x4)], [⟨31, 31, .ro, 0x0⟩, ⟨16, 16, .rwg, 0x0⟩, ⟨15, 0, .rwg, 0x0⟩]⟩]

/-- Register banks of 14_housekeeping.md: HK_STAY_DRV_LO, HK_STAY_DRV_HI, HK_STAY_STAT, HK_PAR_CMD, HK_PAR_STAT, HK_PAR_THR, HK_PAR_CAP,
HK_PAR_DIE, HK_PAR_BAY, HK_PAR_EXCL_LO, HK_PAR_EXCL_HI, HK_PAR_TRIP. -/
def regTable_14_1 : List RegDef := [
  ⟨0x801280, [], [⟨31, 0, .ro, 0x0⟩]⟩,
  ⟨0x801284, [], [⟨31, 0, .ro, 0x0⟩]⟩,
  ⟨0x801288, [], [⟨23, 16, .ro, 0x0⟩, ⟨15, 8, .ro, 0x0⟩, ⟨7, 7, .ro, 0x0⟩, ⟨6, 6, .ro, 0x0⟩]⟩,
  ⟨0x802000, [], [⟨8, 8, .wo, 0x0⟩, ⟨5, 0, .wo, 0x0⟩]⟩,
  ⟨0x802004, [], [⟨31, 30, .ro, 0x0⟩, ⟨29, 29, .ro, 0x0⟩, ⟨28, 28, .ro, 0x0⟩, ⟨21, 16, .ro, 0x0⟩, ⟨15, 0, .ro, 0x0⟩]⟩,
  ⟨0x802008, [], [⟨5, 0, .rw, 0x0⟩]⟩,
  ⟨0x80200c, [], [⟨31, 16, .ro, 0x0⟩, ⟨15, 0, .ro, 0x0⟩]⟩,
  ⟨0x802010, [(5, 0x4)], [⟨31, 28, .ro, 0x0⟩, ⟨27, 26, .ro, 0x0⟩, ⟨15, 0, .ro, 0x0⟩]⟩,
  ⟨0x802030, [(8, 0x4)], [⟨15, 0, .ro, 0x0⟩]⟩,
  ⟨0x802050, [], [⟨31, 0, .ro, 0x0⟩]⟩,
  ⟨0x802054, [], [⟨31, 0, .ro, 0x0⟩]⟩,
  ⟨0x802058, [], [⟨31, 31, .w1c, 0x0⟩, ⟨4, 0, .ro, 0x0⟩]⟩]

/-- Register banks of 14_housekeeping.md: HK_PAR_SENS, HK_CK_CFG, HK_CK_POLY_LO, HK_CK_POLY_HI, HK_CK_INIT_LO, HK_CK_INIT_HI,
HK_CK_XOR_LO, HK_CK_XOR_HI, HK_CK_RES_LO, HK_CK_RES_HI, HK_CK_SRC, HK_CK_LEN. -/
def regTable_14_2 : List RegDef := [
  ⟨0x802100, [(56, 0x4)], [⟨17, 17, .ro, 0x0⟩, ⟨16, 16, .ro, 0x0⟩, ⟨15, 0, .ro, 0x0⟩]⟩,
  ⟨0x803000, [(4, 0x40)], [⟨31, 31, .ro, 0x0⟩, ⟨26, 26, .rw, 0x0⟩, ⟨25, 25, .rw, 0x0⟩, ⟨24, 24, .rw, 0x0⟩, ⟨23, 23, .rw, 0x0⟩, ⟨6, 0, .rw, 0x20⟩]⟩,
  ⟨0x803004, [(4, 0x40)], [⟨31, 0, .rw, 0x0⟩]⟩,
  ⟨0x803008, [(4, 0x40)], [⟨31, 0, .rw, 0x0⟩]⟩,
  ⟨0x80300c, [(4, 0x40)], [⟨31, 0, .rw, 0x0⟩]⟩,
  ⟨0x803010, [(4, 0x40)], [⟨31, 0, .rw, 0x0⟩]⟩,
  ⟨0x803014, [(4, 0x40)], [⟨31, 0, .rw, 0x0⟩]⟩,
  ⟨0x803018, [(4, 0x40)], [⟨31, 0, .rw, 0x0⟩]⟩,
  ⟨0x803028, [(4, 0x40)], [⟨31, 0, .ro, 0x0⟩]⟩,
  ⟨0x80302c, [(4, 0x40)], [⟨31, 0, .ro, 0x0⟩]⟩,
  ⟨0x80301c, [(4, 0x40)], [⟨25, 0, .rw, 0x0⟩]⟩,
  ⟨0x803020, [(4, 0x40)], [⟨25, 0, .rw, 0x0⟩]⟩]

/-- Register banks of 14_housekeeping.md: HK_CK_CMD, HK_CK_STAT. -/
def regTable_14_3 : List RegDef := [
  ⟨0x803024, [(4, 0x40)], [⟨8, 8, .wo, 0x0⟩, ⟨7, 0, .wo, 0x0⟩]⟩,
  ⟨0x803030, [(4, 0x40)], [⟨31, 28, .ro, 0x0⟩, ⟨15, 8, .ro, 0x0⟩, ⟨7, 0, .ro, 0x0⟩]⟩]

/-- Register banks of 15_power_states.md: PWR_CMD, PWR_STAT, PWR_COUNT, PWR_REFUSER, PWR_RET_CFG, PWR_RET_STAT, PWR_RET_CRC,
PWR_WAKE_TIMER_LO, PWR_WAKE_TIMER_HI, PWR_AVS_CFG, PWR_AVS_TARGET, PWR_AVS_STAT. -/
def regTable_15_0 : List RegDef := [
  ⟨0x900000, [], [⟨2, 0, .wo, 0x0⟩]⟩,
  ⟨0x900004, [], [⟨31, 30, .ro, 0x0⟩, ⟨29, 29, .w1c, 0x0⟩, ⟨25, 24, .ro, 0x0⟩, ⟨11, 11, .ro, 0x0⟩, ⟨10, 8, .ro, 0x0⟩, ⟨7, 7, .ro, 0x1⟩, ⟨6, 4, .ro, 0x1⟩, ⟨2, 0, .ro, 0x4⟩]⟩,
  ⟨0x900008, [], [⟨31, 24, .ro, 0x0⟩, ⟨23, 16, .ro, 0x0⟩, ⟨15, 0, .ro, 0x0⟩]⟩,
  ⟨0x90000c, [], [⟨10, 8, .ro, 0x0⟩, ⟨3, 0, .ro, 0x0⟩]⟩,
  ⟨0x900010, [], [⟨8, 8, .rw, 0x1⟩, ⟨7, 0, .rw, 0x0⟩]⟩,
  ⟨0x900014, [], [⟨31, 24, .ro, 0x0⟩, ⟨15, 8, .w1c, 0x0⟩, ⟨7, 0, .ro, 0x0⟩]⟩,
  ⟨0x900020, [(8, 0x4)], [⟨31, 0, .ro, 0x0⟩]⟩,
  ⟨0x900040, [], [⟨31, 0, .rw, 0x0⟩]⟩,
  ⟨0x900044, [], [⟨31, 0, .rw, 0x0⟩]⟩,
  ⟨0x900050, [], [⟨31, 22, .rwg, 0x352⟩, ⟨21, 12, .rwg, 0x28a⟩, ⟨3, 0, .rwg, 0x0⟩]⟩,
  ⟨0x900054, [], [⟨25, 16, .ro, 0x0⟩, ⟨9, 0, .rwg, 0x320⟩]⟩,
  ⟨0x900058, [], [⟨31, 24, .ro, 0x0⟩, ⟨23, 16, .ro, 0x0⟩, ⟨9, 0, .ro, 0x0⟩]⟩]

/-- Register banks of 16_governance_faults.md: DECK_EVT_SUMMARY, DECK_EVT_PEND, DECK_EVQ_WR, DECK_EVQ_RD, DECK_EVT_CFG, LEDGER_CFG,
LEDGER_STAT, LEDGER_WR_SEQ, LEDGER_RD_SEQ, LEDGER_RD_SLOT, LEDGER_WR_SLOT, LEDGER_LOST. -/
def regTable_16_0 : List RegDef := [
  ⟨0x100, [], [⟨31, 16, .ro, 0x0⟩, ⟨4, 4, .ro, 0x0⟩, ⟨3, 3, .ro, 0x0⟩, ⟨2, 2, .ro, 0x0⟩, ⟨1, 1, .ro, 0x0⟩, ⟨0, 0, .ro, 0x0⟩]⟩,
  ⟨0x110, [(5, 0x4)], [⟨31, 0, .w1c, 0x0⟩]⟩,
  ⟨0x200, [], [⟨31, 16, .ro, 0x0⟩, ⟨7, 0, .ro, 0x0⟩]⟩,
  ⟨0x204, [], [⟨7, 0, .rw, 0x0⟩]⟩,
  ⟨0x400, [(160, 0x4)], [⟨31, 24, .ro, 0x0⟩, ⟨23, 22, .ro, 0x0⟩, ⟨21, 21, .ro, 0x0⟩, ⟨13, 13, .rw, 0x1⟩, ⟨12, 12, .rw, 0x1⟩, ⟨4, 0, .rw, 0x0⟩]⟩,
  ⟨0x300000, [], [⟨31, 16, .rwg, 0x1800⟩, ⟨7, 0, .rwg, 0x7e⟩]⟩,
  ⟨0x300004, [], [⟨31, 31, .ro, 0x0⟩, ⟨30, 30, .ro, 0x0⟩, ⟨29, 29, .ro, 0x0⟩, ⟨13, 0, .ro, 0x0⟩]⟩,
  ⟨0x300008, [], [⟨31, 0, .ro, 0x0⟩]⟩,
  ⟨0x30000c, [], [⟨31, 0, .ro, 0x0⟩]⟩,
  ⟨0x300018, [], [⟨12, 0, .ro, 0x0⟩]⟩,
  ⟨0x30001c, [], [⟨12, 0, .ro, 0x0⟩]⟩,
  ⟨0x300010, [], [⟨31, 0, .ro, 0x0⟩]⟩]

/-- Register banks of 16_governance_faults.md: LEDGER_EPOCH, LEDGER_HEAD, LEDGER_SNAP_HEAD, LEDGER_SNAP_SEQ, LEDGER_ARC_SEQ,
LEDGER_ARC_CMD, LEDGER_ARC_STAT. -/
def regTable_16_1 : List RegDef := [
  ⟨0x300014, [], [⟨31, 31, .rw, 0x0⟩, ⟨30, 0, .rw, 0x0⟩]⟩,
  ⟨0x300020, [(8, 0x4)], [⟨31, 0, .ro, 0x0⟩]⟩,
  ⟨0x300060, [(8, 0x4)], [⟨31, 0, .ro, 0x0⟩]⟩,
  ⟨0x300040, [], [⟨31, 0, .ro, 0xffffffff⟩]⟩,
  ⟨0x300080, [], [⟨31, 0, .ro, 0xffffffff⟩]⟩,
  ⟨0x300084, [], [⟨31, 31, .wo, 0x0⟩, ⟨30, 30, .wo, 0x0⟩, ⟨10, 0, .wo, 0x0⟩]⟩,
  ⟨0x300088, [], [⟨31, 31, .w1c, 0x0⟩, ⟨30, 30, .w1c, 0x0⟩, ⟨29, 29, .ro, 0x0⟩, ⟨26, 16, .ro, 0x0⟩, ⟨10, 0, .ro, 0x0⟩]⟩]

/-- Register banks of 17_host_port_registers.md: DECK_IDENT, DECK_STEPPING, DECK_RESET, DECK_HOST_ERR, DECK_DEVID. -/
def regTable_17_0 : List RegDef := [
  ⟨0x0, [], [⟨31, 0, .ro, 0x6464⟩]⟩,
  ⟨0x4, [], [⟨31, 0, .ro, 0xb1⟩]⟩,
  ⟨0x10, [], [⟨15, 8, .wo, 0x0⟩, ⟨0, 0, .wo, 0x0⟩]⟩,
  ⟨0x14, [], [⟨31, 26, .ro, 0x0⟩, ⟨25, 25, .ro, 0x0⟩, ⟨24, 24, .w1c, 0x0⟩, ⟨23, 0, .ro, 0x0⟩]⟩,
  ⟨0x50, [(4, 0x4)], [⟨31, 0, .ro, 0x0⟩]⟩]

/-- Every register bank of the spec (R6, R439). -/
def regTable : List RegDef :=
  regTable_01_0 ++
  regTable_02_0 ++
  regTable_02_1 ++
  regTable_03_0 ++
  regTable_03_1 ++
  regTable_04_0 ++
  regTable_05_0 ++
  regTable_06_0 ++
  regTable_07_0 ++
  regTable_07_1 ++
  regTable_08_0 ++
  regTable_08_1 ++
  regTable_09_0 ++
  regTable_10_0 ++
  regTable_10_1 ++
  regTable_11_0 ++
  regTable_12_0 ++
  regTable_12_1 ++
  regTable_13_0 ++
  regTable_13_1 ++
  regTable_13_2 ++
  regTable_14_0 ++
  regTable_14_1 ++
  regTable_14_2 ++
  regTable_14_3 ++
  regTable_15_0 ++
  regTable_16_0 ++
  regTable_16_1 ++
  regTable_17_0

end Sys2Proof.Machine
end

