-- ==== Sys2Proof/Machine/SMap.lean ====
section
/-!
DEFINITION. Sparse maps from numbers, as lists of (key, value) pairs in one canonical form: keys strictly rising and no
entry equal to what an unlisted key reads as. Deck SRAM, the attached store and every numbered set of the device are
held so, and equal maps are equal lists.
-/
namespace Sys2Proof.Machine

/-- What key k reads as; d is what an unlisted key reads as. -/
def smGet {α : Type} (d : α) (k : Nat) : List (Nat × α) → α
  | [] => d
  | (a, v) :: r => if a = k then v else smGet d k r

/-- List v at key k, in its place. -/
def smIns {α : Type} (k : Nat) (v : α) : List (Nat × α) → List (Nat × α)
  | [] => [(k, v)]
  | (a, w) :: r => if a = k then (k, v) :: r else if k < a then (k, v) :: (a, w) :: r else (a, w) :: smIns k v r

/-- Write v at key k; writing what an unlisted key reads as removes the entry. -/
def smPut {α : Type} [DecidableEq α] (d : α) (k : Nat) (v : α) (m : List (Nat × α)) : List (Nat × α) :=
  if v = d then m.filter fun x => x.1 ≠ k else smIns k v m

/-- Every key is above lo (none: no bound), keys rise, and no value is the unlisted one. -/
def smWfFrom {α : Type} [DecidableEq α] (d : α) : Option Nat → List (Nat × α) → Bool
  | _, [] => true
  | lo, (a, v) :: r =>
    (match lo with | none => true | some l => decide (l < a)) && decide (v ≠ d) && smWfFrom d (some a) r

/-- The canonical form. -/
def smWf {α : Type} [DecidableEq α] (d : α) (m : List (Nat × α)) : Bool := smWfFrom d none m

/-- Insert k into a rising list of numbers. -/
def insNat (k : Nat) : List Nat → List Nat
  | [] => [k]
  | a :: r => if a = k then a :: r else if k < a then k :: a :: r else a :: insNat k r

/-- Remove k from a list of numbers. -/
def delNat (k : Nat) (l : List Nat) : List Nat := l.filter (· ≠ k)

/-- The list with position i replaced by f of what stands there. -/
def modAt {α : Type} (i : Nat) (f : α → α) : List α → List α
  | [] => []
  | a :: r => match i with | 0 => f a :: r | i' + 1 => a :: modAt i' f r

end Sys2Proof.Machine
end

