-- ==== Sys2Proof/Machine/Sha256.lean ====
section
/-!
DEFINITION. SHA-256, computed: the ledger's chain (R415), the seals (R85), the image and manifest hashes (R72, R300) and
the LMS key hashes are made of it. Words are numbers below 2^32, messages are lists of byte numbers.
-/
namespace Sys2Proof.Machine

def w32 (x : Nat) : Nat := x % 0x100000000

/-- Rotate a 32-bit word right. -/
def ror32 (x n : Nat) : Nat := (x >>> n) ||| (w32 (x <<< (32 - n)))

/-- The round constants of SHA-256 (FIPS 180-4). -/
def shaK : List Nat :=
  [0x428a2f98, 0x71374491, 0xb5c0fbcf, 0xe9b5dba5, 0x3956c25b, 0x59f111f1, 0x923f82a4, 0xab1c5ed5] ++
  [0xd807aa98, 0x12835b01, 0x243185be, 0x550c7dc3, 0x72be5d74, 0x80deb1fe, 0x9bdc06a7, 0xc19bf174] ++
  [0xe49b69c1, 0xefbe4786, 0x0fc19dc6, 0x240ca1cc, 0x2de92c6f, 0x4a7484aa, 0x5cb0a9dc, 0x76f988da] ++
  [0x983e5152, 0xa831c66d, 0xb00327c8, 0xbf597fc7, 0xc6e00bf3, 0xd5a79147, 0x06ca6351, 0x14292967] ++
  [0x27b70a85, 0x2e1b2138, 0x4d2c6dfc, 0x53380d13, 0x650a7354, 0x766a0abb, 0x81c2c92e, 0x92722c85] ++
  [0xa2bfe8a1, 0xa81a664b, 0xc24b8b70, 0xc76c51a3, 0xd192e819, 0xd6990624, 0xf40e3585, 0x106aa070] ++
  [0x19a4c116, 0x1e376c08, 0x2748774c, 0x34b0bcb5, 0x391c0cb3, 0x4ed8aa4a, 0x5b9cca4f, 0x682e6ff3] ++
  [0x748f82ee, 0x78a5636f, 0x84c87814, 0x8cc70208, 0x90befffa, 0xa4506ceb, 0xbef9a3f7, 0xc67178f2]

/-- The initial hash value. -/
def shaH0 : List Nat :=
  [0x6a09e667, 0xbb67ae85, 0x3c6ef372, 0xa54ff53a, 0x510e527f, 0x9b05688c, 0x1f83d9ab, 0x5be0cd19]

/-- n bytes of x, most significant first. -/
def beBytes : Nat → Nat → List Nat
  | 0, _ => []
  | n + 1, x => (x >>> (8 * n)) % 256 :: beBytes n x

/-- n bytes of x, least significant first. -/
def leBytes : Nat → Nat → List Nat
  | 0, _ => []
  | n + 1, x => x % 256 :: leBytes n (x / 256)

/-- The number that bytes spell, least significant first. -/
def ofLe : List Nat → Nat
  | [] => 0
  | b :: r => b + 256 * ofLe r

/-- The number that bytes spell, most significant first. -/
def ofBe (l : List Nat) : Nat := l.foldl (fun a b => a * 256 + b) 0

/-- The next word of the message schedule, from the sixteen before it, newest first. -/
def shaNext (w : List Nat) : Nat :=
  let w2 := w.getD 1 0; let w7 := w.getD 6 0; let w15 := w.getD 14 0; let w16 := w.getD 15 0
  let s0 := ror32 w15 7 ^^^ ror32 w15 18 ^^^ (w15 >>> 3)
  let s1 := ror32 w2 17 ^^^ ror32 w2 19 ^^^ (w2 >>> 10)
  w32 (w16 + s0 + w7 + s1)

/-- One round over the eight working variables. -/
def shaRound (k w : Nat) : List Nat → List Nat
  | [a, b, c, d, e, f, g, h] =>
    let t1 := h + (ror32 e 6 ^^^ ror32 e 11 ^^^ ror32 e 25) + ((e &&& f) ^^^ ((0xFFFFFFFF - e) &&& g)) + k + w
    let t2 := (ror32 a 2 ^^^ ror32 a 13 ^^^ ror32 a 22) + ((a &&& b) ^^^ (a &&& c) ^^^ (b &&& c))
    [w32 (t1 + t2), a, b, c, w32 (d + t1), e, f, g]
  | l => l

/-- Rounds over the constants ks: ws holds the schedule words not yet used, last the sixteen newest, newest first. -/
def shaRounds : List Nat → List Nat → List Nat → List Nat → List Nat
  | [], _, _, v => v
  | k :: ks, w :: ws, last, v => shaRounds ks ws last (shaRound k w v)
  | k :: ks, [], last, v => let w := shaNext last; shaRounds ks [] (w :: last.take 15) (shaRound k w v)

/-- One block of sixteen words. -/
def shaBlock (h : List Nat) (ws : List Nat) : List Nat :=
  (h.zip (shaRounds shaK ws ws.reverse h)).map fun p => w32 (p.1 + p.2)

/-- Words of the padded message, big-endian. -/
def shaWords : Nat → List Nat → List Nat
  | 0, _ => []
  | n + 1, l => ofBe (l.take 4) :: shaWords n (l.drop 4)

/-- Run the blocks. -/
def shaGo : Nat → List Nat → List Nat → List Nat
  | 0, _, h => h
  | n + 1, ws, h => shaGo n (ws.drop 16) (shaBlock h (ws.take 16))

/-- The SHA-256 hash of a message, 32 bytes in output order. -/
def sha256 (m : List Nat) : List Nat :=
  let z := (119 - m.length % 64) % 64
  let p := m ++ [0x80] ++ List.replicate z 0 ++ beBytes 8 (8 * m.length)
  let n := p.length / 64
  (shaGo n (shaWords (16 * n) p) shaH0).flatMap (beBytes 4)

/-- CRC-32C of a message, reflected, initial and final all ones (R313). -/
def crc32c (m : List Nat) : Nat :=
  let step := fun (c : Nat) (_ : Nat) => if c % 2 = 1 then (c >>> 1) ^^^ 0x82F63B78 else c >>> 1
  0xFFFFFFFF ^^^ m.foldl (fun c b => (List.range 8).foldl step (c ^^^ b)) 0xFFFFFFFF

end Sys2Proof.Machine
end

