-- ==== Sys2Proof/Machine/State.lean ====
section
/-!
DEFINITION. The state of the PX6464: the register file, the internal state that the chapters name beside it, the
memories, and the queue of waiting commands. Plain data throughout. Register fields live in `Dev.regs` under their
offset and bit range (Fields.lean names them), everything else in one record a chapter.
-/
namespace Sys2Proof.Machine

/-- Why a step can stop with a fault. No meaning of this model answers one: every access the spec forbids is answered by
the device itself (R6, R8, R440). Safe: nothing is claimed of a machine that stopped. -/
inductive Fault where
  /-- Raised by no command; kept so that a later access to something the spec says is absent has a name. Safe. -/
  | absentUnit
deriving DecidableEq, Repr

/-- Why a step can be refused by the model. -/
inductive Refusal where
  /-- A command whose meaning this model does not give yet, by its mnemonic; answered by Dispatch only. Safe. -/
  | notModelled (mnemonic : String)
deriving DecidableEq, Repr

/-- Chapter 02: network time, air time, the time servo and alignment. -/
structure TimeSt where
  /-- network time in units of 1/3,072 ns, extended to TAI: every air tick adds 3,125 of them (R28) -/
  ntU : Nat := 0
  /-- wraps of the 32-bit count that LEDGER_EPOCH has counted or that a step or a wake has made (R414) -/
  wraps : Nat := 0
  /-- air-time counter: tick_in_frame, frame and frame_in_second (R28) -/
  tick : Nat := 0
  frame : Nat := 0
  fis : Nat := 0
  /-- 1: the counters stand still at an edge of the sleep counter (R45) -/
  stopped : Bool := false
  /-- rate correction in force, and a committed value waiting for its frame (R32), units of 2^-48 -/
  r : Int := 0
  rPend : Option Int := none
  /-- the value that an ALIGN frame has carried, and the frame boundary at which it takes effect (R32) -/
  rCarried : Option (Int × Nat) := none
  /-- TL_FRAME_OFFSET in force (R30) -/
  frameOffset : Nat := 0
  /-- run of consecutive good updates (R42, R491) -/
  goodRun : Nat := 0
  /-- magnitudes of the accepted offsets, newest first, in 1/3,072 ns (R44) -/
  recent : List Nat := []
  /-- the last values the servo committed, newest first (R44) -/
  servoR : List Int := []
  /-- the estimate in units of 1/(3,072 * 10^10) ns, e_last in the same units, and the instant it counts from (R44) -/
  errE : Nat := 0
  eLast : Nat := 0
  eAt : Nat := 0
  /-- instant of the last accepted update (R42) -/
  lastAccepted : Nat := 0
  /-- updates still to be used for path delay only after a move of the timing port (R37) -/
  skip : Nat := 0
  /-- a restep was accepted and its step has not been made (R41) -/
  restepArmed : Bool := false
  /-- a wake left COASTED and no update has been accepted since (R47) -/
  coastFirst : Bool := false
  /-- follower: the next valid ALIGN edge is to be captured (R60) -/
  alignArmed : Bool := false
  /-- follower: run of missing or corrupt frames, and quality of the last valid one (R61) -/
  alignRun : Nat := 0
  alignCarried : Nat := 0
  /-- follower: valid frames are being received (R42) -/
  alignLive : Bool := false
  /-- leader: sequence of the next ALIGN frame, and the last frame sent, payload and CRC (R59) -/
  alignSeq : Nat := 0
  alignOut : Nat := 0
  /-- 1PPS output: instant of its last rise; input: instant of the last edge and whether its loss was reported -/
  ppsOutAt : Option Nat := none
  lastPps : Nat := 0
  ppsLost : Bool := false
  /-- the input is watched: since ref_sel became 1 (R63) -/
  ppsWatch : Bool := false
  /-- PTP domain chosen by firmware (R35) -/
  ptpDomain : Nat := 0
  /-- the last Delay_Req sent: its port and egress timestamp, 1/16 ns (R35, R36) -/
  delayReq : Option (Nat × Nat) := none
deriving DecidableEq, Repr

/-- One timetable entry (R49): words 0 to 2 as stored, and word 3's fields. -/
structure TtEntry where
  w0 : Nat := 0
  w1 : Nat := 0
  w2 : Nat := 0
  fireCount : Nat := 0
  status : Nat := 0
  armed : Bool := false
  moved : Bool := false
  rep : Nat := 0
  latePolicy : Nat := 0
  /-- requested time and next execution, as instants of `Dev.now` -/
  req : Int := 0
  due : Int := 0
  origin : Origin := .none
deriving DecidableEq, Repr

/-- An entry of the event queue (R427). -/
structure EvEntry where
  event : Nat := 0
  cls : Nat := 0
  flags : Nat := 0
  unit : Nat := 0
  cause : Nat := 0
  count : Nat := 0
  ns : Nat := 0
  frame : Nat := 0
  cycle : Nat := 0
deriving DecidableEq, Repr

/-- Chapter 16: events (R424 to R427). -/
structure EvSt where
  /-- the 256 entries of the queue's memory -/
  queue : List (Nat × EvEntry) := []
  /-- a drop episode is open; the next entry written carries the flag -/
  dropping : Bool := false
  /-- instant of the last signalled raise of a limited event, by 65,536 * event + unit (R424) -/
  lastSig : List (Nat × Nat) := []
  /-- Halt raises since VAON was applied (R431) -/
  haltCount : Nat := 0
deriving DecidableEq, Repr

/-- A happening in the ledger's input queue (R410, R419). -/
structure LedgerReq where
  ns : Nat
  epoch : Nat
  origin : Origin
  kind : Nat
  aux : Nat
  addr : Nat
  old : Nat
  new : Nat
  sealEpoch : Nat
deriving DecidableEq, Repr

/-- A governed write held by the ledger (R393, R419). -/
structure HeldWrite where
  org : Origin
  off : Nat
  val : Nat
deriving DecidableEq, Repr

/-- The running interval of one excursion loop and unit (R417): code, unit, minimum, maximum, last. -/
structure LoopAcc where
  code : Nat
  unit : Nat
  min : Int
  max : Int
  last : Int
deriving DecidableEq, Repr

/-- An archive block being written (R421): first sequence, records, the sector and failures so far. -/
structure ArcJob where
  first : Nat
  count : Nat
  sector : Nat
deriving DecidableEq, Repr

/-- What the device knows of a ring record without reading it (R418, R421): its sequence, the run of lost sequences that it describes, the
chain head after it, and when it was written. -/
structure RingRec where
  seq : Nat := 0
  lost : Nat := 0
  head : List Nat := []
  at_ : Nat := 0
deriving DecidableEq, Repr

/-- Chapter 16: the audit ledger (R410 to R423). -/
structure LedgerSt where
  queue : List LedgerReq := []
  held : List HeldWrite := []
  /-- closed by an accepted request for Dormant or Off (R393) -/
  closed : Bool := false
  /-- chain head, 32 bytes -/
  head : List Nat := List.replicate 32 0
  /-- the run of lost records: sequence of the first and their number (R419) -/
  gapFirst : Nat := 0
  gapCount : Nat := 0
  loops : List LoopAcc := []
  /-- the instant at which the interval in which they acted ends (R417) -/
  loopsEnd : Nat := 0
  /-- this boot's records, by slot -/
  ring : List (Nat × RingRec) := []
  arc : Option ArcJob := none
  /-- a block is asked for while another is being written (R421) -/
  want : Bool := false
  /-- failed blocks in a row, and the instant of the last failure (R421) -/
  arcFails : Nat := 0
  arcFailAt : Nat := 0
  /-- head before the oldest undrained record, for the next archive block (R421) -/
  arcHead : List Nat := List.replicate 32 0
  /-- the sector of the newest block, none when the region holds none -/
  newest : Option Nat := none
  /-- the archive window and the sector read in progress (R422) -/
  window : List (Nat × Nat) := []
  reading : Option Nat := none
deriving DecidableEq, Repr

/-- How the last host access ended (R6, R337, R440). -/
inductive HostResp where
  | none | data (v : Nat) | poisoned (v : Nat) | unsupported | noAnswer
deriving DecidableEq, Repr

/-- Chapter 17: the PCIe endpoint (R433 to R437). -/
structure HostSt where
  linkUp : Bool := true
  d3hot : Bool := false
  busMaster : Bool := false
  msixEnable : Bool := false
  msixFuncMask : Bool := false
  /-- per-vector masks, bit v (all set at reset, R436) -/
  msixMask : Nat := 0xFFFFFFFF
  /-- events whose pending bit rose without a message (R425) -/
  unsent : List Nat := []
  /-- messages sent, by vector, and address and data of the last one -/
  msixSent : List (Nat × Nat) := []
  lastMsg : Option (Nat × Nat) := none
  /-- the MSI-X table: words 0 to 2 of entry v at 4 v + w, address low, address high and data (R435) -/
  table : List (Nat × Nat) := []
  /-- base addresses of BAR0/BAR1 and BAR2/BAR3, Max_Payload_Size at 256 bytes instead of 128, and the Unsupported Request that Advanced Error
  Reporting shows (R433, R435, R440) -/
  bar0 : Nat := 0
  bar2 : Nat := 0
  payload256 : Bool := false
  aerUr : Bool := false
  resp : HostResp := .none
deriving DecidableEq, Repr

/-- Chapter 03: the seals (R85 to R90). -/
structure SealSt where
  /-- the seal epoch, and the published one with its device seal (R87, R88) -/
  epoch : Nat := 0
  pubEpoch : Nat := 0
  pubSeal : List Nat := List.replicate 32 0
  pubLeaves : List (Nat × List Nat) := []
  /-- what a read of DECK_SEAL_EPOCH latched for DECK_SEAL0 to DECK_SEAL7 (R89) -/
  latched : List Nat := List.replicate 32 0
deriving DecidableEq, Repr

/-- One record of a span map (R73, R74): its type, optional flag, unit, offset in the image and its bytes. -/
structure SpanRec where
  ty : Nat
  opt : Bool
  unit : Nat
  off : Nat
  raw : List Nat
deriving DecidableEq, Repr

/-- A parsed span-map image: what the header gives and the records in order (R72, R73). -/
structure SpanImg where
  fmtMajor : Nat := 2
  fmtMinor : Nat := 0
  level : Nat := 0
  mapId : Nat := 0
  image : Nat := 0
  recs : List SpanRec := []
deriving DecidableEq, Repr

/-- A freeze window (R79, R84): what it commits, who asked, the dies that acknowledged, and the entries that fell in it. -/
structure Freeze where
  unform : Bool
  org : Origin
  start : Nat
  acks : Nat
  /-- the timetable entry that asked for the commit, if one did -/
  entry : Option Nat
  /-- entries deferred to the release, and RF entries that failed (R81) -/
  deferred : List Nat
  failed : Nat
deriving DecidableEq, Repr

/-- Chapter 03: formation (R66 to R84). -/
structure SpanSt where
  /-- instant and origin of the form command, and whether it is a partial formation -/
  formAt : Nat := 0
  formPartial : Bool := false
  formImage : Nat := 0
  /-- SPAN_SRC_ADDR and SPAN_SRC_LEN, in bytes, as the form command found them -/
  formAddr : Nat := 0
  formLen : Nat := 0
  shadow : Option SpanImg := none
  committed : Option SpanImg := none
  freeze : Option Freeze := none
  /-- the image as LOADING read it, between LOADING and the end of CHECKING -/
  loaded : List Nat := []
  /-- bit p: pier p is held after a failed reload (R90) -/
  heldPiers : Nat := 0
deriving DecidableEq, Repr

/-- A calibration run of a bay (R225): kind, the paths and kinds it is made on, the instant its bay reaches the run's state and
the one at which its occupancy ends. -/
structure CalRun where
  kind : Nat
  pairs : List (Nat × Nat)
  start : Nat
  until_ : Nat
  /-- started in host-assisted mode; the lead bay of its group; the bay temperature at its start -/
  host : Bool
  lead : Nat
  temp : Nat
  /-- at its start the pier's band-gap disagreed with the deck's (R235) -/
  gap : Bool
  /-- the air time of its entry, as frame and tick -/
  frame : Nat
  tick : Nat
deriving DecidableEq, Repr

/-- Chapter 04: what a bay holds beside its registers. -/
structure BaySt where
  /-- the state a request of several transitions is on its way to (R97) -/
  dest : Nat := 0
  /-- the running transition is a turnaround, and the instant at which it ends (R98) -/
  turning : Bool := false
  turnEnd : Nat := 0
  /-- pending register request: state and the boundary it takes effect at (R99) -/
  req : Option (Nat × Nat) := none
  /-- instant of a loss of lock not yet relocked, and whether the full search was repeated (R107) -/
  unlockAt : Option Nat := none
  searching : Bool := false
  /-- subframe boundary at which the phase aligns (R104) -/
  alignAt : Nat := 0
  /-- paths that are silent because of a shed, bit i (R114) -/
  shedTx : Nat := 0
  shedRx : Nat := 0
  /-- path faults whose shed is not complete yet, oldest first: position, cause and instant of detection (R115, R430) -/
  faults : List (Nat × Nat × Nat) := []
  /-- fault bits that a divergence of the pier's seal set and that no other fault holds, bit i (R90, R116) -/
  divTx : Nat := 0
  divRx : Nat := 0
  cal : Option CalRun := none
  /-- the instant at which the bay last came to an RF state, and the ticks that it spent in TX before (R127, R159) -/
  rfFrom : Nat := 0
  txTotal : Nat := 0
  /-- the last period in which the bay received: its start, its end (none while it lasts), and whether it was Loopback (R98, R110) -/
  rxFrom : Nat := 0
  rxTo : Option Nat := some 0
  rxLoop : Bool := false
deriving DecidableEq, Repr

/-- A change of a stage's response that its samples still show (R135 to R137): stage, the responses before and after, the air time from
which the new one counts, in twelfths of an air tick, and whether it is a cross-fade. -/
structure Swap where
  stage : Nat
  old : Nat
  new : Nat
  at12 : Nat
  faded : Bool
deriving DecidableEq, Repr

/-- Chapter 05: one chain of one path (R134 to R137). -/
structure ChainSt where
  /-- running cross-fade: stage and the response faded from -/
  fade : Option (Nat × Nat) := none
  /-- queued swap: stage and response -/
  queued : Option (Nat × Nat) := none
  /-- the air time from which the running cross-fade counts, in twelfths of an air tick (R135), and the instant at which the chain last began
  from empty (R127, R133) -/
  fadeAt : Nat := 0
  begun : Nat := 0
  /-- the latest changes of its responses, newest first -/
  swaps : List Swap := []
deriving DecidableEq, Repr

/-- What a deferred register write does when its boundary comes. -/
inductive DefKind where
  /-- values of fields come into force (R138, R139, R186, R187) -/
  | values (l : List (Fld × Nat))
  /-- a gain written to BAY_GAIN of path n applies: both attenuations (R112) -/
  | gain (n tx rx : Nat)
  /-- the host shed of a bay takes effect, with the bits of its write (R116) -/
  | hostShed (b tx rx : Nat)
  /-- a commit or an unform that a register write asked for comes due (R78, R84) -/
  | commit (org : Origin)
  | unform (org : Origin)
  /-- the SYNC of a span at the frame boundary after a step (R132) -/
  | sync (s : Nat)
deriving DecidableEq, Repr

/-- A register write whose effect waits for a boundary. -/
structure Deferred where
  kind : DefKind
  due : Nat
deriving DecidableEq, Repr

/-- A capture that has started (R152, R153): its path and descriptor, the air time T, and what was in force at T. -/
structure CapRun where
  path : Nat
  desc : Nat
  tick : Nat
  frame : Nat
  slot : Nat
  len : Nat
  nb : List Nat
  att : Nat
  lag : Nat
  tag : Nat
  set : Nat
  linear : Bool
  rail : Nat
  epoch : Nat
  /-- the instant T, the first sample that a cause of SPLIT affects, and whether the bay left TX or the path was shed (R153) -/
  start : Nat
  split : Option Nat
  left : Bool
deriving DecidableEq, Repr

/-- Chapter 06: the observation receiver of a bay (R150 to R155) and its expander (R145). -/
structure ObsSt where
  cap : Option CapRun := none
  /-- a CAPTURE entry that has passed its check instant T - settle: its index, T, and whether it still starts at T (R152) -/
  pre : Option (Nat × Nat × Bool) := none
  /-- reserved by a calibration run (R152); its input is CALP/CALN, its injector drives CALP/CALN, its injector is looped to it for the
  reference chain (R223) -/
  byCal : Bool := false
  calIn : Bool := false
  inject : Bool := false
  refLoop : Bool := false
  /-- coupler select outputs, the last code driven (R150) -/
  sel : Nat := 0
  /-- captures written so far (R154) -/
  seq : Nat := 0
  /-- running expansion: position and set -/
  exp : Option (Nat × Nat) := none
deriving DecidableEq, Repr

/-- Chapter 06: the predistorter of a path (R145 to R162). -/
structure DpdSt where
  /-- coefficient words, by 128 * set + 8 t + k; unlisted: the linear set -/
  coef : List (Nat × Nat) := []
  /-- what is held for verification: a set, or 2 for the linear LUTs -/
  held : Option Nat := none
  /-- reference OWR and the OWR of the last OK capture under what is in force, 0.1 dB -/
  refOwr : Option Int := none
  lastOwr : Option Int := none
  appliedAt : Nat := 0
  /-- slot boundary of a revert that is due, and reverts since a verification last passed -/
  revertAt : Option Nat := none
  revertRun : Nat := 0
  /-- attenuation that the fallback added (R161) -/
  fbAdded : Nat := 0
  /-- state left on entry to HOLD, iterations in ACQUIRE and the last errors, newest first (R156) -/
  stateLeft : Nat := 0
  iters : Nat := 0
  epsHist : List Int := []
  /-- changes of the rail weight buffer in force within the last 100 ms, newest first: one more than the instant, and the buffer
  left (R156) -/
  railHist : List (Nat × Nat) := []
  /-- the step of the running iteration: 0 none, 1 capture, 2 fit, 3 expansion, 4 apply, 5 verification (R25, R156) -/
  step : Nat := 0
  /-- the bay's ticks in TX at the last OK capture, or when the loop started on the path (R159) -/
  okTx : Nat := 0
  /-- expansions of the path's sets (R146) -/
  expands : Nat := 0
deriving DecidableEq, Repr

/-- An entry of the merge buffer (R338): code word index, byte mask, the bytes and the instant of the last write to it. -/
structure MergeEnt where
  word : Nat
  mask : Nat
  data : List Nat
  at_ : Nat
deriving DecidableEq, Repr

/-- Chapter 13: protection of deck SRAM (R335 to R343). -/
structure MemProtSt where
  /-- merge buffer entries, oldest first -/
  merge : List MergeEnt := []
  /-- corrected words that wait for their write-back (R335) -/
  wb : List Nat := []
  /-- recurrence table: word and 16-bit history, bit 0 the current lap, oldest first (R340) -/
  recur : List (Nat × Nat) := []
  /-- rows queued for soft sparing, as bank and row (R340) -/
  queued : List (Nat × Nat) := []
  /-- rows remapped by soft spares: bank, row, spare index (R341, R342) -/
  spares : List (Nat × Nat × Nat) := []
  /-- remaps that are not in the attached store yet (R341) -/
  unwritten : List (Nat × Nat × Nat) := []
  /-- the scrubber's next word, and the instant its lap began (R339) -/
  ptr : Nat := 0
  lapAt : Nat := 0
  /-- words stored by an injection and not read since (R343) -/
  injected : List Nat := []
deriving DecidableEq, Repr

/-- A dynamic entry (R170): is the copy in force filled, and the instant a pending copy applies from, if one waits. -/
structure DynEnt where
  filled : Bool := false
  pend : Option Int := none
  /-- the update landed after the pass it was for -/
  late : Bool := false
deriving DecidableEq, Repr

/-- A rail weight load in progress (R183): its start, and the word for each path. -/
structure RailLoad where
  start : Nat
  /-- the buffer that it fills, fixed when it started -/
  buf : Nat
  words : List (Nat × Nat)
deriving DecidableEq, Repr

/-- Chapter 07: girders and rail weights. -/
structure GirderSt where
  /-- staging buffer of the codebook window: the entry and its staged words (R168) -/
  stageEntry : Option Nat := none
  stage : List (Nat × Nat) := []
  dyn : List (Nat × DynEnt) := []
  /-- words assembled by the dynamic port since its last action (R170) -/
  port : List (Nat × Nat) := []
  /-- the latest symbol whose downlink pass has started, as an instant (R170) -/
  lastPass : Option Int := none
  /-- live masks that the scales in use were computed for, 64 bits each, TX and RX, by carrier, and those of the last recomputation
  (R176) -/
  use : List (Nat × (Nat × Nat)) := []
  done : Nat × Nat := (0, 0)
  loads : List RailLoad := []
deriving DecidableEq, Repr

/-- A channel of the DMA engine (R344 to R354): the descriptor being executed, field by field as R346 lays them out. -/
structure ChanSt where
  ctrl : Nat := 0
  len : Nat := 0
  src : Nat := 0
  dst : Nat := 0
  next : Nat := 0
  tag : Nat := 0
  /-- bytes that the running burst of a request-driven descriptor may still move -/
  grant : Nat := 0
  /-- an edge arrived, and the line fell, during a burst (R349) -/
  edge : Bool := false
  fell : Bool := false
deriving DecidableEq, Repr

/-- A burst that the engine wrote to host memory: address, bytes, EP set. -/
structure HostBurst where
  addr : Nat
  data : List Nat
  ep : Bool
deriving DecidableEq, Repr

/-- Chapter 13: the DMA engine. -/
structure DmaSt where
  chans : List (Nat × ChanSt) := []
  /-- request lines whose last rising edge was taken and that have not fallen since (R349) -/
  seen : List Nat := []
  /-- the channel that moved the last burst, by arbitration class (R348) -/
  last : Nat × Nat := (31, 31)
  /-- the last burst written to host memory -/
  out : Option HostBurst := none
deriving DecidableEq, Repr

/-- Chapter 10: one lane: instants of its state's start, of entering ACQUIRE and of entering VERIFY (R243); and whether the fault of its port
returned it to SEEK, where it still is (R257). -/
structure LaneSt where
  at_ : Nat := 0
  acqAt : Nat := 0
  verAt : Nat := 0
  fell : Bool := false
deriving DecidableEq, Repr

/-- A frame that waits in a port's transmit queue: the flow whose uplink sections it carries (none: another message), its addresses and tag
(0: untagged), its Ethernet payload, for uplink sections the instant by which it must have left (R281), and whether its last six bytes take the
timestamp of its egress (R36, R283). -/
structure TxFrame where
  flow : Option Nat
  src : Nat
  dst : Nat
  tci : Nat
  payload : List Nat
  due : Nat
  stamp : Bool := false
deriving DecidableEq, Repr

/-- An expansion buffer of 256 blocks (R253): the payload of the frame that passes it, and from which instant until which. -/
structure ExpbSt where
  frame : List Nat := []
  from_ : Nat := 0
  till : Nat := 0
deriving DecidableEq, Repr

/-- Chapter 10: ports and traffic (R247 to R261). -/
structure LinkSt where
  lanes : List (Nat × LaneSt) := []
  /-- instant at which a port entered its state, by port -/
  portAt : List (Nat × Nat) := []
  /-- ports that carry the formed flows, bit p; none while Unformed -/
  carry : Option Nat := none
  /-- the timing port has been chosen (R37), and the instant it was -/
  timed : Bool := false
  timedAt : Nat := 0
  /-- the port that a running failover moves to (R258) -/
  moveTo : Option Nat := none
  /-- start of the running return hold, and the boundary of a return that is due (R260) -/
  holdAt : Option Nat := none
  failbackAt : Option Nat := none
  /-- layers dropped by the throttle, by 2c + d (R372) -/
  drop : List (Nat × Nat) := []
  /-- transmit queues of ports A and B, oldest first -/
  txqA : List TxFrame := []
  txqB : List TxFrame := []
  /-- the expansion buffers, 2p receiving, 2p + 1 transmitting (R253) -/
  expb : List (Nat × ExpbSt) := []
  /-- uncorrectable codewords of a port, newest first, as instant and number (R257) -/
  fec : List (Nat × List (Nat × Nat)) := []
deriving DecidableEq, Repr

/-- A downlink section accepted for a later symbol (R277, R278): flow, layer, blocks, beam, data, and its symbol. -/
structure Section_ where
  flow : Nat
  carrier : Nat
  frame : Nat
  slot : Nat
  sym : Nat
  layer : Nat
  start : Nat
  n : Nat
  beam : Nat
  data : List Nat
  /-- pairs of its samples that are zero because their word was poisoned (R336) -/
  holes : List Nat
deriving DecidableEq, Repr

/-- An accepted uplink plan (R280). -/
structure Plan where
  flow : Nat
  frame : Nat
  slot : Nat
  sym : Nat
  syms : Nat
  start : Nat
  n : Nat
  beams : List Nat
  ends : Int
deriving DecidableEq, Repr

/-- A capability result that has been sent and takes effect at a frame boundary (R293): versions of families 0x40 to 0x44 as
major and minor, the frame, the instant, and whether the offer was accepted. -/
structure CapsResult where
  vers : List (Nat × Nat)
  frame : Nat
  at_ : Nat
  ok : Bool
deriving DecidableEq, Repr

/-- A management request that is not answered yet (R287): its port, the address and tag it came with, its own tag and whether it writes; the
bytes of the items that are done, the offset of the one whose write is held, and the offsets and values of the others. -/
structure MgmtReq where
  port : Nat
  dst : Nat
  tci : Nat
  tag : List Nat
  count : Nat
  write : Bool
  done : List Nat := []
  held : Option Nat := none
  items : List (Nat × Nat)
deriving DecidableEq, Repr

/-- Chapter 11: the Xantaka protocol. -/
structure XkSt where
  /-- next sequence number sent, and one more than the last received, by 65,536 * (256 * port + family) + stream (R267) -/
  seqTx : List (Nat × Nat) := []
  seqRx : List (Nat × Nat) := []
  /-- source address and tag of the last accepted heartbeat-family frame, by port (R265) -/
  peer : List (Nat × (Nat × Nat)) := []
  sections : List Section_ := []
  plans : List Plan := []
  /-- the distributed unit's last offer: family, major, highest minor (R290) -/
  offer : Option (List (Nat × Nat × Nat)) := none
  result : Option CapsResult := none
  /-- instant of the last sign of life, or of the first port UP (R289) -/
  lifeAt : Nat := 0
  hbCount : Nat := 0
  /-- changes of time quality or permission that no time report has told yet (R284) -/
  owed : Nat := 0
  /-- management requests that wait for a governed write that the ledger holds, oldest first (R286, R287, R419) -/
  mgmt : List MgmtReq := []
deriving DecidableEq, Repr

/-- A key slot of OTP (R304, R326): the SHA-256 of its public key, how many of its words are programmed, its valid and
revoke bits. -/
structure KeySlot where
  words : Nat := 0
  valid : Bool := false
  revoked : Bool := false
  hash : List Nat := List.replicate 32 0
deriving DecidableEq, Repr

/-- One-time programmable contents that the device reads (R265, R288, R306, R325, R328, R332): device identifier, port A's
address, the fuse map's spare rows as bank, row and spare index, key slots, svn_min, opened attestation blocks, I and T[1] of the top
tree's public key, and the anchorage outputs' values by output (R379). -/
structure OtpSt where
  devId : List Nat := List.replicate 16 0
  mac : Nat := 0
  /-- the Subsystem ID, 0 when unprogrammed (R434) -/
  subsystem : Nat := 0
  fuseRows : List (Nat × Nat × Nat) := []
  slots : List (Nat × KeySlot) := []
  svnMin : Nat := 0
  blocks : Nat := 0
  hssKey : List Nat := List.replicate 48 0
  anch : List (Nat × Nat) := []
  /-- the thermal sensors' trims (R366) -/
  sens : List (Nat × Nat) := []
  /-- paths disabled in OTP, bit n (R77) -/
  fused : Nat := 0
  /-- factory trim words, by 8 * path + word (R221) -/
  trims : List (Nat × Nat) := []
  /-- not of OTP: what firmware knows through every reset, the settings versions whose migration is unfinished (R323, log entry 29) -/
  unmigrated : List Nat := []
deriving DecidableEq, Repr

/-- A part of a manifest (R308). -/
structure ManPart where
  ty : Nat
  index : Nat
  len : Nat
  ver : Nat
  hash : List Nat
deriving DecidableEq, Repr

/-- What the keystone keeps of a manifest that verified (R307 to R312). -/
structure ManInfo where
  release : Nat := 0
  svn : Nat := 0
  settingsVer : Nat := 0
  commitSvn : Bool := false
  seq : Nat := 0
  parts : List ManPart := []
  vendorBy : Nat := 0
  manifestBy : Nat := 0
  hash : List Nat := List.replicate 32 0
deriving DecidableEq, Repr

/-- Chapter 12: the keystone. -/
structure KeySt where
  /-- destinations of the matched offer, as offset and length (R302) -/
  matched : List (Nat × Nat) := []
  /-- the active manifest and the pending one, as verified in STORE or at a close -/
  active : Option ManInfo := none
  pending : Option ManInfo := none
  /-- instant of the release of RESET_N, and the start cause of R416 -/
  bootAt : Nat := 0
  cause : Nat := 0
  /-- the staging buffer, its session's last operation, and the manifest being committed (R314 to R316) -/
  buf : List (Nat × Nat) := []
  opAt : Nat := 0
  /-- release of the manifest that was pending before the one being committed -/
  oldRel : Nat := 0
  /-- the attached store did not answer in STORE (R451) -/
  storeAbsent : Bool := false
  committing : Option ManInfo := none
  /-- destinations of the images fetched for the manifest being activated (R318) -/
  actDst : List (Nat × Nat) := []
  /-- OTP operation in progress: 1 PROG_SLOT, 2 REVOKE, and the slot; 3 the svn advance, and the svn (R325); and the reason if the programming
  window was left since it began (R324) -/
  otpOp : Option (Nat × Nat) := none
  otpLeft : Nat := 0
  /-- slots revoked since this start (R326) -/
  revokedNow : List Nat := []
  /-- firmware stopped on a poisoned word (R337) -/
  fwStopped : Bool := false
  /-- attestation: the number that names this boot's bottom tree, a report in progress, and the report window (R328, R329) -/
  tree : Nat := 0
  building : Option (List Nat) := none
  report : List (Nat × Nat) := []
  /-- the svn that the active manifest will commit at the first Ready (R306) -/
  svnDue : Bool := false
deriving DecidableEq, Repr

/-- Chapter 09: one path's calibration (R220 to R233); kind k is bit k - 1 of a mask. -/
structure CalPath where
  due : Nat := 0
  /-- kinds with a pending result -/
  pend : Nat := 0
  /-- kinds with a successful run since the trims were loaded -/
  done : Nat := 0
  /-- bay temperature at which a kind's result in force, and its pending one, was measured, in 1/40 °C -/
  temps : List (Nat × Option Int) := []
  ptemps : List (Nat × Option Int) := []
  /-- the trim words that wait to come into force, by kind, as they were judged (R232) -/
  pvals : List (Nat × Nat) := []
  /-- response magnitude at the last successful run of an array kind, 0.025 dB (R224) -/
  mags : List (Nat × Option Int) := []
  /-- kinds that reached three failures and have no later result in force (R230) -/
  stale : Nat := 0
  /-- one more than the instant of a kind's last failure (R233) -/
  failAt : List (Nat × Nat) := []
  /-- instant of the last correction -/
  lastAt : Nat := 0
deriving DecidableEq, Repr

/-- A run whose result is awaited (R232): kind, paths and kinds, mode, lead bay and temperature. -/
structure CalAwait where
  kind : Nat
  pairs : List (Nat × Nat)
  host : Bool
  lead : Nat
  temp : Nat
  /-- a common precondition failed (R228): the band-gap disagreed, or the temperature moved by 1 °C -/
  bad : Bool
  /-- the air time of its entry, and the instant its occupancy ended -/
  frame : Nat
  tick : Nat
  since : Nat
  /-- the truss engine that computes the result (R226) -/
  eng : Option Nat
deriving DecidableEq, Repr

/-- A bay's calibration: the awaited results, oldest first, a pending SYNTH result (gain code and band), and its record (R236): due, and one
more than the instant of the last write. -/
structure CalBay where
  awaits : List CalAwait := []
  syn : Option (Nat × Nat) := none
  recDue : Bool := false
  recAt : Nat := 0
deriving DecidableEq, Repr

/-- Chapter 09: array calibration. -/
structure CalSt where
  paths : List (Nat × CalPath) := []
  bays : List (Nat × CalBay) := []
  /-- piers whose band-gap disagrees with the deck's (R235) -/
  gap : Nat := 0
deriving DecidableEq, Repr
/-- A channel's limit (R364): consecutive conversions outside, and inside since a trip. -/
structure HkLim where
  bad : Nat := 0
  good : Nat := 0
deriving DecidableEq, Repr

/-- A check job (R382, R383) with the parameters it started with. -/
structure CkJob where
  width : Nat
  poly : Nat
  init : Nat
  xorOut : Nat
  refin : Bool
  refout : Bool
  src : Nat
  len : Nat
  notify : Bool
deriving DecidableEq, Repr

/-- A throttle step that waits for its boundary (R372): instant, applied or undone, kind and unit. -/
structure ThrStep where
  due : Nat
  apply : Bool
  kind : Nat
  unit : Nat
deriving DecidableEq, Repr

/-- What a stay or anchorage output drives (R378). -/
inductive StayOut where
  | highZ
  /-- a word: gain in bit 16, code in bits 15:0 -/
  | word (w : Nat)
deriving DecidableEq, Repr

/-- Chapter 14: housekeeping. -/
structure HkSt where
  /-- the next channel, and the channel of an urgent request that waits -/
  next : Nat := 0
  urgent : Option Nat := none
  lims : List (Nat × HkLim) := []
  /-- system calibration (R362): the group, its flags, the step being measured (1 ZERO, 2 FULL), the sums of 64 raw codes of
  its eight channels, and fs -/
  calGroup : Option Nat := none
  measuring : Nat := 0
  zero : Option (List Nat) := none
  full : Option (List Nat) := none
  fs : Nat := 0
  /-- sum and number of the raw codes taken by channel: of the group being measured (R362), and of the sensors since the last round (R366) -/
  acc : List (Nat × (Nat × Nat)) := []
  /-- consecutive deviating rounds by sensor (R367), and dies below 6 trusted sensors (R368) -/
  devRun : List (Nat × Nat) := []
  few : Nat := 0
  /-- the throttle runs host-assisted: the therm_mode that governs since its last update (R25, R373) -/
  therm : Bool := false
  /-- throttle: rounds since the schedule started (none: stopped), steps of the hardware loop or of the backstop, its cap
  reduction, and whether E061 was raised (R371, R374) -/
  sched : Option Nat := none
  loopSteps : Nat := 0
  capRed : Nat := 0
  spent : Bool := false
  /-- steps that wait for their boundary, throttle attenuation by bay, and bays off (R372) -/
  waiting : List ThrStep := []
  att : List (Nat × Nat) := []
  bayOff : Nat := 0
  /-- the instant at which a shutdown ramp ends (R375); fixed trip or thermal shutdown holds the outputs (R378 row 4) -/
  ramp : Option Nat := none
  safeOut : Bool := false
  /-- an entry to Dormant or Off holds the outputs at 0 V (R378 row 3) -/
  zeroOut : Bool := false
  /-- HK_STAYn written since RESET_N, a wake or the return of VDDA_3V3 -/
  written : Nat := 0
  /-- levels driven since the last update: outputs 0 to 63 STAY, 64 to 71 ANCH -/
  drive : List (Nat × StayOut) := []
  jobs : List (Nat × CkJob) := []
  /-- units whose next alive value is accepted whatever it is are those not listed (R384) -/
  aliveSeen : Nat := 0
deriving DecidableEq, Repr
/-- An entry to a power state (R392): target, the state left, the instant it takes effect, and whether its domains have
switched. -/
structure PwrEntry where
  target : Nat
  from_ : Nat
  at_ : Nat
  committed : Bool
deriving DecidableEq, Repr

/-- An AVSBus command to a rail select: the write and commit of a target in mV, or a read of the voltage or of the status (R404). -/
inductive AvsCmd where
  | target (rail mv : Nat)
  | voltage (rail : Nat)
  | status (rail : Nat)
deriving DecidableEq, Repr

/-- Chapter 15: power states and the deck voltage loop. -/
structure PwrSt where
  entry : Option PwrEntry := none
  /-- the piers are powered down within Ready or Active's state code: after a commit point or a ramp -/
  piersOff : Bool := false
  /-- a wake source that arrived during an entry, and the source of a wake that has started: 1 WAKE_N, 2 TIMER -/
  wakeSeen : Nat := 0
  waking : Nat := 0
  /-- instant at which the counters stopped, and whether the RC oscillator counted during the sleep (R45, R46) -/
  sleepAt : Nat := 0
  rcSlept : Bool := false
  /-- samples in a row above m_high, above m_low, and below m_crit at the limit; mismatching readings in a row (R405 to R407) -/
  high : Nat := 0
  calm : Nat := 0
  crit : Nat := 0
  mism : Nat := 0
  /-- the target last commanded over AVSBus, which is in force; a target that the host wrote has not been sent yet, or AVSBus failed on it;
  the voltage could not be read back; and the commands of the last exchange (R404, R405, R407) -/
  sent : Nat := 800
  unsent : Bool := false
  reread : Bool := false
  /-- the last read of the status failed (R407) -/
  restat : Bool := false
  bus : List AvsCmd := []
deriving DecidableEq, Repr
/-- The instruction of the JTAG port (R470). -/
inductive Jtag where
  | bypass | samplePreload | extest | extestPulse | extestTrain
deriving DecidableEq, Repr

/-- The pins whose states R463 lists, but for the stay and anchorage outputs: a port of 64 or of 8, a select output of a bay, a lane, and those
there is one of. -/
inductive Pin where
  | txp (n : Nat) | rxp (n : Nat) | orxp (b : Nat) | calp | orxs (k b : Nat) | lane (l : Nat) | pcie | ppsOut | alignOut | evtN | faultN
  | qspiCs | svcIo (k : Nat) | avsClk | avsMdata | tdo | wakeN
deriving DecidableEq, Repr

/-- What a pin does (R463): no drive, with a pull or without; released by an open drain; a driver that is off; a driven level; a signal that its
own interface gives; an input that is terminated or not. -/
inductive PinLevel where
  | highZ | pullDown | pullUp | released | off | low | high | signal | terminated | unterminated
deriving DecidableEq, Repr

/-- Chapter 18: supplies and pins. -/
structure ElSt where
  /-- VAON in range and the always-on reset released -/
  vaon : Bool := true
  resetN : Bool := true
  pwrOk : Bool := true
  vdda : Bool := true
  /-- instant at which VDDA_3V3 was valid and the always-on reset released (R378) -/
  stayAt : Nat := 0
  clrN : Bool := true
  /-- comparators tripped now, and the instant the last one released (R376) -/
  trips : Nat := 0
  tripHold : Option Nat := none
  /-- Requested Off: left by power-on or RESET_N (R403) -/
  offHeld : Bool := false
  /-- the instant from which the device pulls WAKE_N low, and that of the last rise of PWR_OK (R462) -/
  wakeDriven : Option Nat := none
  okAt : Nat := 0
  /-- the JTAG port's instruction, its bypass bit, and what the cells of the boundary-scan chain hold (R470) -/
  jtag : Jtag := .bypass
  bypassBit : Bool := false
  scan : List (Pin × PinLevel) := []
deriving DecidableEq, Repr

/-- A request received at the service port (R445). -/
structure SvcReq where
  ty : Nat
  tag : Nat
  payload : List Nat
deriving DecidableEq, Repr

/-- Chapter 17: the service port. -/
structure SvcSt where
  req : Option SvcReq := none
  /-- the response frame that waits, and what the last transaction sent -/
  resp : Option (List Nat) := none
  sent : List Nat := []
  err : Bool := false
deriving DecidableEq, Repr
/-- An address generator (R201). -/
structure AgSt where
  base : Nat := 0
  /-- 0 means 65,536 -/
  len : Nat := 0
  ptr : Nat := 0
  off : Int := 0
  circ : Bool := false
deriving DecidableEq, Repr

/-- A change of an address generator that waits for the end of its bundle (R202). -/
inductive AgChange where
  | set (g : Nat) (f : AgField) (v : Int)
  | add (g : Nat) (v : Int)
deriving DecidableEq, Repr

/-- A hardware loop that runs (R203 to R205): 0 LOOP, 1 LOOP.R, 2 LOOPM; its count, stages and pass, its first
bundle and the one after its end. -/
structure LoopFr where
  kind : Nat
  n : Nat
  stages : Nat
  pass : Nat
  start : Nat
  after : Nat
deriving DecidableEq, Repr

/-- The running job of an engine (R209): descriptor, start, the directory's trap bit, and how the program ended, if it has. -/
structure RunJob where
  desc : Nat
  start : Nat
  trap : Bool
  ended : Option Nat
deriving DecidableEq, Repr

/-- A physical truss engine (R194 to R205). -/
structure EngSt where
  /-- words of the physical vector registers, by 32 * register + lane -/
  v : List (Nat × Nat) := []
  /-- accumulators, by 32 * index + lane -/
  a : List (Nat × (Int × Int)) := []
  /-- components that hold their limit, by 64 * index + 2 * lane + component, and accumulators whose sum has saturated -/
  limit : List Nat := []
  sat : Nat := 0
  s : List (Nat × Nat) := []
  bx : Nat := 15
  ag : List (Nat × AgSt) := []
  rrsize : Nat := 64
  rrb : Nat := 0
  loops : List LoopFr := []
  calls : List Nat := []
  pc : Nat := 0
  /-- local memory, by word -/
  lm : List (Nat × Nat) := []
  /-- descriptors queued behind the running job, oldest first -/
  queue : List Nat := []
  run : Option RunJob := none
  /-- completions written, and the state held before Rest -/
  seq : Nat := 0
  before : Nat := 0
  /-- the assignment that a job keeps until it ends, when a commit changed it (R192) -/
  old : Option (List Nat) := none
  /-- the accesses of the bundle, X 0, Y 1, K 2 and the store 3, with the quarters of local memory of each (R195) -/
  quarters : List (Nat × Nat) := []
  /-- program memory, by byte from bundle 0 (R193) -/
  pm : List Nat := []
  /-- bundles that the job has issued and cycles it has stalled, and the one from which a loaded register is ready (R194) -/
  cyc : Nat := 0
  ready : List (Nat × Nat) := []
  /-- what the open bundle leaves to its end: loads as physical register and words (R194), changes of generators (R202), the stop of a
  job by ovf_trap (R197) -/
  loads : List (Nat × List Nat) := []
  ags : List AgChange := []
  trap : Bool := false
  /-- reinstated, and serving no logical number until a commit (R217) -/
  spared : Bool := false
deriving DecidableEq, Repr

/-- A migration that is due (R214): the logical number, its instant, and the jobs that pass to the spare. -/
structure Mig where
  logical : Nat
  spare : Nat
  due : Nat
  jobs : List Nat
deriving DecidableEq, Repr

/-- Chapter 08: the truss engines. -/
structure TrussSt where
  eng : List (Nat × EngSt) := []
  /-- job descriptor words, by 16 * descriptor + word -/
  desc : List (Nat × Nat) := []
  dir : List TrussProg := []
  mig : List Mig := []
  /-- engines being reinstated, bit e -/
  reinst : Nat := 0
deriving DecidableEq, Repr

/-- The memories (R332, R451): deck SRAM bytes (unlisted: 0), its poisoned code words by index, the number of flipped
bits not yet seen in a code word, and the attached store's bytes (unlisted: 0xFF, an erased flash). -/
structure Mem where
  sram : List Host.Cell := []
  poison : List (Nat × Bool) := []
  flips : List (Nat × Nat) := []
  store : List Host.Cell := []
deriving DecidableEq, Repr

/-- What an unlisted byte of deck SRAM reads as: the ROM stage initialises it to 0 (R334). -/
def sramDefault : BitVec 8 := 0

/-- What an unlisted byte of the attached store reads as: an erased flash byte (DESIGN CHOICE, log entry 8). -/
def storeDefault : BitVec 8 := 0xFF

/-- The canonical form of the four memories. -/
def Mem.wf (m : Mem) : Bool :=
  smWf sramDefault m.sram && smWf false m.poison && smWf 0 m.flips && smWf storeDefault m.store

/-- A sample: a native word of I and of Q, and its valid flag (R19, R119). -/
structure Smp where
  re : Int := 0
  im : Int := 0
  ok : Bool := false
deriving DecidableEq, Repr

/-- The contents of a rate-changing or equalising stage (R119, R127): its latest inputs, newest first, and the numbers of the next
input and output sample. -/
structure FirSt where
  hist : List Smp := []
  i : Nat := 0
  o : Nat := 0
deriving DecidableEq, Repr

/-- Samples that an element has delivered: the latest, newest first, and the number of the next. -/
structure Buf where
  xs : List Smp := []
  n : Nat := 0
deriving DecidableEq, Repr

/-- A carrier's part of an uplink chain on the deck (R119): its stages, and what it has delivered, which the arch may still take. -/
structure CarSig where
  fs : List FirSt := []
  out : Buf := {}
deriving DecidableEq, Repr

/-- The samples of a path's chains (R119). Downlink: what has crossed to the pier, what TX stages 0 and 1 and the rail weights have
delivered, and the codes that the DACs took last. Uplink: the RX stages, the DC estimate in 2^-24 of a step (R110), and the carriers'
part. DESIGN CHOICE (log entry 61): the saturation state that R133 names is one bit, set by a sample of the combiner that saturates; the
splitter only copies. -/
structure PathSig where
  cc : Buf := {}
  s0 : Buf := {}
  s1 : Buf := {}
  xs : Buf := {}
  dac : Int × Int := (0, 0)
  ccSat : Bool := false
  rx : List FirSt := []
  dc : Int × Int := (0, 0)
  ul : List (Nat × CarSig) := []
deriving DecidableEq, Repr

/-- A symbol that an arch delivers (R177, R179): the instant it starts at, and its samples, prefix first. -/
structure DlSym where
  at_ : Int
  x : List (Int × Int)
deriving DecidableEq, Repr

/-- The samples that a running capture has taken, newest first (R153): of its path, and of each neighbour; and whether one was invalid. -/
structure CapSig where
  x : List Nat := []
  u : List (List Nat) := []
  bad : Bool := false
deriving DecidableEq, Repr

/-- The sample path: the chains by path; symbols for the carrier stages by 64 * carrier + path; lost transfers, as crossing (p down, 4 + p
up) and instant (R17); captures by bay; the instant up to which samples have passed, and the offset of the tick that numbered them (log
entry 61). -/
structure SigSt where
  paths : List (Nat × PathSig) := []
  dl : List (Nat × List DlSym) := []
  lost : List (Nat × Nat) := []
  caps : List (Nat × CapSig) := []
  at_ : Nat := 0
  off : Nat := 0
deriving DecidableEq, Repr

/-- Everything of the block but its memories. -/
structure Dev where
  /-- register fields, by offset and low bit; unlisted: the field's reset value -/
  regs : List (Nat × Nat) := []
  /-- air ticks since the model's start: the model's own clock -/
  now : Nat := 0
  /-- the next argument of the free values: the model's own counter -/
  draws : Nat := 0
  t : TimeSt := {}
  tt : List (Nat × TtEntry) := []
  ev : EvSt := {}
  ldg : LedgerSt := {}
  host : HostSt := {}
  seals : SealSt := {}
  span : SpanSt := {}
  bays : List (Nat × BaySt) := []
  /-- chains, by 2n for TX path n and 2n + 1 for RX path n -/
  chains : List (Nat × ChainSt) := []
  /-- gains stored for a direction that is not active, by 2n and 2n + 1 (R112) -/
  gainStored : List (Nat × Nat) := []
  /-- values in force of the fields whose writes are deferred, by field; unlisted: the reset value -/
  inForce : List (Nat × Nat) := []
  deferred : List Deferred := []
  obs : List (Nat × ObsSt) := []
  dpd : List (Nat × DpdSt) := []
  /-- the basis image of the manifest in force, by byte (R145) -/
  basis : List (Nat × Nat) := []
  mp : MemProtSt := {}
  gir : GirderSt := {}
  dma : DmaSt := {}
  link : LinkSt := {}
  xk : XkSt := {}
  otp : OtpSt := {}
  key : KeySt := {}
  cal : CalSt := {}
  hk : HkSt := {}
  ps : PwrSt := {}
  el : ElSt := {}
  svc : SvcSt := {}
  tr : TrussSt := {}
  sig : SigSt := {}
deriving DecidableEq, Repr

/-- The block: the device and its memories. -/
structure Blk where
  dev : Dev := {}
  mem : Mem := {}
deriving DecidableEq, Repr

/-- The machine: the block and the commands that wait, first in, first out. -/
structure State where
  blk : Blk := {}
  pending : List Instr := []
deriving DecidableEq, Repr

/-- The device right after a reset with RESET_N and PWR_OK high: the boot ROM runs (R296), every register at the value
of its table. -/
def Dev.reset : Dev := {}

/-- The machine right after reset: the device so, memories with nothing listed, no command waiting. -/
def State.reset : State := { blk := { dev := Dev.reset, mem := {} }, pending := [] }

end Sys2Proof.Machine
end

