-- ==== Sys2Proof/Machine/Ops.lean ====
section
/-!
DEFINITION. The named operations over registers, memories and the clock. Everything else reads and writes the state
through these.
-/
namespace Sys2Proof.Machine

/-- The value a register field holds: its own bits of what is stored. -/
def Dev.f (d : Dev) (x : Fld) : Nat := smGet x.rst x.key d.regs % x.size

/-- Store a value in a register field, cut to the field's width. -/
def setF (x : Fld) (v : Nat) (d : Dev) : Dev := { d with regs := smPut x.rst x.key (v % x.size) d.regs }

/-- Store a bit. -/
def setB (x : Fld) (v : Bool) (d : Dev) : Dev := setF x (ofBool v) d

/-- Add to a counter that saturates at the field's largest value. -/
def addF (x : Fld) (n : Nat) (d : Dev) : Dev := setF x (min (d.f x + n) (x.size - 1)) d

/-- Count one, saturating. -/
def incF (x : Fld) (d : Dev) : Dev := addF x 1 d

/-- Put a field back to its reset value (R10). -/
def rstF (x : Fld) (d : Dev) : Dev := setF x x.rst d

/-- Set bit i of a field. -/
def setBitF (x : Fld) (i : Nat) (d : Dev) : Dev := setF x (d.f x ||| 1 <<< i) d

/-- Clear bit i of a field. -/
def clrBitF (x : Fld) (i : Nat) (d : Dev) : Dev := if (d.f x).testBit i then setF x (d.f x - 2 ^ i) d else d

/-- Bit i of a field. -/
def Dev.fb (d : Dev) (x : Fld) (i : Nat) : Bool := (d.f x).testBit i

/-- Is a one-bit field 1? -/
def Dev.on (d : Dev) (x : Fld) : Bool := d.f x == 1

/-- Do g when c holds. -/
def onlyIf (c : Bool) (g : Dev → Dev) (d : Dev) : Dev := if c then g d else d

/-- Do g for every element of a list, in order. -/
def forAll {α : Type} (l : List α) (g : α → Dev → Dev) (d : Dev) : Dev := l.foldl (fun d a => g a d) d

/-- Take the next argument for a free value. -/
def draw (d : Dev) : Dev := { d with draws := d.draws + 1 }

/-! ### Register words -/

/-- The class of every event, E000 to E159: 0 Notice, 1 Degrade, 2 Halt, 3 not raised (R11, R64, R428 and the event
tables of the chapters). -/
def eventClasses : List Nat :=
  [0,1,2,1,1,0,1,0,0,1,1,1,0,0,0,3, 0,1,1,0,1,0,2,0,0,0,0,0,1,0,1,1] ++
  [0,0,1,0,2,1,0,0,0,0,2,0,1,0,3,3, 0,1,0,0,1,2,1,0,0,0,0,0,1,1,1,2] ++
  [1,2,1,0,0,1,1,1, 1,2,1,0,0,1,1,1, 1,2,1,0,0,1,1,1, 1,2,1,0,0,1,1,1] ++
  [0,1,1,0,1,0,1,0,0,0,2,1,2,1,0,0, 0,1,2,0,0,0,1,1,1,0,1,0,1,1,0,0] ++
  [0,0,0,0,1,1,1,1,1,3,3,3,3,3,3,3, 0,0,1,0,2,0,0,0,0,0,1,0,1,0,0,3]

/-- The class of event e (R11). -/
def eventClass (e : Nat) : Nat := eventClasses.getD e 3

/-- The MSI-X vector of event e after reset (R425): 0 for a Halt, else its group's. -/
def eventVector (e : Nat) : Nat :=
  if eventClass e = 2 then 0
  else if e < 16 then 1 else if e < 32 then 2 else if e < 48 then 3 else if e < 64 then 4
  else if e < 96 then 5 + (e - 64) / 8
  else if e < 112 then 9 else if e < 128 then 10 else if e < 144 then 11 else 12

/-- The bank that holds a BAR0 offset, if any (R8, R439). -/
def findBank (off : Nat) : Option RegDef := regTable.find? fun r => inBank off r.base r.dims

/-- A field of the bank at an offset. The reset value of DECK_EVT_CFGe.vector is its group's vector (R425). -/
def FieldDef.at (x : FieldDef) (off : Nat) : Fld :=
  ⟨off, x.hi, x.lo, if x.lo = 0 ∧ 0x400 ≤ off ∧ off < 0x680 then eventVector ((off - 0x400) / 4) else x.rst⟩

/-- The stored word of a register: its fields in their places, reserved bits 0 (R8). -/
def Dev.rawWord (d : Dev) (off : Nat) (fs : List FieldDef) : Nat :=
  fs.foldl (fun a x => a + (d.f (x.at off) <<< x.lo)) 0

/-- The governed bits of a register (R413): every bit outside its RWG fields reads 0. -/
def Dev.rwgWord (d : Dev) (off : Nat) (fs : List FieldDef) : Nat :=
  d.rawWord off (fs.filter fun x => x.acc == .rwg)

/-- Does the register have a governed field (R413)? -/
def isGoverned (fs : List FieldDef) : Bool := fs.any fun x => x.acc == .rwg

/-! ### The clock -/

/-- Air ticks in a frame, a slot of the 30 kHz grid and half a subframe (R5). -/
def frameTicks : Nat := 9830400
def halfTicks : Nat := 491520

/-- Lead that the device needs before a scheduled action: 2.000 us rounded up, in air ticks (R51). -/
def leadTicks : Nat := 1967

/-- A time in microseconds as air ticks, rounded up (R18). -/
def usTicks (us : Nat) : Nat := (us * 98304 + 99) / 100

/-- Let n air ticks pass: network time gains 3,125/3,072 ns for each (R28); both counters stand still in Dormant (R45). -/
def passTicks (n : Nat) (d : Dev) : Dev :=
  if d.t.stopped then { d with now := d.now + n }
  else
    let q := (d.t.tick + n) / frameTicks
    { d with
      now := d.now + n
      t := { d.t with
        ntU := d.t.ntU + 3125 * n
        tick := (d.t.tick + n) % frameTicks
        frame := (d.t.frame + q) % 1024
        fis := (d.t.fis + q) % 100 } }

/-- Let time pass up to an instant; an instant already past changes nothing. -/
def passTo (t : Nat) (d : Dev) : Dev := if d.now < t then passTicks (t - d.now) d else d

/-- TL_NT: network time in ns modulo 2^32 (R28). -/
def Dev.nt (d : Dev) : Nat := d.t.ntU / 3072 % 0x100000000

/-- The instant of the next frame boundary after now. -/
def Dev.nextFrame (d : Dev) : Nat := d.now + (frameTicks - d.t.tick)

/-- The next symbol boundary at or after position x of the frame, on the 15 kHz or the 30 kHz grid (R5): the first symbol
of each half subframe is the long one. -/
def symCeil (scs15 : Bool) (x : Nat) : Nat :=
  let long := if scs15 then 70656 else 35584
  let len := if scs15 then 70144 else 35072
  let h := x / halfTicks
  let y := x % halfTicks
  h * halfTicks + (if y = 0 then 0 else if y ≤ long then long else long + (y - long + len - 1) / len * len)

/-- Air ticks in a slot (R5). -/
def slotTicks (scs15 : Bool) : Nat := if scs15 then 2 * halfTicks else halfTicks

/-- The instant of the first symbol boundary of a grid at least lead ticks from now. -/
def Dev.nextSymbol (d : Dev) (scs15 : Bool) (lead : Nat) : Nat :=
  d.now + (symCeil scs15 (d.t.tick + lead) - d.t.tick)

/-- The instant of the first slot boundary of a grid at least lead ticks from now. -/
def Dev.nextSlot (d : Dev) (scs15 : Bool) (lead : Nat) : Nat :=
  let n := slotTicks scs15
  d.now + ((d.t.tick + lead + n - 1) / n * n - d.t.tick)

/-- The instant of the first subframe boundary (1 ms) at least lead ticks from now. -/
def Dev.nextSubframe (d : Dev) (lead : Nat) : Nat :=
  let n := 2 * halfTicks
  d.now + ((d.t.tick + lead + n - 1) / n * n - d.t.tick)

/-! ### Memory -/

/-- A byte of deck SRAM (R332). -/
def Mem.byte (m : Mem) (a : Nat) : Nat := (smGet sramDefault a m.sram).toNat

/-- n bytes of deck SRAM from a. -/
def Mem.bytes (m : Mem) (a : Nat) : Nat → List Nat
  | 0 => []
  | n + 1 => m.byte a :: m.bytes (a + 1) n

/-- The little-endian number in n bytes of deck SRAM. -/
def Mem.rd (m : Mem) (a n : Nat) : Nat := ofLe (m.bytes a n)

/-- Write one byte of deck SRAM. -/
def Mem.putByte (a v : Nat) (m : Mem) : Mem :=
  { m with sram := smPut sramDefault a (BitVec.ofNat 8 v) m.sram }

/-- Write bytes of deck SRAM from a upwards. -/
def Mem.putBytes (a : Nat) (l : List Nat) (m : Mem) : Mem :=
  match l with
  | [] => m
  | b :: r => Mem.putBytes (a + 1) r (m.putByte a b)

/-- Write a little-endian number of n bytes. -/
def Mem.wr (a n v : Nat) (m : Mem) : Mem := m.putBytes a (leBytes n v)

/-- Is the code word that holds address a poisoned (R336)? -/
def Mem.poisoned (m : Mem) (a : Nat) : Bool := smGet false (a / 8) m.poison

/-- Mark or clear the poison of the code word that holds address a (R336, R337). -/
def Mem.setPoison (a : Nat) (v : Bool) (m : Mem) : Mem := { m with poison := smPut false (a / 8) v m.poison }

/-- The number of flipped bits in the code word that holds address a (R335, R336, R343). -/
def Mem.flipped (m : Mem) (a : Nat) : Nat := smGet 0 (a / 8) m.flips

/-- Record the flipped bits of a code word. -/
def Mem.setFlips (a n : Nat) (m : Mem) : Mem := { m with flips := smPut 0 (a / 8) n m.flips }

/-- A whole code word written: its data, poison cleared and no flipped bit left (R337). -/
def Mem.putWord8 (a : Nat) (l : List Nat) (m : Mem) : Mem :=
  ((m.putBytes (a / 8 * 8) (l.take 8)).setPoison a false).setFlips a 0

/-- A byte of the attached store (R451). -/
def Mem.sbyte (m : Mem) (a : Nat) : Nat := (smGet storeDefault a m.store).toNat

/-- n bytes of the attached store from a. -/
def Mem.sbytes (m : Mem) (a : Nat) : Nat → List Nat
  | 0 => []
  | n + 1 => m.sbyte a :: m.sbytes (a + 1) n

/-- Program bytes of the attached store: a bit once 0 stays 0 until the sector is erased (R451). -/
def Mem.program (a : Nat) (l : List Nat) (m : Mem) : Mem :=
  match l with
  | [] => m
  | b :: r =>
    Mem.program (a + 1) r { m with store := smPut storeDefault a (smGet storeDefault a m.store &&& BitVec.ofNat 8 b) m.store }

/-- Erase n bytes of the attached store from a (R451): the sectors a command erases are whole. -/
def Mem.erase (a n : Nat) (m : Mem) : Mem :=
  { m with store := m.store.filter fun c => decide (c.1 < a ∨ a + n ≤ c.1) }

/-! ### The block -/

/-- Act on the device alone. -/
def onDev (g : Dev → Dev) (b : Blk) : Blk := { b with dev := g b.dev }

/-- Act on the memories alone. -/
def onMem (g : Mem → Mem) (b : Blk) : Blk := { b with mem := g b.mem }

/-- Act on the block, leaving the queue of commands. -/
def State.act (g : Blk → Blk) (s : State) : State := { s with blk := g s.blk }

/-- Act on the device, leaving the memories and the queue. -/
def State.actDev (g : Dev → Dev) (s : State) : State := s.act (onDev g)

end Sys2Proof.Machine
end

