-- ==== Sys2Proof/Machine/Flags.lean ====
section
/-!
DEFINITION. Events and their signalling (R424 to R428), and the flags that the summary shows. Each event's class is the
one its chapter's table gives; 3 marks a number that is not raised at this stepping.
-/
namespace Sys2Proof.Machine

/-- DECK_EVT_CFGe.vector: the stored value, or the group's while nothing was written. -/
def vectorFld (e : Nat) : Fld := { DECK_EVT_CFG_vector e with rst := eventVector e }

/-- Is event e pending (R424)? -/
def Dev.evPending (d : Dev) (e : Nat) : Bool := d.fb (DECK_EVT_PEND_pend (e / 32)) (e % 32)

/-- Is an event of class c pending? -/
def Dev.classPending (d : Dev) (c : Nat) : Bool :=
  (List.range 160).any fun e => eventClass e == c && d.evPending e

/-- Is the deck powered and out of reset (R360, R389): not Dormant, not Off, nothing tripped? -/
def Dev.deckUp (d : Dev) : Bool :=
  d.el.vaon && d.el.resetN && d.el.pwrOk && !d.el.offHeld && d.f PWR_STAT_state != 3 && d.el.trips == 0 && d.el.tripHold.isNone

/-- Is EVT_N driven low: an event of class Notice or Degrade pending with pin_en at 1 (R426)? Without a deck it is released (R463). -/
def Dev.evtPin (d : Dev) : Bool :=
  d.deckUp && (List.range 160).any fun e => decide (eventClass e ≤ 1) && d.evPending e && d.on (DECK_EVT_CFG_pin_en e)

/-- Is FAULT_N driven low: a Halt event pending, whatever its pin_en (R426)? Without a deck it is released (R463). -/
def Dev.faultPin (d : Dev) : Bool := d.deckUp && d.classPending 2

/-- May vector v's message leave now (R425, R436)? -/
def Dev.msixOpen (d : Dev) (v : Nat) : Bool :=
  d.host.msixEnable && !d.host.msixFuncMask && !d.host.msixMask.testBit v && d.host.linkUp && !d.host.d3hot

/-- Does vector v owe a message: is an event pending and enabled for it whose bit rose without one (R425)? -/
def Dev.vectorOwes (d : Dev) (v : Nat) : Bool :=
  d.host.unsent.any fun e => d.evPending e && d.on (DECK_EVT_CFG_msi_en e) && d.f (vectorFld e) == v

/-- Bit v of the Pending Bit Array (R437): a mask holds the vector's message back. -/
def Dev.pba (d : Dev) (v : Nat) : Bool :=
  d.host.msixEnable && (d.host.msixFuncMask || d.host.msixMask.testBit v) && d.vectorOwes v

/-- The message of vector v leaves. -/
def sendVector (v : Nat) (h : HostSt) : HostSt :=
  { h with
    msixSent := smPut 0 v (smGet 0 v h.msixSent + 1) h.msixSent
    lastMsg := some (smGet 0 (4 * v) h.table + 0x100000000 * smGet 0 (4 * v + 1) h.table, smGet 0 (4 * v + 2) h.table) }

/-- Event e's pending bit rose (R425): its vector's message leaves, or the event is noted as one without a message. -/
def sendEvent (e : Nat) (d : Dev) : Dev :=
  let v := d.f (vectorFld e)
  { d with host :=
      if d.on (DECK_EVT_CFG_msi_en e) && d.msixOpen v then sendVector v { d.host with unsent := delNat e d.host.unsent }
      else { d.host with unsent := insNat e d.host.unsent } }

/-- Unread entries of the event queue (R427). -/
def Dev.evUnread (d : Dev) : Nat := (d.f DECK_EVQ_WR_wr + 256 - d.f DECK_EVQ_RD_rd) % 256

/-- Steps 2 to 4 of R424: count, pending bit, and the message when the bit rises (R425). -/
def countAndSignal (e : Nat) (d : Dev) : Dev :=
  let was := d.evPending e
  let d := d |> incF (DECK_EVT_CFG_count e) |> setBitF (DECK_EVT_PEND_pend (e / 32)) (e % 32)
  if was then d else sendEvent e d

/-- Write event e's queue entry (R427). -/
def queueEvent (e unit cause count : Nat) (d : Dev) : Dev :=
  let wr := d.f DECK_EVQ_WR_wr
  let x : EvEntry :=
    { event := e, cls := eventClass e, flags := ofBool d.ev.dropping, unit := unit % 256, cause := cause % 256
      count := count % 65536, ns := d.nt, frame := d.t.frame, cycle := d.t.tick / 8 }
  { d with ev := { d.ev with queue := smPut {} wr x d.ev.queue, dropping := false } }
    |> setF DECK_EVQ_WR_wr (wr + 1)

/-- Drop an entry (R427): lost counts it, and the first drop of an episode raises E153, whose own entry is dropped too. -/
def dropEvent (d : Dev) : Dev :=
  let d := incF DECK_EVQ_WR_lost d
  if d.ev.dropping then d
  else { d with ev := { d.ev with dropping := true } } |> incF DECK_EVQ_WR_lost |> countAndSignal 153

/-- Raise event e (R424), with the unit, cause and count of its detail (R427), but for what a Halt does elsewhere. -/
def raiseEvent (e unit cause count : Nat) (d : Dev) : Dev :=
  let d := if d.evUnread ≥ 255 then dropEvent d else queueEvent e unit cause count d
  let d := if eventClass e = 2 then { d with ev := { d.ev with haltCount := min (d.ev.haltCount + 1) 65535 } } else d
  countAndSignal e d

/-- The word in force of anchorage output k is its OTP value again (R379). -/
def anchToOtp (k : Nat) (d : Dev) : Dev :=
  let w := smGet 0 k d.otp.anch
  d |> setB (HK_ANCH_override k) false |> setF (HK_ANCH_gain k) (w / 65536) |> setF (HK_ANCH_code k) w

/-- Every anchorage override ends on a fault (R379): each return counts and raises E058. -/
def anchRevert (d : Dev) : Dev :=
  forAll (List.range 8) (fun k d =>
    if d.on (HK_ANCH_override k) then d |> anchToOtp k |> incF HK_STAY_STAT_anch_reverts |> raiseEvent 58 k 0 0 else d) d

/-- Raise event e (R424), with the unit, cause and count of its detail (R427); 0xFF names no unit. A Halt ends every
anchorage override (R379). -/
def raise (e unit cause count : Nat) (d : Dev) : Dev :=
  let d := raiseEvent e unit cause count d
  if eventClass e = 2 then anchRevert d else d

/-- Raise event e with no unit, cause or count. -/
def raise0 (e : Nat) (d : Dev) : Dev := raise e 0xFF 0 0 d

/-- One more than the instant of the last signalled raise under a key; 0 when there was none (R424). -/
def Dev.lastSig (d : Dev) (key : Nat) : Nat := smGet 0 key d.ev.lastSig

/-- Signal a limited event and open its interval. -/
def raiseOpening (key e unit cause count : Nat) (d : Dev) : Dev :=
  { d with ev := { d.ev with lastSig := smPut 0 key (d.now + 1) d.ev.lastSig } } |> raise e unit cause count

/-- Raise a limited event (R424): signalled when no signalled raise under the same key lies within `len` ticks before,
else only counted. The key is the event, or names a unit beside it where the rule limits it per unit. -/
def raiseLimited (len key e unit cause count : Nat) (d : Dev) : Dev :=
  if d.lastSig key ≠ 0 ∧ d.now + 1 < d.lastSig key + len then incF (DECK_EVT_CFG_count e) d
  else raiseOpening key e unit cause count d

/-- Raise an event that is limited to once a slot of the air timeline (R424). -/
def raiseSlot (key e unit cause count : Nat) (d : Dev) : Dev :=
  if d.lastSig key ≠ 0 ∧ d.now < d.lastSig key + d.t.tick % halfTicks then incF (DECK_EVT_CFG_count e) d
  else raiseOpening key e unit cause count d

/-- Air ticks in a second (R18). -/
def secTicks : Nat := 983040000

/-- Raise an event that is limited to once a second. -/
def raiseSec (key e unit cause count : Nat) (d : Dev) : Dev := raiseLimited secTicks key e unit cause count d

/-- Clear pending bits of word w (R424): W1C; a message held for a cleared bit is not sent (R425). -/
def clearPending (w v : Nat) (d : Dev) : Dev :=
  setF (DECK_EVT_PEND_pend w) (d.f (DECK_EVT_PEND_pend w) - (d.f (DECK_EVT_PEND_pend w) &&& v)) d

/-- Every vector that could send nothing before and can now sends the message that it owes (R425). -/
def flushVectors (was : Dev) (d : Dev) : Dev :=
  forAll (List.range 32) (fun v d =>
    if !was.msixOpen v && d.msixOpen v && d.vectorOwes v then
      { d with host := sendVector v { d.host with
          unsent := d.host.unsent.filter fun e => !(d.evPending e && d.on (DECK_EVT_CFG_msi_en e) && d.f (vectorFld e) == v) } }
    else d) d

/-- A register field that raising an event leaves alone: outside the event block, the anchorage words and their count. -/
abbrev evFree (x : Fld) : Prop :=
  x.lo < 32 ∧ (x.off < 0x110 ∨ 0x680 ≤ x.off) ∧ (x.off < 0x801200 ∨ 0x801220 ≤ x.off) ∧ x.off ≠ 0x801288

end Sys2Proof.Machine
end

