-- ==== Sys2Proof/Machine/Ledger.lean ====
section
/-!
DEFINITION. The audit ledger's side of every other block: the input queue, WRITE records and the seal epoch (R410 to
R419, R87). The rows of the ledger itself are in Governance.lean.
-/
namespace Sys2Proof.Machine

/-- The origin codes of R412. -/
def originCode : Origin → Nat
  | .none => 0 | .host => 1 | .link => 2 | .service => 3 | .firmware => 4 | .loop => 5 | .keystone => 6

/-- LEDGER_EPOCH as a record holds it (R410): valid bit and epoch. -/
def Dev.ledgerEpoch (d : Dev) : Nat := d.f LEDGER_EPOCH_valid * 0x80000000 + d.f LEDGER_EPOCH_epoch

/-- A happening enters the input queue (R419); while the ledger is closed no record is formed (R393). -/
def ledgerPut (org : Origin) (kind aux addr old new : Nat) (d : Dev) : Dev :=
  if d.ldg.closed then d
  else
    let q : LedgerReq :=
      { ns := d.nt, epoch := d.ledgerEpoch, origin := org, kind := kind, aux := aux % 65536, addr := addr
        old := w32 old, new := w32 new, sealEpoch := d.seals.epoch }
    { d with ldg := { d.ldg with queue := d.ldg.queue ++ [q] } }

/-- The seal epoch advances by 1, modulo 2^32; a recomputation is then pending (R87, R88). -/
def advanceEpoch (d : Dev) : Dev :=
  { d with seals := { d.seals with epoch := (d.seals.epoch + 1) % 0x100000000 } } |> setB DECK_SEAL_STAT_busy true

/-- An accepted write to a governed register takes effect (R413, R87): the epoch advances unless the origin is LOOP, and
a WRITE record holds the governed bits before and after. -/
def governed (org : Origin) (off old new : Nat) (d : Dev) : Dev :=
  if org = .loop then d
  else d |> advanceEpoch |> ledgerPut org 1 0 off old new

/-- The same for a write that a release makes: recorded, but covered by the commit's own advance (R87). -/
def governedInRelease (off old new : Nat) (d : Dev) : Dev := ledgerPut .firmware 1 0 off old new d

/-- Is the ledger's input queue full (R419)? -/
def Dev.ledgerFull (d : Dev) : Bool := decide (d.ldg.queue.length ≥ 32)

/-- Must a governed write wait (R393, R419)? -/
def Dev.ledgerHolds (d : Dev) : Bool := d.ldg.closed || d.ledgerFull

/-- Does a write of the host wait in the ledger's queue of held writes? Its later writes then wait behind it (R419). -/
def Dev.hostWaits (d : Dev) : Bool := d.ldg.held.any fun w => w.org == .host

/-- Hold a governed write, first in, first out (R419). -/
def holdWrite (org : Origin) (off val : Nat) (d : Dev) : Dev :=
  { d with ldg := { d.ldg with held := d.ldg.held ++ [⟨org, off, val⟩] } }

/-- A signed number as 32-bit two's complement. -/
def toTwos32 (v : Int) : Nat := (v % 0x100000000).toNat

/-- The address that an excursion record names (R417). -/
def loopAddr (code unit : Nat) : Nat :=
  match code with
  | 1 => TL_RATE_LO_rate_lo.off
  | 2 => (BAY_DPD_MET_owr (2 * unit) 0).off
  | 3 => (TRIM_ARRAY_phase (2 * unit) 0 0).off
  | 4 => (LINK_LANE_STAT_merit 0).off
  | 5 => PWR_AVS_TARGET_target.off
  | _ => HK_PAR_CAP_cap_red.off

/-- The frame boundary that ends the interval of 100 ms in which the device is now (R417). -/
def Dev.intervalEnd (d : Dev) : Nat := d.now + ((10 - d.t.fis % 10) * frameTicks - d.t.tick)

/-- The interval in which loops acted ends (R417): each writes one record, with the network time of the interval's end, which the clock may have
passed by now. -/
def loopsClose (d : Dev) : Dev :=
  let ns := (d.t.ntU - 3125 * (d.now - d.ldg.loopsEnd)) / 3072 % 0x100000000
  let reqs := d.ldg.loops.map fun a =>
    ({ ns := ns, epoch := d.ledgerEpoch, origin := .loop, kind := 2, aux := a.code, addr := loopAddr a.code a.unit
       old := toTwos32 a.min, new := toTwos32 a.max, sealEpoch := toTwos32 a.last } : LedgerReq)
  { d with ldg := { d.ldg with loops := [], queue := if d.ldg.closed then d.ldg.queue else d.ldg.queue ++ reqs } }

/-- A loop acts in its interval (R417): the running minimum, maximum and last value of its quantity. What acted in an interval that is over has
its records first. -/
def loopAct (code unit : Nat) (v : Int) (d : Dev) : Dev :=
  let d := if !d.ldg.loops.isEmpty ∧ d.ldg.loopsEnd ≤ d.now then loopsClose d else d
  let upd : List LoopAcc → List LoopAcc :=
    fun l =>
      if l.any (fun a => a.code == code && a.unit == unit) then
        l.map fun a => if a.code = code ∧ a.unit = unit then { a with min := min a.min v, max := max a.max v, last := v } else a
      else l ++ [⟨code, unit, v, v, v⟩]
  { d with ldg := { d.ldg with loops := upd d.ldg.loops, loopsEnd := if d.ldg.loops.isEmpty then d.intervalEnd else d.ldg.loopsEnd } }

end Sys2Proof.Machine
end

