-- ==== Sys2Proof/Machine/Structure.lean ====
section
/-!
DEFINITION. What the committed span map says: records by type and unit (R74, R485), active paths, bays, carriers, and the
power state and stage that gate the other blocks.
-/
namespace Sys2Proof.Machine

/-- Byte i of a record's body (R73: the body follows an 8-byte header). -/
def SpanRec.b (r : SpanRec) (i : Nat) : Nat := r.raw.getD (8 + i) 0

/-- n body bytes from i, little-endian (R72). -/
def SpanRec.le (r : SpanRec) (i n : Nat) : Nat := ofLe ((r.raw.drop (8 + i)).take n)

/-- A number of w bits read as two's complement. -/
def signed (w v : Nat) : Int := if v < 2 ^ (w - 1) then (v : Int) else (v : Int) - (2 ^ w : Nat)

/-- The record of a type and unit in an image; an optional record of unknown type is never read as one. -/
def SpanImg.get (m : SpanImg) (ty unit : Nat) : Option SpanRec :=
  m.recs.find? fun r => r.ty == ty && r.unit == unit && !r.opt

/-- The committed image, or an empty one while Unformed (R66). -/
def Dev.map (d : Dev) : SpanImg := d.span.committed.getD {}

/-- Is a span map committed (R66)? -/
def Dev.formed (d : Dev) : Bool := d.span.committed.isSome

/-- TX and RX active masks of pier p, 16 bits each (R485); absent: none. -/
def SpanImg.txMask (m : SpanImg) (p : Nat) : Nat := match m.get 1 p with | some r => r.le 0 2 | none => 0
def SpanImg.rxMask (m : SpanImg) (p : Nat) : Nat := match m.get 1 p with | some r => r.le 2 2 | none => 0

/-- Is TX path n, RX path n active in an image? -/
def SpanImg.txActive (m : SpanImg) (n : Nat) : Bool := (m.txMask (n / 16)).testBit (n % 16)
def SpanImg.rxActive (m : SpanImg) (n : Nat) : Bool := (m.rxMask (n / 16)).testBit (n % 16)

/-- Width of bay b: 0 off, 1 Narrow, 2 Wide (R485). -/
def SpanImg.width (m : SpanImg) (b : Nat) : Nat := match m.get 2 b with | some r => r.b 0 | none => 0

/-- LO frequency of bay b, kHz (R485). -/
def SpanImg.loKhz (m : SpanImg) (b : Nat) : Nat := match m.get 2 b with | some r => r.le 4 4 | none => 0

/-- Is carrier c formed (R485)? -/
def SpanImg.carrier (m : SpanImg) (c : Nat) : Option SpanRec := m.get 5 c

/-- Carriers placed on bay b. -/
def SpanImg.carriersOf (m : SpanImg) (b : Nat) : List Nat :=
  (List.range 6).filter fun c => match m.carrier c with | some r => (r.b 5).testBit b | none => false

/-- Does carrier c run at 15 kHz spacing (R485)? -/
def SpanImg.scs15 (m : SpanImg) (c : Nat) : Bool := match m.carrier c with | some r => r.b 1 == 0 | none => false

/-- The grid of a carrier code: 15 kHz or not; code 7 and absent carriers use the 30 kHz reference grid (R5). -/
def Dev.grid15 (d : Dev) (c : Nat) : Bool := d.map.scs15 c

/-- The grid of a bay's carriers: 15 kHz when one of them runs at 15 kHz, else 30 kHz (R486). -/
def Dev.bayGrid15 (d : Dev) (b : Nat) : Bool := (d.map.carriersOf b).any fun c => d.map.scs15 c

/-- Is bay b formed (R96)? -/
def Dev.bayFormed (d : Dev) (b : Nat) : Bool := d.map.width b != 0

/-- The pier of a bay and of a path, the bay of a path, and its position in it (R3). -/
def pierOf (n : Nat) : Nat := n / 16
def bayOf (n : Nat) : Nat := n / 8
def posOf (n : Nat) : Nat := n % 8
def spanOf (n : Nat) : Nat := n / 32

/-- Is pier p left wholly inactive by the span map (R27)? -/
def SpanImg.pierIdle (m : SpanImg) (p : Nat) : Bool := m.txMask p == 0 && m.rxMask p == 0

/-- Is bay b held in Off: the span map leaves every path of its pier inactive (R27)? -/
def Dev.bayHeldOff (d : Dev) (b : Nat) : Bool := d.map.pierIdle (b / 2)

/-! ### Fields of a timetable entry (R49) -/

def TtEntry.carrier (e : TtEntry) : Nat := bits e.w0 26 24
def TtEntry.tick (e : TtEntry) : Nat := bits e.w0 23 0
def TtEntry.action (e : TtEntry) : Nat := bits e.w1 28 21
def TtEntry.index (e : TtEntry) : Nat := bits e.w1 20 13
def TtEntry.kind (e : TtEntry) : Nat := bits e.w1 12 10
def TtEntry.frame (e : TtEntry) : Nat := bits e.w1 9 0

/-! ### Power state and boot stage -/

/-- The device's power state code (R389): 0 Active, 1 Ready, 2 Rest, 3 Dormant, 4 Off. -/
def Dev.pwr (d : Dev) : Nat := d.f PWR_STAT_state
def Dev.inActive (d : Dev) : Bool := d.pwr == 0
def Dev.inReady (d : Dev) : Bool := d.pwr == 1
def Dev.inRest (d : Dev) : Bool := d.pwr == 2

/-- Piers are powered in Ready and Active (R389, R396), until an entry's commit point or a shutdown powers them down. -/
def Dev.piersUp (d : Dev) : Bool := decide (d.pwr ≤ 1) && !d.ps.piersOff

/-- Does firmware run: the keystone is in RUNNING (R296)? -/
def Dev.running (d : Dev) : Bool := d.f KEY_STATUS_stage == 5

/-- Is transmit permitted (R43)? -/
def Dev.txPermit (d : Dev) : Bool := d.on TL_QUALITY_tx_permit

/-- The internal state of bay b. -/
def Dev.bay (d : Dev) (b : Nat) : BaySt := smGet {} b d.bays

/-- Change the internal state of bay b. -/
def modBay (b : Nat) (g : BaySt → BaySt) (d : Dev) : Dev := { d with bays := smPut {} b (g (d.bay b)) d.bays }

/-- The chain of TX path n (dir 0) or RX path n (dir 1). -/
def Dev.chain (d : Dev) (n dir : Nat) : ChainSt := smGet {} (2 * n + dir) d.chains

def setChain (n dir : Nat) (c : ChainSt) (d : Dev) : Dev := { d with chains := smPut {} (2 * n + dir) c d.chains }

/-- The front-end state of bay b: 0 Off, 1 Standby, 2 Warm, 3 RX, 4 TX, 5 Loopback (R96). -/
def Dev.fe (d : Dev) (b : Nat) : Nat := d.f (BAY_FE_STAT_state b)
def Dev.inTransition (d : Dev) (b : Nat) : Bool := d.on (BAY_FE_STAT_in_transition b)
def Dev.feTarget (d : Dev) (b : Nat) : Nat := d.f (BAY_FE_STAT_target b)

/-- Is bay b in a turnaround (R98)? One from Warm that was turned back to Warm is still one. -/
def Dev.inTurn (d : Dev) (b : Nat) : Bool :=
  d.inTransition b && ((d.bay b).turning || decide (d.fe b ≥ 3) || decide (d.feTarget b ≥ 3))

/-- Is bay b in the lock or phase wait from Standby to Warm (R100)? -/
def Dev.inLockWait (d : Dev) (b : Nat) : Bool := d.inTransition b && d.fe b == 1 && d.feTarget b == 2

/-- Does bay b transmit, receive now (R98)? -/
def Dev.txOn (d : Dev) (b : Nat) : Bool := decide (d.fe b ≥ 4) && !d.inTransition b
def Dev.rxOn (d : Dev) (b : Nat) : Bool := (d.fe b == 3 || d.fe b == 5) && !d.inTransition b

/-- Is bay b in a guard period (R487)? -/
def Dev.inGuard (d : Dev) (b : Nat) : Bool := decide (d.fe b ≤ 2) && !d.inTransition b

/-- Is every bay in Off, Standby or Warm and none in a turnaround (R39)? -/
def Dev.baysStill (d : Dev) : Bool := (List.range 8).all fun b => decide (d.fe b ≤ 2) && !d.inTurn b

/-- Is path n live in a direction: active and not shed (R114)? -/
def Dev.txLive (d : Dev) (n : Nat) : Bool := d.fb (BAY_ACTIVE_tx_live (bayOf n)) (posOf n)
def Dev.rxLive (d : Dev) (n : Nat) : Bool := d.fb (BAY_ACTIVE_rx_live (bayOf n)) (posOf n)

/-- Is pier p held after a failed reload (R90)? -/
def Dev.pierHeld (d : Dev) (p : Nat) : Bool := d.span.heldPiers.testBit p

/-- The value in force of a field whose writes are deferred. -/
def Dev.forced (d : Dev) (x : Fld) : Nat := smGet x.rst x.key d.inForce % x.size

/-- A value comes into force. -/
def setForced (x : Fld) (v : Nat) (d : Dev) : Dev := { d with inForce := smPut x.rst x.key (v % x.size) d.inForce }

/-- The attenuation that TX path n transmits at: the one in force and the throttle's, at most 63 (R372). -/
def Dev.txAttNow (d : Dev) (n : Nat) : Nat :=
  min 63 (d.forced (BAY_GAIN_tx_att (bayOf n) (posOf n)) + smGet 0 (bayOf n) d.hk.att)

/-- Defer an effect to an instant. -/
def deferTo (k : DefKind) (due : Nat) (d : Dev) : Dev := { d with deferred := d.deferred ++ [⟨k, due⟩] }

/-- The first symbol boundary of the reference grid at least 1,967 ticks from now (R99, R112, R138). -/
def Dev.refBoundary (d : Dev) : Nat := d.nextSymbol false leadTicks

/-! ### Air times -/

/-- The start of a symbol in its frame, in air ticks (R5). -/
def symStart (scs15 : Bool) (slot sym : Nat) : Nat :=
  if scs15 then
    slot * 983040 + sym / 7 * halfTicks + (if sym % 7 = 0 then 0 else 70656 + (sym % 7 - 1) * 70144)
  else slot * halfTicks + (if sym = 0 then 0 else 35584 + (sym - 1) * 35072)

/-- The instant at which a frame number begins, placed within 512 frames of the frame now in force (R51). -/
def Dev.frameInstant (d : Dev) (frame : Nat) : Int :=
  let k : Int := ((frame + 1024 - d.t.frame % 1024) % 1024 : Nat)
  let k := if k ≥ 512 then k - 1024 else k
  (d.now : Int) - d.t.tick + k * 9830400

/-- The instant of a symbol on a grid (R51, R170). -/
def Dev.symInstant (d : Dev) (scs15 : Bool) (frame slot sym : Nat) : Int :=
  d.frameInstant frame + symStart scs15 slot sym

/-- Three mean symbol periods of a grid, in air ticks, rounded down (R180). -/
def threeS (scs15 : Bool) : Nat := if scs15 then 210651 else 105325

/-! ### Truss assignments (R189, R190) -/

/-- Byte i of engine e's TRUSS assignment: its record, the default of a format 2.0 image, or nothing. -/
def SpanImg.truss (m : SpanImg) (e i : Nat) : Nat :=
  match m.get 11 e with
  | some r => r.b i
  | none =>
    if m.fmtMinor ≠ 0 then 0
    else if e < 8 then (match i with | 0 => 1 | 6 => 1 <<< e | _ => 0)
    else if e < 12 then (match i with | 0 => 4 | 3 => e - 8 | 5 => 1 | _ => 0)
    else if e < 14 then (if i = 0 then 2 else 0)
    else if e = 14 then (if i = 0 then 8 else 0)
    else if e = 15 then (if i = 1 then 1 else 0)
    else 0

/-- The classes of logical engine e: bit 0 DPD, 1 ACAL, 2 ULW, 3 STATS. -/
def SpanImg.classes (m : SpanImg) (e : Nat) : Nat := m.truss e 0

/-- Is logical engine e a spare? -/
def SpanImg.spare (m : SpanImg) (e : Nat) : Bool := (m.truss e 1).testBit 0

/-- Does logical engine e write dynamic identifier k? -/
def SpanImg.ulwWrites (m : SpanImg) (e k : Nat) : Bool :=
  let base := m.truss e 2 + 256 * m.truss e 3
  let n := m.truss e 4 + 256 * m.truss e 5
  (m.classes e).testBit 2 && decide (base ≤ k ∧ k < base + n)

/-- Lower and upper channel edge of a CARRIER record, relative to its LO, in kHz. -/
def SpanRec.edges (r : SpanRec) : Int × Int :=
  let o := signed 32 (r.le 8 4)
  (o - 500 * (r.b 0 : Int), o + 500 * (r.b 0 : Int))

/-- The channel edges of the carriers on bay b, lowest and highest, relative to its LO, in kHz: its window (R109). -/
def SpanImg.window (m : SpanImg) (b : Nat) : Int × Int :=
  match (m.carriersOf b).filterMap fun c => (m.carrier c).map SpanRec.edges with
  | [] => (0, 0)
  | e :: l => l.foldl (fun a x => (min a.1 x.1, max a.2 x.2)) e

/-! ### Engines and their assignment (R189 to R192, R219) -/

/-- A physical engine. -/
def Dev.eng (d : Dev) (e : Nat) : EngSt := smGet {} e d.tr.eng

/-- The state of physical engine e: 0 UNLOADED, 1 IDLE, 2 RUNNING, 3 SPARE, 4 FAILED, 5 STOPPED, 6 UNUSED. -/
def Dev.engState (d : Dev) (e : Nat) : Nat := d.f (TRUSS_ENG_STAT_state e)

/-- The physical engine that serves logical l (R219). -/
def Dev.phys (d : Dev) (l : Nat) : Nat :=
  if l < 8 then bits (d.f TRUSS_MAP_LO_map) (4 * l + 3) (4 * l) else bits (d.f TRUSS_MAP_HI_map) (4 * (l - 8) + 3) (4 * (l - 8))

/-- Byte i of logical engine l's assignment: the one a job keeps (R192), else the committed one; none while Unformed. -/
def Dev.assigned (d : Dev) (l i : Nat) : Nat :=
  match (d.eng (d.phys l)).old with
  | some x => x.getD i 0
  | none => if d.formed then d.map.truss l i else 0

/-- Is class c served by an engine that is not FAILED (R191)? One reinstated as a spare has no classes before a commit (R192, R217). -/
def Dev.classServed (d : Dev) (c : Nat) : Bool :=
  (List.range 16).any fun l => (d.assigned l 0).testBit c && d.engState (d.phys l) != 4 && !(d.eng (d.phys l)).spared

/-- Does an engine that is not FAILED fit the predistorters of bay b (R190, R216)? -/
def Dev.bayServed (d : Dev) (b : Nat) : Bool :=
  (List.range 16).any fun l => (d.assigned l 0).testBit 0 && (d.assigned l 6).testBit b && d.engState (d.phys l) != 4 && !(d.eng (d.phys l)).spared

/-! ### The effective level (R91) -/

/-- The effective level, as 256 x major + minor. -/
def Dev.effLevel (d : Dev) : Nat := 256 * d.f DECK_HOSTLEVEL_eff_major + d.f DECK_HOSTLEVEL_eff_minor

/-! ### Modes (R23 to R26) -/

/-- Mode bit i: 0 predistortion, 1 array calibration, 2 uplink weights, 3 lanes, 4 deck voltage, 5 thermal throttle. -/
def modeFld (i : Nat) : Fld := ⟨SPAN_ADAPT_MODE_dpd_mode.off, i, i, 0⟩

/-- Is function i host-assisted: the mode that governs its operations now (R25)? -/
def Dev.hostMode (d : Dev) (i : Nat) : Bool := d.on (modeFld i) != d.fb SPAN_ADAPT_MODE_pending i

/-- Descriptors of the jobs of physical engine e, the running one first (R209). -/
def EngSt.jobs (x : EngSt) : List Nat := (match x.run with | some r => [r.desc] | none => []) ++ x.queue

/-- Byte i of job descriptor j (R206). -/
def Dev.descByte (d : Dev) (j i : Nat) : Nat := bits (smGet 0 (16 * j + i / 4) d.tr.desc) (8 * (i % 4) + 7) (8 * (i % 4))

/-- Does an engine hold a job of class c (0 DPD, 1 ACAL, 2 ULW, 3 STATS)? -/
def Dev.jobOf (d : Dev) (c : Nat) : Bool :=
  (d.tr.eng.any fun x => x.2.jobs.any fun j => d.descByte j 2 == c) || d.tr.mig.any fun m => m.jobs.any fun j => d.descByte j 2 == c

end Sys2Proof.Machine
end

