-- ==== Sys2Proof/Machine/Memory.lean ====
section
/-!
DEFINITION. Protection of deck SRAM (chapter 13, R332 to R343): code words, poison, the merge buffer, the scrubber,
recurrence and soft sparing, and injection. Every other chapter reads and writes deck SRAM through these operations.
-/
namespace Sys2Proof.Machine

/-- Change the protection state. -/
def modMp (g : MemProtSt → MemProtSt) (d : Dev) : Dev := { d with mp := g d.mp }

/-- The region of an SRAM offset (R333). -/
def regionOf (a : Nat) : Nat :=
  if a < 0x2000000 then 0 else if a < 0x3000000 then 1 else if a < 0x3800000 then 2 else if a < 0x3A00000 then 3
  else if a < 0x3A80000 then 4 else if a < 0x3B00000 then 5 else if a < 0x3C00000 then 6 else if a < 0x3D00000 then 7
  else 8

/-- Bank and row of an SRAM offset (R332). -/
def bankRow (a : Nat) : Nat × Nat := (a / 0x80000, a % 0x80000 / 512)

/-! ### Weight entries that lose a word (R171) -/

/-- Is codebook entry e invalid? -/
def Dev.cbInvalid (d : Dev) (e : Nat) : Bool := d.fb (GIRDER_CB_INVAL_invalid (e / 32)) (e % 32)

/-- The number of invalid codebook entries. -/
def Dev.cbInvalidCount (d : Dev) : Nat := ((List.range 4096).filter d.cbInvalid).length

/-- GIRDER_CB_FALLBACK.fb_valid follows the named entry's invalid bit. -/
def refreshFallback (d : Dev) : Dev :=
  setB GIRDER_CB_FALLBACK_fb_valid (!d.cbInvalid (d.f GIRDER_CB_FALLBACK_index)) d

/-- Entry e becomes invalid (R171). -/
def cbInvalidate (e : Nat) (d : Dev) : Dev :=
  if d.cbInvalid e then d
  else d |> setBitF (GIRDER_CB_INVAL_invalid (e / 32)) (e % 32) |> incF GIRDER_CB_STAT_invalid_count |> refreshFallback

/-- Dynamic entry k becomes empty (R171). -/
def dynEmpty (k : Nat) (d : Dev) : Dev := { d with gir := { d.gir with dyn := smPut {} k {} d.gir.dyn } }

/-! ### Reads -/

/-- Never delivered as data: a poisoned word, or one that the decoder cannot correct (R335, R337). -/
def Mem.bad (m : Mem) (a : Nat) : Bool := m.poisoned a || decide (2 ≤ m.flipped a)

/-- The merge buffer's entry for a code word, if one holds it. -/
def MemProtSt.held (p : MemProtSt) (w : Nat) : Option MergeEnt := p.merge.find? fun e => e.word == w

/-- The stored bytes of a code word with held bytes laid over them (R338). -/
def overlay (e : Option MergeEnt) (l : List Nat) : List Nat :=
  match e with
  | none => l
  | some e => (List.range 8).map fun i => if e.mask.testBit i then e.data.getD i 0 else l.getD i 0

/-- The 8 bytes of the code word that holds address a, as a reader receives them; none: the error response. -/
def Blk.word8 (b : Blk) (a : Nat) : Option (List Nat) :=
  if b.mem.bad a then none else some (overlay (b.dev.mp.held (a / 8)) (b.mem.bytes (a / 8 * 8) 8))

/-- The bytes that n code words from a deliver; a word that is not delivered gives zeros. -/
def Blk.read8 (b : Blk) (a : Nat) : Nat → List Nat
  | 0 => []
  | n + 1 => (b.word8 a).getD (List.replicate 8 0) ++ b.read8 (a + 8) n

/-- Is every one of n code words from a delivered? -/
def Blk.readable (b : Blk) (a n : Nat) : Bool := (List.range n).all fun i => !b.mem.bad (a + 8 * i)

/-- A 32-bit word of deck SRAM as a reader receives it. -/
def Blk.rd32 (b : Blk) (a : Nat) : Nat := ofLe (((b.word8 a).getD (List.replicate 8 0)).drop (a % 8) |>.take 4)

/-- Laps marked in a history (R340). -/
def lapsMarked (h : Nat) : Nat := ((List.range 16).filter h.testBit).length

/-- The position of the entry with the fewest marked laps, the oldest among equals (R340). -/
def fewestMarked (l : List (Nat × Nat)) : Nat :=
  ((List.range l.length).foldl (fun (best : Nat × Nat) i =>
    let n := lapsMarked (l.getD i (0, 0)).2
    if n < best.2 then (i, n) else best) (0, 17)).1

/-- Mark the current lap for a corrected word (R340); a recurrent word raises E035 and queues its row. The event carries bits 25:3 of the
word's address: the upper 7 as its cause, the lower 16 as its count (DESIGN CHOICE, log entry 48: the rule gives the event the address and no
place for it). -/
def markRecurrence (w : Nat) (d : Dev) : Dev :=
  let old := d.mp.recur
  let table :=
    if old.any (fun e => e.1 == w) then old.map fun e => if e.1 = w then (w, e.2 ||| 1) else e
    else (if old.length ≥ 32 then old.eraseIdx (fewestMarked old) else old) ++ [(w, 1)]
  let hist := match table.find? fun e => e.1 == w with | some e => e.2 | none => 0
  let d :=
    if lapsMarked hist ≥ 3 then
      let row := bankRow (8 * w)
      let d := modMp (fun p => { p with recur := table.filter fun e => e.1 != w }) d |> raise 35 (regionOf (8 * w)) (w / 0x10000) w
      if d.mp.queued.contains row then d
      else modMp (fun p => { p with queued := p.queued ++ [row] }) d |> incF MEM_STAT_recur_pending
    else modMp (fun p => { p with recur := table }) d
  setF MEM_STAT_recur_entries d.mp.recur.length d

/-- The source of an error report: an injection keeps its own code (R357). -/
def Dev.errSource (d : Dev) (src w : Nat) : Nat := if d.mp.injected.contains w then 3 else src

/-- A single-bit error is corrected (R335): counted, recorded, marked, and queued for its write-back. -/
def corrected (src a : Nat) (d : Dev) : Dev :=
  let w := a / 8
  d |> incF MEM_ERR_COUNT_ce
    |> setF MEM_LAST_CE_region (regionOf a) |> setF MEM_LAST_CE_source (d.errSource src w) |> setF MEM_LAST_CE_addr w
    |> onlyIf (d.on MEM_CFG_ce_evt_en) (raiseSec 32 32 (regionOf a) (d.errSource src w) 0)
    |> modMp (fun p => { p with wb := if p.wb.contains w then p.wb else p.wb ++ [w], injected := p.injected.filter (· != w) })
    |> markRecurrence w

/-- What a poisoned word does to the weight entry that holds it (R171, R336): a codebook entry becomes invalid, a dynamic one empty. -/
def poisonFalls (a : Nat) (d : Dev) : Dev :=
  d |> onlyIf (regionOf a == 7) (cbInvalidate ((a - 0x3C00000) / 256))
    |> onlyIf (regionOf a == 4) (dynEmpty ((a - 0x3A00000) / 512))

/-- The device's part of a first detection of an uncorrectable error (R336). -/
def uncorrectable (src a : Nat) (d : Dev) : Dev :=
  let w := a / 8
  let r := regionOf a
  d |> setF MEM_LAST_UE_region r |> setF MEM_LAST_UE_source (d.errSource src w) |> setF MEM_LAST_UE_addr w
    |> incF MEM_ERR_COUNT_ue
    |> modMp (fun p => { p with wb := p.wb.filter (· != w), injected := p.injected.filter (· != w) })
    |> raise 34 r (d.errSource src w) 0
    |> poisonFalls a

/-- Does the word at a lie in a codebook entry that is valid, or in a dynamic entry that is not empty? -/
def Dev.holdsUsed (d : Dev) (a : Nat) : Bool :=
  (regionOf a == 7 && !d.cbInvalid ((a - 0x3C00000) / 256)) || (regionOf a == 4 && (smGet {} ((a - 0x3A00000) / 512) d.gir.dyn).filled)

/-- The decoding of a code word at a read (R335, R336): what it does beside delivering data. A word that is poisoned already raises nothing
again; an entry in use that holds it falls with it. -/
def touch (src a : Nat) (b : Blk) : Blk :=
  if b.mem.poisoned a then onDev (onlyIf (b.dev.holdsUsed a) (poisonFalls a)) b
  else if b.mem.flipped a ≥ 2 then
    b |> onMem (fun m => (m.setPoison a true).setFlips a 0) |> onDev (uncorrectable src a)
  else if b.mem.flipped a = 1 then onDev (corrected src a) b
  else b

/-- The decoding of n code words from a. -/
def touchRange (src a : Nat) : Nat → Blk → Blk
  | 0, b => b
  | n + 1, b => touchRange src (a + 8) n (touch src a b)

/-! ### Buffers of the sample streams (R336) -/

/-- The code words of a region that hold an error, by address. -/
def Mem.errWords (m : Mem) (reg : Nat) : List Nat :=
  ((m.poison.map Prod.fst ++ m.flips.map Prod.fst).map (8 * ·)).filter fun a => regionOf a == reg

/-- A buffer of n samples in a region is read (R335, R336): which pairs of samples are substituted by zero. The spec places no buffer within
SECTION or WORK, so whether a word with an error belongs to it, and where, is free (log entry 48). -/
def bufferRead (reg n : Nat) (b : Blk) : List Nat × Blk :=
  (b.mem.errWords reg).foldl (fun r a =>
    let k := r.2.dev.draws
    let b := onDev (fun d => draw (draw d)) r.2
    if Config.freeValue k % 2 = 0 then (r.1, b)
    else if b.mem.bad a then (Config.freeValue (k + 1) % ((n + 1) / 2) :: r.1, b |> touch 1 a |> onDev (incF MEM_POISON_USE_zero_subst))
    else (r.1, touch 1 a b)) ([], b)

/-- A buffer that is written may cover the word of an armed injection (R343): whether it does is free (log entry 48). -/
def bufferInject (reg : Nat) (b : Blk) : Blk :=
  let w := b.dev.f MEM_INJECT_addr
  if !b.dev.on MEM_INJECT_armed || regionOf (8 * w) != reg then b
  else
    let b' := onDev draw b
    if Config.freeValue b.dev.draws % 2 = 0 then b'
    else b' |> onMem (fun m => (m.setPoison (8 * w) false).setFlips (8 * w) (if b.dev.on MEM_INJECT_double then 2 else 1))
      |> onDev (fun d => d |> modMp (fun p => { p with injected := w :: p.injected.filter (· != w) }) |> setB MEM_INJECT_armed false)

/-- A buffer in a region is written: the words that it covers hold no error any more; which do is free (log entry 48). -/
def bufferWrite (reg : Nat) (b : Blk) : Blk :=
  bufferInject reg <| (b.mem.errWords reg).foldl (fun b a =>
    b |> onMem (fun m => if Config.freeValue b.dev.draws % 2 = 0 then m else (m.setPoison a false).setFlips a 0) |> onDev draw) b

/-- Samples with the pairs named replaced by zero (R336). -/
def holed (l : List Nat) (x : List (Int × Int)) : List (Int × Int) :=
  if l.isEmpty then x else ((List.range x.length).zip x).map fun v => if l.contains (v.1 / 2) then (0, 0) else v.2

/-- The decoding of every code word from lo up to hi that holds an error: what reading them all does. -/
def touchSpan (src lo hi : Nat) (b : Blk) : Blk :=
  ((b.mem.flips.map Prod.fst).filter fun w => decide (lo ≤ 8 * w ∧ 8 * w < hi)).foldl (fun b w => touch src (8 * w) b) b

/-- Bits of a code word flip: what the surroundings do to a stored word (R335). -/
def upset (a n : Nat) (b : Blk) : Blk := onMem (fun m => m.setFlips a (m.flipped a + n)) b

/-- An error response returned to an initiator counts (R337). -/
def errorResp (d : Dev) : Dev := incF MEM_POISON_USE_error_resp d

/-- A reader that takes nothing in place of a word that is not delivered meets each such word of n code words from a (R337). -/
def errorResps (a n : Nat) (b : Blk) : Blk :=
  onDev (addF MEM_POISON_USE_error_resp (b.mem.poison.filter fun x => decide (a / 8 ≤ x.1 ∧ x.1 < a / 8 + n)).length) b

/-- n code words are loaded from a (R335, R337): each that is not delivered is an error response, and what the loader then puts into its
place is stated nowhere: free bytes (log entry 48). -/
def loadWords (a : Nat) : Nat → Blk → List Nat × Blk
  | 0, b => ([], b)
  | n + 1, b =>
    let b := touch 1 a b
    let k := b.dev.draws
    let r : List Nat × Blk := match b.word8 a with
      | some l => (l, b)
      | none => ((List.range 8).map fun i => Config.freeValue (k + i) % 256, onDev (fun d => errorResp { d with draws := k + 8 }) b)
    let q := loadWords (a + 8) n r.2
    (r.1 ++ q.1, q.2)

/-! ### Writes -/

/-- Does the armed injection meet a write of code word w (R343)? -/
def Dev.injects (d : Dev) (w : Nat) : Bool := d.on MEM_INJECT_armed && d.f MEM_INJECT_addr == w

/-- A whole code word is written (R335, R337, R338, R343): a held entry and a pending write-back are dropped, and an armed
injection stores it with flipped bits. -/
def writeWord (a : Nat) (l : List Nat) (b : Blk) : Blk :=
  let w := a / 8
  let inj := b.dev.injects w
  let n := if inj then (if b.dev.on MEM_INJECT_double then 2 else 1) else 0
  b |> onMem (fun m => (m.putWord8 a l).setFlips a n)
    |> onDev (fun d => d
        |> modMp (fun p => { p with
            merge := p.merge.filter fun e => e.word != w
            wb := p.wb.filter (· != w)
            injected := if inj then w :: p.injected.filter (· != w) else p.injected.filter (· != w) })
        |> onlyIf inj (setB MEM_INJECT_armed false))

/-- Whole code words written from an address that is a multiple of 8. -/
def writeWords (a : Nat) : List (List Nat) → Blk → Blk
  | [], b => b
  | l :: r, b => writeWords (a + 8) r (writeWord a l b)

/-- Bytes cut into code words; a last piece is filled with zeros. -/
def words8 : Nat → List Nat → List (List Nat)
  | 0, _ => []
  | n + 1, l => ((l ++ List.replicate 8 0).take 8) :: words8 n (l.drop 8)

/-- Whole code words written from bytes. -/
def store (a : Nat) (l : List Nat) (b : Blk) : Blk := writeWords a (words8 ((l.length + 7) / 8) l) b

/-- An entry of the merge buffer retires (R338). -/
def retire (e : MergeEnt) (b : Blk) : Blk :=
  let a := 8 * e.word
  let b := onDev (modMp fun p => { p with merge := p.merge.filter fun x => x.word != e.word }) b
  if e.mask = 0xFF then writeWord a e.data b
  else
    let b := touch 2 a b
    let b := onDev (setF MEM_MERGE_rmw (b.dev.f MEM_MERGE_rmw + 1)) b
    if b.mem.bad a then onDev (fun d => d |> incF MEM_MERGE_discarded |> raise 33 (regionOf a) 0 0) b
    else writeWord a (overlay (some e) (b.mem.bytes a 8)) b

/-- Every entry of the merge buffer retires, the oldest first. -/
def retireAll (b : Blk) : Blk := b.dev.mp.merge.foldl (fun b e => retire e b) b

/-- An entry with bytes laid into it from position i of its word. -/
def MergeEnt.put (e : MergeEnt) (i : Nat) (l : List Nat) : MergeEnt :=
  { e with
    mask := e.mask ||| ((2 ^ l.length - 1) <<< i) % 256
    data := (List.range 8).map fun k => if i ≤ k ∧ k < i + l.length then l.getD (k - i) 0 else e.data.getD k 0 }

/-- A write of fewer than 8 bytes inside one code word (R338). -/
def narrowWrite (a : Nat) (l : List Nat) (b : Blk) : Blk :=
  let w := a / 8
  match b.dev.mp.held w with
  | some e =>
    let e := { e.put (a % 8) l with at_ := b.dev.now }
    let b := onDev (modMp fun p => { p with merge := p.merge.map fun x => if x.word = w then e else x }) b
    if e.mask = 0xFF then retire e b else b
  | none =>
    let b := match b.dev.mp.merge with
      | e :: _ => if b.dev.mp.merge.length ≥ 8 then retire e b else b
      | [] => b
    let e := ({ word := w, mask := 0, data := List.replicate 8 0, at_ := b.dev.now } : MergeEnt).put (a % 8) l
    onDev (modMp fun p => { p with merge := p.merge ++ [e] }) b

/-- A 32-bit word written to deck SRAM. -/
def write32 (a v : Nat) (b : Blk) : Blk := narrowWrite a (leBytes 4 v) b

/-! ### Request lines of the DMA engine (R349) -/

def modDma (g : DmaSt → DmaSt) (d : Dev) : Dev := { d with dma := g d.dma }
def Dev.chan (d : Dev) (n : Nat) : ChanSt := smGet {} n d.dma.chans
def setChan (n : Nat) (c : ChanSt) (d : Dev) : Dev := modDma (fun x => { x with chans := smPut {} n c x.chans }) d

def Dev.chState (d : Dev) (n : Nat) : Nat := d.f (DMA_CH_STAT_state n)

/-- The level of a request line (R349): a bay's slot_full bit, or the ledger ring's drain threshold (0 taken as 1). -/
def Dev.lineHigh (d : Dev) (line : Nat) : Bool :=
  if line = 33 then decide (max 1 (d.f LEDGER_CFG_drain_thr) ≤ d.f LEDGER_STAT_fill)
  else decide (1 ≤ line ∧ line ≤ 32) && d.fb (BAY_OBS_STAT_slot_full ((line - 1) / 4)) ((line - 1) % 4)

/-- A request line may have fallen (R349): when it is low, its next rising edge counts again, and a burst that it drives is an orphan. -/
def lineFalls (line : Nat) (d : Dev) : Dev :=
  if d.lineHigh line then d
  else d |> modDma (fun x => { x with
      seen := delNat line x.seen
      chans := x.chans.map fun c => if bits c.2.ctrl 13 8 = line ∧ 0 < c.2.grant then (c.1, { c.2 with fell := true }) else c })

/-! ### The rows of the chapter -/

/-- The scrubber starts its first lap: it runs in Ready, Active and Rest (R339). -/
def lapBegins (d : Dev) : Dev := modMp (fun p => { p with lapAt := d.now }) d

/-- Is deck SRAM initialised, and does the scrubber run (R339)? -/
def Dev.scrubs (d : Dev) : Bool := d.on MEM_STAT_init_done && d.on MEM_CFG_scrub_en && decide (d.pwr ≤ 2)

/-- The scrubber reads the words from its place to n (R339): those with flipped bits are decoded. -/
def scrubTo (n : Nat) (b : Blk) : Blk :=
  ((b.mem.flips.map Prod.fst).filter fun w => decide (b.dev.mp.ptr ≤ w ∧ w < n)).foldl (fun b w => touch 0 (8 * w) b) b
    |> onDev (modMp fun p => { p with ptr := n })

/-- SCRUB_READ (R339): the scrubber reads the words up to w; `err` bits of w have flipped since it was last read or written. -/
def scrubRead (w err : Nat) (b : Blk) : Blk :=
  if b.dev.scrubs && decide (b.dev.mp.ptr ≤ w ∧ w < 8388608) then
    b |> scrubTo w |> upset (8 * w) err |> touch 0 (8 * w) |> onDev (modMp fun p => { p with ptr := w + 1 })
  else b

/-- Ticks of the shortest lap, 6.827 ms (R339). -/
def lapTicks : Nat := 6710887

/-- SCRUB_LAP_END (R339, R340): the last words are read; the lap is counted and timed, E039 when it was too long, and a new lap begins. -/
def scrubLapEnd (b : Blk) : Blk :=
  if b.dev.scrubs then b |> scrubTo 8388608 |> onDev lapEnd else b
where
  lapEnd (d : Dev) : Dev :=
    let d := passTo (d.mp.lapAt + lapTicks) d
    let ms := (d.now - d.mp.lapAt) / 983040
    d |> setF MEM_SCRUB_laps (d.f MEM_SCRUB_laps + 1) |> setF MEM_SCRUB_lap_ms (min ms 65535)
      |> onlyIf (decide (d.f MEM_CFG_lap_max ≠ 0 ∧ d.now - d.mp.lapAt > d.f MEM_CFG_lap_max * secTicks)) (raise0 39)
      |> modMp (fun p => { p with ptr := 0, lapAt := d.now, recur := p.recur.map fun e => (e.1, 2 * e.2 % 65536) })

/-- WRITE_BACK (R335): the first corrected word in the queue is written back. -/
def writeBack (b : Blk) : Blk :=
  match b.dev.mp.wb with
  | [] => b
  | w :: r => b |> onMem (Mem.setFlips (8 * w) 0) |> onDev (modMp fun p => { p with wb := r })

/-- The merge entry whose last write lies longest ago. -/
def MemProtSt.stalest (p : MemProtSt) : Option MergeEnt :=
  p.merge.foldl (fun a e => match a with | none => some e | some x => if e.at_ < x.at_ then some e else some x) none

/-- MERGE_RETIRE (R338): 256 deck cycles, 204.8 air ticks, after its last write an entry retires. -/
def mergeRetire (b : Blk) : Blk :=
  match b.dev.mp.stalest with
  | none => b
  | some e => b |> onDev (passTo (e.at_ + 205)) |> retire e

/-- The lowest unused spare row of a bank (R341): spares of the fuse map count as used. -/
def Dev.spareFor (d : Dev) (bank : Nat) (fuse : List (Nat × Nat × Nat)) : Option Nat :=
  (List.range 8).find? fun s => !(fuse ++ d.mp.spares).any fun x => x.1 == bank && x.2.2 == s

/-- A row's 64 words are copied through correction (R335, R337, R341): poison stays. -/
def copyRow (bank row : Nat) (b : Blk) : Blk :=
  let a := 0x80000 * bank + 512 * row
  (List.range 64).foldl (fun b i => onMem (Mem.setFlips (a + 8 * i) 0) b) (touchRange 1 a 64 b)

/-- Soft sparing at the entry to Rest (R341): each queued row moves to a spare row of its bank, or stays with E037. -/
def spareRows (b : Blk) : Blk :=
  b.dev.mp.queued.foldl (fun b r =>
    let b := onDev (fun d => d |> modMp (fun p => { p with queued := p.queued.filter (· != r) })
      |> setF MEM_STAT_recur_pending (d.f MEM_STAT_recur_pending - 1)) b
    match b.dev.spareFor r.1 b.dev.otp.fuseRows with
    | some s =>
      b |> copyRow r.1 r.2 |> onDev (fun d => d
        |> modMp (fun p => { p with spares := p.spares ++ [(r.1, r.2, s)], unwritten := p.unwritten ++ [(r.1, r.2, s)] })
        |> incF MEM_SPARE_soft_used)
    | none => onDev (raise0 37) b) b

/-- INJECT_ARM (R343): accepted in Ready only. -/
def injectArm (d : Dev) : Dev := if d.inReady then setB MEM_INJECT_armed true d else d

/-- A write to MEM_INJECT beyond its access codes. -/
def memWriteAfter (off val : Nat) (d : Dev) : Dev :=
  if off = 0x600020 ∧ val.testBit 31 then injectArm d else d

/-- The ROM stage's initialisation of deck SRAM (R334): banks that are not kept are zero with valid check bits. -/
def initBank (k : Nat) (m : Mem) : Mem :=
  { m with
    sram := m.sram.filter fun c => c.1 / 0x80000 != k
    poison := m.poison.filter fun c => c.1 / 0x10000 != k
    flips := m.flips.filter fun c => c.1 / 0x10000 != k }

/-- Initialise every bank outside a list of kept ones. -/
def initBanks (kept : List Nat) (m : Mem) : Mem :=
  (List.range 128).foldl (fun m k => if kept.contains k then m else initBank k m) m

end Sys2Proof.Machine
end

