-- ==== Sys2Proof/Machine/Trims.lean ====
section
/-!
DEFINITION. Trims and their coming into force, and calibration runs that end early (chapter 09, R220, R226, R229 to R231).
The runs themselves are in Calibration.lean.
-/
namespace Sys2Proof.Machine

/-- Paths of bay b. -/
def bayPaths (b : Nat) : List Nat := (List.range 8).map fun i => 8 * b + i

/-! ### Trim words (R239) -/

/-- The trim word that a kind sets (R220). -/
def kindWord (kind : Nat) : Nat :=
  match kind with | 7 => 0 | 8 => 1 | 5 => 2 | 6 => 3 | 2 => 4 | 4 => 5 | _ => 6

/-- Trim word w of path n, in force or pending. -/
def Dev.trim (d : Dev) (pend : Bool) (n w : Nat) : Nat :=
  let b := bayOf n
  let k := posOf n
  if w < 2 then
    if pend then d.f (TRIM_ARRAY_PEND_delay b k w) * 0x1000000 + d.f (TRIM_ARRAY_PEND_gain b k w) * 0x10000 + d.f (TRIM_ARRAY_PEND_phase b k w)
    else d.f (TRIM_ARRAY_delay b k w) * 0x1000000 + d.f (TRIM_ARRAY_gain b k w) * 0x10000 + d.f (TRIM_ARRAY_phase b k w)
  else if pend then d.f (TRIM_AB_PEND_b b k (w - 2)) * 0x10000 + d.f (TRIM_AB_PEND_a b k (w - 2))
  else d.f (TRIM_AB_b b k (w - 2)) * 0x10000 + d.f (TRIM_AB_a b k (w - 2))

/-- Store trim word w of path n. -/
def setTrim (pend : Bool) (n w v : Nat) (d : Dev) : Dev :=
  let b := bayOf n
  let k := posOf n
  if w < 2 then
    if pend then d |> setF (TRIM_ARRAY_PEND_delay b k w) (v / 0x1000000) |> setF (TRIM_ARRAY_PEND_gain b k w) (v / 0x10000)
      |> setF (TRIM_ARRAY_PEND_phase b k w) v
    else d |> setF (TRIM_ARRAY_delay b k w) (v / 0x1000000) |> setF (TRIM_ARRAY_gain b k w) (v / 0x10000)
      |> setF (TRIM_ARRAY_phase b k w) v
  else if pend then d |> setF (TRIM_AB_PEND_b b k (w - 2)) (v / 0x10000) |> setF (TRIM_AB_PEND_a b k (w - 2)) v
  else d |> setF (TRIM_AB_b b k (w - 2)) (v / 0x10000) |> setF (TRIM_AB_a b k (w - 2)) v

/-! ### Calibration state -/

def Dev.calPath (d : Dev) (n : Nat) : CalPath := smGet {} n d.cal.paths
def modCalPath (n : Nat) (g : CalPath → CalPath) (d : Dev) : Dev :=
  { d with cal := { d.cal with paths := smPut {} n (g (d.calPath n)) d.cal.paths } }
def Dev.calBay (d : Dev) (b : Nat) : CalBay := smGet {} b d.cal.bays
def modCalBay (b : Nat) (g : CalBay → CalBay) (d : Dev) : Dev :=
  { d with cal := { d.cal with bays := smPut {} b (g (d.calBay b)) d.cal.bays } }

/-- Bit of kind k in a mask (R239). -/
def kindBit (k : Nat) : Nat := 1 <<< (k - 1)

/-- Clear bits of a mask. -/
def maskOff (m x : Nat) : Nat := m - (m &&& x)

/-- BAY_CAL_STAT.due: the kinds due on some path of the bay (R239). -/
def refreshDue (b : Nat) (d : Dev) : Dev :=
  setF (BAY_CAL_STAT_due b) ((bayPaths b).foldl (fun m n => m ||| (d.calPath n).due) 0) d

/-- The direction whose trims a kind sets, 0 TX, 1 RX (R220); SYNTH and SET have none. -/
def kindDir (kind : Nat) : Nat := if kind = 5 ∨ kind = 6 ∨ kind = 7 then 0 else 1

/-- Can a kind run on path n (R222): SYNTH in any bay, RX_IMAGE only in Wide, the others on a path active in their direction
(log entry 60)? -/
def Dev.kindFits (d : Dev) (n kind : Nat) : Bool :=
  kind == 1 || ((if kindDir kind = 0 then d.map.txActive n else d.map.rxActive n) && (kind != 4 || d.map.width (bayOf n) == 2))

/-- Is path n not shed in the direction of a kind (R222, R226)? SYNTH is a run of the bay, whatever its paths. -/
def Dev.kindLive (d : Dev) (n kind : Nat) : Bool := kind == 1 || (if kindDir kind = 0 then d.txLive n else d.rxLive n)

/-- A trigger makes a kind due on a path (R233), whether or not it can run there now, and a failed one is tried again (R229); E121 when it is
the first of its bay in host-assisted mode (R234). -/
def calDue (n kind : Nat) (d : Dev) : Dev :=
  let b := bayOf n
  let was := d.f (BAY_CAL_STAT_due b)
  let d := d |> modCalPath n (fun c => { c with due := c.due ||| kindBit kind, failAt := smPut 0 kind 0 c.failAt }) |> refreshDue b
  onlyIf (d.hostMode 1 && d.f (BAY_CAL_STAT_due b) != was) (raise 121 b kind 0) d

/-- Every kind becomes due on every path of a bay (R221, R233). -/
def calDueAll (b : Nat) (d : Dev) : Dev :=
  forAll (bayPaths b) (fun n d => forAll ((List.range 9).drop 1) (calDue n) d) d

/-- The kinds that a run covers (R222): SET is kinds 2 to 8, RX_IMAGE among them only in Wide. -/
def runKinds (kind width : Nat) : List Nat :=
  if kind = 0 then (if width = 2 then [2, 3, 4, 5, 6, 7, 8] else [2, 3, 5, 6, 7, 8]) else [kind]

/-- The occupancy of a kind in microseconds (R222). -/
def occupancyUs (kind width : Nat) : Nat :=
  match kind with
  | 0 => if width = 2 then 240 else 180
  | 1 => 200 | 2 => 20 | 3 => 40 | 4 => 60 | 5 => 30 | 6 => 40 | _ => 25

/-- The status of a kind in BAY_CAL_RES (R229): three bits a kind, kind 1 lowest. -/
def Dev.calStatus (d : Dev) (n kind : Nat) : Nat :=
  bits (d.f (BAY_CAL_RES_status (bayOf n) (posOf n))) (3 * kind - 1) (3 * kind - 3)

def setCalStatus (n kind v : Nat) (d : Dev) : Dev :=
  let x := BAY_CAL_RES_status (bayOf n) (posOf n)
  setF x (putBits (d.f x) (3 * kind - 1) (3 * kind - 3) v) d

/-! ### Coming into force (R231) -/

/-- The change of an array phase, in steps, from -512 to 511. -/
def phaseStep (old new : Nat) : Int := signed 10 ((new + 1024 - old % 1024) % 1024)

/-- A result of a kind on path n comes into force: the trim as it was judged, count, last air time, status OK, and the marks that it
clears (R230, R231). -/
def calInForceKind (n kind : Nat) (d : Dev) : Dev :=
  let b := bayOf n
  let k := posOf n
  let c := d.calPath n
  let w := kindWord kind
  let v := smGet 0 kind c.pvals
  let d := if kind = 1 then d
    else
      let d := if kind ≥ 7 ∧ !d.hostMode 1 then loopAct 3 (pierOf n) (phaseStep (d.trim false n w % 1024) (v % 1024)) d else d
      setTrim false n w v d
  let stale := maskOff c.stale (kindBit kind)
  d |> modCalPath n (fun c => { c with
        due := maskOff c.due (kindBit kind), pend := maskOff c.pend (kindBit kind), done := c.done ||| kindBit kind
        temps := smPut none kind (smGet none kind c.ptemps) c.temps, stale := stale, lastAt := d.now })
    |> setCalStatus n kind 1
    |> incF (BAY_CAL_PATH_count b k) |> setF (BAY_CAL_PATH_age b k) 0
    |> setB (BAY_CAL_LAST_valid b k) true |> setF (BAY_CAL_LAST_frame b k) d.t.frame |> setF (BAY_CAL_LAST_cycle b k) (d.t.tick / 8)
    |> onlyIf (c.stale != 0 && stale == 0) (clrBitF (BAY_CAL_STAT_stale b) k)

/-- Every pending correction of bay b comes into force together (R231); its record is then due (R236). -/
def calInForce (b : Nat) (d : Dev) : Dev :=
  let any := (bayPaths b).any fun n => (d.calPath n).pend != 0
  if !any then d
  else
    let d := match (d.calBay b).syn with
      | some (kvco, band) => d |> setF (BAY_CAL_SYN_kvco b) kvco |> setF (BAY_SYNTH_STAT_band b) band
      | none => d
    d |> forAll (bayPaths b) (fun n d =>
          forAll (((List.range 9).drop 1).filter fun k => (d.calPath n).pend.testBit (k - 1)) (calInForceKind n) d)
      |> modCalBay b (fun c => { c with syn := none, recDue := true })
      |> refreshDue b

/-! ### Calibration runs that end early -/

/-- The observation receivers that a kind reserves (R223): those of the lead bay, for the array kinds. -/
def reservesObs (kind : Nat) : Bool := kind == 0 || kind ≥ 7

/-- A run reserves its lead bay's receiver and injector (R223): the receiver takes CALP/CALN for ARRAY_TX, the injector drives it for
ARRAY_RX unless ext_src is 1, and the injector is looped to the receiver to measure the reference chain. -/
def calReserve (lead kind : Nat) (d : Dev) : Dev :=
  let ext := d.on (BAY_CAL_CFG_ext_src lead)
  if reservesObs kind then
    { d with obs := smPut {} lead { smGet {} lead d.obs with
        byCal := true, calIn := kind != 8, inject := kind != 7 && !ext, refLoop := !(kind == 8 && ext) } d.obs }
  else d

/-- A run gives its lead bay's receiver and injector back (R223). -/
def calRelease (lead kind : Nat) (d : Dev) : Dev :=
  if reservesObs kind then
    { d with obs := smPut {} lead { smGet {} lead d.obs with byCal := false, calIn := false, inject := false, refLoop := false } d.obs }
  else d

/-- The mode of calibration that was changed during an operation governs once no operation is left (R25). -/
def calModeSettled (d : Dev) : Dev :=
  if d.fb SPAN_ADAPT_MODE_pending 1 && !((List.range 8).any fun b => (d.bay b).cal.isSome || !(d.calBay b).awaits.isEmpty) then
    clrBitF SPAN_ADAPT_MODE_pending 1 d
  else d

/-- The paths and kinds that a run of bay b is made on (R222, R231): SYNTH on the bay as a whole; otherwise the paths targeted, not shed in
the direction of the kind; none that can not run the kind or has a result of it pending. -/
def Dev.runPairs (d : Dev) (b kind : Nat) (path : Option Nat) : List (Nat × Nat) :=
  let paths := (bayPaths b).filter fun n => match path with | some p => p == n | none => true
  (paths.flatMap fun n => (runKinds kind (d.map.width b)).map fun k => (n, k)).filter fun p =>
    d.kindFits p.1 p.2 && d.kindLive p.1 p.2 && !(d.calPath p.1).pend.testBit (p.2 - 1)

/-- Results that are abandoned read ABANDONED (R227). -/
def calAbandoned (l : List (Nat × Nat)) (d : Dev) : Dev := forAll l (fun p => setCalStatus p.1 p.2 4) d

/-- A bay's run is abandoned (R226, R227): no result, every trim as it was, the kinds stay due and read ABANDONED. -/
def calAbandon (b : Nat) (d : Dev) : Dev :=
  match (d.bay b).cal with
  | none => d
  | some r =>
    d |> calAbandoned r.pairs
      |> setB (BAY_CAL_STAT_running b) false
      |> setB (BAY_SYNTH_STAT_cal_busy b) false
      |> setB (BAY_FE_STAT_lo_ready b) (d.on (BAY_SYNTH_STAT_locked b) && d.on (BAY_SYNTH_STAT_aligned b))
      |> calRelease r.lead r.kind
      |> modBay b (fun s => { s with cal := none }) |> calModeSettled

/-- The occupancy of bay b's run has ended: its receiver is given back and its result awaited, behind that of a run before it (R227,
R232). On a path that was shed during the run in the direction of the kind the result is abandoned (R226). -/
def calClose (b : Nat) (d : Dev) : Dev :=
  match (d.bay b).cal with
  | none => d
  | some r =>
    let kept := r.pairs.filter fun p => d.kindLive p.1 p.2
    let moved := decide ((signed 16 (d.f (HK_PAR_BAY_temp b)) - signed 16 r.temp).natAbs ≥ 8)
    let a : CalAwait :=
      { kind := r.kind, pairs := kept, host := r.host, lead := r.lead, temp := r.temp
        bad := r.gap || d.cal.gap.testBit (b / 2) || moved, frame := r.frame, tick := r.tick, since := d.now, eng := none }
    d |> calAbandoned (r.pairs.filter fun p => !kept.contains p) |> modCalBay b (fun c => { c with awaits := c.awaits ++ [a] })
      |> calRelease r.lead r.kind |> modBay b (fun s => { s with cal := none })

/-- The occupancy of bay b's run ends at now (R225): a SYNTH run gives the synthesiser back. -/
def calFinish (b : Nat) (d : Dev) : Dev :=
  let syn := match (d.bay b).cal with | some r => r.kind == 1 | none => false
  d |> calClose b
    |> onlyIf syn fun d => d |> setB (BAY_CAL_STAT_running b) false |> setB (BAY_SYNTH_STAT_cal_busy b) false
        |> setB (BAY_FE_STAT_lo_ready b) (d.on (BAY_SYNTH_STAT_locked b) && d.on (BAY_SYNTH_STAT_aligned b))

/-- Awaited results of bay b's runs are abandoned (R226). -/
def calDrop (b : Nat) (gone : CalAwait → Bool) (d : Dev) : Dev :=
  let l := (d.calBay b).awaits
  if !l.any gone then d
  else d |> calAbandoned ((l.filter gone).flatMap CalAwait.pairs)
    |> modCalBay b (fun c => { c with awaits := l.filter fun a => !gone a }) |> calModeSettled

end Sys2Proof.Machine
end

