-- ==== Sys2Proof/Machine/Bays.lean ====
section
/-!
DEFINITION. Bays, synthesisers, the front-end state machine, gains and shedding (chapter 04, R96 to R118, R487).
-/
namespace Sys2Proof.Machine

/-- The event number of a pier front-end event for bay b (R117). -/
def pierEvent (e b : Nat) : Nat := e + 8 * (b / 2)

/-! ### Live paths -/

/-- The live masks follow the active masks and the sheds (R114). -/
def refreshLive (b : Nat) (d : Dev) : Dev :=
  let s := d.bay b
  d |> setF (BAY_ACTIVE_tx_live b) (d.f (BAY_ACTIVE_tx_active b) - (d.f (BAY_ACTIVE_tx_active b) &&& s.shedTx))
    |> setF (BAY_ACTIVE_rx_live b) (d.f (BAY_ACTIVE_rx_active b) - (d.f (BAY_ACTIVE_rx_active b) &&& s.shedRx))

/-! ### Transitions -/

/-- A request is refused (R102): the reason is shown and counted and the event raised. -/
def feRefuse (b reason : Nat) (d : Dev) : Dev :=
  let d := setF (BAY_FE_STAT_last_refuse b) reason d
  if reason = 1 then d |> incF (BAY_COUNT_lo_not_ready b) |> raise (pierEvent 71 b) b reason 0
  else if reason = 2 then d |> incF (BAY_COUNT_fe_refused b) |> raise 3 b reason 0
  else d |> incF (BAY_COUNT_fe_refused b) |> raise (pierEvent 68 b) b reason 0

/-- The ticks that bay b has spent in TX (R159). -/
def Dev.txTime (d : Dev) (b : Nat) : Nat :=
  (d.bay b).txTotal + (if d.fe b = 4 ∧ !d.inTransition b then d.now - (d.bay b).rfFrom else 0)

/-- Change what bay b's capture remembers, while it still samples (R153). -/
def capTouch (b : Nat) (g : CapRun → CapRun) (d : Dev) : Dev :=
  let o := smGet {} b d.obs
  match o.cap with
  | some c => if d.now < c.start + (c.len + 2) / 3 then { d with obs := smPut {} b { o with cap := some (g c) } d.obs } else d
  | none => d

/-- Bay b stops receiving, if it did (R98). -/
def leaveRx (b : Nat) (d : Dev) : Dev := modBay b (fun s => { s with rxTo := some (s.rxTo.getD d.now) }) d

/-- Bay b leaves its RF state: its time in TX is added up, and a capture of it is no longer of a transmitting bay (R153, R159). -/
def leaveRf (b : Nat) (d : Dev) : Dev :=
  d |> leaveRx b |> modBay b (fun s => { s with txTotal := d.txTime b, rfFrom := d.now }) |> capTouch b (fun c => { c with left := true })

/-- Begin a turnaround at now into a state (R98, R231). -/
def startTurn (b st : Nat) (d : Dev) : Dev :=
  d |> onlyIf ((d.fe b == 4) && !d.inTransition b) (leaveRf b) |> leaveRx b |> onlyIf ((d.bay b).cal.isNone) (calInForce b) |> setB (BAY_FE_STAT_in_transition b) true
    |> setF (BAY_FE_STAT_target b) st
    |> modBay b (fun s => { s with turning := true, turnEnd := d.now + 1573, dest := st })

/-- A bay in an RF state begins its turnaround to Warm. DESIGN CHOICE (log entry 59): a turnaround that runs keeps its 1,573 ticks and
ends in Warm instead of the RF state it went to; one to Warm goes on as it is, with the request it serves. -/
def turnToWarm (b : Nat) (d : Dev) : Dev :=
  if !d.inTurn b then startTurn b 2 d
  else if d.feTarget b = 2 then d
  else d |> setF (BAY_FE_STAT_target b) 2 |> modBay b (fun s => { s with dest := 2 })

/-- The synthesiser stops (R97): no lock, no alignment, not LO-ready. -/
def synthStop (b : Nat) (d : Dev) : Dev :=
  d |> setB (BAY_SYNTH_STAT_locked b) false |> setB (BAY_SYNTH_STAT_aligned b) false
    |> setB (BAY_FE_STAT_lo_ready b) false
    |> modBay b (fun s => { s with unlockAt := none, searching := false })

/-- Begin the next transition of R97 from the state the bay stands in towards `dest`. -/
def stepTowards (b : Nat) (d : Dev) : Dev :=
  let dest := (d.bay b).dest
  let cur := d.fe b
  if dest = cur then d |> setB (BAY_FE_STAT_in_transition b) false
  else
    let go := fun (t : Nat) (d : Dev) => d |> setB (BAY_FE_STAT_in_transition b) true |> setF (BAY_FE_STAT_target b) t |> modBay b (fun s => { s with turning := false })
    if cur ≥ 3 then startTurn b 2 d |> modBay b (fun s => { s with dest := dest })
    else if cur = 2 then d |> synthStop b |> go 1
    else if cur = 1 then (if dest = 0 then go 0 d else go 2 d)
    else go 1 d

/-- Does bay b stand in a state, outside a transition (R100)? -/
def Dev.standsIn (d : Dev) (b st : Nat) : Bool := d.fe b == st && !d.inTransition b

/-- The reason for which a request at now is refused, 0 none: the checks of R90, R96, R97, R100, R107 and R102, in their order. -/
def Dev.feReason (d : Dev) (b st : Nat) : Nat :=
  if d.pierHeld (b / 2) && decide (st ≠ 0) then 6
  else if d.standsIn b st then 0
  else if st ≤ 2 then
    if d.inTurn b then 3
    else if st ≠ 0 ∧ !d.piersUp then 4
    else if st = 2 ∧ d.on (BAY_SYNTH_STAT_failed b) ∧ d.fe b < 2 then 5 else 0
  else if !d.inActive ∨ !d.piersUp then 4
  else if d.inTurn b then 3
  else if st ≥ 4 ∧ !d.txPermit then 2
  else if !d.on (BAY_FE_STAT_lo_ready b) then 1 else 0

/-- A request for Off, Standby or Warm that passed its checks (R97, R100). -/
def feLower (b st : Nat) (d : Dev) : Dev :=
  let d := modBay b (fun s => { s with dest := st }) d
  if d.inLockWait b then
    if st = 2 then d else d |> synthStop b |> setB (BAY_FE_STAT_in_transition b) false |> stepTowards b
  else if d.inTransition b then d
  else stepTowards b d

/-- A request for RX, TX or Loopback that passed its checks (R102, R108): the bay is no longer muted and its turnaround starts. -/
def feRf (b st : Nat) (d : Dev) : Dev := d |> setB (BAY_FE_STAT_muted b) false |> startTurn b st

/-- Is the phase of bay b's synthesiser still to be aligned (R104)? -/
def Dev.phaseWaits (d : Dev) (b : Nat) : Bool := d.on (BAY_SYNTH_STAT_locked b) && !d.on (BAY_SYNTH_STAT_aligned b)

/-- The DC estimates of the RX paths in l are cleared (R110). -/
def clearDc (l : List Nat) (d : Dev) : Dev :=
  { d with sig := { d.sig with paths := l.foldl (fun m n => smPut {} n { smGet {} n m with dc := (0, 0) } m) d.sig.paths } }

/-- PHASE_ALIGNED (R104): aligned and LO-ready rise; a phase wait from Standby ends in Warm, where DC estimation starts anew (R110). -/
def phaseAligned (b : Nat) (d : Dev) : Dev :=
  if d.phaseWaits b then
    let d := d |> passTo (d.bay b).alignAt |> setB (BAY_SYNTH_STAT_aligned b) true
      |> setB (BAY_FE_STAT_lo_ready b) (!d.on (BAY_SYNTH_STAT_cal_busy b))
    let d := if d.f (BAY_FE_STAT_mute_cause b) = 1 then setF (BAY_FE_STAT_mute_cause b) 0 d else d
    if d.inLockWait b then d |> clearDc (bayPaths b) |> setF (BAY_FE_STAT_state b) 2 |> stepTowards b else d
  else d

/-- A synthesiser whose phase aligns by now is LO-ready before anything else is looked at on this tick (R102). -/
def Dev.alignedDue (d : Dev) (b : Nat) : Dev := if d.phaseWaits b && decide ((d.bay b).alignAt ≤ d.now) then phaseAligned b d else d

/-- A front-end request takes effect at now (R99 to R102): a synthesiser whose phase aligns on this tick is LO-ready first. A request
that is not refused abandons the bay's calibration run (R226); on the tick of a run's own end it turns the bay round directly (R225).
DESIGN CHOICE (log entry 59): the checks come before the abandonment, so that a running SYNTH leaves the bay not LO-ready and a request
for an RF state is refused, and a refused request abandons nothing; and a request that would take a bay of an idle pier out of Off has no
effect and no event, whether it comes from a register or from an entry, which ends DONE (R27, R99). -/
def feRequest (b st : Nat) (d : Dev) : Dev × Bool :=
  if !d.bayFormed b ∨ (d.bayHeldOff b ∧ st ≤ 2) then (d, true)
  else
    let d := d.alignedDue b
    let run := (d.bay b).cal
    let ended := match run with | some r => decide (r.until_ ≤ d.now) | none => false
    let back := ended && (match run with | some r => r.kind != 1 | none => false)
    let d := onlyIf ended (calFinish b) d
    let reason := d.feReason b st
    if reason ≠ 0 then (d |> onlyIf back (turnToWarm b) |> feRefuse b reason, false)
    else if d.standsIn b st then (onlyIf back (turnToWarm b) d, true)
    else
      let d := onlyIf (!ended) (calAbandon b) d
      (if st ≤ 2 then feLower b st d else feRf b st d, true)

/-- A write of BAY_FE_CTRL.req (R99): Off, Standby and Warm take effect at once, RF states wait for a boundary. -/
def feWrite (b st : Nat) (d : Dev) : Dev :=
  if !d.bayFormed b ∨ (d.bayHeldOff b ∧ st ≤ 2) ∨ st > 5 then d
  else if st ≤ 2 then
    (feRequest b st (d |> modBay b (fun s => { s with req := none }) |> setB (BAY_FE_STAT_held b) false)).1
  else
    d |> modBay b (fun s => { s with req := some (st, d.refBoundary) }) |> setB (BAY_FE_STAT_held b) true

/-- FE_REQUEST_EFFECT (R99, R102): the pending request takes effect at its boundary. -/
def feRequestEffect (b : Nat) (d : Dev) : Dev :=
  match (d.bay b).req with
  | none => d
  | some (st, at_) =>
    let d := d |> passTo at_ |> modBay b (fun s => { s with req := none }) |> setB (BAY_FE_STAT_held b) false
    (feRequest b st d).1

/-- TRANSITION_COMPLETE (R97): a running transition among Off, Standby and Warm ends in its target, and the next one of a
request of several begins. -/
def transitionComplete (b : Nat) (d : Dev) : Dev :=
  if d.inTransition b && !d.inTurn b && !d.inLockWait b then
    d |> setF (BAY_FE_STAT_state b) (d.feTarget b) |> stepTowards b
  else d

/-- Gains stored for a direction come into force with a turnaround into it (R112). -/
def applyStored (n dir : Nat) (x : Fld) (d : Dev) : Dev :=
  let v := smGet 0 (2 * n + dir) d.gainStored
  if v = 0 then d
  else { d with gainStored := smPut 0 (2 * n + dir) 0 d.gainStored } |> setForced x (v - 1)

/-- TURNAROUND_COMPLETE (R98): 1,573 ticks after its start the bay is in its new state. -/
def turnaroundComplete (b : Nat) (d : Dev) : Dev :=
  if d.inTurn b then
    let tgt := d.feTarget b
    let d := d |> passTo (d.bay b).turnEnd |> setF (BAY_FE_STAT_state b) tgt |> setB (BAY_FE_STAT_in_transition b) false
    let d := modBay b (fun s => { s with rfFrom := d.now, turning := false }) d
    let d := onlyIf (tgt == 3 || tgt == 5) (modBay b fun s => { s with rxFrom := d.now, rxTo := none, rxLoop := tgt == 5 }) d
    let d := onlyIf (tgt == 4 || tgt == 5)
      (forAll (bayPaths b) fun n d => applyStored n 0 (BAY_GAIN_tx_att b (posOf n)) d) d
    let d := onlyIf (tgt == 3 || tgt == 5)
      (forAll (bayPaths b) fun n d =>
        d |> applyStored n 1 (BAY_GAIN_rx_att b (posOf n)) |> onlyIf (tgt == 3) (setF (BAY_RX_PEAK_peak b (posOf n)) 0)) d
    let d := setB (BAY_CAL_STAT_running b) (tgt == 5 && (d.bay b).cal.isSome) d
    stepTowards b d
  else d

/-! ### The synthesiser -/

/-- SYNTH_LOCK (R104, R107): lock in a band, after a loss of lock the stored one until the full search is repeated; the phase aligns at
the first subframe boundary that follows. -/
def synthLock (b band : Nat) (d : Dev) : Dev :=
  if (d.inLockWait b || (d.bay b).unlockAt.isSome) && !d.on (BAY_SYNTH_STAT_locked b) then
    d |> setB (BAY_SYNTH_STAT_locked b) true |> setB (BAY_SYNTH_STAT_aligned b) false
      |> onlyIf ((d.bay b).unlockAt.isNone || (d.bay b).searching) (setF (BAY_SYNTH_STAT_band b) band)
      |> modBay b (fun s => { s with unlockAt := none, searching := false, alignAt := d.nextSubframe 1 })
  else d

/-- SYNTH_UNLOCK (R106): the bay is muted, a bay in an RF state or a turnaround passes to Warm, E064 + 8p. DESIGN CHOICE (log entry 59):
a request for Standby or Off that a turnaround serves is dropped, and the bay stays in Warm. -/
def synthUnlock (b : Nat) (d : Dev) : Dev :=
  if d.on (BAY_SYNTH_STAT_locked b) then
    let rf := decide (d.fe b ≥ 3) || d.inTurn b
    let d := d |> calAbandon b |> onlyIf rf (leaveRf b)
    let d := d |> setB (BAY_SYNTH_STAT_locked b) false |> setB (BAY_SYNTH_STAT_aligned b) false
      |> setB (BAY_FE_STAT_lo_ready b) false |> setB (BAY_FE_STAT_muted b) true |> setF (BAY_FE_STAT_mute_cause b) 1
      |> incF (BAY_SYNTH_STAT_unlock_count b)
      |> modBay b (fun s => { s with unlockAt := some d.now, searching := false })
    let d := if rf then
        d |> setF (BAY_FE_STAT_state b) 2 |> setB (BAY_FE_STAT_in_transition b) false
          |> setB (BAY_CAL_STAT_running b) false |> modBay b (fun s => { s with dest := 2 })
      else d
    raise (pierEvent 64 b) b 0 0 d
  else d

/-- RELOCK_SEARCH (R107): 100 us after a loss of lock without relock, the full band search is repeated. -/
def relockSearch (b : Nat) (d : Dev) : Dev :=
  match (d.bay b).unlockAt with
  | some t => d |> passTo (t + usTicks 100) |> modBay b (fun s => { s with searching := true })
  | none => d

/-- SYNTH_FAIL (R107): 1 ms after a loss of lock without relock, the bay passes to Standby with failed set. DESIGN CHOICE (log entry 59):
it reads muted on, through Standby and Off, until a request for an RF state passes (R108). -/
def synthFail (b : Nat) (d : Dev) : Dev :=
  match (d.bay b).unlockAt with
  | some t =>
    d |> passTo (t + usTicks 1000) |> synthStop b |> setF (BAY_FE_STAT_state b) 1
      |> setB (BAY_FE_STAT_in_transition b) false |> setB (BAY_SYNTH_STAT_failed b) true
      |> modBay b (fun s => { s with dest := 1 }) |> raise (pierEvent 65 b) b 0 0
  | none => d

/-! ### Transmit muted for time -/

/-- TIME_MUTE (R43): while transmit is not permitted, a bay in TX or Loopback is muted at its next symbol boundary and
passes to Warm by a turnaround; its calibration run is abandoned. -/
def timeMute (b : Nat) (d : Dev) : Dev :=
  let tx := if d.inTurn b then decide (d.feTarget b ≥ 4) else decide (d.fe b ≥ 4)
  if tx && !d.txPermit then
    let d := d |> passTo (d.nextSymbol (d.bayGrid15 b) 0) |> calAbandon b
    d |> setB (BAY_FE_STAT_muted b) true |> setF (BAY_FE_STAT_mute_cause b) 2 |> turnToWarm b
  else d

/-- Transmit permitted again clears a mute cause TIME (R43). -/
def clearTimeMutes (d : Dev) : Dev :=
  forAll (List.range 8) (fun b d => if d.f (BAY_FE_STAT_mute_cause b) = 2 then setF (BAY_FE_STAT_mute_cause b) 0 d else d) d

/-! ### Gains -/

/-- A new gain applies to path n at now (R112): in force at once in the active direction, stored for the other. DESIGN CHOICE (log entry
59): the register shows it from here, and so reads an earlier write's value again between the boundaries of two writes. -/
def applyGain (n : Nat) (tx rx : Option Nat) (d : Dev) : Dev :=
  let b := bayOf n
  let k := posOf n
  let one := fun (dir : Nat) (on : Bool) (x : Fld) (v : Option Nat) (d : Dev) =>
    match v with
    | none => d
    | some v =>
      let d := setF x v d
      if on then setForced x v { d with gainStored := smPut 0 (2 * n + dir) 0 d.gainStored }
      else { d with gainStored := smPut 0 (2 * n + dir) (v % x.size + 1) d.gainStored }
  d |> one 0 (d.txOn b) (BAY_GAIN_tx_att b k) tx |> one 1 (d.rxOn b) (BAY_GAIN_rx_att b k) rx

/-- GAIN_SET on a path by its argument (R111). -/
def gainSetPath (arg n : Nat) (d : Dev) : Dev :=
  applyGain n (if arg.testBit 16 then some (bits arg 13 8) else none) (if arg.testBit 17 then some (bits arg 5 0) else none) d

/-! ### Overload and sheds -/

/-- The larger magnitude of a sample's I and Q ADC codes. -/
def codeMag (x : Int × Int) : Nat := max x.1.natAbs x.2.natAbs

/-- Does a code magnitude exceed the threshold of thr x 0.5 dB below converter full scale, 8,192 (R113)? The ratio is 10^(thr / 40), so
both sides are raised to the 40th power. -/
def overThr (thr mag : Nat) : Bool := decide (8192 ^ 40 < mag ^ 40 * 10 ^ thr)

/-- RX_OVERLOAD (R113): the slot of path n ends; `symbols` holds the ADC codes of its valid samples, symbol by symbol. -/
def rxOverload (n : Nat) (symbols : List (List (Int × Int))) (d : Dev) : Dev :=
  let b := bayOf n
  let k := posOf n
  if d.rxOn b && d.rxLive n then
    let peak := symbols.flatten.foldl (fun a x => max a (codeMag x)) (d.f (BAY_RX_PEAK_peak b k))
    let loud := fun (l : List (Int × Int)) => (l.filter fun x => overThr (d.f (BAY_RX_CFG_ovl_thr b)) (codeMag x)).length
    let d := setF (BAY_RX_PEAK_peak b k) (min peak 0x3FFF) d
    if symbols.any fun l => decide (loud l ≥ max 1 (d.f (BAY_RX_CFG_ovl_cnt b))) then
      d |> incF (BAY_RX_PEAK_ovl_slots b k)
        |> onlyIf (d.on (BAY_RX_CFG_ovl_evt_en b)) (raiseSlot (65536 * pierEvent 67 b + b) (pierEvent 67 b) b 0 n)
    else d
  else d

/-- TX paths of bay b, by bit, are shed: a capture of one of them notes it (R153). -/
def capShed (b mask : Nat) (d : Dev) : Dev := capTouch b (fun c => if mask.testBit (posOf c.path) then { c with left := true } else c) d

/-- Silence a path in the directions given and take it out of the live masks (R114); a capture of its transmission notes it (R153). -/
def shedPath (n : Nat) (tx rx : Bool) (d : Dev) : Dev :=
  let b := bayOf n
  let m := 1 <<< posOf n
  d |> onlyIf tx (capShed b m)
    |> modBay b (fun s => { s with
        shedTx := if tx then s.shedTx ||| m else s.shedTx
        shedRx := if rx then s.shedRx ||| m else s.shedRx })
    |> refreshLive b

/-- The fault bits of directions tx, rx of path n that a divergence alone holds, after a fault of this cause (R90, R116): a divergence
takes those not set before it, any other fault takes the bits it sets from it. -/
def divMark (n cause : Nat) (tx rx : Bool) (d : Dev) : Dev :=
  let b := bayOf n
  let m := 1 <<< posOf n
  let mark := fun (set on : Bool) (x : Nat) =>
    if !on then x else if cause ≠ 5 then maskOff x m else if set then x else x ||| m
  modBay b (fun s => { s with
    divTx := mark (d.fb (BAY_SHED_tx_fault b) (posOf n)) tx s.divTx
    divRx := mark (d.fb (BAY_SHED_rx_fault b) (posOf n)) rx s.divRx }) d

/-- PATH_FAULT (R114, R115): the directions that the cause sheds, active ones only, are silenced and their fault bits set;
the cause is shown. The shed completes with SHED_COMPLETE. -/
def pathFault (n cause : Nat) (d : Dev) : Dev :=
  let b := bayOf n
  let k := posOf n
  let tx := (cause == 1 || cause == 2 || cause == 4 || cause == 5 || cause == 6) && d.fb (BAY_ACTIVE_tx_active b) k
  let rx := (cause == 3 || cause == 4 || cause == 5) && d.fb (BAY_ACTIVE_rx_active b) k
  if tx || rx then
    d |> divMark n cause tx rx |> onlyIf tx (setBitF (BAY_SHED_tx_fault b) k) |> onlyIf rx (setBitF (BAY_SHED_rx_fault b) k)
      |> shedPath n tx rx
      |> setF (BAY_FAULT_CAUSE_cause b) (putBits (d.f (BAY_FAULT_CAUSE_cause b)) (4 * k + 3) (4 * k) cause)
      |> modBay b (fun s => { s with
          faults := if s.faults.any fun x => x.1 == k && x.2.1 == cause then s.faults else s.faults ++ [(k, cause, d.now)] })
  else d

/-- The causes of the faults of path n whose shed is not complete, oldest first (R115, R430). -/
def Dev.faultsOf (d : Dev) (n : Nat) : List Nat := ((d.bay (bayOf n)).faults.filter fun x => x.1 == posOf n).map fun x => x.2.1

/-- Does a path of pier p wait for the shed of a divergence to complete (R90, R429)? -/
def Dev.divPending (d : Dev) (p : Nat) : Bool := [2 * p, 2 * p + 1].any fun b => (d.bay b).faults.any fun x => x.2.1 == 5

/-- The device's part of SHED_COMPLETE beside the clear code (R115, R429, R430), `us` after the detection of the path's oldest fault that waits:
every such fault is contained, timed from its own detection, each with E066 + 8p, and the path in its detail; a divergence raised E146 instead.
Longer than 20 us raises E154 with the row of the fault, for a divergence once, with the last path of its pier. -/
def shedComplete (n us : Nat) (d : Dev) : Dev :=
  let b := bayOf n
  let mine := (d.bay b).faults.filter fun x => x.1 == posOf n
  let first := (mine.map fun x => x.2.2).foldl min ((mine.map fun x => x.2.2).headD 0)
  let own := fun (x : Nat × Nat × Nat) => us - (x.2.2 - first) * 1000000 / secTicks
  let d := modBay b (fun s => { s with faults := s.faults.filter fun x => x.1 != posOf n }) d
  d |> forAll (mine.filter fun x => x.2.1 != 5) (fun x d => d |> raise (pierEvent 66 b) n x.2.1 0
      |> onlyIf (decide (20 < own x)) (raise 154 n 1 (min (own x) 65535)))
    |> forAll (mine.filter fun x => x.2.1 == 5) (fun x d =>
        onlyIf (decide (20 < own x) && !d.divPending (pierOf n)) (raise 154 n 2 (min (own x) 65535)) d)

/-- The host bits that a write of BAY_SHED set take effect (R116): those paths are shed; a cleared bit waits for PATH_REJOIN. -/
def hostShedEffect (b tx rx : Nat) (d : Dev) : Dev :=
  d |> capShed b tx |> modBay b (fun s => { s with shedTx := s.shedTx ||| tx, shedRx := s.shedRx ||| rx }) |> refreshLive b

/-- Is a shed cause left on a path in a direction (R116)? -/
def Dev.txShedCause (d : Dev) (n : Nat) : Bool :=
  d.hk.bayOff.testBit (bayOf n) || d.fb (BAY_SHED_tx_host (bayOf n)) (posOf n) || d.fb (BAY_SHED_tx_fault (bayOf n)) (posOf n)
def Dev.rxShedCause (d : Dev) (n : Nat) : Bool :=
  d.fb (BAY_SHED_rx_host (bayOf n)) (posOf n) || d.fb (BAY_SHED_rx_fault (bayOf n)) (posOf n)

/-- A path whose transmitter rejoins is held to its SHED limit afresh (R365): what the limit tripped on before no longer keeps it from tripping. -/
def hkRearm (n : Nat) (d : Dev) : Dev :=
  if d.f (HK_LIM_action n) = 2 then
    { d with hk := { d.hk with lims := smPut {} n {} d.hk.lims } } |> setB (HK_CH_lim_hi n) false |> setB (HK_CH_lim_lo n) false
  else d

/-- PATH_REJOIN (R116, R487): in a guard period of its bay, at the next symbol boundary of the bay's carriers, a path comes
back in each direction that no cause holds. A cause that persists sheds it again at once. -/
def pathRejoin (n persists : Nat) (d : Dev) : Dev :=
  let b := bayOf n
  let m := 1 <<< posOf n
  if !d.inGuard b || d.fb DECK_SEAL_STAT_diverged (pierOf n) || d.pierHeld (pierOf n) then d
  else
    let tx := !d.txShedCause n
    let rx := !d.rxShedCause n
    let back := tx && (d.bay b).shedTx.testBit (posOf n)
    let d := d |> passTo (d.nextSymbol (d.bayGrid15 b) 0)
      |> modBay b (fun s => { s with
          shedTx := if tx then s.shedTx - (s.shedTx &&& m) else s.shedTx
          shedRx := if rx then s.shedRx - (s.shedRx &&& m) else s.shedRx })
      |> refreshLive b |> onlyIf rx (fun d => setChain n 1 { d.chain n 1 with begun := d.now } d)
    let d := onlyIf back (hkRearm n) d
    if persists ≠ 0 then pathFault n persists d else d

/-- BAY registers: what a write does beyond its fields' access codes. `old` is the word before. -/
def bayWriteAfter (b rel val : Nat) (d : Dev) : Dev :=
  if rel = 0 then feWrite b (bits val 2 0) d
  else if rel = 0x14 then
    deferTo (.hostShed b (bits val 7 0) (bits val 15 8)) (d.nextSymbol (d.bayGrid15 b) leadTicks) d
  else if 0x20 ≤ rel ∧ rel < 0x40 then
    deferTo (.gain (8 * b + (rel - 0x20) / 4) (bits val 13 8) (bits val 5 0)) d.refBoundary d
  else d

end Sys2Proof.Machine
end

