-- ==== Sys2Proof/Machine/Chains.lean ====
section
/-!
DEFINITION. Sample chains: converter words, the response ROM, shifts, cross-fades and SYNC (chapter 05, R119 to R139).
-/
namespace Sys2Proof.Machine

/-! ### Words and formats -/

/-- Saturate to w bits, two's complement. -/
def satS (w : Nat) (x : Int) : Int := max (-(2 ^ (w - 1) : Nat)) (min ((2 ^ (w - 1) : Nat) - 1) x)

/-- Shift right with rounding half up (R128): no change for s = 0. -/
def shrRound (s : Nat) (x : Int) : Int := if s = 0 then x else (x + (2 ^ (s - 1) : Nat)) / (2 ^ s : Nat)

/-- The DAC code of a native component (R120). -/
def dacCode (x : Int) : Int := satS 14 ((x + 2) / 4)

/-- Does the DAC conversion of x saturate (R120)? -/
def dacSat (x : Int) : Bool := decide ((x + 2) / 4 ≠ dacCode x)

/-- The native component of an ADC code (R121). -/
def adcWord (c : Int) : Int := 4 * c

/-- A stage's store after its shift (R128), and whether it saturated. -/
def stageStore (s : Nat) (x : Int) : Int := satS 16 (shrRound s x)
def stageSat (s : Nat) (x : Int) : Bool := decide (shrRound s x ≠ stageStore s x)

/-- The k-th of the 64 samples of a cross-fade (R135). -/
def fadeSample (k : Nat) (old new : Int) : Int := satS 16 ((old * (64 - k : Int) + new * (k : Int) + 32) / 64)

/-- A response of the ROM (R126): its name, its stage (0 to 2 of a pier chain; 3 channel, 4 half-band, 5 the ratio of 3) and direction, its
ratio, its taps, its passband and stopband in 10 kHz, or in 0.01 r on the deck, with 0 for none, its attenuation in dB; or a pure delay. -/
structure RomRow where
  name : String
  dir : Nat
  stage : Nat
  up : Nat
  down : Nat
  taps : Nat
  pass : Nat
  stop : Nat
  atten : Nat
  plain : Bool
deriving DecidableEq, Repr

/-- The pure delay, and the response ROM (R126). -/
def romFlat : RomRow := ⟨"TXEQ_FLAT", 0, 2, 1, 1, 9, 0, 0, 0, true⟩
def romPier : List RomRow :=
  [⟨"TX2A_W", 0, 0, 2, 1, 95, 30000, 43728, 80, false⟩, ⟨"TX2A_N", 0, 0, 2, 1, 95, 10000, 63728, 95, false⟩,
   ⟨"TX2B_W", 0, 1, 2, 1, 23, 30000, 117456, 85, false⟩, ⟨"TX2B_N", 0, 1, 2, 1, 23, 10000, 137456, 100, false⟩,
   ⟨"TXEQ_SINC", 0, 2, 1, 1, 9, 76000, 0, 0, false⟩, romFlat,
   ⟨"RXEQ_W", 1, 0, 1, 1, 9, 72500, 0, 0, false⟩, ⟨"RXEQ_N", 1, 0, 1, 1, 9, 10000, 0, 0, false⟩,
   ⟨"RXEQ_FLAT", 1, 0, 1, 1, 9, 0, 0, 0, true⟩,
   ⟨"RX2_W", 1, 1, 1, 2, 65, 30000, 68304, 80, false⟩, ⟨"RX2_N", 1, 1, 1, 2, 65, 10000, 88304, 95, false⟩,
   ⟨"RX34_W", 1, 2, 3, 4, 193, 30000, 43728, 80, false⟩, ⟨"RX34_N", 1, 2, 3, 4, 193, 10000, 63728, 95, false⟩,
   ⟨"RX34_M", 1, 2, 3, 4, 193, 20000, 53728, 90, false⟩]
def romDeck : List RomRow :=
  [⟨"CU2_S", 0, 3, 2, 1, 127, 40, 60, 85, false⟩, ⟨"CU2_L", 0, 3, 2, 1, 63, 40, 60, 65, false⟩,
   ⟨"CU2_H", 0, 4, 2, 1, 23, 20, 80, 90, false⟩, ⟨"CU3_S", 0, 5, 3, 1, 31, 20, 80, 90, false⟩, ⟨"CU3_L", 0, 5, 3, 1, 19, 20, 80, 70, false⟩,
   ⟨"CD3_S", 1, 5, 1, 3, 31, 20, 80, 90, false⟩, ⟨"CD3_L", 1, 5, 1, 3, 19, 20, 80, 70, false⟩,
   ⟨"CD2_H", 1, 4, 1, 2, 21, 20, 80, 90, false⟩, ⟨"CD2_S", 1, 3, 1, 2, 125, 40, 60, 85, false⟩, ⟨"CD2_L", 1, 3, 1, 2, 61, 40, 60, 65, false⟩]
def rom : List RomRow := romPier ++ romDeck
def romRow (idx : Nat) : RomRow := rom.getD idx romFlat

/-- The centre tap of a linear-phase response. -/
def RomRow.centre (r : RomRow) : Nat := (r.taps - 1) / 2

/-- Group delay, and priming count, of a response in output samples (R126, R127). -/
def respDelay (idx : Nat) : Nat := (romRow idx).centre / (romRow idx).down

/-- May a response stand at a stage of a direction, 0 TX, 1 RX (R126)? -/
def respAllowed (dir stage idx : Nat) : Bool :=
  match romPier[idx]? with | some r => r.dir == dir && r.stage == stage | none => false

/-- The half-band stages of a carrier rate, in units of 7.68 MS/s: 16, 8, 4, 2, 1 give 0 to 4 (R124). -/
def halfBands (r768 : Nat) : Nat := if r768 = 16 then 0 else if r768 = 8 then 1 else if r768 = 4 then 2 else if r768 = 2 then 3 else 4

/-- n samples at a rate of m x 7.68 MS/s, in picoseconds, as a fraction of 768 over m (R131). -/
def latSum (l : List (Nat × Nat)) : Nat × Nat :=
  l.foldl (fun a p => (a.1 * p.2 + p.1 * a.2, a.2 * p.2)) (0, 1)

/-- Round n x 10^8 / (768 d) picoseconds to the nearest, a tie up (R131). -/
def latPs (x : Nat × Nat) : Nat := (2 * x.1 * 100000000 + 768 * x.2) / (2 * 768 * x.2)

/-- The fixed pipelines and pier stages after the carrier stages, as (samples, rate in 7.68 MS/s) (R131): combiner or
splitter at 96; pier ROM stages; pier pipeline; the 6 ns crossing is 6 x 7.68 / 1000 samples at 1, written 4,608 at 10^5. -/
def dlFixed : List (Nat × Nat) := [(4, 96), (47, 192), (11, 384), (4, 384), (40, 384), (4608, 100000)]
def ulFixed : List (Nat × Nat) := [(4, 96), (4, 256), (16, 128), (24, 96), (12, 256), (8, 96), (4608, 100000)]

/-- Digital latency of a carrier of rate r768, short or long responses, in ps (R131). -/
def dlLatency (r768 : Nat) (low : Bool) : Nat :=
  let h := halfBands r768
  latPs (latSum (dlFixed ++ [(if low then 31 else 63, 2 * r768)] ++
    (List.range h).map (fun i => (11, 2 ^ (i + 2) * r768)) ++ [(if low then 9 else 15, 96)]))

def ulLatency (r768 : Nat) (low : Bool) : Nat :=
  let h := halfBands r768
  latPs (latSum (ulFixed ++ [(if low then 3 else 5, 32)] ++
    (List.range h).map (fun i => (5, 32 / 2 ^ (i + 1))) ++ [(if low then 15 else 31, r768)]))

/-! ### Responses in force -/

/-- The response fields of a chain's stages. -/
def respFld (n dir stage : Nat) : Fld :=
  let b := bayOf n
  let k := posOf n
  match dir, stage with
  | 0, 0 => BAY_TXCH_resp0 b k
  | 0, 1 => BAY_TXCH_resp1 b k
  | 0, _ => BAY_TXCH_resp2 b k
  | _, 0 => BAY_RXCH_resp0 b k
  | _, 1 => BAY_RXCH_resp1 b k
  | _, _ => BAY_RXCH_resp2 b k

def fadingFld (n dir : Nat) : Fld := if dir = 0 then BAY_TXCH_fading (bayOf n) (posOf n) else BAY_RXCH_fading (bayOf n) (posOf n)
def queuedFld (n dir : Nat) : Fld := if dir = 0 then BAY_TXCH_queued (bayOf n) (posOf n) else BAY_RXCH_queued (bayOf n) (posOf n)

/-- The shift fields of a chain's stages, 0 to 2. -/
def shiftFlds (n dir : Nat) : List Fld :=
  let b := bayOf n
  let k := posOf n
  if dir = 0 then [BAY_TXCH_sh0 b k, BAY_TXCH_sh1 b k, BAY_TXCH_sh2 b k]
  else [BAY_RXCH_sh0 b k, BAY_RXCH_sh1 b k, BAY_RXCH_sh2 b k]

/-- The rate of carrier c in units of 7.68 MS/s: its transform size times its spacing (R124, R485). -/
def SpanImg.rate768 (m : SpanImg) (c : Nat) : Nat :=
  match m.carrier c with
  | some r => 2 ^ (r.b 4) * (if r.b 1 = 0 then 1 else 2) / 512
  | none => 1

/-! ### Numbering of samples -/

/-- What makes an instant the tick that numbers its samples: at a subframe boundary of air time that tick is a multiple of the ticks of a
subframe, 983,040 (R123). -/
def Dev.sigOff (d : Dev) : Nat := (d.t.tick + (983040 - d.now % 983040)) % 983040

/-- The first sample number of a rate of `num` samples in `den` ticks at or after tick a, and the numbers that fall in tick a. -/
def firstIn (num den a : Nat) : Nat := (a * num + den - 1) / den
def labelsIn (num den a : Nat) : List Nat := (List.range (firstIn num den (a + 1) - firstIn num den a)).map (firstIn num den a + ·)

/-- Output samples of a pier stage in an air tick, as a fraction (R119); a sample's length in twelfths of a tick. -/
def stageRate (dir stage : Nat) : Nat × Nat :=
  match dir, stage with | 0, 0 => (3, 2) | 0, _ => (3, 1) | _, 0 => (2, 1) | _, 1 => (1, 1) | _, _ => (3, 4)
def sampleLen (dir stage : Nat) : Nat := 12 * (stageRate dir stage).2 / (stageRate dir stage).1

/-- The number of a stage's first sample at or after an air time in twelfths of a tick. -/
def Dev.sampleAt (d : Dev) (dir stage at12 : Nat) : Nat := (at12 + 12 * d.sigOff + sampleLen dir stage - 1) / sampleLen dir stage

/-! ### Which samples are valid (R127, R133, R137) -/

/-- The sample of carrier c for path n with a number, from the symbol of the arch that holds it: none before the chain began (R133). -/
def Dev.dlSample (d : Dev) (c n label : Nat) : Smp :=
  let m := d.map.rate768 c
  if label < firstIn m 128 ((d.chain n 0).begun + d.sigOff) then {}
  else
    let hit := (smGet [] (64 * c + n) d.sig.dl).filterMap fun s =>
      let j : Int := label - (s.at_ + d.sigOff) * m / 128
      if 0 ≤ j ∧ j < s.x.length then s.x[j.toNat]? else none
    match hit with | v :: _ => ⟨v.1, v.2, true⟩ | [] => {}

/-- Is the combiner's sample number q of path n valid (R125, R127): each carrier's, whose stages all keep the air time? -/
def Dev.combinedOk (d : Dev) (n q : Nat) : Bool :=
  let cs := d.map.carriersOf (bayOf n)
  !cs.isEmpty && cs.all fun c => (d.dlSample c n (q * d.map.rate768 c / 96)).ok

/-- The longest downlink latency among the carriers of path n, in ps (R131). -/
def Dev.dlLongest (d : Dev) (n : Nat) : Nat :=
  (d.map.carriersOf (bayOf n)).foldl (fun a c => max a (dlLatency (d.map.rate768 c) (d.on (ARCH_CC_CFG_dl_lat c)))) 0

/-- The paths of an entry's target (R49). -/
def TtEntry.paths (e : TtEntry) : List Nat :=
  let i := e.index
  match e.kind with
  | 0 => List.range 64
  | 1 => (List.range 32).map fun k => 32 * i + k
  | 2 => (List.range 16).map fun k => 16 * i + k
  | 3 => bayPaths i
  | 4 => [i]
  | _ => []

/-- The air times of the SYNCs of span s that are due: armed SYNC entries (R57, code 6, kind span) and that of a step (R132). -/
def Dev.syncsDue (d : Dev) (s : Nat) : List Int :=
  (d.tt.filterMap fun x => let e := x.2
    if e.armed && e.action == 6 && e.kind == 1 && e.index == s then some e.due else none) ++
  d.deferred.filterMap fun x => match x.kind with | .sync k => if k = s then some (x.due : Int) else none | _ => none

/-- Is the TX sample of path n at an air time, in thirds of a tick, blanked by a SYNC that is due within the longest downlink latency
(R133)? A tick is 10^8 / 98,304 ps. -/
def Dev.syncBlanks (d : Dev) (n : Nat) (t3 : Int) : Bool :=
  (d.syncsDue (spanOf n)).any fun T => decide (t3 < 3 * T ∧ (3 * T - t3) * 100000000 ≤ 3 * 98304 * d.dlLongest n)

/-- Air ticks from the first valid input of an RX chain to the first valid output of its pier stages, and of its crossing (R127, R131): 12 samples
of ADC pipeline, the group delays, and 8 samples after stage 2. -/
def rxPrime (stage : Nat) : Nat := match stage with | 0 => 8 | 1 => 24 | 2 => 56 | _ => 67

/-- Does a stage of a chain produce valid output, or its end, stage 3: the DACs' input, or the crossing (R127, R137): its direction active
outside a turnaround, the path live, and the stage not priming? A TX sample is valid when the carriers' samples of its air time are. -/
def Dev.chainValid (d : Dev) (n dir stage : Nat) : Bool :=
  if dir = 0 then
    let label := d.sampleAt 0 (min stage 2) (12 * d.now)
    d.txOn (bayOf n) && d.txLive n && !d.syncBlanks n (3 * d.now) && d.combinedOk n (if stage = 0 then label / 2 else label / 4)
  else d.rxOn (bayOf n) && d.rxLive n && decide (max (d.bay (bayOf n)).rfFrom (d.chain n 1).begun + rxPrime stage ≤ d.now)

/-- The end of a chain's cross-fade of a stage, in twelfths of an air tick: the air time of the sample after its 64th (R135). -/
def Dev.fadeEnd (d : Dev) (n dir stage : Nat) : Nat :=
  (d.sampleAt dir stage (d.chain n dir).fadeAt + 64) * sampleLen dir stage - 12 * d.sigOff

/-- A stage's response changes from an air time on, in twelfths of a tick: its samples from there show it. -/
def noteSwap (n dir stage idx at12 : Nat) (faded : Bool) (d : Dev) : Dev :=
  setChain n dir { d.chain n dir with swaps := ⟨stage, d.f (respFld n dir stage), idx, at12, faded⟩ :: (d.chain n dir).swaps.take 7 } d

/-- Begin a cross-fade of one stage at an air time in twelfths of a tick (R135): the register shows the new response from here. -/
def startFade (n dir stage idx at12 : Nat) (d : Dev) : Dev :=
  let d := noteSwap n dir stage idx at12 true d
  d |> setChain n dir { d.chain n dir with fade := some (stage, d.f (respFld n dir stage)), queued := none, fadeAt := at12 }
    |> setF (respFld n dir stage) idx |> setB (fadingFld n dir) true |> setB (queuedFld n dir) false

/-- A RESP_SWAP executes on one chain (R135 to R137), at an air time in twelfths of a tick. DESIGN CHOICE (log entry 61): a cross-fade whose
chain stops producing valid output goes on to its end, and swaps queue behind it. -/
def respSwap (n dir stage idx at12 : Nat) (d : Dev) : Dev :=
  let c := d.chain n dir
  match c.fade with
  | some (st, _) =>
    match c.queued with
    | none =>
      if st = stage ∧ d.f (respFld n dir stage) = idx then d
      else d |> setChain n dir { c with queued := some (stage, idx) } |> setB (queuedFld n dir) true
    | some _ =>
      d |> setChain n dir { c with queued := some (stage, idx) } |> incF (BAY_CH_STAT_swap_replaced (bayOf n))
  | none =>
    if d.f (respFld n dir stage) = idx then d
    else if d.chainValid n dir stage then startFade n dir stage idx at12 d
    else d |> noteSwap n dir stage idx at12 false |> setF (respFld n dir stage) idx

/-- CROSS_FADE_END (R135, R136): the running cross-fade of a chain ends after its 64 samples; a queued swap starts on the next one. DESIGN
CHOICE (log entry 61): a queued swap that names the response then in force starts no cross-fade. -/
def crossFadeEnd (n dir : Nat) (d : Dev) : Dev :=
  let c := d.chain n dir
  match c.fade with
  | none => d
  | some f =>
    let end12 := d.fadeEnd n dir f.1
    let d := d |> passTo ((end12 + 11) / 12) |> setChain n dir { c with fade := none, queued := none } |> setB (fadingFld n dir) false |> setB (queuedFld n dir) false
      |> incF (BAY_CH_STAT_swap_done (bayOf n))
    match c.queued with
    | some (st, idx) => respSwap n dir st idx end12 d
    | none => d

/-- End a chain's swaps at once: install the queued response, else keep the one being faded to (R137). -/
def endSwaps (n dir : Nat) (d : Dev) : Dev :=
  let c := d.chain n dir
  let d := match c.queued with
    | some (st, idx) => setF (respFld n dir st) idx d
    | none => d
  d |> setChain n dir { begun := d.now } |> setB (fadingFld n dir) false |> setB (queuedFld n dir) false

/-- A pier chain takes its responses and shifts from its CHAIN record (R130), discarding running and queued swaps. -/
def loadChain (n dir : Nat) (d : Dev) : Dev :=
  let d := d |> setChain n dir { begun := d.now } |> setB (fadingFld n dir) false |> setB (queuedFld n dir) false
  match d.map.get 3 (2 * n + dir) with
  | none => d
  | some r =>
    let sh := shiftFlds n dir
    forAll [0, 1, 2] (fun i d =>
      let x := sh.getD i (respFld n dir i)
      d |> setF (respFld n dir i) (r.b (2 * i)) |> setF x (r.b (2 * i + 1)) |> setForced x (r.b (2 * i + 1))) d

/-- The shifts shown come into force: written back when a pier powers up (R130, R396). -/
def restoreShifts (n dir : Nat) (d : Dev) : Dev :=
  forAll (shiftFlds n dir) (fun x d => setForced x (d.f x) d) d

/-- The elements of a chain are empty (R127, R133); what the uplink has delivered stays. -/
def PathSig.emptied (p : PathSig) : PathSig :=
  { ul := p.ul.map fun x => (x.1, { x.2 with fs := [] }) }

/-- The samples of carrier c that an uplink chain has delivered, up to those taken at the antenna port L_c before now: later ones are lost in a
SYNC (R133), L_c being the carrier's latency. An air tick is 10^8 / 98,304 ps. -/
def Dev.cutUplink (d : Dev) (c : Nat) (b : Buf) : Buf :=
  let m := d.map.rate768 c
  let n := (((d.now + d.sigOff) * 100000000 - ulLatency m (d.on (ARCH_CC_CFG_ul_lat c)) * 98304) * m + 12799999999) / 12800000000
  { xs := b.xs.drop (b.n - n), n := min b.n n }

/-- The elements of a span's chains discard their contents (R133): deck and pier, the combiner's saturation state and the DC estimates; the
counts of saturations stay. -/
def discardSamples (s : Nat) (d : Dev) : Dev :=
  let cut := fun (p : PathSig) => { p.emptied with ul := p.emptied.ul.map fun x => (x.1, { x.2 with out := d.cutUplink x.1 x.2.out }) }
  let rest := fun (x : Nat × PathSig) =>
    if spanOf x.1 != s then some x else if cut x.2 = {} then none else some (x.1, cut x.2)
  { d with sig := { d.sig with paths := d.sig.paths.filterMap rest } }

/-- SYNC of span s at now (R133, R137): counted; chains restart empty, swaps end; runs on the span's bays are abandoned
(R226). -/
def syncSpan (s : Nat) (d : Dev) : Dev :=
  let d := if s = 0 then incF ARCH_CC_STAT_sync0 d else incF ARCH_CC_STAT_sync1 d
  let d := d |> discardSamples s |> forAll ((List.range 4).map fun i => 4 * s + i) calAbandon
  if d.piersUp then
    forAll ((List.range 32).map fun i => 32 * s + i) (fun n d => d |> endSwaps n 0 |> endSwaps n 1) d
  else d

/-- A shift field of a chain is written: in force at the next reference boundary (R138). -/
def chainWriteAfter (n dir : Nat) (d : Dev) : Dev :=
  deferTo (.values ((shiftFlds n dir).map fun x => (x, d.f x))) d.refBoundary d

end Sys2Proof.Machine
end

