-- ==== Sys2Proof/Machine/Timeline.lean ====
section
/-!
DEFINITION. Network time, air time, time quality, alignment and the 1PPS signals (chapter 02, R28 to R47, R58 to R63).
-/
namespace Sys2Proof.Machine

/-- The time quality codes: 0 FREE, 1 ACQUIRING, 2 LOCKED, 3 HOLDOVER, 4 COASTED (R42). -/
def Dev.quality (d : Dev) : Nat := d.f TL_QUALITY_state

/-- The time quality becomes q: permission follows (R43), the run of good updates starts afresh, FREE clears stepped
(R491), and permission regained clears the mute causes TIME. A change is to be reported (R284). -/
def setQuality (q : Nat) (d : Dev) : Dev :=
  let permit := q == 2 || q == 3
  let d := if d.quality = q ∧ d.txPermit = permit then d else { d with xk := { d.xk with owed := d.xk.owed + 1 } }
  let d := d |> setF TL_QUALITY_state q |> setB TL_QUALITY_tx_permit permit
  let d := { d with t := { d.t with goodRun := 0 } }
  let d := if q = 0 then setB TL_QUALITY_stepped false d else d
  if permit then clearTimeMutes d else d

/-! ### The timetable's share of a step -/

def Dev.ttE (d : Dev) (i : Nat) : TtEntry := smGet {} i d.tt
def setTt (i : Nat) (e : TtEntry) (d : Dev) : Dev := { d with tt := smPut {} i e d.tt }

/-- Cancel every armed entry that a test picks; the number cancelled comes back (R39, R56, R81, R84). -/
def cancelArmed (p : Nat → TtEntry → Bool) (d : Dev) : Dev × Nat :=
  let hit := d.tt.filter fun x => x.2.armed && p x.1 x.2
  ({ d with tt := d.tt.map fun x => if x.2.armed && p x.1 x.2 then (x.1, { x.2 with armed := false, status := 5 }) else x }, hit.length)

/-! ### The rate correction -/

/-- 100 ppm in units of 2^-48 (R32). -/
def rateLimit : Int := 28147497671

/-- r as the TL_RATE registers hold it: 36 bits, two's complement (R31). -/
def showRate (r : Int) (d : Dev) : Dev :=
  let w := (r % 0x1000000000).toNat
  d |> setF TL_RATE_LO_rate_lo (w % 0x100000000) |> setF TL_RATE_HI_rate_hi (w / 0x100000000)

/-- A committed r shows at once; with role OFF it is in force at once, else at the frame after the ALIGN frame that carries it
(R32). -/
def putRate (c : Int) (d : Dev) : Dev :=
  let d := showRate c d
  if d.f TL_ALIGN_CFG_role = 0 then { d with t := { d.t with r := c, rPend := none, rCarried := none } }
  else { d with t := { d.t with rPend := some c } }

/-- Commit a value of r (R32): clamped to 100 ppm with rate_clamp and E013. -/
def commitRate (v : Int) (d : Dev) : Dev :=
  let c := max (-rateLimit) (min rateLimit v)
  d |> (if c ≠ v then fun d => d |> setB TL_STATUS_rate_clamp true |> raise0 13 else id) |> putRate c

/-- The servo commits r with origin LOOP: kept for the mean of holdover (R44) and in the excursion of loop 1 (R417). -/
def servoRate (v : Int) (d : Dev) : Dev :=
  let d := commitRate v d
  let c := max (-rateLimit) (min rateLimit v)
  { d with t := { d.t with servoR := c :: d.t.servoR.take 15 } } |> loopAct 1 0 (c / 256)

/-- RATE_APPLY (R32): the committed r takes effect at the start of the frame after the ALIGN frame that carries it. -/
def rateApply (d : Dev) : Dev :=
  match d.t.rCarried with
  | none => d
  | some (v, t) => let d := passTo t d; { d with t := { d.t with r := v, rCarried := none } }

/-- The frame boundary at t begins: a value due by then is in force. -/
def rateDue (d : Dev) : Dev :=
  match d.t.rCarried with
  | some (v, t) => if t ≤ d.now then { d with t := { d.t with r := v, rCarried := none } } else d
  | none => d

/-- In holdover r stays at the mean of the last 16 values that the servo committed (R44). DESIGN CHOICE (log entry 57): of fewer
than 16 the mean of those there are, rounded down; of none r stays. -/
def holdMeanRate (d : Dev) : Dev :=
  match d.t.servoR with
  | [] => d
  | l =>
    let r := l.foldl (· + ·) 0 / (l.length : Int)
    d |> putRate r |> loopAct 1 0 (r / 256)

/-! ### The estimated error -/

/-- One nanosecond in the fine units of the estimate: 1/(3,072 x 10^10) ns. -/
def fineNs : Nat := 30720000000000

/-- Growth of the estimate over n air ticks: stab x 0.1 ppb of the time (R44). -/
def errGrowth (d : Dev) (n : Nat) : Nat := 3125 * n * d.f TL_HO_CFG_stab

/-- Does an aligned follower receive valid ALIGN frames (R42, R44)? -/
def Dev.following (d : Dev) : Bool := d.on TL_QUALITY_follower && d.t.alignLive

/-- The estimate now, in fine units; none: 0xFFFF_FFFF (R44). -/
def Dev.errNow (d : Dev) : Option Nat :=
  let follow := d.following
  match d.quality with
  | 1 => if follow then none else some (d.t.recent.headD 0 * 10000000000)
  | 2 => if follow then some 0
         else some ((d.t.recent.take (max 1 (d.f TL_REF_CFG_lock_count))).foldl max 0 * 10000000000)
  | 3 => some (d.t.eLast + errGrowth d (d.now - d.t.eAt))
  | 4 => if follow then none else some (d.t.eLast + errGrowth d (d.now - d.t.eAt))
  | _ => none

/-- Show an estimate in TL_ERR_EST, whole nanoseconds, saturating (R44). DESIGN CHOICE (log entry 57): a fraction of a nanosecond is dropped. -/
def showErr (d : Dev) : Dev :=
  match d.errNow with
  | none => setF TL_ERR_EST_err_ns 0xFFFFFFFF d
  | some e => setF TL_ERR_EST_err_ns (min (e / fineNs) 0xFFFFFFFF) d

/-- Start the growth of the estimate from a magnitude in 1/3,072 ns at an instant (R44). -/
def errFrom (mag at_ : Nat) (d : Dev) : Dev := { d with t := { d.t with eLast := mag * 10000000000, eAt := at_ } }

/-! ### Moves of the time quality -/

/-- Enter HOLDOVER (R42, R44): the estimate grows from the last accepted update, r holds its mean, E001. -/
def enterHoldover (d : Dev) : Dev :=
  let e := (d.t.recent.take (max 1 (d.f TL_REF_CFG_lock_count))).foldl max 0
  d |> errFrom e d.t.lastAccepted |> setQuality 3 |> holdMeanRate |> raise0 1

/-- Enter LOCKED (R42): E000. -/
def enterLocked (d : Dev) : Dev := d |> setQuality 2 |> raise0 0

/-- HOLDOVER ends in FREE when the estimate passes 1,100 ns (R42): E002. -/
def expireHoldover (d : Dev) : Dev := d |> setQuality 0 |> showErr |> raise0 2

/-! ### Steps -/

/-- Base cycles nearest to an offset in 1/3,072 ns, a tie away from zero (R38): a base cycle is 25,000 of them. -/
def stepCycles (off : Int) : Int :=
  if off ≥ 0 then (2 * off + 25000) / 50000 else -((2 * (-off) + 25000) / 50000)

/-- What a change of the air time moves: a phase that waits aligns at the first subframe boundary of the air time that now runs (R104), and the
running interval of the loops ends at its frame boundary (R417). -/
def rephase (d : Dev) : Dev :=
  let d := { d with ldg := { d.ldg with loopsEnd := if d.now < d.ldg.loopsEnd then d.intervalEnd else d.ldg.loopsEnd } }
  forAll (List.range 8) (fun b d => if d.phaseWaits b then modBay b (fun s => { s with alignAt := d.nextSubframe 0 }) d else d) d

/-- The air-time counter and frame_in_second that network time gives (R29), exact to the fraction it carries. -/
def setAirTime (d : Dev) : Dev :=
  let gt : Int := ((d.t.ntU : Int) - 315964819000000000 * 3072) / 3125
  let a : Int := gt - d.t.frameOffset
  let fr := a / 9830400
  { d with t := { d.t with
      tick := (a % 9830400).toNat
      frame := (fr % 1024).toNat
      fis := (fr % 100).toNat } } |> rephase

/-- The air tick, counted from frame 0, that network time gives (R29). -/
def Dev.airOf (d : Dev) : Int := ((d.t.ntU : Int) - 315964819000000000 * 3072) / 3125 - d.t.frameOffset

/-- The number of frames, nearest to 0, from frame number F to one that reads `frame` modulo 1,024 and `fis` modulo 100; by `frame`
alone when no frame number reads both. -/
def framesTo (F : Int) (frame fis : Nat) : Int :=
  let df := (((frame : Int) - F) % 1024).toNat
  let ds := (((fis : Int) - F) % 100).toNat
  let (k, n) := match (List.range 25).find? fun j => (df + 1024 * j) % 100 == ds with
    | some j => (df + 1024 * j, 25600)
    | none => (df, 1024)
  if 2 * k ≥ n then (k : Int) - n else k

/-- A wrap of TL_NT, 2^32 ns, in 1/3,072 ns. -/
def wrapUnits : Nat := 2 ^ 32 * 3072

/-- The air timeline is placed at a tick of a frame (R60): network time moves with it, to the nearest instant that gives it (R29).
A wrap of TL_NT that LEDGER_EPOCH has not counted yet still counts (R414). -/
def placeAir (tick frame fis : Nat) (d : Dev) : Dev :=
  let a := d.airOf
  let b := (a / 9830400 + framesTo (a / 9830400) frame fis) * 9830400 + tick
  let u := (((d.t.ntU : Int) + 3125 * (b - a)) % (2 ^ 64 * 3072 : Nat)).toNat
  { d with t := { d.t with ntU := u, wraps := u / wrapUnits - (d.t.ntU / wrapUnits - d.t.wraps), tick := tick, frame := frame, fis := fis } } |> rephase

/-- Is a deferred effect a SYNC? -/
def Deferred.isSync (x : Deferred) : Bool := match x.kind with | .sync _ => true | _ => false

/-- The actions of every step (R39, R414): armed entries cancelled with one CANCEL record, the ledger's epoch invalid, and a
SYNC of both spans at the first frame boundary after it. -/
def stepActions (d : Dev) : Dev :=
  let (d, n) := cancelArmed (fun _ _ => true) d
  d |> setB LEDGER_EPOCH_valid false |> ledgerPut .none 5 0 0x100000 0 n
    |> (fun d => { d with deferred := d.deferred.filter fun x => !x.isSync })
    |> deferTo (.sync 0) d.nextFrame |> deferTo (.sync 1) d.nextFrame

/-- Network time moves by whole base cycles (R38), modulo 2^64 ns. -/
def moveTime (cycles : Int) (d : Dev) : Dev :=
  let u := (((d.t.ntU : Int) + cycles * 25000) % (2 ^ 64 * 3072 : Nat)).toNat
  { d with t := { d.t with ntU := u, wraps := u / wrapUnits } }

/-- An accepted update's magnitude is kept (R44), it restarts the loss timeout, and clears the run of refusals. -/
def noteAccepted (mag : Nat) (d : Dev) : Dev :=
  { d with t := { d.t with recent := mag :: d.t.recent.take 254, lastAccepted := d.now } }
    |> setF TL_STATUS_refused_run 0

/-- Make a step by an offset in 1/3,072 ns (R38, R47): the whole base cycles move network time and the remainder is left
to r; the stepping update is the first good one of its run (R491). -/
def makeStep (off : Int) (rate : Int) (d : Dev) : Dev :=
  let k := stepCycles off
  let rem := (off - k * 25000).natAbs
  let coasted := d.quality = 4
  let d := { d with t := { d.t with frameOffset := d.f TL_FRAME_OFFSET_ticks } }
  let d := d |> moveTime k |> setAirTime |> stepActions |> setB TL_QUALITY_stepped true |> noteAccepted rem |> servoRate rate
  let d := if coasted then errFrom rem d.now { d with t := { d.t with coastFirst := false } }
    else setQuality 1 { d with t := { d.t with recent := [rem] } }
  let d := { d with t := { d.t with goodRun := 1 } }
  let d := if d.t.restepArmed then raise0 12 { d with t := { d.t with restepArmed := false } } else d
  if 1 ≥ d.f TL_REF_CFG_lock_count then enterLocked d else d

/-- A step that its update qualifies for: held and discarded while a bay is above Warm or in a turnaround (R39). -/
def tryStep (off : Int) (rate : Int) (d : Dev) : Dev :=
  if d.baysStill then makeStep off rate d else setB TL_STATUS_step_held true d

/-- An update beyond its limit is refused (R40): r unchanged, E006; the eighth in a row ends LOCKED (R42). -/
def refuseUpdate (d : Dev) : Dev :=
  d |> setB TL_STATUS_jump_refused true |> incF TL_STATUS_refused_run |> raise0 6
    |> (fun d => { d with t := { d.t with goodRun := 0 } })
    |> fun d => if d.quality = 2 ∧ 8 ≤ d.f TL_STATUS_refused_run then enterHoldover d else d

/-- An update within TL_JUMP_MAX is accepted and absorbed through r (R40); lock_count good ones in a row give LOCKED
(R42, R491). DESIGN CHOICE (log entry 57): in HOLDOVER too it is absorbed through r, which leaves the mean of R44. -/
def acceptUpdate (mag : Nat) (rate : Int) (d : Dev) : Dev :=
  let d := d |> noteAccepted mag |> servoRate rate
  let d := if d.quality = 3 ∨ d.quality = 4 then errFrom mag d.now { d with t := { d.t with coastFirst := false } } else d
  let good := decide (mag ≤ d.f TL_REF_CFG_lock_thresh * 3072)
  let run := if good then d.t.goodRun + 1 else 0
  let d := { d with t := { d.t with goodRun := run } }
  if good ∧ run ≥ max 1 (d.f TL_REF_CFG_lock_count) ∧ (d.quality = 1 ∨ d.quality = 3 ∨ d.quality = 4) then enterLocked d else d

/-- One completed servo measurement (R38, R40, R47, R58, R37), offset in 1/3,072 ns. DEDUCED (log entry 57): a device that slept before its first
step wakes COASTED with stepped 0; R42 and R47 give no step to one that has then left COASTED for LOCKED, and only FREE steps under R38. -/
def servoUpdate (off : Int) (rate : Int) (d : Dev) : Dev :=
  let mag := off.natAbs
  let jump := max 20 (d.f TL_JUMP_MAX_ns) * 3072
  if !d.running ∨ d.f TL_ALIGN_CFG_role = 2 then d
  else if d.t.skip > 0 then { d with t := { d.t with skip := d.t.skip - 1 } }
  else if d.quality = 4 ∧ d.t.coastFirst then
    if mag ≤ jump then acceptUpdate mag rate d
    else if d.f TL_ERR_EST_err_ns = 0xFFFFFFFF ∨ mag ≤ d.f TL_ERR_EST_err_ns * 3072 + jump then tryStep off rate d
    else refuseUpdate d
  else if !d.on TL_QUALITY_stepped ∧ d.quality = 0 then tryStep off rate d
  else if mag > jump then refuseUpdate d
  else acceptUpdate mag rate d

/-- Does a message use only what R35 supports? -/
def ptpSupported (d : Dev) (m : PtpMsg) : Bool :=
  m.ethernet && m.destOk && !m.peerDelay && !m.unicastNegotiation && !m.securityTlv && m.timeReceiver && m.domain == d.t.ptpDomain

/-- A Delay_Req leaves a port: its egress timestamp is inserted as originTimestamp, or kept for firmware (R35, R36). -/
def delayReqSend (port : Nat) (d : Dev) : Dev := { d with t := { d.t with delayReq := some (port, d.t.ntU / 192) } }

/-- PTP_MESSAGE (R35): an unsupported option discards and counts the message; else its update, if it completes one on the
timing port (R37), goes to the servo. A message there that completes none is answered by a Delay_Req. DESIGN CHOICE
(log entry 57): it does so under ref_sel 1 too, beside the updates of the 1PPS edges. -/
def ptpMessage (m : PtpMsg) (d : Dev) : Dev :=
  if !ptpSupported d m then incF (if m.port = 0 then LINK_DISCARD_ptp_a else LINK_DISCARD_ptp_b) d
  else if d.f LINK_STAT_timing_port ≠ m.port then d
  else
    match m.update with
    | none => delayReqSend m.port d
    | some u => servoUpdate (u.offset16 * 192) u.rate d

/-- PPS_EDGE (R63): the edge's offset is the whole second of network time nearest to it, less network time. DESIGN CHOICE (log entry 57):
of two equally near it is the earlier. -/
def ppsEdge (rate : Int) (d : Dev) : Dev :=
  if d.f TL_REF_CFG_ref_sel = 1 then
    let sec : Nat := 3072000000000
    let x := d.t.ntU % sec
    let off : Int := if 2 * x ≤ sec then -(x : Int) else (sec : Int) - x
    servoUpdate off rate { d with t := { d.t with lastPps := d.now, ppsLost := false } }
  else d

/-- PPS_LOST (R63): no edge for 2 s under ref_sel 1 raises E007, once a loss. -/
def ppsLost (d : Dev) : Dev :=
  if d.f TL_REF_CFG_ref_sel = 1 ∧ !d.t.ppsLost then
    let d := passTo (d.t.lastPps + 2 * secTicks) d
    raise0 7 { d with t := { d.t with ppsLost := true } }
  else d

/-- PPS_OUT (R62): at a second boundary of network time the output rises for 10 ms in LOCKED or HOLDOVER. -/
def ppsOut (d : Dev) : Dev :=
  if d.on TL_REF_CFG_pps_out_en && (d.quality == 2 || d.quality == 3) then
    let sec : Nat := 3072000000000
    let wait := (sec - d.t.ntU % sec) % sec
    let d := passTicks ((wait + 3124) / 3125) d
    { d with t := { d.t with ppsOutAt := some d.now } }
  else { d with t := { d.t with ppsOutAt := none } }

/-- Is 1PPS out high: driven, and within 10 ms of its rise (R62)? -/
def Dev.ppsHigh (d : Dev) : Bool :=
  match d.t.ppsOutAt with
  | some t => decide (d.now < t + usTicks 10000) && d.on TL_REF_CFG_pps_out_en && (d.quality == 2 || d.quality == 3)
  | none => false

/-- LOSS_TIMEOUT (R42): no accepted update for loss_timeout moves LOCKED to HOLDOVER. -/
def lossTimeout (d : Dev) : Dev :=
  if d.quality = 2 ∧ !d.following then
    enterHoldover (passTo (d.t.lastAccepted + usTicks (1000 * d.f TL_HO_CFG_loss_timeout)) d)
  else d

/-- ERR_EST_RECOMPUTE (R44, R42): the estimate is shown; above 1,100 ns in HOLDOVER it ends in FREE. -/
def errEstRecompute (d : Dev) : Dev :=
  match d.quality, d.errNow with
  | 3, some e => if e > 1100 * fineNs ∧ !d.following then expireHoldover d else showErr d
  | _, _ => showErr d

/-- An accepted restep (R41): FREE, stepped cleared, recorded and governed. -/
def restep (org : Origin) (val : Nat) (d : Dev) : Dev :=
  let d := d |> setQuality 0 |> showErr |> setB LEDGER_EPOCH_valid false
  { d with t := { d.t with restepArmed := true } } |> advanceEpoch |> ledgerPut org 1 0 0x10002C 0 val

/-! ### Alignment -/

/-- An accepted TL_CMD.align (R60): from here the follower is not aligned until it has captured an edge. -/
def alignCmd (d : Dev) : Dev := { d with t := { d.t with alignArmed := true } } |> setB TL_ALIGN_STAT_aligned false

/-- Does a write of TL_CMD ask for a restep outside Ready (R41), or for an alignment outside Ready or without the role FOLLOWER (R60)? -/
def Dev.restepBad (d : Dev) (val : Nat) : Bool := val.testBit 0 && !d.inReady
def Dev.alignCmdBad (d : Dev) (val : Nat) : Bool := val.testBit 1 && !(d.inReady && d.f TL_ALIGN_CFG_role == 2)

/-- CRC-16 of the 64-bit payload: polynomial 0x1021, initial value 0xFFFF, most significant bit first (R59). -/
def alignCrc (payload : Nat) : Nat :=
  (List.range 64).foldl (fun c i =>
    let fb := c.testBit 15 != payload.testBit (63 - i)
    let s := (c <<< 1) % 65536
    if fb then s ^^^ 0x1021 else s) 0xFFFF

/-- ALIGN_FRAME_SEND (R58, R59): a leader drives one frame at its next frame boundary. -/
def alignFrameSend (d : Dev) : Dev :=
  if d.f TL_ALIGN_CFG_role = 1 then
    let d := rateDue (if d.t.tick = 0 then d else passTo d.nextFrame d)
    let r := ((d.t.rPend.getD d.t.r) % 0x1000000000).toNat
    let d := match d.t.rPend with
      | some v => { d with t := { d.t with rPend := none, rCarried := some (v, d.now + frameTicks) } }
      | none => d
    let payload := d.t.alignSeq <<< 56 ||| d.t.fis <<< 49 ||| d.quality <<< 46 ||| d.t.frame <<< 36 ||| r
    { d with t := { d.t with alignOut := payload <<< 16 ||| alignCrc payload, alignSeq := (d.t.alignSeq + 1) % 256 } }
  else { d with t := { d.t with alignOut := 0 } }

/-- The events of a move of the quality that an ALIGN frame carries (R42, follower row). -/
def carriedEvent (old new : Nat) (d : Dev) : Dev :=
  match old, new with
  | 1, 2 => raise0 0 d
  | 4, 2 => raise0 0 d
  | 3, 2 => raise0 0 d
  | 2, 3 => raise0 1 d
  | 3, 0 => raise0 2 d
  | _, 4 => raise0 8 d
  | _, _ => d

/-- A follower takes the quality that a valid frame carries (R42, R44, R61); the estimate of HOLDOVER grows from 0 from the frame
that first carries it. DESIGN CHOICE (log entry 57): codes 5 to 7, to which the spec gives no meaning, are stored like the
others; transmit is then not permitted. -/
def carryQuality (q : Nat) (d : Dev) : Dev :=
  let old := d.quality
  let first := q == 3 && !(d.t.alignLive && d.t.alignCarried == 3)
  let d := { d with t := { d.t with alignCarried := q, alignLive := true } } |> setB TL_QUALITY_follower true
  let d := if first then errFrom 0 d.now d else d
  if old = q then d else d |> setQuality q |> carriedEvent old q

/-- A run of three missing or corrupt frames ends the follower's hold on the leader (R61): its quality is its own again, and moves where R42 has
a row for it; a follower that a restep has put in FREE stays there. DESIGN CHOICE
(log entry 57): the estimate of a follower that held LOCKED grows from the third bad frame. -/
def alignLost (d : Dev) : Dev :=
  let d := { d with t := { d.t with alignLive := false } } |> setB TL_QUALITY_follower false |> raise0 11
  let was := d.quality
  let d := if d.t.alignCarried = 2 then onlyIf (was == 2) (fun d => d |> errFrom 0 d.now |> setQuality 3 |> raise0 1) d
    else onlyIf (was == 1 || was == 3 || was == 4) (fun d => d |> setQuality 0 |> onlyIf (was == 3) (raise0 2)) d
  showErr d

/-- Count one bad frame of the run (R61). A follower that waits to be aligned anew still follows its leader (R42). -/
def alignBad (d : Dev) : Dev :=
  let d := { d with t := { d.t with alignRun := d.t.alignRun + 1 } }
  if d.t.alignRun = 3 ∧ (d.on TL_ALIGN_STAT_aligned || d.following) then alignLost d else d

/-- TL_ALIGN_CFG.comp, in base cycles (R60). -/
def Dev.alignComp (d : Dev) : Int := signed 4 (d.f TL_ALIGN_CFG_comp)

/-- Where the follower's own air timeline stands now, in air ticks from its nearest frame boundary (R61). -/
def Dev.fromBoundary (d : Dev) : Int := if 2 * d.t.tick < frameTicks then d.t.tick else (d.t.tick : Int) - frameTicks

/-- The slip of an ALIGN edge that arrives now: its distance, shifted by comp, from the follower's own frame boundary, in whole base
cycles (R60, R61). -/
def Dev.alignSlip (d : Dev) : Int := (d.fromBoundary + 8 * d.alignComp).tdiv 8

/-- A valid edge's payload: r is in force from the frame boundary after the frame that begins at the edge (R32, R59). -/
def alignLoad (payload : Nat) (d : Dev) : Dev :=
  let r := signed 36 (bits payload 35 0)
  let d := rateDue d
  showRate r { d with t := { d.t with rCarried := some (r, ((d.now : Int) - d.fromBoundary).toNat + frameTicks), alignRun := 0 } }

/-- frame and frame_in_second of the frame that the follower is in, when the frame that begins at the edge has the payload's (R58):
the one before it while the follower's boundary is still ahead. -/
def alignFrames (payload : Nat) (ahead : Bool) : Nat × Nat :=
  ((bits payload 45 36 + (if ahead then 1023 else 0)) % 1024, (bits payload 55 49 + (if ahead then 99 else 0)) % 100)

/-- The first rising edge of the base clock from now on, which captures an ALIGN edge that arrives now (R466). -/
def Dev.baseEdge (d : Dev) : Nat := d.now + (8 - d.t.tick % 8) % 8

/-- ALIGN_FRAME_RECEIVED (R58, R60, R61): payload and CRC of the frame whose edge arrives now and is captured on the base clock. The edge that
TL_CMD.align waits for places the frame boundary comp base cycles after itself. DESIGN CHOICE (log entry 57): a slip beyond last_dev's range is
recorded as -8 or +7, an alignment sets TL_QUALITY.stepped, as a step does, and one that was accepted in Ready is made at its edge though the
device has left Ready by then, whatever its bays do. -/
def alignFrameReceived (payload crc : Nat) (d : Dev) : Dev :=
  let d := if d.f TL_ALIGN_CFG_role = 2 then passTo d.baseEdge d else d
  if d.f TL_ALIGN_CFG_role ≠ 2 then d
  else if alignCrc payload ≠ crc then
    d |> incF TL_ALIGN_STAT_crc_err |> alignBad
  else
    let q := bits payload 48 46
    if d.t.alignArmed then
      let at_ := alignFrames payload (decide (0 < d.alignComp))
      { d with t := { d.t with alignArmed := false } } |> placeAir ((-8 * d.alignComp) % 9830400).toNat at_.1 at_.2
        |> alignLoad payload |> stepActions |> setB TL_QUALITY_stepped true |> carryQuality q |> setB TL_ALIGN_STAT_aligned true
    else if d.on TL_ALIGN_STAT_aligned then
      let at_ := alignFrames payload (decide (d.fromBoundary < 0))
      d |> onlyIf (d.alignSlip != 0) (fun d =>
            d |> setF TL_ALIGN_STAT_last_dev ((max (-8) (min 7 d.alignSlip)) % 16).toNat |> raise0 10)
        |> placeAir d.t.tick at_.1 at_.2 |> alignLoad payload |> carryQuality q
    else d

/-- The role of the device in alignment is written (R58): a device that is no follower takes nothing from ALIGN frames any more, and one
that is no leader drives ALIGN_OUT low; with role OFF a value of r that waited for its ALIGN frame is in force. -/
def alignRole (d : Dev) : Dev :=
  let role := d.f TL_ALIGN_CFG_role
  let d := if role = 2 then d
    else { d with t := { d.t with alignArmed := false, alignRun := 0, alignLive := false } }
      |> setB TL_QUALITY_follower false |> setB TL_ALIGN_STAT_aligned false
  let d := if role = 1 then d else { d with t := { d.t with alignOut := 0 } }
  if role ≠ 0 then d
  else
    let v := d.t.rPend.getD (match d.t.rCarried with | some x => x.1 | none => d.t.r)
    { d with t := { d.t with r := v, rPend := none, rCarried := none } }

/-- The 1PPS input is watched from the instant at which ref_sel becomes 1 (R63). -/
def ppsSelect (d : Dev) : Dev :=
  let on := d.f TL_REF_CFG_ref_sel == 1
  if on && !d.t.ppsWatch then { d with t := { d.t with ppsWatch := true, lastPps := d.now, ppsLost := false } }
  else { d with t := { d.t with ppsWatch := on } }

/-- ALIGN_FRAME_MISSED (R61): counted; the third in a row loses the leader. -/
def alignFrameMissed (d : Dev) : Dev :=
  if d.f TL_ALIGN_CFG_role = 2 then d |> incF TL_ALIGN_STAT_missing |> alignBad else d

/-- LEDGER_EPOCH_WRAP (R414): TL_NT passes from 0xFFFF_FFFF to 0 by advance, unless it has passed already. -/
def ledgerEpochWrap (d : Dev) : Dev :=
  let d := if d.t.wraps < d.t.ntU / wrapUnits then d else passTicks ((wrapUnits - d.t.ntU % wrapUnits + 3124) / 3125) d
  setF LEDGER_EPOCH_epoch (d.f LEDGER_EPOCH_epoch + 1) { d with t := { d.t with wraps := min (d.t.wraps + 1) (d.t.ntU / wrapUnits) } }

/-! ### Registers of the TL block -/

/-- A value that R30, R41, R60 or R483 refuses: the status bit that the chapter names. -/
def tlRefuses (off val : Nat) (d : Dev) : Option (Dev → Dev) :=
  if off = 0x100020 ∧ bits val 23 0 > 9830399 then some (setB TL_STATUS_param_refused true)
  else if off = 0x100024 ∧ bits val 1 0 ≥ 2 then some (setB TL_STATUS_param_refused true)
  else if off = 0x100040 ∧ bits val 1 0 = 3 then some (setB TL_STATUS_param_refused true)
  else if off = 0x10002C ∧ (d.restepBad val || d.alignCmdBad val) then
    some fun x => x |> onlyIf (d.restepBad val) (setB TL_STATUS_restep_refused true) |> onlyIf (d.alignCmdBad val) (setB TL_STATUS_align_refused true)
  else none

/-- Values taken as another (R483): TL_JUMP_MAX below 20, lock_count 0. -/
def tlSubst (off val : Nat) : Nat :=
  if off = 0x10001C then max 20 val
  else if off = 0x100024 ∧ bits val 15 8 = 0 then putBits val 15 8 1
  else val

/-- Is an entry ARMED (R50)? A late one that waits for its moved execution reads LATE. -/
def TtEntry.isArmed (e : TtEntry) : Bool := e.armed && e.status != 3

/-- TT_CANCEL (R56). -/
def ttCancel (i : Nat) (d : Dev) : Dev :=
  let e := d.ttE i
  if !e.isArmed then d
  else if (d.now : Int) + leadTicks ≤ e.due then setTt i { e with armed := false, status := 5 } d
  else d |> setB TL_STATUS_cancel_late true |> raise 14 i 0 0

/-- TL_CMD.cancel_all (R56): the rule of a cancel, for every ARMED entry. -/
def cancelAll (d : Dev) : Dev := forAll (d.tt.map fun x => x.1) ttCancel d

/-- What a write to a TL register does beyond its access codes. -/
def tlWriteAfter (org : Origin) (off val : Nat) (d : Dev) : Dev :=
  if off = 0x100014 then
    let v := signed 36 (d.f TL_RATE_HI_rate_hi * 0x100000000 + d.f TL_RATE_LO_rate_lo)
    if org = .loop then servoRate v d else commitRate v d
  else if off = 0x10002C then
    d |> onlyIf (val.testBit 0) (restep org val) |> onlyIf (val.testBit 1) alignCmd |> onlyIf (val.testBit 2) cancelAll
  else if off = TL_REF_CFG_ref_sel.off then ppsSelect d
  else if off = TL_ALIGN_CFG_role.off then alignRole d
  else d

/-- TL_NT_READ (R33): TL_SNAP_TICK and TL_SNAP_FRAME are latched on the tick of the read. -/
def latchSnap (d : Dev) : Dev :=
  d |> setF TL_SNAP_TICK_tick_in_frame d.t.tick |> setF TL_SNAP_FRAME_frame_in_second d.t.fis
    |> setF TL_SNAP_FRAME_frame d.t.frame

end Sys2Proof.Machine
end

