-- ==== Sys2Proof/Machine/Predistortion.lean ====
section
/-!
DEFINITION. Coupled-array predistortion and observation (chapter 06, R140 to R164).
-/
namespace Sys2Proof.Machine

/-! ### The model's arithmetic -/

/-- Integer square root, by bits from 2^k down. -/
def isqrtGo (x : Nat) : Nat → Nat → Nat
  | 0, r => r
  | k + 1, r => let t := r + 2 ^ k; isqrtGo x k (if t * t ≤ x then t else r)

/-- floor(sqrt x) for x below 2^64. -/
def isqrt (x : Nat) : Nat := isqrtGo x 32 0

/-- The LUT index of a sample (R142): its magnitude over 128, at most 255. -/
def lutIdx (i q : Int) : Nat := min 255 (isqrt (i * i + q * q).toNat / 128)

/-- The predistorter's store (R142): each component shifted right by 13 with rounding, saturated to 16 bits. -/
def dpdStore (acc : Int) : Int := satS 16 ((acc + 4096) / 8192)

/-- One term of the model: a complex sample times a complex LUT entry, both exact (R142). -/
def cmul (a b : Int × Int) : Int × Int := (a.1 * b.1 - a.2 * b.2, a.1 * b.2 + a.2 * b.1)

def cadd (a b : Int × Int) : Int × Int := (a.1 + b.1, a.2 + b.2)

/-- The sum of the model's terms (R142): `x k` is the input k memory taps back and `u j` the input of neighbour j, `lut t i` entry i of
term t. -/
def dpdAcc (lut : Nat → Nat → Int × Int) (x : Nat → Int × Int) (u : Nat → Int × Int) (count : Nat) : Int × Int :=
  let ix := fun (v : Int × Int) => lutIdx v.1 v.2
  let own := (List.range 8).foldl (fun a m => cadd a (cmul (x m) (lut m (ix (x m))))) (0, 0)
  let env := [1, 2, 3, 4].foldl (fun a q => cadd a (cmul (x 0) (lut (7 + q) (ix (x q))))) own
  (List.range count).foldl (fun a j => cadd a (cmul (u j) (lut (12 + j) (ix (x 0))))) env

/-- The predistorted sample (R142). -/
def dpdSample (lut : Nat → Nat → Int × Int) (x : Nat → Int × Int) (u : Nat → Int × Int) (count : Nat) : Int × Int :=
  let all := dpdAcc lut x u count
  (dpdStore all.1, dpdStore all.2)

/-- Basis function k at i, s1.14 (R145). -/
def Dev.phi (d : Dev) (k i : Nat) : Int :=
  let a := 512 * k + 2 * i
  signed 16 (smGet 0 a d.basis + 256 * smGet 0 (a + 1) d.basis)

/-! ### Sets -/

def Dev.dpdSt (d : Dev) (n : Nat) : DpdSt := smGet {} n d.dpd
def modDpd (n : Nat) (g : DpdSt → DpdSt) (d : Dev) : Dev := { d with dpd := smPut {} n (g (d.dpdSt n)) d.dpd }
def Dev.obsSt (d : Dev) (b : Nat) : ObsSt := smGet {} b d.obs
def modObs (b : Nat) (g : ObsSt → ObsSt) (d : Dev) : Dev := { d with obs := smPut {} b (g (d.obsSt b)) d.obs }

/-- What an unwritten coefficient word reads (R147): the linear set. -/
def coefDefault (w : Nat) : Nat := if w % 128 = 0 then 0x2000 else 0

/-- Word w of a set of path n (R146). -/
def Dev.coef (d : Dev) (n set w : Nat) : Nat := smGet (coefDefault (128 * set + w)) (128 * set + w) (d.dpdSt n).coef

/-- One entry of the LUTs in force of a path (R147, R148): those of a set, saturated, or the linear ones. -/
def lutStore (v : Int × Int) : Int × Int := (satS 16 v.1, satS 16 v.2)

/-- One LUT entry of a set before saturation, I and Q (R145). -/
def Dev.lutRaw (d : Dev) (n set t i : Nat) : Int × Int :=
  (List.range 8).foldl (fun a k =>
    let c := d.coef n set (8 * t + k)
    let p := d.phi k i
    (a.1 + signed 16 (c % 65536) * p, a.2 + signed 16 (c / 65536) * p)) (0, 0)
  |> fun a => ((a.1 + 8192) / 16384, (a.2 + 8192) / 16384)

/-- Does a set expand with every entry unsaturated and of magnitude at most lut_max / 8 (R145)? Entries are s2.13, so the
limit is lut_max x 1,024. -/
def Dev.expandsGood (d : Dev) (n set : Nat) : Bool :=
  let lim : Int := (max 8 (d.f (BAY_DPD_CFG_lut_max (bayOf n))) * 1024 : Nat)
  (List.range 16).all fun t => (List.range 256).all fun i =>
    let v := d.lutRaw n set t i
    v.1 == satS 16 v.1 && v.2 == satS 16 v.2 && decide (v.1 * v.1 + v.2 * v.2 ≤ lim * lim)

def readyFld (n set : Nat) : Fld := if set = 0 then BAY_DPD_ready0 (bayOf n) (posOf n) else BAY_DPD_ready1 (bayOf n) (posOf n)
def badFld (n set : Nat) : Fld := if set = 0 then BAY_DPD_bad0 (bayOf n) (posOf n) else BAY_DPD_bad1 (bayOf n) (posOf n)
def Dev.dpdState (d : Dev) (n : Nat) : Nat := d.f (BAY_DPD_state (bayOf n) (posOf n))
def setDpdState (n st : Nat) (d : Dev) : Dev := setF (BAY_DPD_state (bayOf n) (posOf n)) st d
def Dev.dpdLinear (d : Dev) (n : Nat) : Bool := d.on (BAY_DPD_linear (bayOf n) (posOf n))
def Dev.dpdForce (d : Dev) (n : Nat) : Nat := d.f (BAY_DPD_in_force (bayOf n) (posOf n))

/-- Is the predistorter of path n formed: TX active, and a COUPLING record with the model flag or none (R140, R141)? -/
def SpanImg.modelled (m : SpanImg) (n : Nat) : Bool :=
  m.txActive n && (match m.get 4 n with | some r => (r.b 7).testBit 0 | none => true)

/-- Neighbours of path n (R140). -/
def SpanImg.neighbours (m : SpanImg) (n : Nat) : List Nat :=
  match m.get 4 n with | some r => (List.range (min 4 (r.b 0))).map fun i => r.b (1 + i) | none => []

/-- Spacing of the memory taps of path n (R140, R141). -/
def SpanImg.tapSpacing (m : SpanImg) (n : Nat) : Nat := match m.get 4 n with | some r => 2 ^ (r.b 5 % 4) | none => 1

/-- Coupler code of path n (R140, R141). -/
def SpanImg.coupler (m : SpanImg) (n : Nat) : Nat := match m.get 4 n with | some r => r.b 6 | none => n % 8

/-- Is the device in hardware mode for predistortion (R23)? -/
def Dev.dpdHw (d : Dev) : Bool := !d.hostMode 0

/-- The paths that have path n as a neighbour (R140). -/
def SpanImg.near (m : SpanImg) (n : Nat) : List Nat := (List.range 16).map (16 * pierOf n + ·) |>.filter fun p => (m.neighbours p).contains n

/-- What the captures of paths note when a cause of SPLIT comes up (R153, R154): the first sample affected. -/
def capSplit (paths : List Nat) (d : Dev) : Dev :=
  forAll (List.range 8) (fun b => capTouch b fun c =>
    if paths.contains c.path && c.split.isNone then { c with split := some (3 * (d.now - c.start)) } else c) d

/-- A set of path n, or its rail weight buffer, has changed (R153). -/
def capSplitNear (n : Nat) (d : Dev) : Dev := capSplit (n :: d.map.near n) d

/-- The state in which a path with a formed model starts or restarts, without an iteration and with no history of one (R147, R156). -/
def dpdStart (n : Nat) (d : Dev) : Dev :=
  let d := modDpd n (fun s => { s with step := 0, iters := 0, epsHist := [], okTx := d.txTime (bayOf n) }) d
  if !d.map.modelled n ∨ !d.on (BAY_DPD_dpd_en (bayOf n) (posOf n)) then setDpdState n 0 d
  else if d.dpdHw then setDpdState n 1 d else setDpdState n 6 d

/-- A change of SPAN_ADAPT_MODE.dpd_mode or dpd_en shows in the states (R156): sets in force are kept. -/
def dpdModeChanged (d : Dev) : Dev :=
  forAll (List.range 64) (fun n d =>
    if d.map.modelled n && d.dpdState n != 5 then
      (if (d.dpdState n = 6) = d.dpdHw ∨ d.dpdState n = 0 then dpdStart n d
       else if !d.on (BAY_DPD_dpd_en (bayOf n) (posOf n)) then setDpdState n 0 d
       else if !d.dpdHw then setDpdState n 6 d else d)
    else d) d

/-- Does predistortion run an operation (R25): a capture, an iteration of the loop, whose five steps are one (R156), or a job? -/
def Dev.dpdBusy (d : Dev) : Bool :=
  ((List.range 8).any fun b => (d.obsSt b).cap.isSome) || ((List.range 64).any fun n => (d.dpdSt n).step != 0) || d.jobOf 0

/-- A changed mode governs once no operation is left (R25). -/
def dpdModeSettled (d : Dev) : Dev :=
  if d.fb SPAN_ADAPT_MODE_pending 0 && !d.dpdBusy then d |> clrBitF SPAN_ADAPT_MODE_pending 0 |> dpdModeChanged else d

/-- Install the linear LUTs of a path (R147): both sets not ready, their words the linear set. -/
def dpdInstallLinear (n : Nat) (d : Dev) : Dev :=
  let b := bayOf n
  let k := posOf n
  d |> modDpd n (fun s => { expands := s.expands }) |> setB (readyFld n 0) false |> setB (readyFld n 1) false
    |> setB (badFld n 0) false |> setB (badFld n 1) false |> setB (BAY_DPD_linear b k) true
    |> setF (BAY_DPD_in_force b k) 0 |> setB (BAY_DPD_verify b k) false |> dpdStart n |> dpdModeSettled

/-- E069 + 8p with a cause and path (R163). -/
def dpdDegraded (n cause : Nat) (d : Dev) : Dev :=
  d |> setF (BAY_DPD_cause (bayOf n) (posOf n)) cause |> raise (pierEvent 69 (bayOf n)) n cause 0

/-- Is a set of a path in force, held or being expanded (R146)? -/
def Dev.setBusy (d : Dev) (n set : Nat) : Bool :=
  (!d.dpdLinear n && d.dpdForce n == set) || (d.dpdSt n).held == some set ||
    (d.obsSt (bayOf n)).exp == some (posOf n, set)

/-- A write of coefficient word w of a set (R146). No adaptation runs on a path in FALLBACK (R162), and the loop leaves a(0, 0) and the
unused neighbour terms as they are (R158). DESIGN CHOICE (log entry 62): a write to a path without a formed model is refused and counts too. -/
def coefWrite (org : Origin) (n set w v : Nat) (d : Dev) : Dev :=
  if !d.piersUp then d
  else if !d.map.modelled n then incF (BAY_DPD_wr_refused (bayOf n) (posOf n)) d
  else if d.setBusy n set || (d.dpdHw && org != .loop) || (!d.dpdHw && org == .loop) then
    incF (BAY_DPD_wr_refused (bayOf n) (posOf n)) d
  else if org = .loop ∧ (d.dpdState n = 5 ∨ w = 0 ∨ 8 * (12 + (d.map.neighbours n).length) ≤ w) then d
  else
    let i := 128 * set + w
    d |> modDpd n (fun s => { s with coef := smPut (coefDefault i) i v s.coef })
      |> setB (readyFld n set) false |> setB (badFld n set) false

/-- BAY_DPD_CMD.expand (R145): starts the bay's expander unless it runs, or the set is the one in force. -/
def expandCmd (b k set : Nat) (d : Dev) : Dev :=
  if d.on (BAY_OBS_STAT_exp_busy b) || !d.map.modelled (8 * b + k) then d
  else d |> setB (BAY_OBS_STAT_exp_busy b) true |> modObs b (fun s => { s with exp := some (k, set) })

/-- The set of path n that a fit writes: the one not in force (R158). -/
def Dev.dpdSpare (d : Dev) (n : Nat) : Nat := if d.dpdLinear n then (if (d.dpdSt n).held = some 0 then 1 else 0) else 1 - d.dpdForce n

/-- The expansion that the loop waits to start in bay b behind that of path n, as position and set: a bay expands one set at a time. -/
def Dev.loopExpansion (d : Dev) (b n : Nat) : Option (Nat × Nat) :=
  ((bayPaths b).find? fun m => m != n && (d.dpdSt m).step == 3).map fun m => (posOf m, d.dpdSpare m)

/-- EXPANSION_DONE (R145, R146): the set becomes ready, or bad with E069 + 8p, which ends an iteration; the expansion counts. -/
def expansionDone (b : Nat) (d : Dev) : Dev :=
  match (d.obsSt b).exp with
  | none => d
  | some (k, set) =>
    let n := 8 * b + k
    let good := d.expandsGood n set
    let next := d.loopExpansion b n
    d |> modDpd n (fun s => { s with expands := s.expands + 1, step := if s.step = 3 then (if good then 4 else 0) else s.step })
       |> modObs b (fun s => { s with exp := none }) |> setB (BAY_OBS_STAT_exp_busy b) false
      |> setB (readyFld n set) good |> setB (badFld n set) (!good)
      |> onlyIf (!good) (dpdDegraded n 1) |> (match next with | some p => expandCmd b p.1 p.2 | none => id) |> dpdModeSettled

/-- Put a set (0, 1) or the linear LUTs (2) in force. -/
def dpdForceSet (n what : Nat) (d : Dev) : Dev :=
  let b := bayOf n
  let k := posOf n
  let d := capSplitNear n d
  if what = 2 then setB (BAY_DPD_linear b k) true d
  else d |> setB (BAY_DPD_linear b k) false |> setF (BAY_DPD_in_force b k) what

/-- DPD_APPLY on one path (R148) but for a mode that waits; true when it was skipped. -/
def dpdApplyOn (n set : Nat) (d : Dev) : Dev × Bool :=
  let b := bayOf n
  let k := posOf n
  let noIter := modDpd n fun s => { s with step := if s.step = 4 then 0 else s.step }
  if !d.map.modelled n then (d, false)
  else if d.dpdState n = 5 then (d |> incF (BAY_DPD_apply_skipped b k) |> noIter, true)
  else if !d.dpdLinear n ∧ d.dpdForce n = set then (d, false)
  else if (d.dpdSt n).held = some set then
    let was := d.dpdForce n
    let d := d |> setB (readyFld n was) false |> dpdForceSet n set |> setB (BAY_DPD_verify b k) false
    (modDpd n (fun s => { s with held := none, lastOwr := s.refOwr, revertAt := none, step := 0 }) d, false)
  else if d.on (readyFld n set) then
    let left := if d.dpdLinear n then 2 else d.dpdForce n
    let d := d |> dpdForceSet n set |> setB (BAY_DPD_verify b k) true
    (modDpd n (fun s => { s with
        held := some left, refOwr := s.lastOwr, lastOwr := none, appliedAt := d.now, revertAt := none
        step := if s.step = 4 then 5 else s.step }) d, false)
  else (d |> incF (BAY_DPD_apply_skipped b k) |> noIter, true)

/-- DPD_APPLY on one path (R148): an iteration that it ends may have held a change of mode (R25). -/
def dpdApplyPath (n set : Nat) (d : Dev) : Dev × Bool := let r := dpdApplyOn n set d; (dpdModeSettled r.1, r.2)

/-- CLEAR_FB (R162): FALLBACK ends, and the attenuation that it added is taken off. -/
def clearFb (n : Nat) (d : Dev) : Dev :=
  if d.dpdState n = 5 then
    let x := BAY_GAIN_tx_att (bayOf n) (posOf n)
    let att := d.f x - (d.dpdSt n).fbAdded
    d |> setF x att |> deferTo (.gain n att (d.f (BAY_GAIN_rx_att (bayOf n) (posOf n)))) d.refBoundary
      |> modDpd n (fun s => { s with fbAdded := 0, revertRun := 0 }) |> dpdStart n |> dpdModeSettled
  else d

/-- REVERT (R161): at its slot boundary the path returns to the held set, or on the third revert enters FALLBACK. DESIGN CHOICE (log entry 62):
the third counts as a revert and raises cause REVERT too, before FALLBACK. -/
def revert (n : Nat) (d : Dev) : Dev :=
  match (d.dpdSt n).revertAt, (d.dpdSt n).held with
  | some t, some h =>
    let b := bayOf n
    let k := posOf n
    let bad := d.dpdForce n
    let d := d |> passTo t |> incF (BAY_DPD_reverts b k) |> setB (BAY_DPD_verify b k) false |> modDpd n (fun s => { s with step := 0 })
    let run := (d.dpdSt n).revertRun + 1
    if run ≥ 3 then
      let att := min 63 (d.f (BAY_GAIN_tx_att b k) + d.f (BAY_DPD_CFG_fb_att b))
      let added := att - d.f (BAY_GAIN_tx_att b k)
      d |> dpdForceSet n 2 |> setB (readyFld n 0) false |> setB (readyFld n 1) false |> setDpdState n 5
        |> setF (BAY_GAIN_tx_att b k) att
        |> deferTo (.gain n att (d.f (BAY_GAIN_rx_att b k))) d.refBoundary
        |> modDpd n (fun s => { s with held := none, revertAt := none, revertRun := run, fbAdded := added, lastOwr := none, refOwr := none })
        |> dpdDegraded n 2 |> dpdDegraded n 3 |> dpdModeSettled
    else
      d |> setB (readyFld n bad) false |> dpdForceSet n h
        |> modDpd n (fun s => { s with held := none, revertAt := none, revertRun := run, lastOwr := s.refOwr })
        |> dpdDegraded n 2 |> dpdModeSettled
  | _, _ => d

/-- VERIFY_TIMEOUT (R160): after verify_to x 10 ms without an OK capture on descriptor 7 the held set is released. DESIGN CHOICE (log entry 62):
the OWR measured under the set in force is forgotten with the reference. -/
def verifyTimeout (n : Nat) (d : Dev) : Dev :=
  let b := bayOf n
  let k := posOf n
  if d.on (BAY_DPD_verify b k) ∧ (d.dpdSt n).revertAt = none then
    d |> passTo ((d.dpdSt n).appliedAt + usTicks (10000 * max 1 (d.f (BAY_DPD_CFG_verify_to b))))
      |> setB (BAY_DPD_verify b k) false
      |> modDpd n (fun s => { s with held := none, refOwr := none, lastOwr := none, step := 0 }) |> dpdModeSettled
  else d

/-- OBS_FAIL (R159): no OK capture for 500 ms of its bay's transmission puts a path of the hardware loop in HOLD. A bay that does not
transmit comes no nearer to it. -/
def obsFail (n : Nat) (d : Dev) : Dev :=
  let st := d.dpdState n
  let sent := d.txTime (bayOf n) - (d.dpdSt n).okTx
  let on := d.fe (bayOf n) = 4 ∧ !d.inTransition (bayOf n)
  if d.dpdHw ∧ (st = 1 ∨ st = 2 ∨ st = 3) ∧ (usTicks 500000 ≤ sent ∨ on) then
    d |> passTo (d.now + (usTicks 500000 - sent)) |> modDpd n (fun s => { s with stateLeft := st }) |> setDpdState n 4 |> dpdDegraded n 4
  else d

/-- A change of tx_att above 1 dB, or of beam, sends TRACK back to ACQUIRE (R156). -/
def dpdReacquire (n : Nat) (d : Dev) : Dev :=
  if d.dpdState n = 3 then d |> setDpdState n 2 |> modDpd n (fun s => { s with iters := 0, epsHist := [] }) else d

/-- Do g, and split the capture of a path whose attenuation in force it changes (R153, R372). -/
def splitWatch (paths : List Nat) (g : Dev → Dev) (d : Dev) : Dev :=
  let d' := g d
  capSplit (paths.filter fun n => d'.txAttNow n != d.txAttNow n) d'

/-- Do g, and send a path whose attenuation in force it moves by more than 1 dB, two steps, back to ACQUIRE (R156). -/
def attWatch (paths : List Nat) (g : Dev → Dev) (d : Dev) : Dev :=
  let was := paths.map fun n => (n, d.txAttNow n)
  forAll was (fun x d => if (d.txAttNow x.1 : Int) - x.2 > 2 ∨ (x.2 : Int) - d.txAttNow x.1 > 2 then dpdReacquire x.1 d else d) (g d)

/-! ### Captures -/

/-- Is path m to emit (R143): its bay in TX and not muted, the path live? Its chain's valid flag tells of each sample. -/
def Dev.emits (d : Dev) (m : Nat) : Bool :=
  d.fe (bayOf m) == 4 && !d.inTransition (bayOf m) && !d.on (BAY_FE_STAT_muted (bayOf m)) && d.txLive m

/-- Is a descriptor one of its user's, with its slot (R151): 0 to 3 host with slots 0, 1; 4 to 6 adaptation with slot 2;
7 verification with slot 3? Descriptors 4 to 7 are armed by firmware. DESIGN CHOICE (log entry 62): an entry whose descriptor names another
slot is refused as it is armed, and a slot that is written after that is used as it is. -/
def captureAllowed (org : Origin) (desc slot : Nat) : Bool :=
  if desc ≤ 3 then org != .firmware && decide (slot ≤ 1)
  else if desc ≤ 6 then org == .firmware && slot == 2
  else org == .firmware && slot == 3

/-- The rail weight buffer in force of path n (R181). -/
def Dev.railOf (d : Dev) (n : Nat) : Nat := ofBool (d.fb (PIER_RAIL_SEL_in_force (pierOf n)) (n % 16))

/-- Has a CAPTURE entry reserved bay b's receiver from its T - settle until T (R152)? -/
def Dev.capWaits (d : Dev) (b : Nat) : Bool :=
  match (d.obsSt b).pre with
  | some (i, t, live) => live && (d.ttE i).armed && (d.ttE i).due == (t : Int)
  | none => false

/-- Does the loop begin an iteration on path n (R156, R162): on a path that it runs on, with an engine that fits its bay (R191, R216), and no
change of mode pending, since the new mode governs from the next operation (R25)? -/
def Dev.loopMay (d : Dev) (n : Nat) : Bool :=
  decide (1 ≤ d.dpdState n) && decide (d.dpdState n ≤ 4) && d.bayServed (bayOf n) && !d.fb SPAN_ADAPT_MODE_pending 0

/-- The conditions under which a capture starts (R152); one of the loop begins an iteration. -/
def Dev.captureMay (d : Dev) (n desc : Nat) : Bool :=
  let b := bayOf n
  d.fe b == 4 && !d.inTransition b && d.txLive n && d.map.modelled n && !d.on (BAY_OBS_STAT_busy b) && !d.capWaits b &&
    !(d.obsSt b).byCal && (desc < 4 || desc == 7 || d.loopMay n) &&
       (!d.fb (BAY_OBS_STAT_slot_full b) (d.f (BAY_CAPD_slot b desc)) || d.on (BAY_CAPD_ovw b desc))

/-- At T - settle: the entry i due at T has passed its check, and the coupler code is driven (R150, R152). -/
def captureReserve (i t n : Nat) (d : Dev) : Dev :=
  modObs (bayOf n) (fun s => { s with pre := some (i, t, true), sel := d.map.coupler n }) d

/-- At T: the capture records what is in force (R153). A bay that has left TX since T - settle, or a path shed since, spoils it. -/
def captureBegin (n desc : Nat) (d : Dev) : Dev :=
  let b := bayOf n
  let c : CapRun :=
    { path := n, desc := desc, tick := d.t.tick, frame := d.t.frame, slot := d.f (BAY_CAPD_slot b desc)
      len := 1024 * (d.f (BAY_CAPD_len b desc) + 1)
      nb := if d.on (BAY_CAPD_nb b desc) then d.map.neighbours n else []
      att := d.f (BAY_CAPD_att b desc), lag := d.f (BAY_OBS_LAG_lag b (posOf n)), tag := d.f (BAY_CAPT_tag b desc)
      set := d.dpdForce n, linear := d.dpdLinear n, rail := d.railOf n
      epoch := d.seals.epoch, start := d.now, split := none, left := d.fe b != 4 || d.inTransition b || !d.txLive n }
  { d with sig := { d.sig with caps := smPut {} b {} d.sig.caps } }
    |> onlyIf (decide (4 ≤ desc) && decide (desc ≤ 6)) (modDpd n fun s => { s with step := 1 })
    |> setB (BAY_OBS_STAT_busy b) true |> modObs b (fun s => { s with cap := some c, pre := none, sel := d.map.coupler n })

/-- A capture that does not start (R152). -/
def captureFail (n : Nat) (d : Dev) : Dev := incF (BAY_OBS_STAT_cap_failed (bayOf n)) d

/-- A capture whose conditions are checked and which starts at one instant; true when it started. -/
def captureStart (n desc : Nat) (d : Dev) : Dev × Bool :=
  if d.captureMay n desc then (captureBegin n desc d, true) else (captureFail n d, false)

/-- A capture in progress is discarded (R153): a freeze, a SYNC or a power-down falls inside it. One that waits for its air
time no longer starts. -/
def captureDiscard (b : Nat) (d : Dev) : Dev :=
  match (d.obsSt b).cap with
  | none => if (d.obsSt b).pre.isSome then modObs b (fun s => { s with pre := s.pre.map fun p => (p.1, p.2.1, false) }) d else d
  | some c =>
    d |> modObs b (fun s => { s with cap := none }) |> setB (BAY_OBS_STAT_busy b) false |> incF (BAY_OBS_STAT_cap_failed b)
      |> modDpd c.path (fun s => { s with step := if s.step = 1 then 0 else s.step }) |> dpdModeSettled

/-- A finished capture (R153, R154): the causes that its samples show, and the sample words of y, x and the neighbours. -/
structure CapData where
  overload : Bool
  invalid : Bool
  y : List Nat
  x : List Nat
  u : List (List Nat)
deriving DecidableEq, Repr

/-- What a finished capture of bay b brings (R153): what it observed, and the samples that its path and its neighbours passed; samples that
none of them passed are invalid zeros. -/
def Dev.capSamples (d : Dev) (b : Nat) (c : CapRun) (r : CapResult) : CapData :=
  let s := smGet {} b d.sig.caps
  let full := fun (l : List Nat) => (l.reverse ++ List.replicate c.len 0).take c.len
  { overload := r.overload, invalid := s.bad || decide (s.x.length < c.len), y := r.y, x := full s.x
    u := (List.range c.nb.length).map fun j => full (s.u.getD j []) }

/-- The status of a finished capture: the lowest code that applies (R153). -/
def captureStatus (c : CapRun) (r : CapData) : Nat :=
  if c.split.isSome then 1 else if c.left then 2 else if r.overload then 3 else if r.invalid then 4 else 0

/-- The capture sequence after s (R154): 32 bits, never 0. -/
def seqNext (s : Nat) : Nat := if (s + 1) % 2 ^ 32 = 0 then 1 else s + 1

/-- Largest component magnitude of sample words (R154). -/
def peakOf (l : List Nat) : Nat :=
  l.foldl (fun a w => max a (max (signed 16 (w % 65536)).natAbs (signed 16 (w / 65536 % 65536)).natAbs)) 0

/-! ### Measurements (R155, R157) -/

/-- An alternating series whose terms shrink by t2 / (j (j + 1)), in 2^-70: cosine from j = 1, sine from j = 2. -/
def trigSeries (t2 : Int) : Nat → Int → Int → Int
  | 0, _, _ => 0
  | n + 1, j, term => term - trigSeries t2 n (j + 2) (term * t2 / 2 ^ 70 / (j * (j + 1)))

/-- Cosine and sine of r / den of a quarter turn, in 2^-70 up to the last places; pi / 2 is 1,854,468,981,267,743,447,650 of them. -/
def quarterTrig (r den : Nat) : Int × Int :=
  let t : Int := (1854468981267743447650 * r / den : Nat)
  let t2 := t * t / 2 ^ 70
  (trigSeries t2 16 1 (2 ^ 70), trigSeries t2 16 2 t)

/-- Cosine and sine of num / den of a turn, in 2^-70 up to the last places. -/
def trig (num den : Nat) : Int × Int :=
  let p := num % den
  let x := quarterTrig (4 * p % den) den
  match 4 * p / den with | 0 => x | 1 => (-x.2, x.1) | 2 => (-x.1, -x.2) | _ => (x.2, -x.1)

/-- A phasor of num / den of a turn, in 2^-30: exact at the quarters, and between them the cosine and the sine, rounded down or up as the
free values say (log entry 61). -/
def turn (num den : Nat) : Int × Int :=
  let p := num % den
  if p = 0 then (1073741824, 0) else if 4 * p = den then (0, 1073741824)
  else if 2 * p = den then (-1073741824, 0) else if 4 * p = 3 * den then (0, -1073741824)
  else
    let v := trig num den
    let up := Config.phasorUp p den
    (v.1 / 2 ^ 40 + (up.1 % 2 : Nat), v.2 / 2 ^ 40 + (up.2 % 2 : Nat))

/-- The components of a sample word (R167, R154). -/
def comps (w : Nat) : Int × Int := (signed 16 (w % 65536), signed 16 (w / 65536 % 65536))

/-- Bin f of n of a block of samples, in 2^-30 (R155): the samples that are not zero, by place. -/
def binOf (n f : Nat) (l : List (Nat × (Int × Int))) : Int × Int :=
  l.foldl (fun a x => let t := turn (f * x.1) n; cadd a (cmul x.2 (t.1, -t.2))) (0, 0)

/-- The power of a block of n observation samples within a window, given by its edges in kHz from the receiver's centre, and in the estimation
band outside it (R150, R155): the band is 500 MHz to each side of the centre. -/
def bandPowers (win : Int × Int) (n : Nat) (y : List Nat) : Nat × Nat :=
  let l := (((List.range n).zip y).filter fun x => x.2 != 0).map fun x => (x.1, comps x.2)
  let far := 50000 * n / 294912
  (List.range (2 * far + 1)).foldl (fun a i =>
    let v := binOf n ((n + i - far) % n) l
    let p := (v.1 * v.1 + v.2 * v.2).toNat
    let f := 2949120 * ((i : Int) - far)
    if win.1 * n ≤ f ∧ f ≤ win.2 * n then (a.1 + p, a.2) else (a.1, a.2 + p)) (0, 0)

/-- 100 times the logarithm to base 10 of p / q, rounded down, from 0 to 4,095, for q at most p: bits from 2^k down. -/
def logGo (p q : Nat) : Nat → Nat → Nat
  | 0, r => r
  | k + 1, r => let t := r + 2 ^ k; logGo p q k (if q ^ 100 * 10 ^ t ≤ p ^ 100 then t else r)

/-- The ratio of power p to power q in 0.1 dB, rounded towards 0 dB; `free` where one of them is none (R155, R158, log entry 62). -/
def ratioDb (p q : Nat) (free : Int) : Int :=
  if p = 0 ∨ q = 0 then free else if q ≤ p then logGo p q 12 0 else -(logGo q p 12 0 : Int)

/-- The out-of-window ratio of a block (R155). -/
def owrOf (win : Int × Int) (n : Nat) (y : List Nat) (free : Int) : Int := let p := bandPowers win n y; ratioDb p.2 p.1 free

/-- The lag from 0 to 1,023 samples that maximises the cross-correlation of y, which was taken `lag` samples late, and x; the lowest of
several (R157). -/
def lagSearch (lag : Nat) (y x : List Nat) : Nat :=
  let corr := fun (l : Nat) =>
    let pairs := if lag ≤ l then (y.drop (l - lag)).zip x else y.zip (x.drop (lag - l))
    let s := pairs.foldl (fun a p => let u := comps p.1; let v := comps p.2; cadd a (cmul u (v.1, -v.2))) (0, 0)
    (s.1 * s.1 + s.2 * s.2).toNat
  ((List.range 1024).foldl (fun best l => let c := corr l; if best.2 < c then (l, c) else best) (0, 0)).1

/-- Word w of the set that a fit of path n starts from: the one in force (R147, R158). -/
def Dev.fitBase (d : Dev) (n w : Nat) : Nat := if d.dpdLinear n then coefDefault w else d.coef n (d.dpdForce n) w

/-- A component of a - 0.5 da / g, in 2^-13 (R158): a in 2^-13, `prod` that of da times the conjugate of g and `den` the square magnitude of g,
in units whose quotient is in 2^-13; rounded half up and saturated (log entry 62). -/
def fitComp (a prod : Int) (den : Nat) : Int := satS 16 ((2 * (2 * a * den - prod) + 2 * den) / (4 * den))

/-- Word w of the set that a fit writes (R158): the damped step from the set in force; free where g is 0. -/
def Dev.fitWord (d : Dev) (r : FitResult) (w : Nat) : Nat :=
  let den := (r.g.1 * r.g.1 + r.g.2 * r.g.2).toNat
  if den = 0 then Config.freeValue (d.draws + w) % 2 ^ 32
  else
    let a := comps (d.fitBase r.path w)
    let p := cmul (r.da.getD (w - 1) (0, 0)) (r.g.1, -r.g.2)
    let v := (fitComp a.1 p.1 den, fitComp a.2 p.2 den)
    (v.1 % 65536).toNat + 65536 * (v.2 % 65536).toNat

/-- The words of the set that a fit writes with origin LOOP (R146, R158): a(0, 0) held at 1.0, the unused neighbour terms at 0, and the fitted
ones between them; without a solution those that the program wrote itself stand. -/
def Dev.fitCoef (d : Dev) (r : FitResult) : List (Nat × Nat) :=
  let i := 128 * d.dpdSpare r.path
  let used := 8 * (12 + (d.map.neighbours r.path).length)
  let fitted := if r.da.isEmpty then [] else ((List.range used).drop 1).map fun w => (w, d.fitWord r w)
  let fixed := (0 :: (List.range 128).drop used).map fun w => (w, coefDefault w)
  (fixed ++ fitted).foldl (fun m x => smPut (coefDefault (i + x.1)) (i + x.1) x.2 m) (d.dpdSt r.path).coef

/-- Do four errors, newest first, show a change below 0.2 dB over 3 iterations (R156)? DEDUCED (log entry 62): each of the three changes is. -/
def epsStill : List Int → Bool
  | [a, b, c, e] => decide ((a - b).natAbs < 2 ∧ (b - c).natAbs < 2 ∧ (c - e).natAbs < 2)
  | _ => false

/-- A fit of the hardware loop ends (R156, R158): its set is written and expanded, its error shown; ACQUIRE ends in TRACK after 12 iterations, or
when the error moves no more. No adaptation runs on a path in FALLBACK (R162). A set that is held or being expanded takes no result, nor
does any set in host-assisted mode (R146), which ends the iteration. -/
def dpdFit (r : FitResult) (d : Dev) : Dev :=
  let n := r.path
  let set := d.dpdSpare n
  if d.dpdState n = 5 then d
  else if d.setBusy n set ∨ !d.dpdHw then
    d |> incF (BAY_DPD_wr_refused (bayOf n) (posOf n)) |> modDpd n (fun s => { s with step := 0 }) |> dpdModeSettled
  else
  let eps := ratioDb r.errPow r.sigPow (Config.freeValue d.draws % 65536 : Nat)
  let coef := d.fitCoef r
  let d := { d with draws := d.draws + 128 } |> modDpd n (fun s => { s with coef := coef, step := 3 })
    |> setB (readyFld n set) false |> setB (badFld n set) false |> expandCmd (bayOf n) (posOf n) set
  let h := eps :: (d.dpdSt n).epsHist.take 3
  let it := (d.dpdSt n).iters + 1
  let d := d |> setF (BAY_DPD_MET_eps (bayOf n) (posOf n)) (eps % 65536).toNat |> loopAct 2 (pierOf n) eps
    |> modDpd n (fun s => { s with epsHist := h, iters := it })
  if d.dpdState n == 2 && (decide (12 ≤ it) || epsStill h) then setDpdState n 3 d else d

/-- The bay's window about the observation receiver's centre, LO + f_if, in kHz (R109, R122, R150). -/
def Dev.obsWindow (d : Dev) (b : Nat) : Int × Int :=
  let w := d.map.window b
  let f := signed 32 (d.f (BAY_IF_KHZ_if_khz b))
  (w.1 - f, w.2 - f)

/-- The OWR of a finished capture: the pier measures it from y (R155). -/
def Dev.capOwr (d : Dev) (c : CapRun) (r : CapData) : Int :=
  owrOf (d.obsWindow (bayOf c.path)) c.len r.y (Config.freeValue d.draws % 65536 : Nat)

/-- The 64-byte header of a capture (R154). The first sample affected is held to the field's 16 bits and the capture's samples. -/
def captureHeader (c : CapRun) (st seq : Nat) (owr : Int) (r : CapData) : List Nat :=
  leBytes 4 c.tick ++ leBytes 2 c.frame ++ [c.path, st] ++ leBytes 4 c.len ++ leBytes 2 c.lag ++ [c.att, c.nb.length] ++
    (List.range 4).map (fun i => c.nb.getD i 0xFF) ++ [c.set, c.rail] ++ leBytes 2 c.tag ++
    leBytes 2 (if st = 1 then min (c.split.getD 0) (c.len - 1) else 0) ++ leBytes 2 (owr % 65536).toNat ++ leBytes 4 c.epoch ++
    leBytes 2 (peakOf r.y) ++ leBytes 2 (peakOf r.x) ++ List.replicate 24 0 ++ leBytes 4 seq

/-- Where slot j of bay b lies in deck SRAM (R154). -/
def captureSlot (b j : Nat) : Nat := 0x2000000 + 0x200000 * b + 0x80000 * j

/-- Verification by an OK capture on descriptor 7, the first of which ends it (R160, R161). -/
def dpdVerify (n : Nat) (owr : Int) (d : Dev) : Dev :=
  let b := bayOf n
  let k := posOf n
  if d.on (BAY_DPD_verify b k) ∧ (d.dpdSt n).revertAt = none then
    let worse := match (d.dpdSt n).refOwr with
      | some r => decide (owr - r > (10 * max 1 (d.f (BAY_DPD_CFG_div_db b)) : Nat))
      | none => false
    let d := setB (BAY_DPD_verify b k) false d
    if worse then modDpd n (fun s => { s with revertAt := some (d.nextSlot false leadTicks) }) d
    else modDpd n (fun s => { s with held := none, refOwr := some owr, revertRun := 0, step := if s.step = 5 then 0 else s.step }) d
  else d

/-- The lag search of a path in LINEAR, from the first OK capture of the loop (R156, R157): the lag is written with origin LOOP, and
ACQUIRE begins. -/
def dpdLagSearch (c : CapRun) (r : CapData) (d : Dev) : Dev :=
  let n := c.path
  d |> setF (BAY_OBS_LAG_lag (bayOf n) (posOf n)) (lagSearch c.lag r.y r.x) |> setDpdState n 2
    |> modDpd n fun s => { s with iters := 0, epsHist := [] }

/-- The OWR of an OK capture is kept for the set that it was taken under (R160): the one in force, or the one left behind that is held. -/
def noteOwr (c : CapRun) (owr : Int) (d : Dev) : Dev :=
  let n := c.path
  let code := fun (linear : Bool) (set : Nat) => if linear then 2 else set
  let of := code c.linear c.set
  modDpd n (fun s =>
    if of = code (d.dpdLinear n) (d.dpdForce n) then { s with lastOwr := some owr }
    else if s.held = some of then { s with refOwr := some owr } else s) d

/-- The device's part of CAPTURE_WRITTEN (R153 to R157, R160): a capture of the loop that is not OK ends its iteration. -/
def captureFinish (b : Nat) (given : CapResult) (d : Dev) : Dev :=
  match (d.obsSt b).cap with
  | none => d
  | some c =>
    let r := d.capSamples b c given
    let n := c.path
    let st := captureStatus c r
    let owr := d.capOwr c r
    let ours := decide (4 ≤ c.desc) && decide (c.desc ≤ 6)
    let d := d |> draw |> modObs b (fun s => { s with cap := none, seq := seqNext s.seq }) |> setB (BAY_OBS_STAT_busy b) false
      |> setBitF (BAY_OBS_STAT_slot_full b) c.slot
      |> onlyIf ours (modDpd n fun s => { s with step := if s.step = 1 then (if st = 0 then 2 else 0) else s.step })
    dpdModeSettled (if st ≠ 0 then incF (BAY_OBS_STAT_cap_spoiled b) d
    else
      d |> incF (BAY_OBS_STAT_cap_ok b) |> setF (BAY_DPD_MET_owr b (posOf n)) (owr % 65536).toNat
        |> modDpd n (fun s => { s with okTx := d.txTime b }) |> noteOwr c owr
        |> onlyIf (d.dpdState n == 4) (setDpdState n (d.dpdSt n).stateLeft)
        |> onlyIf (d.dpdState n == 1 && d.dpdHw && ours && d.bayServed b) (dpdLagSearch c r)
        |> onlyIf (c.desc == 7) (dpdVerify n owr))

end Sys2Proof.Machine
end

