-- ==== Sys2Proof/Machine/Girder.lean ====
section
/-!
DEFINITION. Girders, arches and rail weights (chapter 07, R165 to R188).
-/
namespace Sys2Proof.Machine

def modGir (g : GirderSt → GirderSt) (d : Dev) : Dev := { d with gir := g d.gir }

/-! ### Weights -/

/-- A word from two components. -/
def ofComps (v : Int × Int) : Nat := (v.1 % 65536).toNat + 65536 * (v.2 % 65536).toNat

/-- Where word j of codebook entry e and of a copy of dynamic entry k lie in deck SRAM (R333). -/
def cbAddr (e j : Nat) : Nat := 0x3C00000 + 0x100 * e + 4 * j
def dynAddr (k copy j : Nat) : Nat := 0x3A00000 + 0x200 * k + 0x100 * copy + 4 * j

/-- What a beam identifier names for a use (R169, R171): the address of its 64 weights, or none for the null beam. -/
inductive BeamUse where
  | codebook (e : Nat)
  | fallback (e : Nat)
  | dynamic (k : Nat)
  | null
  /-- the null beam after a fault or an unknown identifier; the cause of E097, 0 when it raises none -/
  | nullFault (cause : Nat)
deriving DecidableEq, Repr

/-- The use that an identifier leads to (R169 to R171). -/
def Dev.beamUse (d : Dev) (id : Nat) : BeamUse :=
  if id < 4096 then
    if !d.cbInvalid id then .codebook id
    else if !d.cbInvalid (d.f GIRDER_CB_FALLBACK_index) then .fallback (d.f GIRDER_CB_FALLBACK_index)
    else .nullFault 2
  else if id < 5120 then (if (smGet {} (id - 4096) d.gir.dyn).filled then .dynamic (id - 4096) else .nullFault 3)
  else if id = 8191 then .null
  else .nullFault 0

/-- The weight of antenna port a in a use. -/
def Blk.weight (b : Blk) (u : BeamUse) (a : Nat) : Int × Int :=
  match u with
  | .codebook e => comps (b.rd32 (cbAddr e a))
  | .fallback e => comps (b.rd32 (cbAddr e a))
  | .dynamic k => comps (b.rd32 (dynAddr k 0 a))
  | .null => (0, 0)
  | .nullFault _ => (0, 0)

/-- E097, at most once per 10 ms; cause and identifier of the latest use are kept (R171, R186). -/
def fallbackEvent (cause id : Nat) (d : Dev) : Dev :=
  d |> setF GIRDER_CB_STAT_last_cause cause
    |> setF GIRDER_CB_STAT_last_id (if id < 4096 then id else id - 4096)
    |> raiseLimited (usTicks 10000) 97 97 0xFF cause (if id < 4096 then id else id - 4096)

/-- The words that a use reads are decoded (R171, R335). -/
def touchUse (u : BeamUse) (b : Blk) : Blk :=
  match u with
  | .codebook e => touchRange 1 (cbAddr e 0) 32 b
  | .fallback e => touchRange 1 (cbAddr e 0) 32 b
  | .dynamic k => touchRange 1 (dynAddr k 0 0) 32 b
  | .null => b
  | .nullFault _ => b

/-- The weights of an identifier are read (R171): an uncorrectable word makes its entry invalid or empty before it is used, and the entry that
the use then falls back to is decoded in its turn. -/
def touchBeam (id : Nat) (b : Blk) : Blk :=
  let b' := touchUse (b.dev.beamUse id) b
  if b'.dev.beamUse id = b.dev.beamUse id then b' else touchUse (b'.dev.beamUse id) b'

/-- A use of an identifier counts (R169, R171). -/
def countUse (id : Nat) (d : Dev) : Dev :=
  match d.beamUse id with
  | .fallback _ => d |> incF GIRDER_USE_COUNT_fallback_uses |> fallbackEvent 1 id
  | .nullFault c => d |> incF GIRDER_USE_COUNT_null_uses |> onlyIf (c != 0) (fallbackEvent c id)
  | _ => d

/-! ### The codebook window -/

/-- A staged entry is committed (R168): its staged words replace the committed ones, whole code words where both halves were
staged. -/
def cbCommit (e : Nat) (st : List (Nat × Nat)) (b : Blk) : Blk :=
  (List.range 32).foldl (fun b i =>
    let lo := st.find? fun x => x.1 == 2 * i
    let hi := st.find? fun x => x.1 == 2 * i + 1
    let a := cbAddr e (2 * i)
    match lo, hi with
    | some l, some h => writeWord a (leBytes 4 l.2 ++ leBytes 4 h.2) b
    | some l, none => write32 a l.2 b
    | none, some h => write32 (a + 4) h.2 b
    | none, none => b) b

/-- CODEBOOK_WRITE (R168): a word is staged; another entry's write discards what was staged; word 63 commits the entry. -/
def codebookWrite (e j v : Nat) (b : Blk) : Blk :=
  let g := b.dev.gir
  let other := g.stageEntry != some e && !g.stage.isEmpty
  let kept := if g.stageEntry = some e then g.stage else []
  let st := smPut (2 ^ 32) j v kept
  let b := onDev (onlyIf other (incF GIRDER_CB_STAT_torn)) b
  if j = 63 then b |> onDev (modGir fun g => { g with stageEntry := none, stage := [] }) |> cbCommit e st
  else onDev (modGir fun g => { g with stageEntry := some e, stage := st }) b

/-- REVALIDATE (R172): all 64 words of an entry are read; the invalid bit clears when every one decodes. -/
def revalidate (e : Nat) (b : Blk) : Blk :=
  let b := touchRange 1 (cbAddr e 0) 32 b
  if b.readable (cbAddr e 0) 32 then
    onDev (fun d => d |> clrBitF (GIRDER_CB_INVAL_invalid (e / 32)) (e % 32)
      |> (fun d => setF GIRDER_CB_STAT_invalid_count (min 255 d.cbInvalidCount) d)
      |> setB GIRDER_CB_STAT_reval_ok true |> refreshFallback) b
  else onDev (setB GIRDER_CB_STAT_reval_fail true) b

/-! ### Dynamic entries -/

def Dev.dynE (d : Dev) (k : Nat) : DynEnt := smGet {} k d.gir.dyn
def setDyn (k : Nat) (e : DynEnt) (d : Dev) : Dev := modGir (fun g => { g with dyn := smPut {} k e g.dyn }) d

/-- A dynamic update (R170): written into the pending copy of an entry; one that waits there is replaced. An apply time that
lies in the past, or whose pass has started, is late. DESIGN CHOICE (log entry 48): a record whose carrier is not formed or above 5 is placed on
the 30 kHz grid, one whose slot or symbol lies off its grid as many slots and symbols on as it says, and both are accepted. -/
def dynUpdate (k carrier frame slot sym : Nat) (ws : List Nat) (b : Blk) : Blk :=
  let d := b.dev
  let t := d.symInstant (d.grid15 carrier) frame slot sym
  let late := decide (t < d.now) || (match d.gir.lastPass with | some p => decide (t ≤ p) | none => false)
  let e := d.dynE k
  b |> store (dynAddr k 1 0) (((ws ++ List.replicate 64 0).take 64).flatMap (leBytes 4))
    |> onDev (fun d => d
        |> onlyIf e.pend.isSome (incF GIRDER_DYN_STAT_dyn_replaced)
        |> onlyIf late (incF GIRDER_DYN_STAT_dyn_late)
        |> setDyn k { e with pend := some (if late then (d.now : Int) else t), late := late })

/-- An update record that is discarded counts in dyn_late (R170). -/
def dynDiscard (d : Dev) : Dev := incF GIRDER_DYN_STAT_dyn_late d

/-- Act on an update record of 80 words (R170). -/
def dynRecord (ws : List Nat) (b : Blk) : Blk :=
  let w0 := ws.getD 0 0
  let w1 := ws.getD 1 0
  if w0 % 65536 > 1023 then onDev dynDiscard b
  else dynUpdate (w0 % 65536) (bits w0 23 16) (w1 % 65536) (bits w1 23 16) (bits w1 31 24) (ws.drop 16) b

/-- DYNAMIC_UPDATE, a word at the dynamic port (R170): words are assembled, and the word at 0x13C acts on the record. -/
def dynPortWrite (off v : Nat) (b : Blk) : Blk :=
  let port := smPut 0 (off / 4) v b.dev.gir.port
  if off = 0x13C then
    b |> onDev (modGir fun g => { g with port := [] }) |> dynRecord ((List.range 80).map fun i => smGet 0 i port)
  else onDev (modGir fun g => { g with port := port }) b

/-- The pending copy of entry k comes into force (R170); one that holds an uncorrectable error leaves the entry empty (R171). -/
def dynSwitch (k : Nat) (b : Blk) : Blk :=
  let b := touchRange 1 (dynAddr k 1 0) 32 b
  if b.readable (dynAddr k 1 0) 32 then
    b |> store (dynAddr k 0 0) (b.read8 (dynAddr k 1 0) 32)
      |> onDev (fun d => setDyn k { d.dynE k with filled := true, pend := none, late := false } d)
  else onDev (setDyn k {}) b

/-- Put in force every pending copy whose apply time a pass has reached, or that came late: the next pass takes it (R170). -/
def dynReach (t : Int) (b : Blk) : Blk :=
  (b.dev.gir.dyn.filter fun x => match x.2.pend with | some p => x.2.late || decide (p ≤ t) | none => false).foldl
    (fun b x => dynSwitch x.1 b) b

/-- Every dynamic entry becomes empty: at a commit and at a wake from Dormant (R170). -/
def dynEmptyAll (d : Dev) : Dev := modGir (fun g => { g with dyn := [], lastPass := none }) d

/-! ### Renormalisation (R176) -/

/-- Square magnitude of a weight word. -/
def mag2 (w : Int × Int) : Nat := (w.1 * w.1 + w.2 * w.2).toNat

/-- Active paths of a direction as a 64-bit mask. -/
def Dev.activeMask (d : Dev) (dir : Nat) : Nat :=
  (List.range 64).foldl (fun a n => if (if dir = 0 then d.map.txActive n else d.map.rxActive n) then a + 2 ^ n else a) 0

/-- Live paths of a direction as a 64-bit mask. -/
def Dev.liveMask (d : Dev) (dir : Nat) : Nat :=
  (List.range 64).foldl (fun a n => if (if dir = 0 then d.txLive n else d.rxLive n) then a + 2 ^ n else a) 0

/-- The live mask that the scales in use by carrier c were computed for. -/
def Dev.useMask (d : Dev) (c dir : Nat) : Nat :=
  let u := smGet (0, 0) c d.gir.use
  if dir = 0 then u.1 else u.2

/-- The limit of rho in dB: 7 taken as 6. -/
def Dev.rhoLimit (d : Dev) : Nat := min 6 (d.f GIRDER_CFG_renorm_max)

/-- The sums over active and over live paths of a vector's squared magnitudes. -/
def rhoSums (w : Nat → Int × Int) (active live : Nat) : Nat × Nat :=
  (List.range 64).foldl (fun s n =>
    let m := mag2 (w n)
    (s.1 + (if active.testBit n then m else 0), s.2 + (if live.testBit n then m else 0))) (0, 0)

/-- Does rho squared, as a quotient, lie above the limit in dB: (num/den)^10 above 10^limit? -/
def rhoCapped (s : Nat × Nat) (lim : Nat) : Bool := s.2 != 0 && decide (s.1 ^ 10 > 10 ^ lim * s.2 ^ 10)

/-- The largest k with (2k - 1)^2 den at most 4 w^2 num, which is w times the root of num over den, rounded half up. -/
def scaleExact (w num den : Nat) : Nat := (isqrt (4 * w * w * num / den) + 1) / 2

/-- The largest r below 2^17 with r^20 at most (4 w^2)^10 10^lim: twice w times the limit of rho, rounded down. -/
def rootLim (w lim : Nat) : Nat :=
  (List.range 18).foldl (fun r i =>
    let t := r + 2 ^ (17 - i)
    if t ^ 20 ≤ (4 * w * w) ^ 10 * 10 ^ lim then t else r) 0

/-- A weight component times rho, rounded half up and saturated to s1.14 (R176). -/
def scaleComp (s : Nat × Nat) (lim : Nat) (w : Int) : Int :=
  let n := w.natAbs
  let up := if s.2 = 0 then n else if rhoCapped s lim then (rootLim n lim + 1) / 2 else scaleExact n s.1 s.2
  let exactHalf := if s.2 = 0 ∨ rhoCapped s lim then false
    else decide (((2 * up - 1) * (2 * up - 1)) * s.2 = 4 * n * n * s.1) && decide (0 < up)
  if w ≥ 0 then satS 16 up else satS 16 (-(if exactHalf then (up : Int) - 1 else up))

/-- The weight of path n in a use by carrier c after renormalisation (R176): 0 for a path that is not live. -/
def Blk.renormWeight (b : Blk) (c : Nat) (u : BeamUse) (dir n : Nat) : Int × Int :=
  let live := b.dev.useMask c dir
  if !live.testBit n then (0, 0)
  else
    let w := b.weight u n
    if b.dev.on GIRDER_CFG_renorm then
      let s := rhoSums (b.weight u) (b.dev.activeMask dir) live
      (scaleComp s b.dev.rhoLimit w.1, scaleComp s b.dev.rhoLimit w.2)
    else w

/-- Codebook entries whose rho in a direction hits the limit; with every active path live no rho is above 1. An entry that cannot be read
whole has no rho (DESIGN CHOICE, log entry 48). -/
def Blk.cappedCount (b : Blk) (dir : Nat) : Nat :=
  let active := b.dev.activeMask dir
  let live := b.dev.liveMask dir
  if active = live then 0
  else ((List.range 4096).filter fun e => b.readable (cbAddr e 0) 32 && rhoCapped (rhoSums (b.weight (.codebook e)) active live) b.dev.rhoLimit).length

/-- Every rho is recomputed after a change of the live paths (R176): the entries that hit the limit count, and raise E101 once. -/
def recomputeRho (b : Blk) : Blk :=
  let now := (b.dev.liveMask 0, b.dev.liveMask 1)
  if b.dev.gir.done = now then b
  else
    let b := onDev (modGir fun g => { g with done := now }) b
    if b.dev.on GIRDER_CFG_renorm then
      let b := touchSpan 1 (cbAddr 0 0) (cbAddr 4096 0) b
      let tx := b.cappedCount 0
      let rx := b.cappedCount 1
      onDev (fun d => d |> setF GIRDER_RENORM_tx_capped (min tx 65535) |> setF GIRDER_RENORM_rx_capped (min rx 65535)
        |> onlyIf (decide (0 < tx + rx)) (raise0 101)) b
    else b

/-- Carriers in l use the scales of the live paths from now on (R176). -/
def renormFor (l : List Nat) (b : Blk) : Blk :=
  b |> recomputeRho |> onDev (fun d =>
    modGir (fun g => { g with use := l.foldl (fun m c => smPut (0, 0) c (d.liveMask 0, d.liveMask 1) m) g.use }) d)

/-- Every carrier does. -/
def renormHere (b : Blk) : Blk := renormFor (List.range 6) b

/-- RENORMALISE (R115, R176, R486): at carrier c's own symbol boundary its weights are renormalised. -/
def renormalise (c : Nat) (b : Blk) : Blk := b |> onDev (fun d => passTo (d.nextSymbol (d.grid15 c) 0) d) |> renormFor [c]

/-! ### Girder arithmetic (R173, R174) -/

/-- The store of a girder sum: shifted right by 14 + sh with rounding half up (R173). -/
def girderStore (sh : Nat) (acc : Int) : Int := satS 16 ((acc + (2 ^ (13 + sh) : Nat)) / (2 ^ (14 + sh) : Nat))
def girderSat (sh : Nat) (acc : Int) : Bool := decide ((acc + (2 ^ (13 + sh) : Nat)) / (2 ^ (14 + sh) : Nat) ≠ girderStore sh acc)

/-- The downlink sum of an antenna at a subcarrier over layers (R173). -/
def girderSum (l : List ((Int × Int) × (Int × Int))) : Int × Int := l.foldl (fun a p => cadd a (cmul p.1 p.2)) (0, 0)

/-- The stored words of girder sums, and the components that saturate (R173, R174). -/
def girderWords (sh : Nat) (l : List (Int × Int)) : List (Int × Int) := l.map fun v => (girderStore sh v.1, girderStore sh v.2)
def girderSats (sh : Nat) (l : List (Int × Int)) : Nat := (l.map fun v => ofBool (girderSat sh v.1) + ofBool (girderSat sh v.2)).sum

/-- What the arch delivers of one uplink symbol of one antenna path (R174, R179): path, block exponent, saturation, and the
mantissas of its subcarriers. -/
structure UlStream where
  path : Nat
  exp : Nat
  sat : Bool
  m : List (Int × Int)
deriving DecidableEq, Repr

/-- The uplink sum over live paths, exponents brought to E (R174): each product's components shifted right with rounding. -/
def girderUlSum (e : Nat) (l : List (((Int × Int) × (Int × Int)) × Nat)) : Int × Int :=
  l.foldl (fun a p => let x := cmul p.1.1 p.1.2; cadd a (shrRound (e - p.2) x.1, shrRound (e - p.2) x.2)) (0, 0)

/-- Saturated components of a girder's stores count and may raise E096 (R173, R185). -/
def countGirderSat (g dir n : Nat) (d : Dev) : Dev :=
  if n = 0 then d
  else d |> addF (if dir = 0 then GIRDER_SAT_dl_sat g else GIRDER_SAT_ul_sat g) n
    |> onlyIf (d.on GIRDER_CFG_sat_evt_en) (raiseLimited (usTicks 10000) (65536 * 96 + g) 96 g dir n)

/-- Saturated outputs of the arches count, and E099 (R179, R185). -/
def countArchSat (dir n : Nat) (d : Dev) : Dev :=
  if n = 0 then d
  else d |> addF (if dir = 0 then ARCH_SAT_dl_sat else ARCH_SAT_ul_sat) n
    |> raiseLimited (usTicks 10000) 99 99 0xFF dir (min n 65535)

/-! ### What the span map gives a carrier -/

/-- The entry of SPAN_DSP for carrier c and direction, of span s: offset of its 8 bytes (R165). -/
def SpanImg.dsp (m : SpanImg) (s c dir i : Nat) : Nat :=
  match m.get 6 s with | some r => r.b (8 * (2 * c + dir) + i) | none => 0

/-- Layers formed for a carrier and direction: the count of either span that has it (R165, R166). -/
def SpanImg.layers (m : SpanImg) (c dir : Nat) : Nat := max (m.dsp 0 c dir 0) (m.dsp 1 c dir 0)

/-- Layers enabled (R175). -/
def Dev.enabled (d : Dev) (c dir : Nat) : Nat := if dir = 0 then d.f (GIRDER_LAYERS_dl_enabled c) else d.f (GIRDER_LAYERS_ul_enabled c)

/-- The girder of a carrier and direction on span s. -/
def SpanImg.girderOf (m : SpanImg) (s c dir : Nat) : Nat := 2 * s + m.dsp s c dir 1

/-- Resource blocks of carrier c (R485). -/
def SpanImg.nRb (m : SpanImg) (c : Nat) : Nat := match m.carrier c with | some r => r.le 2 2 | none => 0

/-! ### Rail weights (R181 to R183) -/

/-- Is a load into buffer s of path n incomplete (R181 to R183)? -/
def Dev.railBusy (d : Dev) (n s : Nat) : Bool := d.gir.loads.any fun l => l.buf == s && l.words.any fun w => w.1 == n

/-- RAIL_WRITE (R181): ignored with wr_refused when the buffer is in force or a load into it is incomplete. -/
def railWrite (p i s v : Nat) (d : Dev) : Dev :=
  let force := ofBool (d.fb (PIER_RAIL_SEL_in_force p) i)
  if !d.piersUp then d
  else if force = s ∨ d.railBusy (16 * p + i) s then incF (PIER_RAIL_STAT_wr_refused p) d
  else d |> setF (PIER_RAIL_q p i s) (v / 65536) |> setF (PIER_RAIL_i p i s) v

/-- Both buffers of path n at 1.0 and buffer 0 in force (R181). -/
def railReset (n : Nat) (d : Dev) : Dev :=
  let p := pierOf n
  let i := n % 16
  d |> rstF (PIER_RAIL_q p i 0) |> rstF (PIER_RAIL_i p i 0) |> rstF (PIER_RAIL_q p i 1) |> rstF (PIER_RAIL_i p i 1)
    |> clrBitF (PIER_RAIL_SEL_in_force p) i |> clrBitF (PIER_RAIL_SEL_loading p) i

/-- Piers that hold one of a list of paths. -/
def piersOfPaths (l : List Nat) : List Nat := (List.range 4).filter fun p => l.any fun n => pierOf n == p

/-- A switch or load fails (R182, R183): counted on each pier of the targeted paths, and E100. -/
def railFail (paths : List Nat) (d : Dev) : Dev :=
  d |> forAll (piersOfPaths paths) (fun p => incF (PIER_RAIL_STAT_failed p)) |> raise0 100

/-- The load part of BEAM_SWITCH (R183), into a buffer: the entry is read under R171, its words wait for the load's completion. DESIGN
CHOICE (log entry 48): a load that fails is a use too, and counts in null_uses with E097's cause NULL, as a block under the null beam
does. -/
def railLoad (paths : List Nat) (e buf : Nat) (b : Blk) : Blk × Bool :=
  let b := touchBeam e b
  let src := match b.dev.beamUse e with
    | .codebook e => some e
    | .fallback e => some e
    | _ => none
  let b := onDev (countUse e) b
  match src with
  | none => (onDev (railFail paths) b, false)
  | some s =>
    let up := if b.dev.piersUp then paths else []
    let words := up.map fun n => (n, b.rd32 (cbAddr s n))
    (onDev (fun d => d
      |> forAll up (fun n => setBitF (PIER_RAIL_SEL_loading (pierOf n)) (n % 16))
      |> modGir (fun g => { g with loads := g.loads ++ [⟨d.now, buf, words⟩] })) b, true)

/-- BEAM_SWITCH on its targeted TX paths (R182): true when the entry ends DONE. -/
def beamSwitch (arg : Nat) (paths : List Nat) (b : Blk) : Blk × Bool :=
  let buf := arg % 2
  let busy := paths.any fun n => b.dev.railBusy n buf
  if busy then (onDev (railFail paths) b, false)
  else
    let b := onDev (fun d => d
      |> forAll (paths.filter fun n => d.railOf n != buf) capSplitNear
      |> forAll paths (fun n =>
          (if buf = 1 then setBitF else clrBitF) (PIER_RAIL_SEL_in_force (pierOf n)) (n % 16))
      |> forAll (piersOfPaths paths) (fun p => incF (PIER_RAIL_STAT_switches p))) b
    if arg.testBit 1 then railLoad paths (bits arg 27 16) (1 - buf) b else (b, true)

/-- RAIL_LOAD_DONE (R183): the oldest load completes; each path's buffer that it was for changes as a whole. A path still shows a load while
another one for it is incomplete. -/
def railLoadDone (d : Dev) : Dev :=
  match d.gir.loads with
  | [] => d
  | l :: r =>
    d |> forAll l.words (fun w d =>
        let p := pierOf w.1
        let i := w.1 % 16
        d |> setF (PIER_RAIL_q p i l.buf) (w.2 / 65536) |> setF (PIER_RAIL_i p i l.buf) w.2
          |> onlyIf (!r.any fun x => x.words.any fun y => y.1 == w.1) (clrBitF (PIER_RAIL_SEL_loading p) i))
      |> modGir (fun g => { g with loads := r })

/-- A freeze abandons the loads in progress (R183). -/
def railAbandon (d : Dev) : Dev :=
  d |> forAll (List.range 4) (fun p => setF (PIER_RAIL_SEL_loading p) 0) |> modGir (fun g => { g with loads := [] })

/-! ### Registers -/

/-- Values taken as another (R186, R187). -/
def girSubst (off val : Nat) : Nat :=
  if off = 0xB00000 then putBits val 6 4 (min 6 (bits val 6 4))
  else if 0xC00000 ≤ off ∧ off < 0xC00018 then
    putBits (putBits val 11 8 (min 12 (bits val 11 8))) 3 0 (min 12 (bits val 3 0))
  else val

/-- What a write to the GIRDER and ARCH blocks does beyond its access codes. -/
def girWriteAfter (off val : Nat) (b : Blk) : Blk :=
  let soon := fun (c : Nat) (l : List Fld) (d : Dev) =>
    deferTo (.values (l.map fun x => (x, d.f x))) (d.nextSymbol (d.grid15 c) leadTicks) d
  if off = 0xB00008 then revalidate (bits val 11 0) b
  else if off = 0xB00004 then onDev refreshFallback b
  else if 0xB00010 ≤ off ∧ off < 0xB00028 then
    let c := (off - 0xB00010) / 4
    onDev (soon c [GIRDER_SHIFT_ul_sh c, GIRDER_SHIFT_dl_sh c]) b
  else if 0xC00000 ≤ off ∧ off < 0xC00018 then
    let c := (off - 0xC00000) / 4
    onDev (soon c [ARCH_CFG_ul_scale c, ARCH_CFG_dl_scale c]) b
  else if 0xC00F00 ≤ off ∧ off < 0xC00F18 then
    let c := (off - 0xC00F00) / 4
    onDev (soon c [ARCH_CC_CFG_dl_att c]) b
  else b

/-- The length of the ramp of a thermal shutdown (R375): the mean symbol period of the formed carrier with the lowest spacing, rounded up. -/
def Dev.rampTicks (d : Dev) : Nat := if (List.range 6).any fun c => d.map.scs15 c then 70218 else 35109

end Sys2Proof.Machine
end

