-- ==== Sys2Proof/Machine/Dma.lean ====
section
/-!
DEFINITION. The DMA engine (chapter 13, R344 to R355). Channel states: 0 IDLE, 1 FETCH, 2 MOVE, 3 WAIT_REQ, 4 HALTED.
-/
namespace Sys2Proof.Machine

/-- Channel n enters a state; DMA_STAT shows the channels that are not IDLE. -/
def setChState (n st : Nat) (d : Dev) : Dev :=
  d |> setF (DMA_CH_STAT_state n) st |> (if st = 0 then clrBitF else setBitF) DMA_STAT_busy n

/-- A channel's run ends with a status (R358). -/
def chEnd (n status : Nat) (d : Dev) : Dev :=
  d |> setChState n 0 |> setF (DMA_CH_STAT_last_status n) status |> setB (DMA_CH_STAT_stop_pending n) false |> setChan n {}

/-- The address of the descriptor at POS, with its space in bits 1:0 below bit 6 (R346). -/
def Dev.chPos (d : Dev) (n : Nat) : Nat :=
  d.f (DMA_CH_POS_HI_addr n) * 0x100000000 + d.f (DMA_CH_POS_LO_addr n) * 64
def Dev.chPosSpace (d : Dev) (n : Nat) : Nat := d.f (DMA_CH_POS_LO_space n)

/-- POS names a descriptor. -/
def setPos (n space addr : Nat) (d : Dev) : Dev :=
  d |> setF (DMA_CH_POS_LO_space n) space |> setF (DMA_CH_POS_LO_addr n) (addr / 64) |> setF (DMA_CH_POS_HI_addr n) (addr / 0x100000000)
    |> setF (DMA_CH_DONE_bytes n) 0

/-- May a run start now (R347)? -/
def Dev.chMayStart (d : Dev) (n : Nat) : Bool :=
  d.chState n == 0 && !d.on DMA_HALT_CAUSE_halted && decide (d.pwr ≤ 2) && d.running

/-- Start a run at DESC (R347); true when it was accepted. -/
def chStart (n : Nat) (d : Dev) : Dev × Bool :=
  if d.chMayStart n then
    (d |> setF (DMA_CH_COUNT_hops n) 0
      |> setPos n (d.f (DMA_CH_DESC_LO_space n)) (d.f (DMA_CH_DESC_HI_addr n) * 0x100000000 + d.f (DMA_CH_DESC_LO_addr n) * 64)
      |> setChan n {} |> setChState n 1, true)
  else (setB (DMA_CH_STAT_start_refused n) true d, false)

/-- CHANNEL_START (R344, R347): host writes to a firmware channel are ignored. -/
def channelStart (org : Origin) (n : Nat) (d : Dev) : Dev := if n < 16 ∧ org = .host then d else (chStart n d).1

/-- DMA_START (R347): the argument of an accepted start replaces DESC; true when it was accepted. -/
def dmaStart (n arg : Nat) (d : Dev) : Dev × Bool :=
  if d.chMayStart n then
    d |> setF (DMA_CH_DESC_LO_addr n) (arg / 64) |> setF (DMA_CH_DESC_LO_space n) 0 |> setF (DMA_CH_DESC_HI_addr n) 0 |> chStart n
  else chStart n d

/-- CHANNEL_STOP (R354): ignored on an IDLE channel. -/
def channelStop (org : Origin) (n : Nat) (d : Dev) : Dev :=
  if (n < 16 ∧ org = .host) ∨ d.chState n = 0 then d else setB (DMA_CH_STAT_stop_pending n) true d

/-- CLEAR_HALT (R353): every channel that is HALTED returns to IDLE with last_status HALTED. -/
def clearHalt (d : Dev) : Dev :=
  if d.on DMA_HALT_CAUSE_halted then
    d |> setB DMA_HALT_CAUSE_halted false
      |> forAll (List.range 32) (fun n d => if d.chState n = 4 then chEnd n 7 d else d)
  else d

/-- A programming error stops the channel (R350). -/
def progErr (n reason : Nat) (d : Dev) : Dev :=
  d |> chEnd n 4 |> incF DMA_ERR_count |> setF DMA_ERR_channel n |> setF DMA_ERR_reason reason |> raise 40 n reason 0

/-- MEM_ERR or HOST_ERR stops the channel (R352). -/
def chErr (n status : Nat) (d : Dev) : Dev := d |> chEnd n status |> raise 44 n status 0

/-- Is [a, a + n) inside [lo, hi)? -/
def inside (a n lo hi : Nat) : Bool := decide (lo ≤ a ∧ a + n ≤ hi)

/-- Does [a, a + n) touch a matched destination (R302, R345)? -/
def Dev.protects (d : Dev) (a n : Nat) : Bool := d.key.matched.any fun x => decide (a < x.1 + x.2 ∧ x.1 < a + n)

/-- The reason for which a descriptor is a programming error, lowest code first; 0: none (R345, R350). -/
def Dev.descError (d : Dev) (c : ChanSt) (tailZero : Bool) : Nat :=
  let ss := bits c.ctrl 1 0
  let ds := bits c.ctrl 3 2
  let last := c.ctrl.testBit 4
  let line := bits c.ctrl 13 8
  let burst := bits c.ctrl 31 16
  let capture := inside c.src c.len 0x2000000 0x3000000
  let cb := inside c.dst c.len 0x1000000 0x1100000
  let port := inside c.dst c.len 0x1100000 0x1100140
  let wrongSrc := inside c.src c.len 0x1000000 0x1100000 || inside c.src c.len 0x1100000 0x1100140
  let wrongDst := inside c.dst c.len 0x2000000 0x3000000
  if c.src % 64 ≠ 0 ∨ c.dst % 64 ≠ 0 ∨ c.len % 64 ≠ 0 then 1
  else if c.len = 0 ∨ c.len > 16777216 then 2
  else if ss = 3 ∨ ds = 3 ∨ (!last ∧ c.next % 4 ≥ 2) then 3
  else if (ss = 0 ∧ !inside c.src c.len 0 0x4000000) ∨ (ds = 0 ∧ !inside c.dst c.len 0 0x4000000) ∨
      (ss = 1 ∧ !inside c.src c.len 0 (2 ^ 64)) ∨ (ds = 1 ∧ !inside c.dst c.len 0 (2 ^ 64)) ∨
      (ss = 2 ∧ !capture ∧ !wrongSrc) ∨ (ds = 2 ∧ !cb ∧ !port ∧ !wrongDst) ∨
      (!last ∧ c.next % 4 = 0 ∧ c.next / 64 * 64 ≥ 0x4000000) then 4
  else if (ss = 2 ∧ wrongSrc) ∨ (ds = 2 ∧ wrongDst) then 5
  else if ds = 0 ∧ d.protects c.dst c.len then 6
  else if c.ctrl.testBit 7 ∨ bits c.ctrl 15 14 ≠ 0 ∨ (!last ∧ bits c.next 5 2 ≠ 0) ∨ !tailZero then 7
  else if line > 33 ∨ (line ≠ 0 ∧ burst = 0) then 8
  else 0

/-- A descriptor's fields from its 64 bytes (R346). -/
def descOf (l : List Nat) : ChanSt :=
  let le := fun (i n : Nat) => ofLe ((l.drop i).take n)
  { ctrl := le 0 4, len := le 4 4, src := le 8 8, dst := le 16 8, next := le 24 8, tag := le 32 4 }

/-- The bytes that one edge grants to a descriptor with `done` bytes moved (R349): a burst, or the remainder. -/
def ChanSt.granted (c : ChanSt) (done : Nat) : Nat := min (64 * bits c.ctrl 31 16) (c.len - done)

/-- The fetched descriptor is checked and its execution begins (R349, R350): an edge of its line that arrived in the last burst of the
descriptor before it grants its first burst. -/
def descBegin (n : Nat) (l : List Nat) (d : Dev) : Dev :=
  let old := d.chan n
  let c := descOf l
  let bad := d.descError c ((l.drop 40).all fun x => x == 0)
  let d := setF (DMA_CH_COUNT_hops n) (d.f (DMA_CH_COUNT_hops n) + 1) d
  if bad ≠ 0 then progErr n bad d
  else if bits c.ctrl 13 8 = 0 then d |> setChan n c |> setChState n 2
  else if old.edge ∧ bits old.ctrl 13 8 = bits c.ctrl 13 8 then d |> setChan n { c with grant := c.granted 0 } |> setChState n 2
  else d |> setChan n c |> setChState n 3

/-- DESCRIPTOR_FETCH (R346, R350, R351, R354): `ok` and `host` are what the host answers for a descriptor in its memory.
In D3hot nothing is asked of the host (R436). -/
def descriptorFetch (n : Nat) (ok : Bool) (host : List Nat) (b : Blk) : Blk :=
  let d := b.dev
  if d.chState n ≠ 1 then b
  else if d.on (DMA_CH_STAT_stop_pending n) then onDev (chEnd n 2) b
  else if d.f (DMA_CH_COUNT_hops n) ≥ max 1 (d.f (DMA_CH_HOPMAX_hopmax n)) then onDev (fun d => d |> chEnd n 3 |> raise 41 n 0 0) b
  else if d.chPosSpace n ≥ 2 then onDev (progErr n 3) b
  else if d.chPosSpace n = 1 then
    (if d.host.d3hot then b else if !d.host.busMaster ∨ !ok then onDev (chErr n 6) b else onDev (descBegin n ((host ++ List.replicate 64 0).take 64)) b)
  else if d.chPos n ≥ 0x4000000 then onDev (progErr n 4) b
  else
    let a := d.chPos n
    let b := touchRange 1 a 8 b
    if b.readable a 8 then onDev (descBegin n (b.read8 a 8)) b
    else onDev (fun d => d |> errorResp |> chErr n 5) b

/-- Sixteen words of a burst written to a device window (R167, R168, R170). -/
def windowBurst (a : Nat) (l : List Nat) (b : Blk) : Blk :=
  (List.range 16).foldl (fun b i =>
    let v := ofLe ((l.drop (4 * i)).take 4)
    let x := a + 4 * i
    if x < 0x1100000 then codebookWrite ((x - 0x1000000) / 256) ((x - 0x1000000) % 256 / 4) v b
    else dynPortWrite (x - 0x1100000) v b) b

/-- The words of a burst that were poisoned at their source stay poisoned at a deck SRAM destination (R352), with what R336 gives the region. -/
def poisonWords (a : Nat) (l : List Bool) (b : Blk) : Blk :=
  (List.range 8).foldl (fun b i =>
    if l.getD i false then b |> onMem (Mem.setPoison (a + 8 * i) true) |> onDev (poisonFalls (a + 8 * i)) else b) b

/-- 64 bytes reach their destination (R345, R352). -/
def burstWrite (c : ChanSt) (done : Nat) (l : List Nat) (bad : List Bool) (b : Blk) : Blk :=
  let a := c.dst + done
  let ep := bad.any id
  match bits c.ctrl 3 2 with
  | 0 => b |> store a l |> poisonWords a bad
  | 1 => onDev (modDma fun x => { x with out := some ⟨a, l, ep⟩ }) b
  | _ => if ep then b else windowBurst a l b

/-- The grant of a request-driven descriptor after 64 bytes of it (R349): a fall of its line during the burst makes that burst an orphan. -/
def afterBurst (n : Nat) (d : Dev) : Dev :=
  let c := d.chan n
  let driven := bits c.ctrl 13 8 != 0
  let done := d.f (DMA_CH_DONE_bytes n) + 64
  let d := setF (DMA_CH_DONE_bytes n) done d
  let d := onlyIf (driven && c.fell) (fun d => d |> incF (DMA_CH_COUNT_orphans n) |> raiseSec 45 45 n 0 0) d
  let c := { c with fell := false }
  if !driven then d
  else if c.grant > 64 then setChan n { c with grant := c.grant - 64 } d
  else if done ≥ c.len then setChan n { c with grant := 0 } d
  else if c.edge then setChan n { c with grant := c.granted done, edge := false } d
  else d |> setChan n { c with grant := 0 } |> setChState n 3

/-- Can channel m move a burst without an answer of the host: MOVE, bytes left, and both spaces the deck's own? -/
def Dev.chReady (d : Dev) (m : Nat) : Bool :=
  let c := d.chan m
  d.chState m == 2 && decide (d.f (DMA_CH_DONE_bytes m) < c.len) && bits c.ctrl 1 0 != 1 && bits c.ctrl 3 2 != 1

/-- The arbitration class of a channel (R348). -/
def Dev.chPrio (d : Dev) (n : Nat) : Nat := d.f (DMA_CH_CTRL_prio n)

/-- The channel of a class that moved the last burst, and channel n as that. -/
def Dev.chLast (d : Dev) (prio : Nat) : Nat := if prio = 1 then d.dma.last.1 else d.dma.last.2
def served (n : Nat) (d : Dev) : Dev := modDma (fun x => { x with last := if d.chPrio n = 1 then (n, x.last.2) else (x.last.1, n) }) d

/-- Is it channel n's turn (R348)? Classes in order, and within one round-robin from the channel after the last served. A channel that waits
for the host is ready when its answer is there, which the command that serves it shows (DESIGN CHOICE, log entry 48: one round-robin order
for each class). -/
def Dev.chTurn (d : Dev) (n : Nat) : Bool :=
  let rank := fun m => (m + 31 - d.chLast (d.chPrio n)) % 32
  (List.range 32).all fun m =>
    !(m != n && d.chReady m && (decide (d.chPrio n < d.chPrio m) || (d.chPrio m == d.chPrio n && decide (rank m < rank n))))

/-- DMA_BURST (R348, R349, R352): one 64-byte burst of the channel whose turn it is; `ok` and `host` are the host's answer for a source in
host memory. In D3hot no burst touches host memory (R436). A burst that a device window discards has moved nothing (R352, R358). -/
def dmaBurst (n : Nat) (ok : Bool) (host : List Nat) (b : Blk) : Blk :=
  let d := b.dev
  let c := d.chan n
  let done := d.f (DMA_CH_DONE_bytes n)
  if d.chState n ≠ 2 ∨ done ≥ c.len ∨ !d.chTurn n ∨ (d.host.d3hot ∧ (bits c.ctrl 1 0 = 1 ∨ bits c.ctrl 3 2 = 1)) then b
  else if bits c.ctrl 1 0 = 1 ∧ (!d.host.busMaster ∨ !ok) then onDev (chErr n 6) b
  else if bits c.ctrl 3 2 = 1 ∧ !d.host.busMaster then onDev (chErr n 6) b
  else if bits c.ctrl 1 0 = 1 then
    b |> onDev (served n) |> burstWrite c done ((host ++ List.replicate 64 0).take 64) [] |> onDev (afterBurst n)
  else
    let a := c.src + done
    let b := b |> onDev (served n) |> touchRange 1 a 8
    let bad := (List.range 8).map fun i => b.mem.bad (a + 8 * i)
    let b := b |> burstWrite c done (b.read8 a 8) bad
    let b := if bad.any id && bits c.ctrl 3 2 == 2 then b else onDev (afterBurst n) b
    if bad.any id then onDev (fun d => d |> errorResp |> chErr n 5) b else b

/-- The status written back (R346): status DONE and the bytes done in units of 64. -/
def descStatus (d : Dev) (n : Nat) : Nat := 1 + d.f (DMA_CH_DONE_bytes n) / 64 * 256

/-- DESCRIPTOR_DONE (R348, R351, R352, R354): status is written back, E043 raised, and the chain goes on. -/
def descriptorDone (n : Nat) (b : Blk) : Blk :=
  let d := b.dev
  let c := d.chan n
  let hostBack := c.ctrl.testBit 6 && d.chPosSpace n != 0
  if d.chState n ≠ 2 ∨ d.f (DMA_CH_DONE_bytes n) < c.len ∨ c.len = 0 ∨ (hostBack ∧ d.host.d3hot) then b
  else if hostBack && !d.host.busMaster then onDev (chErr n 6) b
  else
    let b :=
      if !c.ctrl.testBit 6 then b
      else if d.chPosSpace n = 0 then
        (if d.protects (d.chPos n + 0x24) 4 then onDev errorResp b else write32 (d.chPos n + 0x24) (descStatus d n) b)
      else onDev (modDma fun x => { x with out := some ⟨d.chPos n + 0x24, leBytes 4 (descStatus d n), false⟩ }) b
    onDev (fun d =>
      let d := d |> setF (DMA_CH_STAT_tag n) c.tag |> onlyIf (c.ctrl.testBit 5) (raise 43 n 1 0)
      if c.ctrl.testBit 4 then chEnd n 1 d
      else
        let d := setPos n (c.next % 4) (c.next / 64 * 64) d
        if d.on (DMA_CH_STAT_stop_pending n) then chEnd n 2 d else setChState n 1 d) b

/-- REQUEST_EDGE (R349): a rising edge of a request line, from low to high, grants a burst to every channel that waits for it; during a
burst it is kept. -/
def requestEdge (line : Nat) (d : Dev) : Dev :=
  if !d.lineHigh line ∨ d.dma.seen.contains line then d
  else
    d |> modDma (fun x => { x with seen := insNat line x.seen })
      |> forAll (List.range 32) (fun n d =>
        let c := d.chan n
        if bits c.ctrl 13 8 ≠ line then d
        else if d.chState n = 3 then d |> setChan n { c with grant := c.granted (d.f (DMA_CH_DONE_bytes n)) } |> setChState n 2
        else if d.chState n = 2 then setChan n { c with edge := true } d
        else d)

/-- DMA_HALT (R353): an access of a busy engine stays without response; every channel that is not IDLE is HALTED. -/
def dmaHalt (space : Nat) (write : Bool) (cause addr : Nat) (d : Dev) : Dev :=
  if d.f DMA_STAT_busy = 0 ∨ d.on DMA_HALT_CAUSE_halted then d
  else
    d |> forAll (List.range 32) (fun n d => if d.chState n = 0 then d else setChState n 4 d)
      |> setB DMA_HALT_CAUSE_halted true |> setF DMA_HALT_CAUSE_space space |> setB DMA_HALT_CAUSE_write write
      |> setF DMA_HALT_CAUSE_cause cause |> setF DMA_HALT_ADDR_LO_addr addr |> setF DMA_HALT_ADDR_HI_addr (addr / 0x100000000)
      |> raise 42 0xFF cause 0

/-- Does the engine refuse an entry to Rest, Dormant or Off (R355)? -/
def Dev.dmaActive (d : Dev) : Bool := d.f DMA_STAT_busy != 0 || d.on DMA_HALT_CAUSE_halted

/-- Registers of a firmware channel are not the host's to write (R344). -/
def dmaIgnores (org : Origin) (off : Nat) : Bool := org == .host && decide (0x700100 ≤ off ∧ off < 0x700500)

/-- A hop limit of 0 is taken as 1 (R351). -/
def dmaSubst (off val : Nat) : Nat :=
  if 0x700100 ≤ off ∧ off < 0x700900 ∧ off % 0x40 = 0x1C ∧ val % 65536 = 0 then 1 else val

/-- A start that R347 refuses: the whole write is (R483). -/
def dmaRefuses (off val : Nat) (d : Dev) : Option (Dev → Dev) :=
  let n := (off - 0x700100) / 0x40
  if 0x700100 ≤ off ∧ off < 0x700900 ∧ off % 0x40 = 0 ∧ val.testBit 0 ∧ !d.chMayStart n then some (setB (DMA_CH_STAT_start_refused n) true) else none

/-- What a write to the DMA block does beyond its access codes. -/
def dmaWriteAfter (org : Origin) (off val : Nat) (d : Dev) : Dev :=
  if off = 0x300000 then lineFalls 33 d
  else if off = 0x700000 then onlyIf (val.testBit 0) clearHalt d
  else if 0x700100 ≤ off ∧ off < 0x700900 ∧ off % 0x40 = 0 then
    let n := (off - 0x700100) / 0x40
    d |> onlyIf (val.testBit 1) (channelStop org n) |> onlyIf (val.testBit 0) (channelStart org n)
  else d

end Sys2Proof.Machine
end

