-- ==== Sys2Proof/Machine/Governance.lean ====
section
/-!
DEFINITION. Lamnik records (R313) and the audit ledger's ring and archive (chapter 16, R410 to R423).
-/
namespace Sys2Proof.Machine

/-! ### Lamnik records in the attached store (R313) -/

/-- A record: header with its payload format, payload padded to a multiple of 4, and its CRC-32C. -/
def lamnikF (ty fmt seq : Nat) (payload : List Nat) : List Nat :=
  let body := [0x52, 0x4C] ++ leBytes 2 ty ++ leBytes 2 fmt ++ [0, 0] ++ leBytes 4 payload.length ++ leBytes 4 seq ++ payload ++
    List.replicate ((4 - payload.length % 4) % 4) 0
  body ++ leBytes 4 (crc32c body)

/-- A record of payload format 1. -/
def lamnik (ty seq : Nat) (payload : List Nat) : List Nat := lamnikF ty 1 seq payload

/-- The little-endian number in n bytes of the store. -/
def Mem.sle (m : Mem) (a n : Nat) : Nat := ofLe (m.sbytes a n)

/-- Does a record header of a type stand at a place of at most n bytes? -/
def Mem.recHead (m : Mem) (ty a n : Nat) : Bool :=
  m.sbytes a 2 == [0x52, 0x4C] && m.sle (a + 2) 2 == ty && decide (20 + m.sle (a + 8) 4 ≤ n)

/-- Does the record's trailer match? -/
def Mem.recGood (m : Mem) (ty a n : Nat) : Bool :=
  let len := (m.sle (a + 8) 4 + 3) / 4 * 4
  m.recHead ty a n && m.sle (a + 16 + len) 4 == crc32c (m.sbytes a (16 + len))

/-- The payload of a record. -/
def Mem.recPayload (m : Mem) (a : Nat) : List Nat := m.sbytes (a + 16) (m.sle (a + 8) 4)

/-- Among k places of n bytes from base, the one whose record of a type has the greatest sequence, if any. -/
def Mem.recNewest (m : Mem) (ty base n k : Nat) : Option Nat :=
  (List.range k).foldl (fun best i =>
    if m.recGood ty (base + n * i) n then
      match best with
      | none => some i
      | some j => if m.sle (base + n * j + 12) 4 ≤ m.sle (base + n * i + 12) 4 then some i else some j
    else best) none

/-- The place and the sequence number of the next record of a type: the place after the newest one. -/
def Mem.recNext (m : Mem) (ty base n k : Nat) : Nat × Nat :=
  match m.recNewest ty base n k with
  | some i => ((i + 1) % k, m.sle (base + n * i + 12) 4 + 1)
  | none => (0, 1)

/-- Write a record of a type into the place after the newest one, erasing it first. -/
def recWrite (ty base n k : Nat) (payload : List Nat) (m : Mem) : Mem :=
  let p := m.recNext ty base n k
  (m.erase (base + n * p.1) n).program (base + n * p.1) (lamnik ty p.2 payload)

/-! ### Forming records -/

def modLdg (g : LedgerSt → LedgerSt) (d : Dev) : Dev := { d with ldg := g d.ldg }

/-- The first 28 bytes of a record (R410). -/
def recordBytes (r : LedgerReq) (quality : Nat) : List Nat :=
  leBytes 4 r.ns ++ leBytes 4 r.epoch ++ [originCode r.origin, r.kind + 32 * quality] ++ leBytes 2 r.aux ++ leBytes 4 r.addr ++
    leBytes 4 r.old ++ leBytes 4 r.new ++ leBytes 4 r.sealEpoch

/-- The SRAM address of a ring slot (R418). -/
def ringAddr (slot : Nat) : Nat := 0x3A80000 + 32 * slot

/-- Append a record to the chain and the ring (R415, R418), or lose it when the ring is full (R419). -/
def ledgerAppend (r : LedgerReq) (b : Blk) : Blk :=
  let d := b.dev
  let seq := d.f LEDGER_WR_SEQ_seq
  let fill := d.f LEDGER_STAT_fill
  if fill ≥ 8192 then
    onDev (fun d =>
      let first := !d.on LEDGER_STAT_gap_pending
      d |> incF LEDGER_LOST_lost |> setF LEDGER_WR_SEQ_seq (seq + 1) |> setB LEDGER_STAT_gap_pending true
        |> modLdg (fun l => if first then { l with gapFirst := seq, gapCount := 1 } else { l with gapCount := l.gapCount + 1 })
        |> onlyIf (fill == 8192 && first) (raise0 124)) b
  else
    let slot := d.f LEDGER_WR_SLOT_slot
    let body := recordBytes r (d.f TL_QUALITY_state)
    let h := sha256 (d.ldg.head ++ body)
    b |> store (ringAddr slot) (body ++ h.take 4)
      |> onDev (fun d => d
          |> modLdg (fun l => { l with
              head := h
              ring := smPut {} slot ⟨seq, if r.kind = 3 ∧ r.aux = 0 then r.new else 0, h, d.now⟩ l.ring })
          |> onlyIf (fill == 0) (fun d => d |> setF LEDGER_RD_SEQ_seq seq |> setF LEDGER_RD_SLOT_slot slot
              |> modLdg (fun l => { l with arcHead := b.dev.ldg.head }))
          |> setF LEDGER_WR_SEQ_seq (seq + 1) |> setF LEDGER_WR_SLOT_slot ((slot + 1) % 8192)
          |> setF LEDGER_STAT_fill (fill + 1) |> setB LEDGER_STAT_full (fill + 1 == 8192)
          |> onlyIf (fill + 1 == min 8192 (d.f LEDGER_CFG_hi_water)) (raise0 127))

/-- GAP_RECORD (R419): once a slot is free, the run of lost records is described, before any other record; not while the ledger is closed (R393). -/
def gapRecord (b : Blk) : Blk :=
  if b.dev.on LEDGER_STAT_gap_pending && !b.dev.ldg.closed && decide (b.dev.f LEDGER_STAT_fill < 8192) then
    let d := b.dev
    let r : LedgerReq :=
      { ns := d.nt, epoch := d.ledgerEpoch, origin := .none, kind := 3, aux := 0, addr := 0, old := d.ldg.gapFirst
        new := d.ldg.gapCount, sealEpoch := d.seals.epoch }
    b |> onDev (fun d => d |> setB LEDGER_STAT_gap_pending false |> modLdg (fun l => { l with gapFirst := 0, gapCount := 0 }))
      |> ledgerAppend r
  else b

/-- LEDGER_RECORD_FORM (R419): the first happening of the input queue becomes a record. -/
def ledgerForm (b : Blk) : Blk :=
  match b.dev.ldg.queue with
  | [] => b
  | r :: q => b |> gapRecord |> onDev (modLdg fun l => { l with queue := q }) |> ledgerAppend r

/-- Form every happening of the input queue. -/
def ledgerFormAll (b : Blk) : Blk := b.dev.ldg.queue.foldl (fun b _ => ledgerForm b) b

/-- A happening that goes straight into the chain, after those that wait (R416, R423). -/
def ledgerNow (r : LedgerReq) (b : Blk) : Blk := b |> ledgerFormAll |> gapRecord |> ledgerAppend r

/-- SNAPSHOT (R423): the record is written, its sequence and the head after it are latched, and E155 raised. A closed ledger forms no record,
so there the latches keep what they hold (R393; DEDUCED, log entry 64). -/
def snapshotRecord (org : Origin) (b : Blk) : Blk :=
  if b.dev.ldg.closed then onDev (raise0 155) b else
  let b := b |> ledgerFormAll |> gapRecord
  let d := b.dev
  let seq := d.f LEDGER_WR_SEQ_seq
  let s := fun (i : Nat) => ofLe ((d.seals.pubSeal.drop i).take 4)
  let r : LedgerReq :=
    { ns := d.nt, epoch := d.ledgerEpoch, origin := org, kind := 11, aux := d.ev.haltCount, addr := 0x20, old := s 0, new := s 4
      sealEpoch := d.seals.pubEpoch }
  b |> ledgerAppend r
    |> onDev (fun d => d |> setF LEDGER_SNAP_SEQ_seq seq
        |> forAll (List.range 8) (fun i d => setF (LEDGER_SNAP_HEAD_head i) (ofLe ((d.ldg.head.drop (4 * i)).take 4)) d)
        |> raise0 155)

/-- EXCURSION_INTERVAL (R417): at the frame boundary that ends the interval each loop that acted writes one record. -/
def excursionInterval (d : Dev) : Dev :=
  d |> passTo (if d.ldg.loops.isEmpty then d.intervalEnd else d.ldg.loopsEnd) |> loopsClose

/-- WR_SEQ_READ (R415): the head is latched. -/
def wrSeqRead (d : Dev) : Dev :=
  forAll (List.range 8) (fun i d => setF (LEDGER_HEAD_head i) (ofLe ((d.ldg.head.drop (4 * i)).take 4)) d) d

/-! ### The archive (R420, R421) -/

/-- A ring record's 32 bytes as a reader receives them (R335, R338). -/
def Blk.ringRaw (b : Blk) (slot : Nat) : List Nat := b.read8 (ringAddr (slot % 8192)) 4

/-- The device's own note of the record in a slot. -/
def Dev.ringRec (d : Dev) (slot : Nat) : RingRec := smGet {} (slot % 8192) d.ldg.ring

/-- Is a record a GAP with aux 0, and the sequence such a record has (R418)? -/
def gapSeq (r : List Nat) : Option Nat :=
  if r.getD 9 0 % 32 = 3 ∧ r.getD 10 0 + r.getD 11 0 = 0 then some ((ofLe ((r.drop 16).take 4) + ofLe ((r.drop 20).take 4)) % 0x100000000)
  else none

/-- Sequences of records in ring order, the first given. -/
def seqsFrom : Nat → List (List Nat) → List Nat
  | _, [] => []
  | s, [_] => [s]
  | s, _ :: r :: l => s :: seqsFrom ((gapSeq r).getD ((s + 1) % 0x100000000)) (r :: l)

/-- The chain head after records; a GAP with aux 1 is no link (R420). -/
def headAfter (h : List Nat) (l : List (List Nat)) : List Nat :=
  l.foldl (fun h r => if r.getD 9 0 % 32 = 3 ∧ r.getD 10 0 = 1 then h else sha256 (h ++ r.take 28)) h

/-- What the archive receives for a ring record (R420). -/
def Blk.arcRecord (b : Blk) (slot seq : Nat) : List Nat :=
  if b.readable (ringAddr (slot % 8192)) 4 then b.ringRaw slot
  else
    let d := b.dev
    recordBytes { ns := d.nt, epoch := d.ledgerEpoch, origin := .none, kind := 3, aux := 1, addr := 0, old := seq, new := 1
                  sealEpoch := d.seals.epoch } (d.f TL_QUALITY_state) ++ [0, 0, 0, 0]

/-- An archive sector's place in the store (R452). -/
def arcAddr (s : Nat) : Nat := 0x800000 + 0x1000 * s

/-- Act on the attached store, which changes nothing where it is absent (R451). -/
def onStore (g : Mem → Mem) (b : Blk) : Blk := if b.dev.key.storeAbsent then b else onMem g b

/-- Begin an archive block (R421): the oldest undrained records, at most 126, go to a sector, which is erased. While firmware does not run
nothing is drained. -/
def arcStart (sector : Nat) (b : Blk) : Blk :=
  let d := b.dev
  if !d.running ∨ d.key.fwStopped ∨ d.f LEDGER_STAT_fill = 0 then b
  else
    b |> onStore (Mem.erase (arcAddr sector) 0x1000)
      |> onDev (modLdg fun l => { l with want := false, arc := some ⟨d.f LEDGER_RD_SEQ_seq, min 126 (d.f LEDGER_STAT_fill), sector⟩ })

/-- The sector after the newest. -/
def Dev.arcNext (d : Dev) : Nat := match d.ldg.newest with | some s => (s + 1) % 2048 | none => 0

/-- A block is written now (R421): at the host's flush, and before an entry to Rest, Dormant or Off. While one is being written, the next
follows it; while arc_fail is 1, the next try writes it. -/
def arcFlush (b : Blk) : Blk :=
  if b.dev.ldg.arc.isSome || b.dev.on LEDGER_STAT_arc_fail then onDev (modLdg fun l => { l with want := true }) b
  else arcStart b.dev.arcNext b

/-- ARCHIVE_BLOCK (R421): at once when fill has reached drain_thr, else when the oldest undrained record is 1 s old; none while arc_fail is 1, when
firmware tries every second (`archiveRetry`). -/
def archiveBlock (b : Blk) : Blk :=
  let d := b.dev
  if d.ldg.arc.isSome ∨ d.on LEDGER_STAT_arc_fail ∨ !d.running ∨ d.key.fwStopped ∨ d.f LEDGER_STAT_fill = 0 then b
  else
    let old := (d.ringRec (d.f LEDGER_RD_SLOT_slot)).at_
    b |> onDev (onlyIf (decide (d.f LEDGER_STAT_fill < max 1 (d.f LEDGER_CFG_drain_thr))) (passTo (old + secTicks))) |> arcStart d.arcNext

/-- The drain reads a run of n records from a slot (R335, R337, R420): what the archive receives for each. -/
def drainRead (slot : Nat) : Nat → Blk → List (List Nat) × Blk
  | 0, b => ([], b)
  | n + 1, b =>
    let b := touchRange 1 (ringAddr (slot % 8192)) 4 b
    let r := b.arcRecord slot (b.dev.ringRec slot).seq
    let b := onDev (onlyIf (!b.readable (ringAddr (slot % 8192)) 4) errorResp) b
    let q := drainRead (slot + 1) n b
    (r :: q.1, q.2)

/-- ARCHIVE_BLOCK_DONE (R421): the block is programmed and read back. After a good read-back the drain pointers advance; a
block that fails is written again in the next sector, and after three failures arc_fail is set. -/
def archiveBlockDone (ok : Bool) (b : Blk) : Blk :=
  match b.dev.ldg.arc with
  | none => b
  | some j =>
    let d := b.dev
    let slot := d.f LEDGER_RD_SLOT_slot
    if !d.running ∨ d.key.fwStopped then b
    else if ok && !d.key.storeAbsent then
      let r := drainRead slot j.count b
      let last := d.ringRec (slot + j.count - 1)
      let payload := leBytes 4 j.first ++ leBytes 2 j.count ++ [0, 0] ++ d.ldg.arcHead ++ r.1.flatten
      let fill := d.f LEDGER_STAT_fill - j.count
      let next := if fill = 0 then d.f LEDGER_WR_SEQ_seq else (d.ringRec (slot + j.count)).seq
      let b := r.2 |> onMem (Mem.program (arcAddr j.sector) (lamnik 5 j.first payload))
        |> onDev (fun d => d
            |> modLdg (fun l => { l with arc := none, arcFails := 0, newest := some j.sector, arcHead := last.head })
            |> setF LEDGER_RD_SLOT_slot ((slot + j.count) % 8192) |> setF LEDGER_RD_SEQ_seq next
            |> setF LEDGER_STAT_fill fill |> setB LEDGER_STAT_full false |> setF LEDGER_ARC_SEQ_seq last.seq
            |> setF LEDGER_ARC_STAT_newest j.sector |> setB LEDGER_STAT_arc_fail false |> lineFalls 33)
      if d.ldg.want then arcStart b.dev.arcNext b else b
    else
      let fails := d.ldg.arcFails + 1
      let b := onDev (fun d => d |> incF LEDGER_ARC_STAT_blocks_failed |> modLdg (fun l => { l with arcFails := fails, arcFailAt := d.now, arc := none })) b
      if fails = 3 then onDev (fun d => d |> setB LEDGER_STAT_arc_fail true |> raise0 125) b
      else if fails > 3 then b
      else arcStart ((j.sector + 1) % 2048) b

/-- ARCHIVE_RETRY (R421): a second after each failure while arc_fail is 1. -/
def archiveRetry (b : Blk) : Blk :=
  if b.dev.on LEDGER_STAT_arc_fail ∧ b.dev.ldg.arc.isNone then b |> onDev (passTo (b.dev.ldg.arcFailAt + secTicks)) |> arcStart b.dev.arcNext else b

/-- ARCHIVE_READ (R422): ignored while a read runs. -/
def archiveRead (sector : Nat) (d : Dev) : Dev :=
  if d.ldg.reading.isSome then d
  else d |> setB LEDGER_ARC_STAT_busy true |> setB LEDGER_ARC_STAT_done false |> setB LEDGER_ARC_STAT_err false
    |> modLdg (fun l => { l with reading := some (sector % 2048) })

/-- ARCHIVE_READ_DONE (R422). -/
def archiveReadDone (ok : Bool) (b : Blk) : Blk :=
  match b.dev.ldg.reading with
  | none => b
  | some s =>
    let bytes := b.mem.sbytes (arcAddr s) 0x1000
    onDev (fun d => d |> setB LEDGER_ARC_STAT_busy false
      |> modLdg (fun l => { l with
          reading := none
          window := if ok then (List.range 0x1000).foldl (fun w i => smPut 0 i (bytes.getD i 0) w) [] else l.window })
      |> setB (if ok then LEDGER_ARC_STAT_done else LEDGER_ARC_STAT_err) true) b

/-! ### The START record (R416) -/

/-- The archive sector whose block header has the greatest sequence, below a bound if one is given. -/
def Mem.arcGreatest (m : Mem) (below : Option Nat) : Option Nat :=
  (List.range 2048).foldl (fun best s =>
    let q := m.sle (arcAddr s + 12) 4
    let okay := m.recHead 5 (arcAddr s) 0x1000 && (match below with | some t => decide (q < t) | none => true)
    if !okay then best
    else match best with
      | none => some s
      | some t => if m.sle (arcAddr t + 12) 4 ≤ q then some s else best) none

/-- The block that the chain continues from: the newest, or the next older one when its framing fails. -/
def Mem.arcBase (m : Mem) : Option Nat :=
  match m.arcGreatest none with
  | none => none
  | some s =>
    if m.recGood 5 (arcAddr s) 0x1000 then some s
    else match m.arcGreatest (some (m.sle (arcAddr s + 12) 4)) with
      | none => none
      | some t => if m.recGood 5 (arcAddr t) 0x1000 then some t else none

/-- The START record of a boot (R416). -/
def startRecord (activeSeq cause : Nat) (b : Blk) : Blk :=
  let m := b.mem
  let base := m.arcBase
  let (head, last) : List Nat × Option Nat := match base with
    | none => (List.replicate 32 0, none)
    | some s =>
      let p := m.recPayload (arcAddr s)
      let n := ofLe ((p.drop 4).take 2)
      let recs := (List.range n).map fun i => (p.drop (40 + 32 * i)).take 32
      (headAfter ((p.drop 8).take 32) recs, (seqsFrom (ofLe (p.take 4)) recs).getLast?)
  let seq := match last with | some q => (q + 1) % 0x100000000 | none => 0
  let arcSeq := last.getD 0xFFFFFFFF
  let b := onDev (fun d => d
    |> modLdg (fun l => { l with head := head, arcHead := head, newest := base, ring := [] })
    |> setF LEDGER_WR_SEQ_seq seq |> setF LEDGER_RD_SEQ_seq seq |> setF LEDGER_WR_SLOT_slot (seq % 8192)
    |> setF LEDGER_RD_SLOT_slot (seq % 8192) |> setF LEDGER_ARC_SEQ_seq arcSeq
    |> setF LEDGER_ARC_STAT_newest (base.getD 0) |> onlyIf last.isNone (raise0 126)) b
  let d := b.dev
  ledgerAppend
    { ns := d.nt, epoch := d.ledgerEpoch, origin := .keystone, kind := 10, aux := cause + (if last.isNone then 256 else 0)
      addr := 4, old := arcSeq, new := activeSeq, sealEpoch := d.seals.epoch } b

/-! ### Registers -/

/-- hi_water above 8,192 is taken as 8,192, and drain_thr 0 as 1 (R432). -/
def ledgerSubst (off val : Nat) : Nat :=
  if off = 0x300000 then putBits (putBits val 31 16 (min 8192 (bits val 31 16))) 7 0 (max 1 (bits val 7 0)) else val

/-- What a write to the LEDGER block does beyond its access codes (R421, R422). -/
def ledgerWriteAfter (off val : Nat) (b : Blk) : Blk :=
  if off = 0x300084 then
    let b := if val.testBit 31 then onDev (archiveRead (bits val 10 0)) b else b
    if val.testBit 30 then arcFlush b else b
  else b

end Sys2Proof.Machine
end

