-- ==== Sys2Proof/Machine/Calibration.lean ====
section
/-!
DEFINITION. Array calibration (chapter 09, R220 to R239): runs, their results, records and triggers.
-/
namespace Sys2Proof.Machine

/-! ### Groups and kinds -/

/-- Is calibration host-assisted: the mode that governs (R25, R232)? -/
def Dev.calHost (d : Dev) : Bool := d.hostMode 1

/-- The lead bay of bay b's calibration group (R222): the lowest-numbered bay of the same LO and width. -/
def SpanImg.leadBay (m : SpanImg) (b : Nat) : Nat :=
  ((List.range 8).find? fun x => m.width x == m.width b && m.loKhz x == m.loKhz b).getD b

/-- Is a CAL_RUN argument well formed for a target (R222)? -/
def SpanImg.calArgGood (m : SpanImg) (arg : Nat) (isPath : Bool) (b : Nat) : Bool :=
  decide (arg ≤ 8) && !(isPath && decide (arg ≤ 1)) && !(arg == 4 && m.width b == 1)

/-- The temperature of bay b, in 1/40 °C: the parapet reports it in 0.125 °C, a record in 0.1 °C (R237). -/
def Dev.bayTemp (d : Dev) (b : Nat) : Int := 5 * signed 16 (d.f (HK_PAR_BAY_temp b))

/-- cal_temp_step in 1/40 °C; 0 is taken as 1 (R239). -/
def Dev.calStep (d : Dev) (b : Nat) : Nat := 40 * max 1 (d.f (BAY_CAL_CFG_cal_temp_step b))

/-! ### Runs -/

/-- Is an entry an armed FE_STATE of bay b? -/
def TtEntry.feOf (e : TtEntry) (b : Nat) : Bool := e.armed && bits e.w1 28 21 == 1 && bits e.w1 12 10 == 3 && bits e.w1 20 13 == b

/-- Does an armed FE_STATE entry for RX, TX or Loopback of bay b fall due within 300 us (R103)? -/
def Dev.feEntrySoon (d : Dev) (b : Nat) : Bool :=
  d.tt.any fun x => x.2.feOf b && decide (x.2.w2 ≥ 3) && decide ((d.now : Int) ≤ x.2.due ∧ x.2.due ≤ d.now + 294912)

/-- A CAL_RUN entry executes (R225): the checks in order, then the run; a synthesiser whose phase aligns on this tick is LO-ready first
(R102). True: the entry is DONE. -/
def calRun (b kind : Nat) (path : Option Nat) (d : Dev) : Dev × Bool :=
  let d := d.alignedDue b
  let syn := kind == 1
  let lead := d.map.leadBay b
  let fail := fun (reason : Nat) => (raise (pierEvent 68 b) b reason 0 d, false)
  let pairs := d.runPairs b kind path
  if kind = 4 ∧ d.map.width b = 1 then (d, false)
  else if !(d.inActive || (syn && d.inReady)) then fail 4
  else if (d.bay b).cal.isSome || d.inTransition b || !(d.fe b == 2 || (!syn && (d.fe b == 3 || d.fe b == 4))) then fail 3
  else if !syn && !d.txPermit then (raise 3 b 0 0 d, false)
  else if !d.on (BAY_FE_STAT_lo_ready b) then (raise (pierEvent 71 b) b 1 0 d, false)
  else if syn && d.feEntrySoon b then (d, false)
  else if reservesObs kind && ((d.obsSt lead).byCal || d.on (BAY_OBS_STAT_busy lead) || d.capWaits lead) then (d, false)
  else if pairs.isEmpty then (d, true)
  else
    let start := if syn then d.now else d.now + 1573
    let r : CalRun :=
      { kind := kind, pairs := pairs, start := start, until_ := start + usTicks (occupancyUs kind (d.map.width b))
        host := d.on (modeFld 1), lead := lead, temp := d.f (HK_PAR_BAY_temp b), gap := d.cal.gap.testBit (b / 2)
        frame := d.t.frame, tick := d.t.tick }
    let d := d |> modBay b (fun s => { s with cal := some r }) |> setF (BAY_CAL_STAT_kind b) kind |> calReserve lead kind
    (if syn then d |> setB (BAY_CAL_STAT_running b) true |> setB (BAY_SYNTH_STAT_cal_busy b) true |> setB (BAY_FE_STAT_lo_ready b) false
     else startTurn b 5 d, true)

/-- Does an armed FE_STATE entry for bay b fall due at an instant? -/
def Dev.feEntryAt (d : Dev) (b t : Nat) : Bool :=
  d.tt.any fun x => x.2.feOf b && decide (x.2.due = t)

/-- CAL_RUN_END (R225): the occupancy ends, and a Loopback kind's bay begins its turnaround to Warm, unless an FE_STATE entry falls due on that
tick: the entry then ends the run and turns the bay itself, or leaves it to turn to Warm (`feRequest`). -/
def calRunEnd (b : Nat) (d : Dev) : Dev :=
  match (d.bay b).cal with
  | none => d
  | some r =>
    let d := passTo r.until_ d
    if d.now = r.until_ ∧ d.feEntryAt b r.until_ then d else d |> calFinish b |> onlyIf (r.kind != 1) (startTurn b 2)

/-! ### Results (R227 to R230, R232) -/

/-- The signed halves a and b of a trim word. -/
def trimA (v : Nat) : Int := signed 10 (v % 1024)
def trimB (v : Nat) : Int := signed 10 (v / 65536 % 1024)

/-- Is a trim word within the ranges of R220 for its kind? Every other field of a word holds exactly its trim's range. -/
def trimRange (kind v : Nat) : Bool := kind != 3 || decide (v ≤ 255)

/-- Does a trim word, or for SYNTH a band, keep the change limits of R228 on path n? They apply once a run of the kind has succeeded
since the trims were loaded. `temp` is the temperature of the measurement. -/
def Dev.trimChange (d : Dev) (n kind v band : Nat) (temp : Int) : Bool :=
  let c := d.calPath n
  let old := d.trim false n (kindWord kind)
  let dt : Nat := match smGet none kind c.temps with | some t => (temp - t).natAbs | none => 0
  !c.done.testBit (kind - 1) ||
    (match kind with
     | 1 => decide (((band : Int) - d.f (BAY_SYNTH_STAT_band (bayOf n))).natAbs ≤ 8)
     | 3 => decide (((v : Int) - old).natAbs ≤ 16)
     | 7 | 8 =>
       decide ((phaseStep (old % 1024) (v % 1024)).natAbs * 14400 ≤ (400 + dt) * 1024) &&
         decide (20 * (signed 8 (v / 65536 % 256) - signed 8 (old / 65536 % 256)).natAbs ≤ 400 + dt) &&
         decide (625 * (signed 8 (v / 16777216) - signed 8 (old / 16777216)).natAbs ≤ 1600 + 4 * dt)
     | _ => true)

/-- The limits of R228 on a run's trims, beside their range and change. -/
def trimPlausible (kind v : Nat) : Bool :=
  match kind with
  | 1 => decide (26 ≤ v ∧ v ≤ 230)
  | 2 | 4 | 5 => decide ((trimA v).natAbs ≤ 480 ∧ (trimB v).natAbs ≤ 480)
  | _ => true

/-- Is the result of a run plausible on path n (R228)? -/
def Dev.trimGood (d : Dev) (n kind v band : Nat) (temp : Int) : Bool :=
  trimRange kind v && trimPlausible kind v && d.trimChange n kind v band temp

/-- Does the pre-measurement of a kind meet its preconditions (R228)? Levels in 0.1 dBFS; for SYNTH, REFCLK present and the deck PLL
locked as 1. -/
def precondMet (kind : Nat) (pre : List Int) : Bool :=
  let a := pre.getD 0 0
  match kind with
  | 1 => a == 1 && pre.getD 1 0 == 1
  | 2 => decide (a < -650)
  | 4 => decide (a ≤ -700)
  | 7 => decide (a < -550)
  | 8 => decide (a < -550) && decide (pre.getD 1 0 < -500)
  | _ => decide (a < -600)

/-- Does the measured result of a kind keep its levels (R228)? In 0.1 dB, for BBF the error of the bandwidth in 0.1 %; the array kinds
compare a path's level with the pre-measured one. -/
def levelsMet (kind : Nat) (pre post : List Int) : Bool :=
  let a := post.getD 0 0
  match kind with
  | 2 => decide (a ≤ -600)
  | 3 => decide (a.natAbs ≤ 30)
  | 4 => decide (450 ≤ a)
  | 5 => decide (a ≤ -550)
  | 6 => decide (a ≤ -500)
  | 7 | 8 => decide (pre.getD 0 0 + 300 ≤ a)
  | _ => true

/-! ### Array corrections (R223, R224) -/

/-- A response relative to the reference chain of its run (R223). -/
def relResp (m ref : CalMeas) : CalMeas := ⟨m.mag - ref.mag, m.phase - ref.phase, m.delay - ref.delay⟩

/-- The correction that brings a response to the target (R224): magnitude `target`, 0 degrees, 0 ps, from the trim word in force; none
where gain or delay leave the range of R220. -/
def arrayTrim (old : Nat) (m : CalMeas) (target : Int) : Option Nat :=
  let g := signed 8 (old / 65536 % 256) + (target - m.mag)
  let t := signed 8 (old / 16777216) - m.delay
  let p := ((old % 1024 : Nat) - m.phase) % 1024
  if g < -128 ∨ 127 < g ∨ t < -128 ∨ 127 < t then none
  else some ((t % 256).toNat * 16777216 + (g % 256).toNat * 65536 + p.toNat)

/-- Insert into a rising list. -/
def insIntAsc (x : Int) : List Int → List Int
  | [] => [x]
  | y :: r => if x ≤ y then x :: y :: r else y :: insIntAsc x r

/-- The median: of an even number the mean of the middle two, rounded down (DESIGN CHOICE, log entry 60). -/
def medianOf (l : List Int) : Int :=
  let s := l.foldr insIntAsc []
  (s.getD ((s.length - 1) / 2) 0 + s.getD (s.length / 2) 0) / 2

/-- The gain target of bay b's group for an array kind (R224): the median of the magnitudes that its paths had at their last successful
run, those measured now among them. -/
def Dev.gainTarget (d : Dev) (b kind : Nat) (fresh : List (Nat × Int)) : Int :=
  let group := (List.range 64).filter fun n => d.map.leadBay (bayOf n) == d.map.leadBay b && d.bayFormed (bayOf n)
  medianOf (group.filterMap fun n => match fresh.lookup n with | some m => some m | none => smGet none kind (d.calPath n).mags)

/-- A path's result is discarded (R229, R230). -/
def calFailure (n kind status : Nat) (d : Dev) : Dev :=
  let b := bayOf n
  let x := BAY_CAL_FAIL_fails b (posOf n)
  let fails := min 3 (bits (d.f x) (2 * kind - 1) (2 * kind - 2) + 1)
  let c := d.calPath n
  d |> setCalStatus n kind status |> setF x (putBits (d.f x) (2 * kind - 1) (2 * kind - 2) fails)
    |> modCalPath n (fun c => { c with
        failAt := smPut 0 kind (d.now + 1) c.failAt, stale := if fails = 3 then c.stale ||| kindBit kind else c.stale })
    |> onlyIf (fails == 3 && c.stale == 0) (fun d => d |> setBitF (BAY_CAL_STAT_stale b) (posOf n) |> raise 120 n kind 0)

/-- A path's result becomes pending (R229), as it was judged. -/
def calPending (n kind v : Nat) (temp : Int) (d : Dev) : Dev :=
  let x := BAY_CAL_FAIL_fails (bayOf n) (posOf n)
  d |> (if kind = 1 then id else setTrim true n (kindWord kind) v)
    |> setF x (putBits (d.f x) (2 * kind - 1) (2 * kind - 2) 0) |> setCalStatus n kind 5
    |> modCalPath n (fun c => { c with
        pend := c.pend ||| kindBit kind, ptemps := smPut none kind (some temp) c.ptemps, pvals := smPut 0 kind v c.pvals
        failAt := smPut 0 kind 0 c.failAt })

/-- Did an outcome pass the preconditions and levels of its kind? -/
def CalAwait.measured (a : CalAwait) (o : CalOutcome) : Bool := !a.bad && precondMet o.kind o.pre && levelsMet o.kind o.pre o.post

/-- One path's outcome of one kind (R228, R229, R232): `target` is the group's gain target, `ref` the reference chain of the run. -/
def calOutcome (b : Nat) (a : CalAwait) (ref : CalMeas) (target : Nat → Int) (n : Nat) (o : CalOutcome) (d : Dev) : Dev :=
  let temp := 5 * signed 16 a.temp
  let m := relResp o.meas ref
  let trim := if o.kind ≥ 7 then arrayTrim (d.trim false n (kindWord o.kind)) m (target o.kind) else some o.trim
  if a.bad || !precondMet o.kind o.pre then calFailure n o.kind 2 d
  else if !levelsMet o.kind o.pre o.post then calFailure n o.kind 3 d
  else if a.host then
    d |> setCalStatus n o.kind 6 |> modCalPath n (fun c => { c with ptemps := smPut none o.kind (some temp) c.ptemps })
  else
    match trim with
    | none => calFailure n o.kind 3 d
    | some v =>
      if d.trimGood n o.kind v o.band temp then
        d |> calPending n o.kind v temp
          |> onlyIf (o.kind == 1) (modCalBay b fun c => { c with syn := some (o.trim % 256, o.band) })
          |> onlyIf (decide (o.kind ≥ 7)) (modCalPath n fun c => { c with mags := smPut none o.kind (some m.mag) c.mags })
      else calFailure n o.kind 3 d

/-- The first host slot of a bay that is not full (R151, R154). -/
def Dev.freeHostSlot (d : Dev) (b : Nat) : Option Nat := [0, 1].find? fun j => !d.fb (BAY_OBS_STAT_slot_full b) j

/-- The responses of a host-assisted run go to a host slot of its lead bay, behind a capture header (R154, R232): the run's air time, its
bay's first path, the words of the one block (log entry 60). Full slots are not rewritten. -/
def calExport (b : Nat) (a : CalAwait) (words : List Nat) (blk : Blk) : Blk :=
  match blk.dev.freeHostSlot a.lead with
  | none => blk
  | some j =>
    let seq := seqNext (blk.dev.obsSt a.lead).seq
    let head := leBytes 4 a.tick ++ leBytes 2 a.frame ++ [8 * b, 0] ++ leBytes 4 words.length ++ List.replicate 4 0 ++
      List.replicate 4 0xFF ++ List.replicate 8 0 ++ leBytes 4 blk.dev.seals.epoch ++ List.replicate 28 0 ++ leBytes 4 seq
    blk |> store (captureSlot a.lead j) (head ++ words.flatMap (leBytes 4))
      |> onDev (fun d => d |> modObs a.lead (fun s => { s with seq := seq }) |> setBitF (BAY_OBS_STAT_slot_full a.lead) j)

/-- CAL_RESULT (R224, R228 to R232): the outcomes of the run of bay b that has waited longest for them, and the response of its reference
chain. SYNTH has one outcome, for the bay as a whole; in host-assisted mode the responses go to the lead bay's host. -/
def calResult (b : Nat) (ref : CalMeas) (l : List CalOutcome) (blk : Blk) : Blk :=
  match (blk.dev.calBay b).awaits with
  | [] => blk
  | a :: later =>
    let good := l.filter fun o => if o.kind = 1 then a.pairs.any fun p => p.2 == 1 else a.pairs.contains (o.path, o.kind)
    let fresh := fun (kind : Nat) => (good.filter fun o => o.kind == kind && a.measured o).map fun o => (o.path, (relResp o.meas ref).mag)
    let target := fun (kind : Nat) => blk.dev.gainTarget b kind (fresh kind)
    let one : CalOutcome → Dev → Dev := fun o d =>
      if o.kind = 1 then forAll ((a.pairs.filter fun p => p.2 == 1).map Prod.fst) (fun n => calOutcome b a ref target n o) d
      else calOutcome b a ref target o.path o d
    let blk := onDev (fun d => d |> forAll good one |> modCalBay b (fun c => { c with awaits := later }) |> calModeSettled) blk
    let words := (good.filter a.measured).flatMap fun o => o.resp
    if a.host ∧ !words.isEmpty then calExport b a words blk else blk

/-- CORRECTION_IN_FORCE (R231): at the next slot boundary of the reference grid with the bay in Off, Standby or Warm. -/
def correctionInForce (b : Nat) (d : Dev) : Dev :=
  if d.inGuard b && ((bayPaths b).any fun n => (d.calPath n).pend != 0) then d |> passTo (d.nextSlot false 0) |> calInForce b else d

/-- CAL_APPLY (R232): the host submits the pending trim words of a path for a kind, which are judged by the ranges of R220 and the change
limits of R228, whether or not a run could be made of the kind now; SYNTH has no trim word. -/
def calApply (b k kind : Nat) (d : Dev) : Dev :=
  let n := 8 * b + k
  if !d.calHost ∨ kind < 2 ∨ kind > 8 then d
  else
    let v := d.trim true n (kindWord kind)
    let temp := (smGet none kind (d.calPath n).ptemps).getD (d.bayTemp b)
    if trimRange kind v && d.trimChange n kind v 0 temp then calPending n kind v temp d else setCalStatus n kind 3 d

/-- CAL_RETRY (R233): the retry interval has passed since a failure. -/
def calRetry (n kind : Nat) (d : Dev) : Dev :=
  let t := smGet 0 kind (d.calPath n).failAt
  if t = 0 then d
  else d |> passTo (t - 1 + max 1 (d.f (BAY_CAL_CFG_retry (bayOf n))) * 98304000)
    |> calDue n kind

/-- The temperature trigger of a housekeeping round (R233). A kind that failed waits for its retry. -/
def calTempTriggers (d : Dev) : Dev :=
  forAll (List.range 64) (fun n d =>
    forAll ((List.range 9).drop 1) (fun k d =>
      match smGet none k (d.calPath n).temps with
      | some t => if (d.bayTemp (bayOf n) - t).natAbs > d.calStep (bayOf n) ∧ smGet 0 k (d.calPath n).failAt = 0 then calDue n k d else d
      | none => d) d) d

/-! ### Records (R236, R237) -/

/-- Where combination c of bay b keeps its two copies, 4 KiB each. -/
def calRecBase (b c : Nat) : Nat := 0x140000 + 0x2000 * (16 * b + c)

/-- Seconds since the GPS epoch (R30). -/
def Dev.gpsSeconds (d : Dev) : Nat := d.t.ntU / 3072 / 1000000000 - 315964819

/-- The record of bay b (R237). -/
def Dev.calPayload (d : Dev) (b : Nat) : List Nat :=
  let temp := d.bayTemp b / 4
  [b, d.map.width b] ++ leBytes 2 1 ++ leBytes 4 (d.map.loKhz b) ++ d.otp.devId.take 8 ++ leBytes 8 d.gpsSeconds ++
    leBytes 4 (d.f (BAY_CAL_SYN_kvco b)) ++ leBytes 2 (temp % 65536).toNat ++ [0, 0] ++
    (List.range 8).flatMap fun k =>
      ((List.range 7).flatMap fun w => leBytes 4 (d.trim false (8 * b + k) w)) ++ leBytes 2 (d.f (BAY_CAL_PATH_count b k)) ++ [0, 0]

/-- Does a record of bay b match its LO and width? -/
def Blk.calMatches (blk : Blk) (b : Nat) (p : List Nat) : Bool :=
  let d := blk.dev
  p.length == 288 && p.getD 0 0 == b && p.getD 1 0 == d.map.width b && ofLe ((p.drop 2).take 2) == 1 &&
    ofLe ((p.drop 4).take 4) == d.map.loKhz b && (p.drop 8).take 8 == d.otp.devId.take 8

/-- The newest copy of combination c, by place. -/
def Blk.calNewest (blk : Blk) (b c : Nat) : Option Nat :=
  (blk.mem.recNewest 2 (calRecBase b c) 0x1000 2).map fun i => calRecBase b c + 0x1000 * i

/-- The combination under which bay b's record is kept: its own, else a free one, else the one written longest ago. -/
def Blk.calCombo (blk : Blk) (b : Nat) : Nat :=
  let own := (List.range 16).find? fun c =>
    match blk.calNewest b c with | some a => blk.calMatches b (blk.mem.recPayload a) | none => false
  match own with
  | some c => c
  | none =>
    match (List.range 16).find? fun c => (blk.calNewest b c).isNone with
    | some c => c
    | none =>
      let at_ : Nat → Nat := fun c => match blk.calNewest b c with | some a => ofLe (((blk.mem.recPayload a).drop 0x10).take 8) | none => 0
      (List.range 16).foldl (fun best c => if at_ c < at_ best then c else best) 0

/-- The memories as the write of bay b's record finds them: copies that are not of the bay's combination are erased first. -/
def Blk.calMem (blk : Blk) (b : Nat) : Mem :=
  let c := blk.calCombo b
  let mine := match blk.calNewest b c with | some a => blk.calMatches b (blk.mem.recPayload a) | none => true
  if mine then blk.mem else blk.mem.erase (calRecBase b c) 0x2000

/-- Bay b's record is written. -/
def calRecord (b : Nat) (blk : Blk) : Blk :=
  if blk.dev.key.storeAbsent ∨ !blk.dev.bayFormed b then blk
  else
    blk |> onMem (fun _ => recWrite 2 (calRecBase b (blk.calCombo b)) 0x1000 2 (blk.dev.calPayload b) (blk.calMem b))
      |> onDev (modCalBay b fun s => { s with recDue := false, recAt := blk.dev.now + 1 })

/-- CAL_RECORD_WRITE (R236): due after a result came into force, at most once every 10 minutes. -/
def calRecordWrite (b : Nat) (blk : Blk) : Blk :=
  let c := blk.dev.calBay b
  if !blk.dev.running ∨ blk.dev.key.fwStopped ∨ !c.recDue then blk
  else
    let blk := if c.recAt = 0 then blk else onDev (passTo (c.recAt - 1 + 600 * secTicks)) blk
    calRecord b blk

/-- The usable record of bay b (R237). -/
def Blk.calUsable (blk : Blk) (b : Nat) : Option (List Nat) :=
  if blk.dev.key.storeAbsent then none
  else
    let found := (List.range 16).filterMap fun c =>
      ((List.range 2).filter fun i => blk.mem.recGood 2 (calRecBase b c + 0x1000 * i) 0x1000).foldl (fun best i =>
        let a := calRecBase b c + 0x1000 * i
        let p := blk.mem.recPayload a
        let t := signed 16 (ofLe ((p.drop 0x1C).take 2))
        if blk.calMatches b p && decide ((4 * t - blk.dev.bayTemp b).natAbs ≤ blk.dev.calStep b) then
          (match best with
           | some (q, s) => if s ≤ blk.mem.sle (a + 12) 4 then some (p, blk.mem.sle (a + 12) 4) else some (q, s)
           | none => some (p, blk.mem.sle (a + 12) 4))
        else best) none
    (found.head?).map fun x => x.1

/-- A pier powers up (R221, R237): each path's trims are loaded from a usable record or from OTP. -/
def calPowerUp (b : Nat) (blk : Blk) : Blk :=
  let rec_ := blk.calUsable b
  onDev (fun d =>
    let d := d |> setF (BAY_SYNTH_STAT_band b) 0 |> setF (BAY_CAL_STAT_stale b) 0 |> setF (BAY_CAL_STAT_kind b) 0
      |> modCalBay b (fun c => { recAt := c.recAt })
    let d := forAll (bayPaths b) (fun n d =>
      let k := posOf n
      let word := fun (w : Nat) => match rec_ with
        | some p => ofLe ((p.drop (0x20 + 32 * k + 4 * w)).take 4)
        | none => smGet 0 (8 * n + w) d.otp.trims
      let temps : List (Nat × Option Int) := match rec_ with
        | some p =>
          let t := 4 * signed 16 (ofLe ((p.drop 0x1C).take 2))
          ((List.range 9).drop 1).map fun kind => (kind, some t)
        | none => []
      d |> modCalPath n (fun _ => { temps := temps })
        |> forAll (List.range 7) (fun w d => d |> setTrim false n w (word w) |> setTrim true n w 0)
        |> rstF (BAY_CAL_PATH_count b k) |> rstF (BAY_CAL_PATH_age b k) |> rstF (BAY_CAL_LAST_valid b k)
        |> rstF (BAY_CAL_LAST_frame b k) |> rstF (BAY_CAL_LAST_cycle b k) |> rstF (BAY_CAL_RES_status b k)
        |> rstF (BAY_CAL_FAIL_fails b k)) d
    let d := refreshDue b d
    match rec_ with
    | some p => setF (BAY_CAL_SYN_kvco b) (ofLe ((p.drop 0x18).take 4)) d
    | none => d |> rstF (BAY_CAL_SYN_kvco b) |> raise 123 b 0 0 |> calDueAll b) blk

/-- What a write to a bay's calibration registers does beyond its access codes. -/
def calWriteAfter (off val : Nat) (d : Dev) : Dev :=
  match (List.range 8).find? fun b => off == bayBase b + 0x408 with
  | some b => if val.testBit 8 then calApply b (bits val 6 4) (bits val 3 0) d else d
  | none => d

/-- Is a write to a pending trim word ignored: in hardware mode (R239)? -/
def Dev.calIgnores (d : Dev) (off : Nat) : Bool :=
  !d.calHost && (List.range 8).any fun b => decide (bayBase b + 0x700 ≤ off ∧ off < bayBase b + 0x800)

end Sys2Proof.Machine
end

