-- ==== Sys2Proof/Machine/Lanes.lean ====
section
/-!
DEFINITION. Serial lanes and fronthaul ports (chapter 10, R240 to R264), flow contexts (R270 to R272) and the enabled layers
(R175). Lane states: 0 OFF, 1 SEEK, 2 WAIT, 3 ACQUIRE, 4 VERIFY, 5 UP. Port states: 0 OFF, 1 STARTING, 2 ALIGNING, 3 UP,
4 DOWN.
-/
namespace Sys2Proof.Machine

def modLink (g : LinkSt → LinkSt) (d : Dev) : Dev := { d with link := g d.link }
def Dev.laneSt (d : Dev) (l : Nat) : LaneSt := smGet {} l d.link.lanes
def modLane (l : Nat) (g : LaneSt → LaneSt) (d : Dev) : Dev :=
  modLink (fun k => { k with lanes := smPut {} l (g (d.laneSt l)) k.lanes }) d

def Dev.lane (d : Dev) (l : Nat) : Nat := d.f (LINK_LANE_STAT_state l)
def Dev.port (d : Dev) (p : Nat) : Nat := d.f (LINK_PORT_STAT_state p)
def Dev.portUp (d : Dev) (p : Nat) : Bool := d.port p == 3
def Dev.rxRest (d : Dev) (l : Nat) : Bool := d.fb LINK_REST_rx_rest l
def Dev.portEn (d : Dev) (p : Nat) : Bool := if p = 0 then d.on LINK_CFG_en_a else d.on LINK_CFG_en_b

/-- Is a direction of a lane of port p at rest (R251)? -/
def Dev.portRest (d : Dev) (p : Nat) : Bool :=
  [2 * p, 2 * p + 1].any fun l => d.fb LINK_REST_rx_rest l || d.fb LINK_REST_tx_rest l

/-! ### The PORTS record and the flows -/

/-- Pairing mode, revert and hold of the PORTS record (R254). -/
def SpanImg.portsMode (m : SpanImg) : Nat := match m.get 8 0 with | some r => r.b 0 | none => 0
def SpanImg.revert (m : SpanImg) : Bool := match m.get 8 0 with | some r => (r.b 1).testBit 0 | none => false
def SpanImg.hold (m : SpanImg) : Nat := match m.get 8 0 with | some r => r.le 2 2 | none => 1

/-- Layers of the fallback plan (R254). -/
def SpanImg.fallback (m : SpanImg) (c dir : Nat) : Nat :=
  match m.get 8 0 with | some r => r.b (4 + 2 * c + dir) | none => m.layers c dir

/-- The arrangement of the PORTS record as a mask of ports: both, the primary, or the only port. -/
def SpanImg.arrangement (m : SpanImg) : Nat :=
  match m.portsMode with | 0 => 3 | 1 => 1 | 2 => 2 | 3 => 1 | _ => 2

/-- The port that the servo uses by the PORTS record (R37). -/
def SpanImg.timingPort (m : SpanImg) : Nat := if m.portsMode = 2 ∨ m.portsMode = 4 then 1 else 0

/-- The port that carries flow f now, if any (R254, R258). -/
def Dev.flowPort (d : Dev) (f : Nat) : Option Nat :=
  match d.map.get 7 f, d.link.carry with
  | some r, some mask =>
    let home := if d.map.portsMode = 0 then r.b 6 else d.map.timingPort
    if mask.testBit home then some home
    else if d.map.portsMode ≥ 3 then none
    else if mask.testBit (1 - home) then some (1 - home) else none
  | _, _ => none

/-- Does port p carry flows? -/
def Dev.carries (d : Dev) (p : Nat) : Bool := (List.range 320).any fun f => d.flowPort f == some p

/-- Is a Xantaka family agreed (R268)? The version byte of families 0x40 to 0x44. -/
def Dev.famVer (d : Dev) (fam : Nat) : Nat :=
  match fam with
  | 0x40 => d.f LINK_XK_VER_LO_sections
  | 0x41 => d.f LINK_XK_VER_LO_control
  | 0x42 => d.f LINK_XK_VER_LO_timing
  | 0x43 => d.f LINK_XK_VER_LO_management
  | _ => d.f LINK_XK_VER_HI_heartbeat

/-- The state of flow context f: 0 UNFORMED, 1 WAITING, 2 RUNNING, 3 SUSPENDED (R272). -/
def Dev.flowState (d : Dev) (f : Nat) : Nat :=
  match d.map.get 7 f with
  | none => 0
  | some r =>
    if d.famVer 0x40 = 0 ∨ (d.flowPort f).isNone then 1
    else if r.b 2 < d.enabled (r.b 1) (r.b 0) then 2 else 3

/-- LINK_FLOW state and port of every context, LINK_PORT carrying and role, and LINK_STAT.active follow. -/
def refreshFlows (d : Dev) : Dev :=
  let m := d.map
  let up := (if d.portUp 0 then 1 else 0) + (if d.portUp 1 then 2 else 0)
  let act := match d.link.carry with | some k => k | none => up
  d |> forAll (List.range 320) (fun f d => d
        |> setF (LINK_FLOW_W0_state f) (d.flowState f)
        |> setF (LINK_FLOW_W1_port f) ((d.flowPort f).getD 0))
    |> forAll [0, 1] (fun p d => d
        |> setB (LINK_PORT_STAT_carrying p) (d.carries p && d.portUp p)
        |> setF (LINK_PORT_STAT_role p)
            (if !d.formed ∨ m.portsMode = 0 then 0 else if m.portsMode ≥ 3 then 3 else if m.timingPort = p then 1 else 2))
    |> setF LINK_STAT_active (if act = 3 then 0 else if act = 1 then 1 else if act = 2 then 2 else 3)

/-- The layers of a carrier and direction that the arrangement and the throttle leave (R175, R372). -/
def Dev.layersWanted (d : Dev) (c dir : Nat) : Nat :=
  let base := if d.on LINK_STAT_fallback then d.map.fallback c dir else d.map.layers c dir
  max (min base 1) (base - smGet 0 (2 * c + dir) d.link.drop)

/-- LAYERS_CHANGE (R175, R272): at the carrier's next symbol boundary its enabled layers change. -/
def layersChange (c : Nat) (d : Dev) : Dev :=
  d |> passTo (d.nextSymbol (d.grid15 c) 0)
    |> setF (GIRDER_LAYERS_dl_enabled c) (d.layersWanted c 0) |> setF (GIRDER_LAYERS_ul_enabled c) (d.layersWanted c 1)
    |> refreshFlows

/-! ### The timing port (R37) -/

/-- The servo moves to port p; after a move the first 4 updates measure path delay only. -/
def setTiming (p : Nat) (d : Dev) : Dev :=
  if d.link.timed ∧ d.f LINK_STAT_timing_port = p then d
  else
    let d := if d.link.timed then { d with t := { d.t with skip := 4 } } else d
    d |> setF LINK_STAT_timing_port p |> modLink (fun k => { k with timed := true, timedAt := d.now })

/-- The timing port when port p comes UP: the only port of modes 3 and 4; the first to come UP, or port A when both come up on one
tick before formation; the other when the timing port is down. -/
def timingUp (p : Nat) (d : Dev) : Dev :=
  if d.formed ∧ d.map.portsMode ≥ 3 then setTiming d.map.timingPort d
  else if p = 0 ∧ !d.formed ∧ d.link.timed ∧ d.link.timedAt = d.now ∧ d.t.skip = 0 then setF LINK_STAT_timing_port 0 d
  else if !d.link.timed ∨ !d.portUp (d.f LINK_STAT_timing_port) then setTiming p d
  else d

/-! ### Traffic -/

/-- Set the ports that carry the flows, and the fallback plan. -/
def setCarry (mask : Nat) (fb : Bool) (d : Dev) : Dev :=
  d |> modLink (fun k => { k with carry := some mask }) |> setB LINK_STAT_fallback fb |> refreshFlows

/-- Does the traffic stand in another arrangement than the PORTS record's? -/
def Dev.moved (d : Dev) : Bool :=
  match d.link.carry with | some k => k != d.map.arrangement || d.on LINK_STAT_fallback | none => false

/-- Are all ports of the PORTS arrangement UP? -/
def Dev.arrangementUp (d : Dev) : Bool :=
  (List.range 2).all fun p => !d.map.arrangement.testBit p || d.portUp p

/-- The return hold starts, goes on or stops (R260): a fault of either port restarts it from the next UP. -/
def checkHold (d : Dev) : Dev :=
  if d.moved && d.map.revert && decide (d.map.portsMode ≤ 2) && d.portUp 0 && d.portUp 1 then
    modLink (fun k => { k with holdAt := some (k.holdAt.getD d.now) }) d
  else modLink (fun k => { k with holdAt := none }) d

/-- The transmit queue of a port. -/
def Dev.txq (d : Dev) (p : Nat) : List TxFrame := if p = 0 then d.link.txqA else d.link.txqB
def setTxq (p : Nat) (l : List TxFrame) (d : Dev) : Dev :=
  modLink (fun k => if p = 0 then { k with txqA := l } else { k with txqB := l }) d

/-- Uplink frames queued for a port that faults are lost and counted; its other frames stay behind with it (R258). -/
def loseFrames (p : Nat) (d : Dev) : Dev :=
  d |> addF (LINK_PORT_STAT_lost_frames p) ((d.txq p).filter fun x => x.flow.isSome).length |> setTxq p []

/-- Port p stops being UP: traffic, timing port and NO_PORT follow (R37, R258, R259). -/
def portGone (p : Nat) (d : Dev) : Dev :=
  let o := 1 - p
  let was := d.carries p
  let d := loseFrames p d
  let d := if d.f LINK_STAT_timing_port = p ∧ d.portUp o ∧ !(d.formed ∧ d.map.portsMode ≥ 3) then setTiming o d else d
  let d := modLink (fun k => { k with moveTo := if k.moveTo = some p then none else k.moveTo }) d
  let d :=
    if !d.portUp o then
      (if d.link.carry.isSome then d |> modLink (fun k => { k with carry := some 0, moveTo := none }) |> refreshFlows else d)
        |> raise0 22
    else if was then
      (if d.map.portsMode ≤ 2 then modLink (fun k => { k with moveTo := some o }) d
       else d |> modLink (fun k => { k with carry := some 0 }) |> refreshFlows)
    else d
  d |> refreshFlows |> checkHold |> onlyIf (!d.arrangementUp) (modLink fun k => { k with failbackAt := none })

/-- FAILOVER (R258, R429): the flows of the faulted port move to the other, `ns` nanoseconds after the fault. -/
def failover (ns : Nat) (d : Dev) : Dev :=
  match d.link.moveTo with
  | none => d
  | some o =>
    if d.portUp o then
      d |> modLink (fun k => { k with moveTo := none }) |> setCarry (2 ^ o) true
        |> incF LINK_FAILOVER_count |> setF LINK_FAILOVER_last_ns (min ns 65535) |> raise 20 o 0 0
        |> onlyIf (decide (ns > 20000)) (raise 154 o 5 (min 65535 (ns / 1000))) |> checkHold
    else modLink (fun k => { k with moveTo := none }) d

/-- Every flow runs on the first port to reach UP after both were out of it (R259); the only port of modes 3 and 4 has no
fallback plan (R254). -/
def trafficBack (p : Nat) (d : Dev) : Dev :=
  match d.link.carry with
  | some 0 =>
    if d.map.portsMode ≥ 3 then
      (if d.map.timingPort = p then d |> setCarry (2 ^ p) false |> raise 20 p 0 0 else d)
    else d |> setCarry (2 ^ p) true |> incF LINK_FAILOVER_count |> raise 20 p 0 0
  | _ => d

/-- The first frame boundary at least 1,967 air ticks from now. -/
def Dev.frameLead (d : Dev) : Nat :=
  if leadTicks ≤ frameTicks - d.t.tick then d.now + (frameTicks - d.t.tick) else d.now + (2 * frameTicks - d.t.tick)

/-- REVERT_HOLD_EXPIRED (R260): after the hold the return is due at a frame boundary. -/
def revertHoldExpired (d : Dev) : Dev :=
  match d.link.holdAt with
  | none => d
  | some t =>
    let d := passTo (t + usTicks (100000 * d.map.hold)) d
    modLink (fun k => { k with holdAt := none, failbackAt := some d.frameLead }) d

/-- An accepted FAILBACK_CMD (R260); under revert 1 the hold returns the traffic. -/
def failbackCmd (d : Dev) : Dev :=
  if d.moved && !d.map.revert then modLink (fun k => { k with failbackAt := some (k.failbackAt.getD d.frameLead) }) d
  else d

/-- FAILBACK (R260): at its frame boundary traffic returns to the PORTS arrangement. -/
def failback (d : Dev) : Dev :=
  match d.link.failbackAt with
  | none => d
  | some t =>
    let d := d |> passTo t |> modLink (fun k => { k with failbackAt := none })
    if d.moved && d.arrangementUp then
      d |> setCarry d.map.arrangement false |> raise0 21 |> setTiming d.map.timingPort |> checkHold
    else checkHold d

/-- Traffic at a commit's release (R261): the new PORTS record at once, never on a port that is not UP, without E020. -/
def commitPorts (d : Dev) : Dev :=
  let d := modLink (fun k => { k with moveTo := none, holdAt := none, failbackAt := none }) d
  if !d.formed then d |> modLink (fun k => { k with carry := none }) |> setB LINK_STAT_fallback false |> refreshFlows
  else
    let up := (if d.portUp 0 then 1 else 0) + (if d.portUp 1 then 2 else 0)
    let arr := d.map.arrangement
    let d := if d.arrangementUp then setCarry arr false d
      else if d.map.portsMode ≥ 3 then setCarry (arr &&& up) false d
      else setCarry up (up != 0) d
    let pref := d.map.timingPort
    d |> (fun d => if d.map.portsMode ≥ 3 ∨ d.portUp pref ∨ !d.portUp (d.f LINK_STAT_timing_port) then setTiming pref d else d)
      |> checkHold

/-! ### Lanes -/

/-- Lane l enters a state at now; as it leaves WAIT, the back-off shown becomes that of the next WAIT (R244). -/
def laneEnter (l st : Nat) (d : Dev) : Dev :=
  d |> onlyIf (d.lane l == 2 && st != 2) (setF (LINK_LANE_STAT_backoff l) ((d.f (LINK_LANE_STAT_backoff l) + 1) % 3))
    |> setF (LINK_LANE_STAT_state l) st
    |> modLane l (fun x => { x with at_ := d.now, acqAt := if st = 3 then d.now else x.acqAt, fell := false })

/-- Lane l returns to SEEK; clock recovery is not locked there. -/
def laneSeek (l : Nat) (d : Dev) : Dev :=
  if d.lane l = 0 ∨ d.rxRest l then d else d |> laneEnter l 1 |> setB (LINK_LANE_STAT_cdr_lock l) false

/-- Port p enters STARTING with its attempts at 0 (R248). -/
def portRestart (p : Nat) (d : Dev) : Dev :=
  d |> setF (LINK_PORT_STAT_state p) 1 |> setF (LINK_PORT_STAT_attempts p) 0

/-- A port fault (R257): the port leaves UP and its lanes return to SEEK. -/
def portFault (p : Nat) (d : Dev) : Dev :=
  if d.portUp p then
    d |> portRestart p |> laneSeek (2 * p) |> laneSeek (2 * p + 1) |> forAll [2 * p, 2 * p + 1] (fun l => modLane l fun x => { x with fell := true })
      |> portGone p
  else d

/-- Port p, enabled and without both lanes UP, is STARTING, or DOWN with 3 or more failed attempts: E018 at the entry (R247,
R248). -/
def portSeeks (p : Nat) (d : Dev) : Dev :=
  if d.f (LINK_PORT_STAT_attempts p) < 3 then setF (LINK_PORT_STAT_state p) 1 d
  else if d.port p = 4 then d
  else d |> setF (LINK_PORT_STAT_state p) 4 |> raise 18 p 0 0

/-- The port follows its lanes (R247, R251): both UP and none at rest begins ALIGNING; otherwise UP and ALIGNING end. -/
def portFollow (p : Nat) (d : Dev) : Dev :=
  let both := d.lane (2 * p) == 5 && d.lane (2 * p + 1) == 5 && !d.portRest p
  if both then
    (if d.port p = 1 ∨ d.port p = 4 then
      d |> setF (LINK_PORT_STAT_state p) 2 |> modLink (fun k => { k with portAt := smPut 0 p d.now k.portAt })
     else d)
  else if d.portUp p then d |> portRestart p |> portGone p
  else if d.port p = 2 then portSeeks p d
  else d

/-- A failed attempt of port p (R248). -/
def failedAttempt (p : Nat) (d : Dev) : Dev := d |> incF (LINK_PORT_STAT_attempts p) |> portSeeks p

/-- Lane l enters WAIT (R243, R248). -/
def laneWait (l : Nat) (d : Dev) : Dev :=
  let other := if l % 2 = 0 then l + 1 else l - 1
  d |> laneEnter l 2 |> incF (LINK_LANE_COUNT_waits l) |> onlyIf (d.lane other != 2) (failedAttempt (l / 2))

/-- SIGNAL_DETECT (R243, R244): in SEEK the lane passes to ACQUIRE; in WAIT the signal is only shown. -/
def signalDetect (l : Nat) (d : Dev) : Dev :=
  if d.lane l = 0 then d
  else
    let d := setB (LINK_LANE_STAT_sig_det l) true d
    if d.lane l = 1 ∧ !d.rxRest l then laneEnter l 3 d else d

/-- A lane loses signal or clock lock (R257). One that is UP is lost: E017, and a fault of its port when that is UP. DEDUCED (log entry 28): one
that the fault of its port returned to SEEK, and that loses its signal or lock before it leaves SEEK, raises E017 too. -/
def laneLost (l : Nat) (d : Dev) : Dev :=
  let p := l / 2
  if d.lane l = 5 then
    let d := d |> laneSeek l |> raise 17 l 0 0
    if d.portUp p then d |> portFault p |> modLane l (fun x => { x with fell := false }) else portFollow p d
  else if d.lane l = 1 ∧ (d.laneSt l).fell then d |> modLane l (fun x => { x with fell := false }) |> raise 17 l 0 0
  else d

/-- LOSS_OF_SIGNAL (R243, R244, R257). -/
def lossOfSignal (l : Nat) (d : Dev) : Dev :=
  if d.lane l = 0 ∨ !d.on (LINK_LANE_STAT_sig_det l) then d
  else
    let d := d |> setB (LINK_LANE_STAT_sig_det l) false |> incF (LINK_LANE_COUNT_los l)
    if d.rxRest l then d
    else if d.lane l = 3 ∨ d.lane l = 4 then laneSeek l d
    else laneLost l d

/-- CLOCK_LOCK_LOSS (R243, R257): takes an UP lane to SEEK. -/
def clockLockLoss (l : Nat) (d : Dev) : Dev :=
  let d := setB (LINK_LANE_STAT_cdr_lock l) false d
  if d.rxRest l then d else laneLost l d

/-- SEEK_TIMEOUT (R243): 100 ms in SEEK without signal detect. -/
def seekTimeout (l : Nat) (d : Dev) : Dev :=
  if d.lane l = 1 ∧ !d.rxRest l ∧ !d.on (LINK_LANE_STAT_sig_det l) then d |> passTo ((d.laneSt l).at_ + usTicks 100000) |> laneWait l else d

/-- BACKOFF_END (R244): the back-off of 100, 200 or 400 ms ends; the next WAIT uses the next in the cycle. -/
def backoffEnd (l : Nat) (d : Dev) : Dev :=
  if d.lane l = 2 ∧ !d.rxRest l then
    d |> passTo ((d.laneSt l).at_ + usTicks (100000 * 2 ^ d.f (LINK_LANE_STAT_backoff l))) |> laneSeek l
  else d

/-- ACQUIRE_TIMEOUT (R243): 50 ms in ACQUIRE and VERIFY together. -/
def acquireTimeout (l : Nat) (d : Dev) : Dev :=
  if (d.lane l = 3 ∨ d.lane l = 4) ∧ !d.rxRest l then
    d |> passTo ((d.laneSt l).acqAt + usTicks 50000) |> setB (LINK_LANE_STAT_cdr_lock l) false |> laneWait l
  else d

/-- LANE_MERIT_MIN: below 10.0 dB taken as 10.0 dB (R264). -/
def Dev.meritMin (d : Dev) : Int := (max 100 (d.f LINK_MERIT_MIN_min) : Nat)

/-- MERIT_UPDATE (R243, R245, R246, R249): the merit of the block that ends, 0.1 dB, and the equaliser values that the loop
writes under lane_mode 0. -/
def meritUpdate (l : Nat) (merit : Int) (eq : Nat) (d : Dev) : Dev :=
  if d.lane l < 3 ∨ d.rxRest l then d
  else
    let d := d |> setB (LINK_LANE_STAT_cdr_lock l) true |> setF (LINK_LANE_STAT_merit l) (merit % 65536).toNat
    let d := if d.on SPAN_ADAPT_MODE_lane_mode then d
      else d |> setF (LINK_LANE_RXEQ_dfe1 l) (bits eq 31 24) |> setF (LINK_LANE_RXEQ_ffe_post l) (bits eq 23 16)
        |> setF (LINK_LANE_RXEQ_ffe_pre l) (bits eq 15 8) |> setF (LINK_LANE_RXEQ_ctle l) (bits eq 4 0) |> loopAct 4 0 merit
    if d.lane l = 3 ∧ merit ≥ d.meritMin then
      d |> setF (LINK_LANE_STAT_state l) 4 |> modLane l (fun x => { x with verAt := d.now })
    else if d.lane l = 4 ∧ merit < d.meritMin then setF (LINK_LANE_STAT_state l) 3 d
    else if d.lane l = 5 ∧ merit < d.meritMin then raiseSec 23 23 l 0 0 d
    else d

/-- LANE_UP (R243, R247): 1 ms of VERIFY. -/
def laneUp (l : Nat) (d : Dev) : Dev :=
  if d.lane l = 4 ∧ !d.rxRest l then
    d |> passTo ((d.laneSt l).verAt + usTicks 1000) |> laneEnter l 5 |> incF (LINK_LANE_COUNT_ups l)
      |> setF (LINK_LANE_STAT_backoff l) 0 |> raise 16 l 0 0 |> portFollow (l / 2)
  else d

/-- A measured timestamp latency in 1/16 ns (R36): from 20 ns to 250 ns. -/
def latMeasured (x : Nat) : Nat := max 320 (min 4000 x)

/-- The device's part of PORT_UP (R36, R247, R259): `rx` and `tx` are the measured timestamp latencies. -/
def portComesUp (p rx tx : Nat) (d : Dev) : Dev :=
  d |> setF (LINK_PORT_STAT_state p) 3 |> setF (LINK_PORT_STAT_attempts p) 0 |> incF (LINK_PORT_STAT_ups p)
    |> modLink (fun k => { k with portAt := smPut 0 p d.now k.portAt, fec := smPut [] p [] k.fec })
    |> (if p = 0 then fun d => d |> setF TL_TS_LAT_A_ingress (latMeasured rx) |> setF TL_TS_LAT_A_egress (latMeasured tx)
        else fun d => d |> setF TL_TS_LAT_B_ingress (latMeasured rx) |> setF TL_TS_LAT_B_egress (latMeasured tx))
    |> raise 19 p 0 0 |> timingUp p |> refreshFlows |> trafficBack p |> checkHold

/-- ALIGNING_EXPIRED (R247, R248): 1 ms without lock returns both lanes to SEEK and counts an attempt. -/
def aligningExpired (p : Nat) (d : Dev) : Dev :=
  if d.port p = 2 then
    d |> passTo (smGet 0 p d.link.portAt + usTicks 1000) |> setF (LINK_PORT_STAT_state p) 1
      |> laneSeek (2 * p) |> laneSeek (2 * p + 1) |> failedAttempt p
  else d

/-- The uncorrectable codewords of port p among the last 1,024, as instants and numbers. A codeword takes 25.6 ns: 5,440 bits at two lanes of
106.25 Gb/s (R240, R262), and 1,024 of them 25,769.8 air ticks. -/
def Dev.fecRecent (d : Dev) (p : Nat) : List (Nat × Nat) := (smGet [] p d.link.fec).filter fun x => decide (d.now < x.1 + 25770)

/-- FEC_UNCORRECTED (R257): n uncorrectable codewords arrive; 8 among 1,024 consecutive ones are a fault. `corr` codewords were corrected in
the last complete millisecond. -/
def fecUncorrected (p n corr : Nat) (d : Dev) : Dev :=
  let d := setF (LINK_PORT_FEC_corrected p) (min corr 65535) d
  if d.portUp p ∧ n > 0 then
    let l := (d.now, n) :: d.fecRecent p
    let fault := decide (8 ≤ (l.map Prod.snd).sum)
    d |> modLink (fun k => { k with fec := smPut [] p (if fault then [] else l) k.fec }) |> addF (LINK_PORT_FEC_uncorrected p) n
      |> raiseSec 24 24 p 0 0 |> onlyIf fault (portFault p)
  else d

/-- An accepted reseek (R251, R264). -/
def reseek (p : Nat) (d : Dev) : Dev :=
  let was := d.portUp p
  let d := d |> laneSeek (2 * p) |> laneSeek (2 * p + 1)
  if was then d |> portRestart p |> portGone p
  else portFollow p d

/-- Does a write of LINK_CMD ask for a reseek of a port that carries flows (R264), or for a failback while a port is not UP (R260)? -/
def Dev.reseekBad (d : Dev) (val : Nat) : Bool := (val.testBit 1 && d.carries 0) || (val.testBit 2 && d.carries 1)
def Dev.failbackBad (d : Dev) (val : Nat) : Bool := val.testBit 0 && (!d.portUp 0 || !d.portUp 1)

/-- Would a write of v to LINK_REST rest a direction of a lane whose port carries flows (R251)? -/
def Dev.restBad (d : Dev) (v : Nat) : Bool :=
  (List.range 4).any fun l =>
    (((bits v 11 8).testBit l && !d.rxRest l) || ((bits v 3 0).testBit l && !d.fb LINK_REST_tx_rest l)) && d.carries (l / 2)

/-- The lanes follow the rest bits that a write has stored (R251): the lane registers still show the ones before. -/
def linkRest (d : Dev) : Dev :=
  let woken := (List.range 4).filter fun l => d.on (LINK_LANE_STAT_rx_rest l) && !d.rxRest l
  d |> forAll (List.range 4) (fun l d => d
        |> setB (LINK_LANE_STAT_rx_rest l) (d.rxRest l) |> setB (LINK_LANE_STAT_tx_rest l) (d.fb LINK_REST_tx_rest l)
        |> onlyIf (d.rxRest l) (setB (LINK_LANE_STAT_cdr_lock l) false))
    |> forAll woken (fun l d => if d.lane l = 0 then d else laneEnter l 3 d)
    |> portFollow 0 |> portFollow 1

/-- Magnitude of a signed byte. -/
def mag8 (x : Nat) : Nat := (signed 8 x).natAbs

/-- Are transmit taps valid (R250)? -/
def txeqGood (v : Nat) : Bool :=
  mag8 (bits v 7 0) + mag8 (bits v 15 8) + bits v 23 16 + mag8 (bits v 31 24) == 128 && decide (64 ≤ bits v 23 16)

/-- A port is switched on or off by LINK_CFG.en, or with the device (R243, R247): its failed attempts stay until it reaches UP (R248). -/
def portSwitch (p : Nat) (on : Bool) (d : Dev) : Dev :=
  if on then
    (if d.port p = 0 then
      d |> portSeeks p
        |> laneEnter (2 * p) 1 |> laneEnter (2 * p + 1) 1
     else d)
  else if d.port p = 0 then d
  else
    let was := d.portUp p
    let d := d |> setF (LINK_PORT_STAT_state p) 0 |> forAll [2 * p, 2 * p + 1] (fun l d => d
      |> laneEnter l 0 |> setB (LINK_LANE_STAT_cdr_lock l) false |> setB (LINK_LANE_STAT_sig_det l) false)
    if was then portGone p d else d

/-- Both ports follow LINK_CFG.en; they run from RUNNING on (R243, R463). -/
def linkStart (d : Dev) : Dev := d |> portSwitch 0 (d.portEn 0) |> portSwitch 1 (d.portEn 1)

/-- Entry to Dormant disables both ports (R252). -/
def linkStop (d : Dev) : Dev := d |> portSwitch 0 false |> portSwitch 1 false

/-! ### Expansion buffers (R253) -/

/-- Expansion buffer i: 2p of port p's receiver, 2p + 1 of its transmitter. -/
def Dev.expb (d : Dev) (i : Nat) : ExpbSt := smGet {} i d.link.expb

/-- The blocks by which a buffer's fill moves in the air tick that begins at t. -/
def expbStep (i t : Nat) : Int := let x := Config.expbSlip i t; if x = 0 then 0 else if x % 2 = 1 then 1 else -1

/-- The fill of a buffer in blocks of 257 bits at an instant: half of its 256 between frames, where idle blocks are deleted and inserted, and
moved by the clocks' difference while a frame passes it. DESIGN CHOICE (log entry 3): a frame finds it at half. -/
def Dev.expbFill (d : Dev) (i t : Nat) : Int :=
  let e := d.expb i
  if e.till ≤ t then 128 else ((List.range (t - e.from_)).map fun k => expbStep i (e.from_ + k)).foldl (· + ·) 128

/-- The air ticks in which a frame with so many bytes of Ethernet payload passes a port of 200 Gb/s, with 18 bytes of addresses, EtherType and
check sequence, 8 of preamble and 4 of a tag if it has one (PRESUMED, IEEE 802.3, log entry 3). -/
def frameSpan (tci bytes : Nat) : Nat := ((max 64 (18 + bytes) + 8 + if tci = 0 then 0 else 4) * 8 * 98304 + 19999999) / 20000000

/-- Does a frame pass a buffer for the next n ticks from t on without overflow and underflow? -/
def expbPasses (i : Nat) : Nat → Nat → Int → Bool
  | 0, _, _ => true
  | n + 1, t, fill =>
    (decide ((n : Int) + 1 ≤ fill ∧ fill + n + 1 ≤ 256)) ||
      (let f := fill + expbStep i t; decide (0 ≤ f ∧ f ≤ 256) && expbPasses i n (t + 1) f)

/-- A frame enters an expansion buffer now, and leaves it as long after as it takes to pass; one that would overflow it or empty it is dropped
whole (R253). -/
def expbEnter (i n : Nat) (frame : List Nat) (d : Dev) : Dev :=
  if expbPasses i n d.now 128 then modLink (fun k => { k with expb := smPut {} i ⟨frame, d.now, d.now + n⟩ k.expb }) d
  else d |> modLink (fun k => { k with expb := smPut {} i {} k.expb }) |> incF (LINK_PORT_EXPB_dropped (i / 2)) |> raiseSec 25 25 (i / 2) 0 0

/-- Does port p hold a frame in its transmit queue or in an expansion buffer (R252)? -/
def Dev.portHolds (d : Dev) (p : Nat) : Bool :=
  !(d.txq p).isEmpty || decide (d.now < (d.expb (2 * p)).till) || decide (d.now < (d.expb (2 * p + 1)).till)

/-- A MAC control frame is discarded and counted (R240). -/
def macControl (p : Nat) (d : Dev) : Dev := incF (if p = 0 then LINK_DISCARD_ctl_a else LINK_DISCARD_ctl_b) d

/-- A value that R250, R251, R260 or R264 refuses. -/
def linkRefuses (off val : Nat) (d : Dev) : Option (Dev → Dev) :=
  if 0x500204 ≤ off ∧ off < 0x500304 ∧ off % 0x40 = 4 ∧ !txeqGood val then some (setB LINK_STAT_param_refused true)
  else if off = LINK_REST_rx_rest.off ∧ d.restBad val then some (setB LINK_STAT_rest_refused true)
  else if off = 0x500004 ∧ (d.reseekBad val || d.failbackBad val) then
    some fun x => x |> onlyIf (d.reseekBad val) (setB LINK_STAT_rest_refused true) |> onlyIf (d.failbackBad val) (setB LINK_STAT_failback_refused true)
  else none

/-- Values taken as another (R264, R295). -/
def linkSubst (off val : Nat) : Nat :=
  if off = 0x50000C then putBits val 8 0 (max 100 (bits val 8 0))
  else if off = 0x501000 then
    putBits (putBits val 31 30 (min 2 (bits val 31 30))) 13 0 (max 1500 (min 9000 (bits val 13 0)))
  else val

/-- What a write to a lane or port register does beyond its access codes. -/
def linkWriteAfter (off val : Nat) (d : Dev) : Dev :=
  if off = 0x500000 then linkStart d
  else if off = 0x500004 then
    d |> onlyIf (val.testBit 1) (reseek 0) |> onlyIf (val.testBit 2) (reseek 1) |> onlyIf (val.testBit 0) failbackCmd
  else d

end Sys2Proof.Machine
end

