-- ==== Sys2Proof/Machine/Lms.lean ====
section
/-!
DEFINITION. LMS signature verification (R303): LMS_SHA256_M32_H20 with LMOTS_SHA256_N32_W8, as RFC 8554 defines it (log
entry 5).
-/
namespace Sys2Proof.Machine

/-- Iterate the chain function of LM-OTS from step a up to 255. -/
def otsChain (pre : List Nat) : Nat → Nat → List Nat → List Nat
  | 0, _, t => t
  | n + 1, j, t => otsChain pre n (j + 1) (sha256 (pre ++ [j] ++ t))

/-- The LM-OTS public key candidate for a message, leaf q and signature (RFC 8554, section 4.6). -/
def otsCandidate (ident : List Nat) (q : Nat) (msg sig : List Nat) : List Nat :=
  let qb := beBytes 4 q
  let c := (sig.drop 4).take 32
  let h := sha256 (ident ++ qb ++ [0x81, 0x81] ++ c ++ msg)
  let sum := h.foldl (fun a b => a + (255 - b)) 0
  let digits := h ++ beBytes 2 sum
  let z := (List.range 34).flatMap fun i =>
    let a := digits.getD i 0
    otsChain (ident ++ qb ++ beBytes 2 i) (255 - a) a ((sig.drop (36 + 32 * i)).take 32)
  sha256 (ident ++ qb ++ [0x80, 0x80] ++ z)

/-- Climb a tree of height h from a leaf's value: node r with path nodes of 32 bytes. -/
def lmsClimb (ident : List Nat) : Nat → Nat → List Nat → List Nat → List Nat
  | 0, _, _, t => t
  | n + 1, r, path, t =>
    let sib := path.take 32
    let up := ident ++ beBytes 4 (r / 2) ++ [0x83, 0x83]
    lmsClimb ident n (r / 2) (path.drop 32) (sha256 (if r % 2 = 1 then up ++ sib ++ t else up ++ t ++ sib))

/-- Does a 1,772-byte signature of a message verify under a 56-byte public key (R303)? -/
def lmsVerify (pub msg sig : List Nat) : Bool :=
  let q := ofBe (sig.take 4)
  let ident := (pub.drop 8).take 16
  let kc := otsCandidate ident q msg (sig.drop 4)
  let leaf := sha256 (ident ++ beBytes 4 (2 ^ 20 + q) ++ [0x82, 0x82] ++ kc)
  pub.length == 56 && sig.length == 1772 && ofBe (pub.take 4) == 8 && ofBe ((pub.drop 4).take 4) == 4 &&
    ofBe ((sig.drop 4).take 4) == 4 && ofBe ((sig.drop 1128).take 4) == 8 && decide (q < 2 ^ 20) &&
    lmsClimb ident 20 (2 ^ 20 + q) (sig.drop 1132) leaf == (pub.drop 24).take 32

end Sys2Proof.Machine
end

