-- ==== Sys2Proof/Machine/Keystone.lean ====
section
/-!
DEFINITION. The keystone (chapter 12): manifests and their verification, the offer, staging, activation, OTP programming and
attestation.
-/
namespace Sys2Proof.Machine

def modKey (g : KeySt → KeySt) (d : Dev) : Dev := { d with key := g d.key }
def modOtp (g : OtpSt → OtpSt) (d : Dev) : Dev := { d with otp := g d.otp }

/-- The keystone's stage (R296): 0 ROM, 1 STORE, 2 WAIT_OFFER, 3 FETCH, 4 ACTIVATING, 5 RUNNING. -/
def Dev.stage (d : Dev) : Nat := d.f KEY_STATUS_stage

/-- A refusal is recorded in KEY_REFUSE. -/
def keyRefuse (reason item : Nat) (d : Dev) : Dev :=
  d |> incF KEY_REFUSE_count |> setF KEY_REFUSE_reason reason |> setF KEY_REFUSE_item item

/-- The little-endian number in n bytes of a list from i. -/
def leAt (l : List Nat) (i n : Nat) : Nat := ofLe ((l.drop i).take n)

/-! ### Key slots (R304, R326) -/

/-- State of a key slot: 0 BLANK, 1 PROGRAMMED, 2 REVOKED, 3 INCOMPLETE. -/
def KeySlot.state (k : KeySlot) : Nat := if k.revoked then 2 else if k.valid then 1 else if k.words = 0 then 0 else 3

def Dev.slot (d : Dev) (k : Nat) : KeySlot := smGet {} k d.otp.slots

/-- KEY_SLOTS.state and the other fields of OTP that registers show. -/
def refreshOtp (d : Dev) : Dev :=
  d |> setF KEY_SLOTS_state ((List.range 4).foldl (fun a k => a + (d.slot k).state * 4 ^ k) 0)
    |> setF KEY_SVN_svn_min d.otp.svnMin |> setF KEY_ATT_LEAF_blocks d.otp.blocks

/-! ### Manifests (R307 to R312) -/

/-- The limit of a part's length (R308). -/
def partLimit (ty : Nat) : Nat :=
  match ty with | 1 => 0x800000 | 2 => 0x100000 | 3 => 0x40000 | 4 => 4096 | _ => 0x400000

/-- The header of a manifest (R307): 0 when it keeps its table, else the reason of its failure. -/
def manHeader (l : List Nat) : Nat :=
  let n := leAt l 0x16 2
  if l.take 4 ≠ [0x4C, 0x4D, 0x4E, 0x4B] ∨ leAt l 4 1 ≠ 1 ∨ leAt l 5 1 ≠ 0 ∨ leAt l 6 2 ≠ 64 ∨ leAt l 0x14 2 > 127 ∨
      n < 5 ∨ n > 8 ∨ leAt l 8 4 ≠ 64 + 48 * n + 176 + 2 * 1828 ∨ leAt l 0x1A 2 > 1 ∨ leAt l 0x1C 36 ≠ 0 then 2
  else if leAt l 0xC 4 ≠ 0xB1 then 3 else 0

/-- Part i of a manifest's table (R308). -/
def manPart (l : List Nat) (i : Nat) : ManPart :=
  let a := 64 + 48 * i
  { ty := leAt l a 2, index := leAt l (a + 2) 2, len := leAt l (a + 4) 4, ver := leAt l (a + 8) 4, hash := (l.drop (a + 16)).take 32 }

/-- Does part i keep the rules of the part table (R308)? -/
def manPartGood (l : List Nat) (i : Nat) : Bool :=
  let p := manPart l i
  let q := manPart l (i - 1)
  (i == 0 || decide (q.ty * 65536 + q.index < p.ty * 65536 + p.index)) && leAt l (64 + 48 * i + 12) 4 == 0 &&
    (if i < 4 then p.ty == i + 1 && p.index == 0 else p.ty == 5 && decide (p.index ≤ 3)) &&
    p.len % 64 == 0 && decide (p.len ≤ partLimit p.ty) && (p.ty != 4 || p.len == 4096)

/-- Does vendor part i equal an entry of the vendor block at v (R309)? -/
def manVendorGood (l : List Nat) (v i : Nat) : Bool :=
  let p := manPart l i
  (List.range 4).any fun j =>
    let a := v + 16 + 40 * j
    leAt l a 2 == p.ty && leAt l (a + 4) 4 == p.ver && (l.drop (a + 8)).take 32 == p.hash

/-- Does the vendor block keep its form (R309)? -/
def vendorForm (l : List Nat) (v : Nat) : Bool :=
  (l.drop v).take 4 == [0x4C, 0x4D, 0x56, 0x42] && leAt l (v + 4) 4 == 4 && leAt l (v + 8) 4 == 0

/-- The state of a slot as verification takes it: a revocation takes effect at the next start, and until then the state before it stands (R326). -/
def Dev.slotInUse (d : Dev) (k : Nat) : Nat :=
  if d.key.revokedNow.contains k then { d.slot k with revoked := false }.state else (d.slot k).state

/-- The key slots a manifest signature may verify against (R305). -/
def Dev.manifestSlots (d : Dev) : List Nat :=
  if (d.slot 2).state = 0 ∧ (d.slot 3).state = 0 then [2, 3, 0, 1] else [2, 3]

/-- A signature block at a, over msg, against key slots (R304, R310): the slot, or the reason of its failure. -/
def Dev.signedBy (d : Dev) (l : List Nat) (a : Nat) (msg : List Nat) (slots : List Nat) : Except Nat Nat :=
  let pub := (l.drop a).take 56
  let h := sha256 pub
  match slots.find? fun k => d.slotInUse k == 1 && (d.slot k).hash == h with
  | some k => if lmsVerify pub msg ((l.drop (a + 56)).take 1772) then .ok k else .error 4
  | none => if slots.any fun k => d.slotInUse k == 2 && (d.slot k).hash == h then .error 6 else .error 4

/-- Verification of a manifest (R305 to R312), in the order in which R312 names its checks: what the keystone keeps of it,
or the reason and the part that failed. -/
def Dev.verify (d : Dev) (l : List Nat) (seq : Nat) : Except (Nat × Nat) ManInfo :=
  let n := leAt l 0x16 2
  let v := 64 + 48 * n
  let total := leAt l 8 4
  let svn := leAt l 0x14 2
  if manHeader l ≠ 0 then .error (manHeader l, 0)
  else match (List.range n).find? fun i => !manPartGood l i with
    | some i => .error (2, i)
    | none =>
      if !vendorForm l v then .error (5, 0)
      else match (List.range 4).find? fun i => !manVendorGood l v i with
        | some i => .error (5, i)
        | none =>
          match d.signedBy l (v + 176) ((l.drop v).take 176) [0, 1], d.signedBy l (total - 1828) (l.take (total - 1828)) d.manifestSlots with
          | .error r, _ => .error (r, 0)
          | .ok _, .error r => .error (r, 0)
          | .ok vb, .ok mb =>
            if svn < d.otp.svnMin then .error (7, 0)
            else .ok
              { release := leAt l 0x10 4, svn := svn, settingsVer := leAt l 0x18 2, commitSvn := leAt l 0x1A 2 == 1, seq := seq
                parts := (List.range n).map (manPart l), vendorBy := vb, manifestBy := mb, hash := sha256 (l.take total) }

/-! ### Slots of the store (R311, R312, R452) -/

/-- Base of slot k: 0 A, 1 B, 2 staging. -/
def slotBase (k : Nat) : Nat := 0x10000 * k

/-- The bytes of a slot that a manifest may take. -/
def Mem.slotBytes (m : Mem) (k : Nat) : List Nat := m.sbytes (slotBase k) 65528

/-- The seq of a committed slot (R311). -/
def Mem.slotSeq (m : Mem) (k : Nat) : Option Nat :=
  let s := m.sle (slotBase k + 0xFFF8) 4
  if s ≠ 0 ∧ s ≠ 0xFFFFFFFF ∧ m.sle (slotBase k + 0xFFFC) 4 = 0xFFFFFFFF - s then some s else none

/-- A slot that is not committed: erased, or invalidated by CLEAR (DEDUCED, log entry 51: the worked case of R321 shows EMPTY after the
invalidation), or else uncommitted. -/
def Mem.slotEmpty (m : Mem) (k : Nat) : Bool :=
  let s := m.sle (slotBase k + 0xFFF8) 4
  let t := m.sle (slotBase k + 0xFFFC) 4
  (s == 0xFFFFFFFF && t == 0xFFFFFFFF) || (s == 0 && t == 0)

/-- What STORE finds in a slot (R312): its code and, when VALID, its manifest. -/
def Blk.slotFound (b : Blk) (k : Nat) : Nat × Except (Nat × Nat) ManInfo :=
  match b.mem.slotSeq k with
  | none => (if b.mem.slotEmpty k then 0 else 3, .error (0, 0))
  | some q =>
    match b.dev.verify (b.mem.slotBytes k) q with
    | .ok i => (1, .ok i)
    | .error e => (2, .error e)

/-- The register field of a slot's code. -/
def slotFld (k : Nat) : Fld :=
  match k with | 0 => KEY_STATUS_slot_a | 1 => KEY_STATUS_slot_b | _ => KEY_STATUS_staging

/-- Program a slot's commit word (R311). -/
def commitWord (k seq : Nat) (m : Mem) : Mem :=
  m.program (slotBase k + 0xFFF8) (leBytes 4 seq ++ leBytes 4 (0xFFFFFFFF - seq))

/-- Invalidate the staging slot as CLEAR does (R315): both commit words 0. -/
def stagingInvalidate (b : Blk) : Blk :=
  b |> onStore (Mem.program (slotBase 2 + 0xFFF8) (List.replicate 8 0))
    |> onDev (fun d => d |> modKey (fun k => { k with pending := none }) |> setF KEY_STATUS_staging 0 |> setF KEY_SVN_staged 0)

/-- A manifest becomes the active one. -/
def setActive (slot : Nat) (i : ManInfo) (d : Dev) : Dev :=
  d |> modKey (fun k => { k with active := some i }) |> setB KEY_STATUS_active_valid true |> setF KEY_STATUS_active_slot slot
    |> setF KEY_ACT_SEQ_value i.seq |> setF KEY_ACT_REL_value i.release |> setF KEY_SVN_active i.svn
    |> setF KEY_SLOTS_vendor_by i.vendorBy |> setF KEY_SLOTS_manifest_by i.manifestBy

/-- A manifest becomes the pending one. -/
def setPending (i : ManInfo) (d : Dev) : Dev :=
  d |> modKey (fun k => { k with pending := some i }) |> setF KEY_STATUS_staging 1 |> setF KEY_SVN_staged i.svn

/-! ### STORE -/

/-- The soft-spare record is reapplied (R342): two places of 8 KiB hold it (log entry 29). -/
def applySpares (b : Blk) : Blk :=
  match b.mem.recNewest 3 0x30000 0x2000 2 with
  | none => b
  | some i =>
    let p := b.mem.recPayload (0x30000 + 0x2000 * i)
    if p.take 8 ≠ b.dev.otp.devId.take 8 then onDev (raise0 38) b
    else
      let ents := (List.range ((p.length - 8) / 4)).map fun j => (p.getD (8 + 4 * j) 0, leAt p (9 + 4 * j) 2, p.getD (11 + 4 * j) 0)
      onDev (forAll ents fun e d =>
        if e.1 ≥ 128 ∨ e.2.1 ≥ 1024 ∨ e.2.2 ≥ 8 ∨ d.otp.fuseRows.any (fun x => x.1 == e.1 && x.2.2 == e.2.2) then
          incF MEM_SPARE_ignored d
        else if d.mp.spares.contains e then d
        else d |> modMp (fun p => { p with spares := p.spares ++ [e] }) |> incF MEM_SPARE_soft_used) b

/-- Which manifest slot is active (R312): the VALID one with the greater seq. -/
def activeOf (a b : Nat × Except (Nat × Nat) ManInfo) : Option (Nat × ManInfo) :=
  match a.2, b.2 with
  | .ok x, .ok y => if x.seq ≤ y.seq then some (1, y) else some (0, x)
  | .ok x, .error _ => some (0, x)
  | .error _, .ok y => some (1, y)
  | .error _, .error _ => none

/-- Is the manifest slot with the greater seq BAD (R312)? -/
def Blk.fallback (b : Blk) (active : Option (Nat × ManInfo)) (codeA codeB : Nat) : Bool :=
  match active with
  | some (0, x) => codeB == 2 && decide (x.seq < (b.mem.slotSeq 1).getD 0)
  | some (_, y) => codeA == 2 && decide (y.seq < (b.mem.slotSeq 0).getD 0)
  | none => false

/-- The manifest slots are verified (R312, R320). -/
def storeManifests (b : Blk) : Blk :=
  let f := (List.range 3).map b.slotFound
  let at_ := fun (k : Nat) => f.getD k (0, .error (0, 0))
  let act := activeOf (at_ 0) (at_ 1)
  let bad : Nat → Dev → Dev := fun k d =>
    match at_ k with
    | (2, .error e) => raise 113 k e.1 0 d
    | _ => d
  let fb := b.fallback act (at_ 0).1 (at_ 1).1
  let b := onDev (fun d =>
    let d := d |> forAll (List.range 3) (fun k d => setF (slotFld k) (at_ k).1 d) |> forAll (List.range 3) bad |> setB KEY_STATUS_fallback fb
    match act with
    | some (s, i) => setActive s i d
    | none => keyRefuse 1 0 d) b
  match (at_ 2).2 with
  | .error _ => b
  | .ok p =>
    if (b.dev.key.active.map fun a => a.hash) = some p.hash then stagingInvalidate b
    else onDev (setPending p) b

/-- STORE_DONE (R296, R312, R342, R416): `present` is false when the store does not answer or is not the one that R451 asks
for. -/
def storeDone (present : Bool) (b : Blk) : Blk :=
  if b.dev.stage ≠ 1 then b
  else
    let b := onDev (modKey fun k => { k with storeAbsent := !present }) b
    let b := if present then b |> applySpares |> storeManifests else onDev (keyRefuse 1 0) b
    b |> startRecordIn present |> onDev (setF KEY_STATUS_stage 2)
where
  /-- The START record; an absent store holds no archive block. -/
  startRecordIn (present : Bool) (b : Blk) : Blk :=
    let seq := b.dev.f KEY_ACT_SEQ_value
    let cause := b.dev.key.cause
    if present then startRecord seq cause b
    else
      let c := startRecord seq cause { b with mem := { b.mem with store := [] } }
      { c with mem := { c.mem with store := b.mem.store } }

/-! ### The offer -/

/-- OFFER (R299): accepted in WAIT_OFFER only. -/
def offer (d : Dev) : Dev := if d.stage = 2 then setF KEY_STATUS_stage 3 d else d

/-- An entry of the offer table: type, index, length and destination. -/
structure OfferEnt where
  ty : Nat
  index : Nat
  len : Nat
  dst : Nat
deriving DecidableEq, Repr

def offerEnt (t : List Nat) (i : Nat) : OfferEnt :=
  let a := 16 + 32 * i
  ⟨leAt t a 2, leAt t (a + 2) 2, leAt t (a + 4) 4, leAt t (a + 16) 4⟩

/-- The offer table's form (R299, R301): none when it keeps it, else the entry that breaks it. -/
def offerForm (t : List Nat) : Option Nat :=
  let n := t.getD 4 0
  if t.take 4 ≠ [0x4C, 0x4D, 0x4F, 0x46] ∨ n < 1 ∨ n > 16 ∨ t.getD 5 0 > 2 ∨ leAt t 6 10 ≠ 0 then some 0
  else (List.range n).find? fun i => leAt t (16 + 32 * i + 0x14) 12 != 0

/-- Does entry i match its part of a manifest (R300)? -/
def entryGood (m : ManInfo) (ents : List OfferEnt) (images : List (List Nat)) (i : Nat) : Bool :=
  let e := ents.getD i ⟨0, 0, 0, 0⟩
  let img := images.getD i []
  (match m.parts.find? fun p => p.ty == e.ty && p.index == e.index with
   | none => false
   | some p => e.len == p.len && img.length == e.len && sha256 img == p.hash) &&
    e.dst % 64 == 0 && decide (e.dst + e.len ≤ 0x2000000) &&
    (ents.take i).all fun x => !(x.ty == e.ty && x.index == e.index) && !decide (x.dst < e.dst + e.len ∧ e.dst < x.dst + x.len)

/-- Does an offer match a manifest (R300): none when it does, else the first failing entry. -/
def offerFails (m : ManInfo) (ents : List OfferEnt) (images : List (List Nat)) : Option Nat :=
  match (List.range ents.length).find? fun i => !entryGood m ents images i with
  | some i => some i
  | none => if ents.length = m.parts.length then none else some ents.length

/-- An offer is refused (R301). -/
def offerRefuse (reason item : Nat) (d : Dev) : Dev :=
  d |> keyRefuse reason item |> raise 114 item reason 0 |> setF KEY_STATUS_stage 2

/-- The fetched images are placed in deck SRAM, and their destinations kept in part order (R300, R302). -/
def placeImages (m : ManInfo) (ents : List OfferEnt) (images : List (List Nat)) (b : Blk) : Blk :=
  let b := (List.range ents.length).foldl (fun b i => store (ents.getD i ⟨0, 0, 0, 0⟩).dst (images.getD i []) b) b
  let dst := m.parts.map fun p =>
    match ents.find? fun e => e.ty == p.ty && e.index == p.index with
    | some e => (e.dst, e.len)
    | none => (0, 0)
  onDev (modKey fun k => { k with actDst := dst }) b

/-! ### Settings records (R313, R322, R323) -/

/-- Places of 4 KiB in the settings region; the version, sequence and payload of the record at one. -/
def setAddr (i : Nat) : Nat := 0x40000 + 0x1000 * i
def Mem.setVer (m : Mem) (i : Nat) : Nat := m.sle (setAddr i + 4) 2
def Mem.setSeq (m : Mem) (i : Nat) : Nat := m.sle (setAddr i + 12) 4
def Mem.setPay (m : Mem) (i : Nat) : List Nat := m.recPayload (setAddr i)

/-- The places whose record checks; any other is as erased (R313). -/
def Mem.setGood (m : Mem) : List Nat := (List.range 256).filter fun i => m.recGood 1 (setAddr i) 0x1000

/-- The migration record from one version to another (R323): its payload names both (DESIGN CHOICE, log entry 29). -/
def migration (from_ to_ : Nat) : List Nat := leBytes 2 from_ ++ leBytes 2 to_

/-- The current settings records: of one version and key the one with the greatest sequence (R313). DESIGN CHOICE (log entry 29): the key is the
payload's first two bytes. -/
def Mem.settings (m : Mem) : List Nat :=
  let good := m.setGood
  good.filter fun i => (m.setPay i).length != 4 &&
    good.all fun j => !(m.setVer j == m.setVer i && (m.setPay j).take 2 == (m.setPay i).take 2 && decide (m.setSeq i < m.setSeq j))

/-- The sequence of the next settings record. -/
def Mem.nextSetSeq (m : Mem) : Nat := m.setGood.foldl (fun a i => max a (m.setSeq i)) 0 + 1

/-- Write records one after the other into places. -/
def writeSettings (ver seq : Nat) : List Nat → List (List Nat) → Mem → Mem
  | i :: is, p :: ps, m => writeSettings ver seq is ps ((m.erase (setAddr i) 0x1000).program (setAddr i) (lamnikF 1 ver seq p))
  | _, _, m => m

/-- Places for new settings records of a version: unused ones, then those of the lower records, which are reclaimed only when the region needs
the space, and only once the migration to the version is recorded (R323). -/
def Blk.setPlaces (b : Blk) (ver : Nat) : List Nat :=
  let good := b.mem.setGood
  ((List.range 256).filter fun i => !good.contains i) ++
    if b.dev.otp.unmigrated.contains ver then [] else good.filter fun i => decide (b.mem.setVer i < ver)

/-- Firmware writes a settings record of its own, and erases the one of the same key that it replaces. -/
def settingsPut (p : List Nat) (b : Blk) : Blk :=
  let ver := (b.dev.key.active.getD {}).settingsVer
  let old := b.mem.settings.filter fun i => b.mem.setVer i == ver && (b.mem.setPay i).take 2 == p.take 2
  match b.setPlaces ver with
  | i :: _ =>
    if b.dev.key.storeAbsent then b
    else onMem (fun m => old.foldl (fun m j => m.erase (setAddr j) 0x1000) (writeSettings ver m.nextSetSeq [i] [p] m)) b
  | [] => b

/-- The settings record that keeps HK_GRPg_CAL (R363): offset and gain of each group, under the key 0x4B48 (DESIGN CHOICE, log entry 29). -/
def hkCalRecord (d : Dev) : List Nat :=
  [0x48, 0x4B] ++ (List.range 12).flatMap fun g => leBytes 2 (d.f (HK_GRP_CAL_offset g)) ++ leBytes 2 (d.f (HK_GRP_CAL_gain g))

/-- Firmware writes HK_GRPg_CAL back at its start (R363). -/
def hkCalRestore (ver : Nat) (b : Blk) : Blk :=
  match b.mem.settings.find? fun i => b.mem.setVer i == ver && (b.mem.setPay i).take 2 == [0x48, 0x4B] with
  | none => b
  | some i =>
    let p := b.mem.setPay i
    onDev (forAll (List.range 12) fun g d => d |> setF (HK_GRP_CAL_offset g) (leAt p (2 + 4 * g) 2) |> setF (HK_GRP_CAL_gain g) (leAt p (4 + 4 * g) 2)) b

/-- The start's use of the settings records (R322, R323). Records of the version in use stand, unless a migration to it is unfinished; with none,
the newest lower ones are migrated. `conv` holds firmware's conversion of each record of that lower version, in place order; an empty one marks a
record that firmware cannot convert, which stops no other, and leaves the migration unfinished. Old records are reclaimed only for want of space. -/
def settingsStart (ver : Nat) (conv : List (List Nat)) (b : Blk) : Blk :=
  let m := b.mem
  let top := (m.settings.filter fun i => decide (m.setVer i < ver)).foldl (fun a i => max a (m.setVer i)) 0
  let low := m.settings.filter fun i => decide (m.setVer i < ver) && m.setVer i == top
  let here := m.settings.filter fun i => m.setVer i == ver
  let open_ := fun (x : Bool) => modOtp fun o => { o with unmigrated := (if x then [ver] else []) ++ o.unmigrated.filter (· != ver) }
  if !here.isEmpty ∧ (low.isEmpty ∨ !b.dev.otp.unmigrated.contains ver) then onDev (setF KEY_STATUS_settings 0) b
  else if low.isEmpty then onDev (setF KEY_STATUS_settings 3) b
  else
    let copies := ((List.range low.length).map fun i => conv.getD i []).filter fun p => !p.isEmpty
    let failed := decide (copies.length < low.length)
    let recs := copies ++ (if failed then [] else [migration top ver])
    let free := ((List.range 256).filter fun i => !m.setGood.contains i) ++ here ++ m.setGood.filter fun i => decide (m.setVer i < top)
    if free.length < recs.length then onDev (fun d => d |> open_ true |> setF KEY_STATUS_settings 2 |> raise0 118) b
    else
      b |> onMem (writeSettings ver m.nextSetSeq free recs)
        |> onDev (fun d => d |> open_ failed |> if failed then fun d => d |> setF KEY_STATUS_settings 2 |> raise0 118 else setF KEY_STATUS_settings 1)

/-! ### Firmware starts (R296, R298, R302) -/

/-- The stage enters RUNNING. -/
def firmwareStart (conv : List (List Nat)) (b : Blk) : Blk :=
  let d := b.dev
  let ver := (d.key.active.getD {}).settingsVer
  let due := match d.key.active with
    | some i => i.commitSvn && decide (d.otp.svnMin < i.svn)
    | none => false
  b |> onDev (fun d => d
        |> setF KEY_STATUS_stage 5 |> setF KEY_BOOT_TIME_ms ((d.now - d.key.bootAt) / 983040)
        |> modKey (fun k => { k with matched := k.actDst, svnDue := due })
        |> (fun d => draw { d with t := { d.t with ptpDomain := Config.freeValue d.draws % 256 } })
        |> raise0 112 |> setB KEY_STATUS_refclk_wait true |> linkStart
        |> onlyIf (d.key.cause == 1) (raise 130 0xFF (d.f PWR_STAT_wake_src) 0) |> onlyIf (d.on HK_PAR_TRIP_tripped) (raise0 63))
    |> fun b => if d.key.storeAbsent then onDev (setF KEY_STATUS_settings 3) b else b |> settingsStart ver conv |> hkCalRestore ver

/-- Activation begins (R318, steps 1 and 2): the staged manifest is verified again and the target slot erased; an absent store is a store error
(R321, R451). -/
def activationStart (b : Blk) : Blk :=
  if b.dev.key.storeAbsent then onDev (offerRefuse 11 0) b else
  let target := if b.dev.on KEY_STATUS_active_valid then 1 - b.dev.f KEY_STATUS_active_slot else 0
  match b.slotFound 2 with
  | (c, .error e) =>
    onDev (fun d => d |> modKey (fun k => { k with pending := none }) |> setF KEY_STATUS_staging c |> setF KEY_SVN_staged 0
      |> raise 113 2 e.1 0 |> offerRefuse e.1 2) b
  | (_, .ok _) =>
    b |> onMem (Mem.erase (slotBase target) 0x10000)
      |> onDev (fun d => d |> setF KEY_STATUS_stage 4 |> setF (slotFld target) 0 |> setB KEY_STATUS_fallback false)

/-- FETCH_DONE (R300, R301): the table and the images as fetched from host memory, the entry whose fetch met a bus error if
one did (16 or above: the table's own), and firmware's conversions of its settings. Reads end in a bus error while the host
has not set Bus Master Enable, and none is made in D3hot (R436). -/
def fetchDone (table : List Nat) (images : List (List Nat)) (busErr : Option Nat) (conv : List (List Nat)) (b : Blk) : Blk :=
  let d := b.dev
  let k := d.key
  if d.stage ≠ 3 ∨ d.host.d3hot then b
  else
    let err := if d.host.busMaster then busErr else some 16
    let ents := (List.range (table.getD 4 0)).map (offerEnt table)
    if (err.getD 0) ≥ 16 then onDev (offerRefuse 10 0) b
    else match offerForm table, err with
      | some i, _ => onDev (offerRefuse 8 i) b
      | none, some i => onDev (offerRefuse 10 i) b
      | none, none =>
        let intent := table.getD 5 0
        let staged := if intent = 1 then none else k.pending
        let active := if intent = 2 then none else k.active
        match staged.map fun m => (m, offerFails m ents images), active.map fun m => (m, offerFails m ents images) with
        | some (m, none), _ => b |> placeImages m ents images |> activationStart
        | _, some (m, none) => b |> placeImages m ents images |> firmwareStart conv
        | _, some (_, some i) => onDev (offerRefuse 9 i) b
        | some (_, some i), none => onDev (offerRefuse 9 i) b
        | none, none => onDev (offerRefuse 9 0) b

/-- ACTIVATION_DONE (R318, R321): `ok` is false when a step failed with a store error, as every step does on an absent store (R451). -/
def activationDone (ok : Bool) (conv : List (List Nat)) (b : Blk) : Blk :=
  let d := b.dev
  if d.stage ≠ 4 then b
  else if !ok || d.key.storeAbsent then onDev (offerRefuse 11 0) b
  else match d.key.pending with
    | none => onDev (offerRefuse 11 0) b
    | some p =>
      let target := if d.on KEY_STATUS_active_valid then 1 - d.f KEY_STATUS_active_slot else 0
      let seq := max ((b.mem.slotSeq 0).getD 0) ((b.mem.slotSeq 1).getD 0) + 1
      let total := b.mem.sle (slotBase 2 + 8) 4
      let old := d.f KEY_ACT_SEQ_value
      b |> onMem (fun m => (m.program (slotBase target) (m.sbytes (slotBase 2) total)) |> commitWord target seq)
        |> onDev (fun d => d |> setF (slotFld target) 1 |> setActive target { p with seq := seq }
            |> ledgerPut .keystone 8 target KEY_ACT_SEQ_value.off old seq |> raise0 115)
        |> stagingInvalidate |> firmwareStart conv

/-- PLL_SWITCH (R298): REFCLK within 5 % of one of its two frequencies, in kHz as measured against FIRC. -/
def pllSwitch (khz : Nat) (d : Dev) : Dev :=
  let near : Nat → Bool := fun f => decide (95 * f ≤ 100 * khz ∧ 100 * khz ≤ 105 * f)
  if d.running && (near 122880 || near 245760) then setB KEY_STATUS_refclk_wait false d else d

/-! ### Staging (R314 to R316) -/

/-- Do the staging operations run in this stage (R315)? -/
def Dev.stagingOpen (d : Dev) : Bool := d.stage == 2 || d.stage == 3 || d.stage == 5

/-- Is an operation of a source answered BUSY (R314, R315)? 1 host, 2 service port. -/
def Dev.stagingBusy (d : Dev) (src : Nat) : Bool :=
  !d.stagingOpen || d.f KEY_STAGE_session == 2 || (d.f KEY_STAGE_owner != 0 && d.f KEY_STAGE_owner != src)

/-- An operation is refused, which KEY_REFUSE records whichever source asked (R315, R331). -/
def stageRefuse (reason : Nat) (b : Blk) : Nat × Blk := (reason, onDev (keyRefuse reason 0) b)

/-- The lock is released and the buffer discarded. -/
def stageFree (d : Dev) : Dev :=
  d |> setF KEY_STAGE_session 0 |> setF KEY_STAGE_owner 0 |> modKey (fun k => { k with buf := [], committing := none })

/-- OPEN. -/
def stageOpen (src : Nat) (b : Blk) : Nat × Blk :=
  if b.dev.stagingBusy src then stageRefuse 12 b
  else (0, onDev (fun d => d |> setF KEY_STAGE_session 1 |> setF KEY_STAGE_owner src
    |> modKey (fun k => { k with buf := [], opAt := d.now })) b)

/-- WRITE: bytes at an offset of the buffer; without a session it is refused with STATE. -/
def stageWrite (src off : Nat) (l : List Nat) (b : Blk) : Nat × Blk :=
  if b.dev.stagingBusy src then stageRefuse 12 b
  else if b.dev.f KEY_STAGE_session ≠ 1 then stageRefuse 16 b
  else if off + l.length > 65528 then stageRefuse 13 (onDev (modKey fun k => { k with opAt := b.dev.now }) b)
  else (0, onDev (fun d => modKey (fun k => { k with
    opAt := d.now
    buf := (List.range l.length).foldl (fun m i => smPut 0 (off + i) (l.getD i 0) m) k.buf }) d) b)

/-- The buffer's bytes; a byte that was not written reads 0. -/
def Dev.stageBuf (d : Dev) (n : Nat) : List Nat := (List.range n).map fun i => smGet 0 i d.key.buf

/-- CLOSE: a buffer that fails verification is refused with E117; one that passes is written to the staging slot, which is
erased first. The second part is true while the write runs. -/
def stageClose (src : Nat) (b : Blk) : (Nat × Bool) × Blk :=
  if b.dev.stagingBusy src then let r := stageRefuse 12 b; ((r.1, false), r.2)
  else if b.dev.f KEY_STAGE_session ≠ 1 then let r := stageRefuse 16 b; ((r.1, false), r.2)
  else
    match b.dev.verify (b.dev.stageBuf 65528) 1 with
    | .error e => ((e.1, false), onDev (fun d => d |> keyRefuse e.1 e.2 |> raise 117 0xFF e.1 0 |> stageFree) b)
    | .ok i =>
      let old := match b.dev.key.pending with | some p => p.release | none => 0
      ((0, true), b |> onStore (Mem.erase (slotBase 2) 0x10000)
        |> onDev (fun d => d |> setF KEY_STAGE_session 2 |> setF KEY_STATUS_staging 0 |> setF KEY_SVN_staged 0
          |> modKey (fun k => { k with committing := some i, pending := none, oldRel := old, opAt := d.now })))

/-- The origin of a session's owner (R412). -/
def stageOrigin (owner : Nat) : Origin := if owner = 2 then .service else .host

/-- The write of a CLOSE ends: `ok` is false when the read-back failed, and an absent store reads nothing back (R451). The answer is the reason. -/
def stageCommitDone (ok : Bool) (b : Blk) : Nat × Blk :=
  let d := b.dev
  match d.key.committing with
  | none => (0, b)
  | some i =>
    if ok && !d.key.storeAbsent then
      let buf := d.stageBuf 65528
      (0, b |> onMem (fun m => m |> Mem.program (slotBase 2) (buf.take (leAt buf 8 4)) |> commitWord 2 1)
        |> onDev (fun d => d |> setPending i
            |> ledgerPut (stageOrigin (d.f KEY_STAGE_owner)) 7 0 KEY_STAGE_owner.off d.key.oldRel i.release |> stageFree))
    else (11, onDev (fun d => d |> keyRefuse 11 2 |> raise 117 0xFF 11 0 |> stageFree) b)

/-- ABORT. -/
def stageAbort (src : Nat) (b : Blk) : Nat × Blk :=
  if b.dev.stagingBusy src then stageRefuse 12 b
  else if b.dev.f KEY_STAGE_session ≠ 1 then stageRefuse 16 b
  else (0, onDev stageFree b)

/-- CLEAR: with no session open. -/
def stageClear (src : Nat) (b : Blk) : Nat × Blk :=
  if b.dev.stagingBusy src ∨ b.dev.f KEY_STAGE_session ≠ 0 then stageRefuse 12 b
  else (0, stagingInvalidate b)

/-- The owner performed no operation for 10 minutes (R314). -/
def stageTimeout (d : Dev) : Dev :=
  if d.f KEY_STAGE_session = 1 then d |> passTo (d.key.opAt + 600 * secTicks) |> incF KEY_STAGE_timeouts |> stageFree else d

/-! ### OTP programming (R324 to R326) -/

/-- The programming window (R324): 0 inside, else the reason. VPP is channel 156, halved, on 1.25 V. -/
def Dev.otpWindow (d : Dev) : Nat :=
  let hot := (List.range 8).any fun s =>
    let x := signed 16 (d.f (HK_PAR_SENS_temp (48 + s)))
    !d.on (HK_PAR_SENS_excluded (48 + s)) && !decide (80 ≤ x ∧ x ≤ 480)
  let v := 2500 * d.f (HK_CH_value 156)
  if hot then 14 else if 1710 * 4096 ≤ v ∧ v ≤ 1890 * 4096 then 0 else 15

/-- An OTP operation is refused (R324, R325). -/
def otpRefuse (reason unit : Nat) (d : Dev) : Dev := d |> keyRefuse reason unit |> raise 116 unit reason 0

/-- One programmed word's record (R325): the OTP word index is not given by the spec and is a free value (log entry 4). -/
def otpRecord (v : Nat) (d : Dev) : Dev :=
  d |> ledgerPut .keystone 9 (Config.freeValue d.draws) KEY_OTP_CMD_op.off 0 v |> draw

/-- A programmed word whose value the spec does not give. -/
def otpRecordFree (d : Dev) : Dev := let v := Config.freeValue d.draws; d |> draw |> otpRecord v

/-- Why PROG_SLOT or REVOKE of a key slot is refused (R324, R325): 0 when it is not. -/
def Dev.otpReason (d : Dev) (op k : Nat) : Nat :=
  let pair : Nat → Bool := fun x => x / 2 == k / 2
  let a := d.key.active.getD {}
  let other := k / 2 * 2 + (1 - k % 2)
  let rule := if op = 1 then k ≥ 2 && (d.slot k).state == 0
    else (d.slot other).state == 1 && (!pair a.vendorBy || a.vendorBy == other) && (!pair a.manifestBy || a.manifestBy == other)
  if !d.running ∨ !d.inReady ∨ d.on KEY_OTP_CMD_busy then 16 else if !rule then 17 else d.otpWindow

/-- PROG_SLOT and REVOKE (R325): op 1 or 2 on a key slot, from the host. -/
def otpStart (op k : Nat) (d : Dev) : Dev :=
  if op = 0 ∨ op > 2 then d
  else if d.otpReason op k ≠ 0 then otpRefuse (d.otpReason op k) k d
  else d |> setB KEY_OTP_CMD_busy true |> modKey (fun s => { s with otpOp := some (op, k) })

/-- A request that R324 or R325 refuses: the whole write is (R483). -/
def keyRefuses (off val : Nat) (d : Dev) : Option (Dev → Dev) :=
  let op := bits val 3 0
  let k := bits val 7 6
  if off = 0x400030 ∧ (op = 1 ∨ op = 2) ∧ d.otpReason op k ≠ 0 then some (otpRefuse (d.otpReason op k) k) else none

/-- The words that an operation programs: 1 PROG_SLOT, 2 REVOKE, 3 the advance of svn_min to k, a thermometer code of 32 bits a word. -/
def Dev.otpNeeds (d : Dev) (op k : Nat) : Nat := match op with | 1 => 9 | 2 => 1 | _ => (k + 31) / 32 - d.otp.svnMin / 32

/-- n words of an operation are programmed (R325, R326): a key slot's hash and then its valid bit, its revoke bit, or words of the thermometer
code, which keeps what it has. -/
def otpProgram (op k n : Nat) (d : Dev) : Dev :=
  if op = 3 then
    let m := min n (d.otpNeeds 3 k)
    let svn := max d.otp.svnMin (min k (32 * (d.otp.svnMin / 32 + m)))
    d |> modOtp (fun o => { o with svnMin := svn }) |> modKey (fun s => { s with svnDue := decide (svn < k) })
      |> forAll (List.range m) (fun _ => otpRecordFree) |> refreshOtp
  else if op = 1 then
    let words := (List.range 8).map fun i => d.f (KEY_OTP_DATA_data i)
    let m := min n 8
    let hash := (List.range 8).flatMap fun i => leBytes 4 (if i < m then words.getD i 0 else 0)
    d |> modOtp (fun o => { o with slots := smPut {} k ⟨m, decide (n ≥ 9), false, hash⟩ o.slots })
      |> forAll (List.range m) (fun i d => otpRecord (words.getD i 0) d)
      |> onlyIf (decide (n ≥ 9)) otpRecordFree |> refreshOtp
  else if n = 0 then d
  else d |> modOtp (fun o => { o with slots := smPut {} k { smGet {} k o.slots with revoked := true } o.slots })
    |> modKey (fun s => { s with revokedNow := k :: s.revokedNow }) |> otpRecordFree |> refreshOtp

/-- The programming window is left while an operation runs: it stops before its next word (R324). -/
def otpWatch (d : Dev) : Dev :=
  if d.key.otpOp.isSome ∧ d.key.otpLeft = 0 ∧ d.otpWindow ≠ 0 then modKey (fun s => { s with otpLeft := d.otpWindow }) d else d

/-- OTP_DONE: the operation ends after `n` words, fewer than it needs when the window was left (R324). -/
def otpDone (n : Nat) (d : Dev) : Dev :=
  match d.key.otpOp with
  | none => d
  | some (op, k) =>
    let need := d.otpNeeds op k
    let n := if d.key.otpLeft = 0 then n else min n (need - 1)
    let left := if d.key.otpLeft ≠ 0 then d.key.otpLeft else if d.otpWindow = 14 then 14 else 15
    let d := d |> otpProgram op k n |> setB KEY_OTP_CMD_busy false |> modKey (fun s => { s with otpOp := none, otpLeft := 0 })
    if n ≥ need then setB KEY_OTP_CMD_done true d else otpRefuse left (if op = 3 then 0xFF else k) d

/-- The svn advance begins (R306), at an entry to Ready; one that was interrupted goes on from the code it left (R326). -/
def svnAdvance (d : Dev) : Dev :=
  match d.key.active with
  | none => d
  | some i =>
    if !d.key.svnDue ∨ d.key.otpOp.isSome then d
    else if d.otpWindow ≠ 0 then otpRefuse d.otpWindow 0xFF d
    else d |> setB KEY_OTP_CMD_busy true |> modKey (fun s => { s with otpOp := some (3, i.svn) })

/-! ### Attestation (R327 to R329) -/

/-- Place of the attestation counter's records: 12 sectors. -/
def attBase : Nat := 0x34000

/-- The HSS public key (R327, RFC 8554): L = 2, then the top tree's: LMS_SHA256_M32_H15 and LMOTS_SHA256_N32_W8 as 7 and 4, and its I and T[1]. -/
def Dev.hssPublic (d : Dev) : List Nat := beBytes 4 2 ++ beBytes 4 7 ++ beBytes 4 4 ++ (d.otp.hssKey ++ List.replicate 48 0).take 48

/-- The bottom-tree public key of a boot: LMS_SHA256_M32_H10 as 6, LMOTS as 4, and its I and T[1]. -/
def bottomPublic (tree : Nat) : List Nat := beBytes 4 6 ++ beBytes 4 4 ++ (List.range 48).map fun i => Config.hssBottom tree i % 256

/-- An LMS signature (RFC 8554): the leaf, the one-time signature of 1,124 bytes, the type and the path of h nodes. -/
def lmsSignature (leaf ty h : Nat) (free : Nat → Nat) : List Nat :=
  beBytes 4 leaf ++ beBytes 4 4 ++ (List.range 1120).map (fun i => free i % 256) ++ beBytes 4 ty ++ (List.range (32 * h)).map fun i => free (1120 + i) % 256

/-- The HSS signature of a report (R327): Nspk = 1, the top tree's signature of the bottom public key, that key, and the bottom signature. -/
def hssSignature (top tree leaf : Nat) (body : List Nat) : List Nat :=
  beBytes 4 1 ++ lmsSignature top 7 15 (Config.hssTopSign top tree) ++ bottomPublic tree ++ lmsSignature leaf 6 10 (Config.hssSign tree leaf body)

/-- Is the node cache good: do the 32 nodes give the root of the public key (R328)? -/
def nodesGood (key nodes : List Nat) : Bool :=
  let ident := (key.drop 12).take 16
  let lvl : List (List Nat) := (List.range 32).map fun i => (nodes.drop (32 * i)).take 32
  let up : Nat → List (List Nat) → List (List Nat) := fun base l =>
    (List.range (l.length / 2)).map fun i =>
      sha256 (ident ++ beBytes 4 (base / 2 + i) ++ [0x83, 0x83] ++ l.getD (2 * i) [] ++ l.getD (2 * i + 1) [])
  (up 2 (up 4 (up 8 (up 16 (up 32 lvl))))).getD 0 [] == (key.drop 28).take 32

/-- Attestation is unavailable for this boot (R328). -/
def attUnavailable (cause : Nat) (d : Dev) : Dev := d |> setF KEY_ATT_STAT_cause cause |> raise 119 0xFF cause 0

/-- Attestation keys are ready (R328): a fresh bottom tree, signed with the top-tree leaf in KEY_ATT_LEAF. -/
def attestReady (d : Dev) : Dev :=
  d |> modKey (fun k => { k with tree := d.draws }) |> draw |> setF KEY_ATT_STAT_cause 0 |> setB KEY_STATUS_attest_ready true

/-- The counter record and its node cache are written (R328). -/
def attestCounter (c : Nat) (nodes : List Nat) (b : Blk) : Blk :=
  b |> onMem (recWrite 4 attBase 0x1000 12 (leBytes 4 c ++ nodes))

/-- ATTEST_PREPARE (R328), after firmware starts: `good` is the read-back of the counter record. While the node cache is rebuilt, cause reads
REBUILDING, and the next ATTEST_PREPARE is the end of that. -/
def attestPrepare (good : Bool) (b : Blk) : Blk :=
  let d := b.dev
  if d.running ∧ d.f KEY_ATT_STAT_cause = 4 then
    b |> attestCounter (d.f KEY_ATT_LEAF_leaf + 1) ((List.range 1024).map fun i => Config.hssNode d.otp.hssKey i % 256) |> onDev attestReady
  else if !d.running ∨ d.on KEY_STATUS_attest_ready ∨ d.f KEY_ATT_STAT_cause ≠ 0 ∨ d.f KEY_ATT_STAT_used ≠ 0 then b
  else
    let rec_ := if d.key.storeAbsent then none else b.mem.recNewest 4 attBase 0x1000 12
    let pay := match rec_ with | some i => b.mem.recPayload (attBase + 0x1000 * i) | none => []
    let cs := ofLe (pay.take 4)
    let ok := rec_.isSome
    let blocks := d.otp.blocks
    let c := if ok then max cs (if blocks > 0 then (blocks - 1) * 256 else 0) else blocks * 256
    if blocks = 128 ∧ (!ok ∨ cs ≥ 32768) then onDev (attUnavailable 3) b
    else if c ≥ blocks * 256 ∧ d.otpWindow ≠ 0 then
      onDev (fun d => d |> otpRefuse d.otpWindow 0xFF |> attUnavailable 1) b
    else
      let b := if c ≥ blocks * 256 then
          onDev (fun d => d |> modOtp (fun o => { o with blocks := blocks + 1 }) |> otpRecordFree |> refreshOtp) b
        else b
      if d.key.storeAbsent ∨ !good then onDev (attUnavailable 2) b
      else
        let old := (pay.drop 4).take 1024
        b |> attestCounter (c + 1) old |> onDev (setF KEY_ATT_LEAF_leaf c)
          |> onDev (if nodesGood d.hssPublic old then attestReady else setF KEY_ATT_STAT_cause 4)

/-- ATTEST (R329): the report is built and signed; a request while one is being built is ignored. -/
def attest (d : Dev) : Dev :=
  if d.key.building.isSome then d
  else if !d.on KEY_STATUS_attest_ready then (if d.f KEY_ATT_STAT_used = 1024 then keyRefuse 18 0 d else d)
  else
    let a := d.key.active.getD {}
    let leaf := d.f KEY_ATT_STAT_used
    let body := [0x4C, 0x4D, 0x41, 0x54] ++ leBytes 4 0xB1 ++ d.otp.devId ++ a.hash ++ leBytes 4 a.seq ++ leBytes 2 a.svn ++
      leBytes 2 leaf ++ d.seals.pubSeal ++ leBytes 4 d.seals.pubEpoch ++ leBytes 4 d.nt ++
      (List.range 8).flatMap fun i => leBytes 4 (d.f (KEY_ATT_NONCE_data i))
    d |> modKey (fun k => { k with building := some (body ++ hssSignature (d.f KEY_ATT_LEAF_leaf) d.key.tree leaf body) }) |> setF KEY_ATT_STAT_used (leaf + 1)
      |> onlyIf (leaf + 1 == 1024) (setB KEY_STATUS_attest_ready false)

/-- REPORT_DONE (R329): the window is complete. -/
def reportDone (d : Dev) : Dev :=
  match d.key.building with
  | none => d
  | some l =>
    d |> modKey (fun k => { k with building := none, report := (List.range l.length).foldl (fun m i => smPut 0 i (l.getD i 0) m) [] })
      |> setB KEY_ATT_STAT_done true

/-! ### Registers -/

/-- What a host write to the KEY block does beyond its access codes. -/
def keyWriteAfter (off val : Nat) (b : Blk) : Blk :=
  if off = 0x400010 then
    let b := if val.testBit 0 then onDev offer b else b
    if val.testBit 1 then onDev attest b else b
  else if off = 0x400028 then
    let b := if val.testBit 0 then (stageOpen 1 b).2 else b
    let b := if val.testBit 1 then (stageClose 1 b).2 else b
    let b := if val.testBit 2 then (stageAbort 1 b).2 else b
    if val.testBit 3 then (stageClear 1 b).2 else b
  else if off = 0x400030 then onDev (otpStart (bits val 3 0) (bits val 7 6)) b
  else b

/-- KEY_OFFER_LO bits 5:0 read 0 (R331). -/
def keySubst (off val : Nat) : Nat := if off = 0x400008 then val / 64 * 64 else val

end Sys2Proof.Machine
end

