-- ==== Sys2Proof/Machine/Piers.lean ====
section
/-!
DEFINITION. Piers as a whole: bays passing down to Off, the piers losing and regaining power (R101, R130, R375, R395, R396).
-/
namespace Sys2Proof.Machine

/-- Bay b passes down to Off (R101): its run and its capture end, its synthesiser stops. -/
def bayDown (b : Nat) (d : Dev) : Dev :=
  d |> calAbandon b |> captureDiscard b |> leaveRf b |> synthStop b |> setF (BAY_FE_STAT_state b) 0 |> setF (BAY_FE_STAT_target b) 0
    |> setB (BAY_FE_STAT_in_transition b) false |> setB (BAY_CAL_STAT_running b) false |> modBay b (fun s => { s with dest := 0 })

/-- A bay in an RF state, or on its way to one, turns round to Warm; every calibration run is abandoned (R101, R394). A register request
that waits is still refused at its boundary (R99, R102). -/
def bayToWarm (b : Nat) (d : Dev) : Dev :=
  let d := calAbandon b d
  if d.fe b ≥ 3 || (d.inTurn b && decide (d.feTarget b ≥ 3)) then turnToWarm b d else d

/-- The piers are powered down: every bay is Off, register requests, awaited results, expansions and steps of the adaptation loop are
lost, loads are abandoned. -/
def piersDown (d : Dev) : Dev :=
  d |> forAll (List.range 8) (fun b d => d |> bayDown b |> modBay b (fun s => { s with req := none }) |> setB (BAY_FE_STAT_held b) false
        |> calDrop b (fun _ => true) |> modObs b (fun s => { s with exp := none }) |> setB (BAY_OBS_STAT_exp_busy b) false
        |> forAll (bayPaths b) (fun n => modDpd n fun s => { s with step := 0 }))
    |> dpdModeSettled
    |> railAbandon |> fun d => { d with ps := { d.ps with piersOff := true } }

/-- Every path that the committed map makes active in a direction. -/
def Dev.activePaths (d : Dev) : List Nat := (List.range 64).filter fun n => d.map.txActive n || d.map.rxActive n

/-- A chain is set from its record, then its shifts are written back from the deck's copy (R130, R396). -/
def chainPowerUp (n dir : Nat) (d : Dev) : Dev :=
  let shifts := (shiftFlds n dir).map fun x => (x, d.f x)
  d |> loadChain n dir |> forAll shifts (fun x d => d |> setF x.1 x.2 |> setForced x.1 x.2)

/-- The basis tables, the fourth part of the manifest in force, are loaded into every pier (R145, R308). -/
def basisLoad (b : Blk) : Blk :=
  let r := loadWords (b.dev.key.matched.getD 3 (0, 0)).1 512 b
  onDev (fun d => { d with basis := ((List.range 4096).zip r.1).filter fun x => x.2 != 0 }) r.2

/-- The piers are powered up (R396): records and registers from the deck's copies, trims from their records, responses, LUTs and
rail weights as at any pier power-up, then SYNC of both spans. -/
def piersUp (b : Blk) : Blk :=
  let b := b |> onDev (fun d => { d with ps := { d.ps with piersOff := false } }) |> basisLoad
  let b := (List.range 8).foldl (fun b k => calPowerUp k b) b
  onDev (fun d => d
    |> forAll (List.range 4) (fun p d => d |> rstF (PIER_XING_corrected p) |> rstF (PIER_XING_uncorrected p))
    |> forAll (List.range 64) railReset
    |> forAll d.activePaths (fun n d => d |> chainPowerUp n 0 |> chainPowerUp n 1
        |> onlyIf (d.map.modelled n) (dpdInstallLinear n))
    |> syncSpan 0 |> syncSpan 1) b

/-- Paths of a bay shed together in the TX direction (R372). -/
def shedBayTx (b : Nat) (d : Dev) : Dev :=
  d |> capShed b (d.f (BAY_ACTIVE_tx_active b))
    |> modBay b (fun s => { s with shedTx := s.shedTx ||| d.f (BAY_ACTIVE_tx_active b) }) |> refreshLive b

end Sys2Proof.Machine
end

