-- ==== Sys2Proof/Machine/Truss.lean ====
section
/-!
DEFINITION. Truss engines: assignment, jobs, faults and migration (chapter 08, R189 to R219). The instructions are in
TrussOps.lean.
-/
namespace Sys2Proof.Machine

def modTr (g : TrussSt → TrussSt) (d : Dev) : Dev := { d with tr := g d.tr }
def setEng (e : Nat) (x : EngSt) (d : Dev) : Dev := modTr (fun t => { t with eng := smPut {} e x t.eng }) d
def modEng (e : Nat) (g : EngSt → EngSt) (d : Dev) : Dev := setEng e (g (d.eng e)) d

/-! ### Engine states and the map (R192) -/

/-- TRUSS_STAT and the queue length that TRUSS_ENGe_STAT shows follow the engine. -/
def refreshEng (e : Nat) (d : Dev) : Dev :=
  d |> setF (TRUSS_ENG_STAT_queue e) (d.eng e).jobs.length
    |> (if d.engState e = 4 then setBitF TRUSS_STAT_failed e else clrBitF TRUSS_STAT_failed e)
    |> (if d.engState e = 3 then setBitF TRUSS_STAT_spare e else clrBitF TRUSS_STAT_spare e)

def setEngState (e st : Nat) (d : Dev) : Dev := d |> setF (TRUSS_ENG_STAT_state e) st |> refreshEng e

/-- Map logical l to physical e. -/
def setPhys (l e : Nat) (d : Dev) : Dev :=
  d |> (if l < 8 then setF TRUSS_MAP_LO_map (putBits (d.f TRUSS_MAP_LO_map) (4 * l + 3) (4 * l) e)
        else setF TRUSS_MAP_HI_map (putBits (d.f TRUSS_MAP_HI_map) (4 * (l - 8) + 3) (4 * (l - 8)) e))
    |> setF (TRUSS_ENG_STAT_logical e) l

/-- The logical number that physical engine e serves; none when another engine serves it. -/
def Dev.serves (d : Dev) (e : Nat) : Option Nat :=
  let l := d.f (TRUSS_ENG_STAT_logical e)
  if d.phys l = e then some l else none

/-- The state of a loaded engine that has no job (R192); a reinstated one is a spare until a commit (R217). -/
def Dev.restState (d : Dev) (e : Nat) : Nat :=
  if (d.eng e).spared then 3
  else match d.serves e with
  | some l => if d.assigned l 0 ≠ 0 then 1 else if (d.assigned l 1).testBit 0 then 3 else 6
  | none => 6

/-- An engine without a job settles in its state; in Rest one with classes or the spare flag is STOPPED, and settles on leaving (R212). -/
def settleEng (e : Nat) (d : Dev) : Dev :=
  if (d.engState e = 1 ∨ d.engState e = 2 ∨ d.engState e = 3 ∨ d.engState e = 6) ∧ (d.eng e).jobs.isEmpty then
    if d.inRest ∧ d.restState e ≠ 6 then d |> modEng e (fun x => { x with before := d.restState e }) |> setEngState e 5
    else setEngState e (d.restState e) d
  else refreshEng e d

/-- CAL_RESULT while calibration runs (R191, R232): in hardware mode without an engine of class ACAL no result is computed, and the awaited
one is abandoned. -/
def calServed (b : Nat) (ref : CalMeas) (l : List CalOutcome) (blk : Blk) : Blk :=
  let host := match (blk.dev.calBay b).awaits with | a :: _ => a.host | [] => true
  if host || blk.dev.classServed 1 then calResult b ref l blk else onDev (calDrop b fun a => (blk.dev.calBay b).awaits.head? == some a) blk

/-! ### Descriptors (R206) -/

/-- Word w of job descriptor j. -/
def Dev.descWord (d : Dev) (j w : Nat) : Nat := smGet 0 (16 * j + w) d.tr.desc
def setDescWord (j w v : Nat) (d : Dev) : Dev := modTr (fun t => { t with desc := smPut 0 (16 * j + w) (w32 v) t.desc }) d

/-- Is a descriptor's job queued or running? -/
def Dev.descBusy (d : Dev) (j : Nat) : Bool := (d.tr.eng.any fun x => x.2.jobs.contains j) || d.tr.mig.any fun m => m.jobs.contains j

/-- JOB_DESCRIPTOR_WRITE (R206): a write to the descriptor of a queued or running job counts, whoever makes it. -/
def descWrite (org : Origin) (j w v : Nat) (d : Dev) : Dev :=
  if d.descBusy j then incF TRUSS_REFUSE_count d
  else if org == .host && decide (j < 128) then d
  else setDescWord j w v d

/-! ### Completions and migration (R210, R214, R216) -/

/-- The mode of uplink weights settles once no job of its class is left (R25). -/
def ulwModeSettled (d : Dev) : Dev :=
  if d.fb SPAN_ADAPT_MODE_pending 2 && !d.jobOf 2 then clrBitF SPAN_ADAPT_MODE_pending 2 d else d

/-- A descriptor's completion on engine e: result when the program wrote one, then status (R210). -/
def writeStatus (e j status : Nat) (result : Option Nat) (d : Dev) : Dev :=
  let seq := (d.eng e).seq + 1
  let d := match result with | some r => setDescWord j 14 r d | none => d
  d |> setDescWord j 15 (status + 256 * e + 65536 * (seq % 65536)) |> modEng e (fun x => { x with seq := seq })
    |> setF (TRUSS_ENG_STAT_last_status e) status
    |> incF (if status = 1 then TRUSS_ENG_COUNT_done e else TRUSS_ENG_COUNT_failed e)
    |> onlyIf (decide (128 ≤ j) && d.descByte j 3 % 2 == 1) (raise 111 e 0 j)

/-- A fit on engine e ends without a result: the iterations of its bays that wait for one end (R25, R156). -/
def fitLost (e : Nat) (d : Dev) : Dev :=
  let bays := match d.serves e with | some l => d.assigned l 6 | none => 0
  forAll ((List.range 64).filter fun n => bays.testBit (bayOf n)) (fun n => modDpd n fun s => { s with step := if s.step = 2 then 0 else s.step }) d

/-- The lowest-numbered spare that no migration has taken (R214). -/
def Dev.freeSpare (d : Dev) : Option Nat :=
  (List.range 16).find? fun e => d.engState e == 3 && !d.tr.mig.any fun m => m.spare == e

/-- No spare is left for logical l's work: its jobs end ABORTED, with E108 (R216). -/
def abortJobs (failed : Nat) (jobs : List Nat) (d : Dev) : Dev :=
  d |> forAll jobs (fun j => writeStatus failed j 6 none) |> onlyIf (jobs.any fun j => d.descByte j 2 == 0) (fitLost failed)
    |> raise 108 failed 0 0 |> ulwModeSettled |> dpdModeSettled

/-- Logical l's work goes to a spare at the next slot boundary, or ends when there is none (R214, R216). -/
def migrate (l failed : Nat) (jobs : List Nat) (d : Dev) : Dev :=
  match d.freeSpare with
  | some s => modTr (fun t => { t with mig := t.mig ++ [⟨l, s, d.nextSlot false leadTicks, jobs⟩] }) d
  | none => abortJobs failed jobs d

/-- Migrations whose spare is no longer one take another (R216). -/
def redirectMigs (d : Dev) : Dev :=
  let lost := d.tr.mig.filter fun m => d.engState m.spare != 3
  d |> modTr (fun t => { t with mig := t.mig.filter fun m => !lost.contains m })
    |> forAll lost fun m => migrate m.logical (d.phys m.logical) m.jobs

/-! ### Commits and Rest (R192, R212) -/

/-- The release of a commit (R192, R216): a logical number whose own engine works is served by it again, unless the engine that serves it
holds a job; engines without a job settle, and a migration whose spare the commit took goes elsewhere. Engines with a job keep their
assignment until it ends. -/
def trussCommit (before : List (List Nat)) (d : Dev) : Dev :=
  d |> forAll (List.range 16) (fun l d =>
        let busy : Bool := match d.serves l with
          | some m => m != l && (d.engState m == 4 || !(d.eng l).jobs.isEmpty)
          | none => false
        if d.engState l = 4 ∨ d.serves l = some l ∨ busy ∨ !(d.eng (d.phys l)).jobs.isEmpty ∨ (d.tr.mig.any fun m => m.logical == l) then d
        else setPhys l l d)
    |> forAll (List.range 16) (fun e d =>
        match d.serves e with
        | some l =>
          if (d.eng e).jobs.isEmpty ∨ (d.eng e).old.isSome then d
          else modEng e (fun x => { x with old := some (before.getD l []) }) d
        | none => d)
    |> forAll (List.range 16) (fun e d => if (d.serves e).isSome then modEng e (fun x => { x with spared := false }) d else d)
    |> forAll (List.range 16) settleEng |> redirectMigs

/-- The committed assignments, by logical engine. -/
def Dev.assignments (d : Dev) : List (List Nat) := (List.range 16).map fun l => (List.range 7).map fun i => d.assigned l i

/-- Rest stops the clocks (R212), and leaving Rest starts them again. -/
def trussStop (d : Dev) : Dev :=
  forAll (List.range 16) (fun e d =>
    if d.engState e = 0 ∨ d.engState e = 4 ∨ d.engState e = 6 ∨ d.engState e = 5 then d
    else d |> modEng e (fun x => { x with before := d.engState e }) |> setEngState e 5) d
def trussResume (d : Dev) : Dev :=
  forAll (List.range 16) (fun e d =>
    if d.engState e = 5 then d |> setEngState e (d.eng e).before |> modEng e (fun x => { x with before := 0 }) |> settleEng e else d) d

/-- Is a job queued or running (R212)? -/
def Dev.trussBusy (d : Dev) : Bool := (d.tr.eng.any fun x => !x.2.jobs.isEmpty) || d.tr.mig.any fun m => !m.jobs.isEmpty

/-! ### Microcode (R193) -/

/-- UCODE_LOAD: the loader checks the truss microcode part in deck SRAM against the active manifest and writes it to the program memory
of every engine that is not FAILED; `dir` is the directory of up to 256 programs that the image holds. -/
def ucodeLoad (dir : List TrussProg) (major minor : Nat) (b : Blk) : Blk :=
  let d := b.dev
  if !d.running then b
  else
    let dst := d.key.matched.getD 2 (0, 0)
    let hash := match (d.key.active.getD {}).parts.find? fun p => p.ty == 3 with | some p => p.hash | none => []
    let b := b |> touchRange 1 dst.1 (dst.2 / 8) |> errorResps dst.1 (dst.2 / 8)
    let image := b.read8 dst.1 (dst.2 / 8)
    let okay := b.readable dst.1 (dst.2 / 8) && sha256 image == hash
    let dir := dir.take 256
    onDev (fun d =>
      if okay then
        d |> modTr (fun t => { t with dir := dir }) |> forAll (List.range 16) (fun e d =>
              if d.engState e = 4 then d else modEng e (fun x => { x with pm := image.take 131072 }) d)
            |> setB TRUSS_UCODE_VER_loaded true |> setB TRUSS_UCODE_VER_hash_fail false
          |> setF TRUSS_UCODE_VER_major major |> setF TRUSS_UCODE_VER_minor minor |> setF TRUSS_UCODE_VER_programs (dir.length - 1)
          |> forAll (List.range 16) (fun e d => if d.engState e = 0 then d |> setF (TRUSS_ENG_STAT_logical e) e
              |> setEngState e (d.restState e) else d)
          |> forAll (List.range 16) (fun e d => if d.engState e = 6 then setEngState e (d.restState e) d else d)
      else
        d |> setB TRUSS_UCODE_VER_loaded false |> setB TRUSS_UCODE_VER_hash_fail true
          |> forAll (List.range 16) (fun e d => if d.engState e = 4 then d else d |> modEng e (fun x => { x with pm := [] })
              |> setEngState e 0) |> raise0 106) b

/-! ### Dispatch (R207, R208) -/

/-- A dispatch is refused. -/
def jobRefuse (l j reason : Nat) (d : Dev) : Dev :=
  d |> setDescWord j 15 (putBits (d.descWord j 15) 3 0 5) |> incF TRUSS_REFUSE_count |> setF TRUSS_REFUSE_desc j
    |> setF TRUSS_REFUSE_reason reason |> raise (if reason = 1 then 110 else 105) l reason 0

/-- Is a job of class c refused by the mode (R191)? A job is a new operation, which the new mode governs while the old one is pending; but a
fit or a result that a running operation awaits is a part of it, and the old mode governs it (R25). -/
def Dev.jobMode (d : Dev) (c : Nat) : Bool :=
  let awaited := (c = 0 ∧ (List.range 64).any fun n => (d.dpdSt n).step == 1 || (d.dpdSt n).step == 2) ∨
    (c = 1 ∧ (List.range 8).any fun b => (d.bay b).cal.isSome || !(d.calBay b).awaits.isEmpty)
  if awaited then d.hostMode c else d.on (modeFld c)

/-- The reason a dispatch is refused for, in the order of R208; 0: none. -/
def Dev.jobCheck (d : Dev) (org : Origin) (l j : Nat) : Nat :=
  let e := d.phys l
  let mig := d.tr.mig.find? fun m => m.logical == l
  let c := d.descByte j 2
  let prog := d.tr.dir[d.descByte j 0 + 256 * d.descByte j 1]?
  let queued := match mig with | some m => m.jobs.length | none => (d.eng e).jobs.length
  if !(d.inReady || d.inActive) then 9
  else if !d.on TRUSS_UCODE_VER_loaded then 5
  else if mig.isNone ∧ (d.engState e = 4 ∨ d.serves e ≠ some l ∨ (d.engState e = 3 ∧ d.assigned l 0 ≠ 0)) then 6
  else if c > 3 ∨ !(d.assigned l 0).testBit c then 2
  else if org == .host && (decide (j < 128) || c != 3 || !d.on TRUSS_CFG_host_jobs) then 4
  else if c ≠ 3 ∧ d.jobMode c then 3
  else match prog with
    | none => 8
    | some p =>
      if p.cls ≠ c then 8
      else if d.descWord j 3 + p.need > 262144 ∨ d.descWord j 1 % 65536 = 0 then 7
      else if queued ≥ 8 then 1 else 0

/-- A dispatch to logical engine l of descriptor j. True: accepted. -/
def trussDispatch (org : Origin) (l j : Nat) (d : Dev) : Dev × Bool :=
  let r := d.jobCheck org l j
  if r ≠ 0 then (jobRefuse l j r d, false)
  else
    let d := setDescWord j 15 0 d
    if d.tr.mig.any fun m => m.logical == l then
      (modTr (fun t => { t with mig := t.mig.map fun m => if m.logical = l then { m with jobs := m.jobs ++ [j] } else m }) d, true)
    else
      let e := d.phys l
      (d |> modEng e (fun x => { x with queue := x.queue ++ [j] }) |> refreshEng e, true)

/-! ### Jobs (R209, R210) -/

/-- The calibration run whose result an ACAL job on engine e computes (R226): the one that has waited longest without an engine. -/
def claimAwait (e : Nat) (d : Dev) : Dev :=
  let free := fun (a : CalAwait) => !a.host && a.eng.isNone
  let waits := (List.range 8).flatMap fun b => ((d.calBay b).awaits.filter free).map fun a => (b, a.since)
  match waits with
  | [] => d
  | w :: r =>
    let x := r.foldl (fun best x => if x.2 < best.2 then x else best) w
    modCalBay x.1 (fun c => { c with awaits := c.awaits.map fun a => if free a && a.since == x.2 then { a with eng := some e } else a }) d

/-- An ACAL job on engine e ends: its result is computed (16), or waits for another job. -/
def computedAwait (e status : Nat) (d : Dev) : Dev :=
  let upd : CalAwait → CalAwait := fun a => if a.eng = some e then { a with eng := if status = 1 then some 16 else none } else a
  forAll (List.range 8) (fun b => modCalBay b fun c => { c with awaits := c.awaits.map upd }) d

/-- The running job of engine e ends with a status. -/
def endJob (e status : Nat) (result : Option Nat) (d : Dev) : Dev :=
  match (d.eng e).run with
  | none => d
  | some r =>
    let d := d |> writeStatus e r.desc status result |> onlyIf (status != 1 && d.descByte r.desc 2 == 0) (fitLost e)
      |> onlyIf (d.descByte r.desc 2 == 1) (computedAwait e status)
      |> setF (TRUSS_ENG_CYC_busy e) (d.f (TRUSS_ENG_CYC_busy e) + (d.now - r.start) * 5 / 4)
      |> modEng e (fun x => { x with run := none, old := none, loops := [], calls := [] })
    let d := if (d.eng e).queue.isEmpty then settleEng e d else refreshEng e d
    d |> ulwModeSettled |> dpdModeSettled

/-- A read of the engine's port met a poisoned word (R211). -/
def jobMemErr (e : Nat) (d : Dev) : Dev := d |> errorResp |> raise 107 e 0 0 |> endJob e 4 none

/-- Words of deck SRAM go into local memory through the port: false when one of them is poisoned. -/
def portRead (e lm a n : Nat) (b : Blk) : Blk × Bool :=
  let w := a / 8 * 8
  let k := (a + 4 * n + 7) / 8 - a / 8
  let b := touchRange 1 w k b
  if b.readable w k then
    let x := b.dev.eng e
    let l := (List.range n).foldl (fun m i => smPut 0 ((lm + i) % 65536) (b.rd32 (a + 4 * i)) m) x.lm
    (onDev (setEng e { x with lm := l }) b, true)
  else (b, false)

/-- JOB_START (R209): the job at the head of the queue starts and its input is moved in. -/
def jobStart (e : Nat) (b : Blk) : Blk :=
  let x := b.dev.eng e
  let st := b.dev.engState e
  if x.run.isSome ∨ (st ≠ 1 ∧ st ≠ 2) then b
  else match x.queue with
    | [] => b
    | j :: q =>
      let p := (b.dev.tr.dir[b.dev.descByte j 0 + 256 * b.dev.descByte j 1]?).getD ⟨0, 0, 0, false⟩
      let y : EngSt := { x with
        queue := q, run := some ⟨j, b.dev.now, p.trap, none⟩, bx := 15, rrb := 0, loops := [], calls := [], pc := p.entry
        quarters := [], cyc := 0, ready := [], loads := [], ags := [], trap := false }
      let b := onDev (fun d => d |> setEng e y |> setF (TRUSS_ENG_STAT_job e) j |> setEngState e 2
        |> setF (TRUSS_ENG_OVF_acc_ovf e) 0 |> setF (TRUSS_ENG_OVF_circ_resize e) 0
        |> onlyIf (d.descByte j 2 == 1) (claimAwait e)) b
      let r := portRead e 0 (b.dev.descWord j 2) (b.dev.descWord j 3 / 4) b
      if r.2 then r.1 else onDev (jobMemErr e) r.1

/-- JOB_END (R210): the program has halted; it wrote `result`. A predistorter fit is one of a path whose bay the engine fits (R189). -/
def jobEnd (e result : Nat) (fit : Option FitResult) (d : Dev) : Dev :=
  match (d.eng e).run with
  | some ⟨j, _, _, some st⟩ =>
    let bays := match d.serves e with | some l => d.assigned l 6 | none => 0
    let isFit := d.descByte j 2 == 0 && st == 1
    let d := endJob e st (some result) d
    match fit with | some r => onlyIf (isFit && bays.testBit (bayOf r.path)) (dpdFit r) d | none => d
  | _ => d

/-- JOB_TIMEOUT (R209): the budget of the running job expires. -/
def jobTimeout (e : Nat) (d : Dev) : Dev :=
  match (d.eng e).run with
  | some r => d |> passTo (r.start + usTicks (d.descWord r.desc 1 % 65536)) |> raise 104 e 0 0 |> endJob e 3 none
  | none => d

/-! ### Faults and migration (R213 to R217) -/

/-- A fault abandons the calibration results that the failed engine's running job computes (R215, R226). -/
def abandonAwaits (e : Nat) (d : Dev) : Dev :=
  forAll (List.range 8) (fun b => calDrop b fun a => a.eng == some e) d

/-- An engine stops on a fault (R213, R215): its logical number's work migrates, and so does a migration that was on its way to it. With
no spare left E108 is raised, whatever the engine served (R216). -/
def trussFault (e cause : Nat) (d : Dev) : Dev :=
  let st := d.engState e
  if st = 4 ∨ st = 0 then d
  else
    let x := d.eng e
    let d := d |> setF (TRUSS_ENG_STAT_fault_cause e) cause
      |> setEng e { x with run := none, queue := [], loops := [], calls := [], loads := [], ags := [], trap := false }
      |> onlyIf x.run.isSome (fun d => setF (TRUSS_ENG_CYC_busy e)
          (d.f (TRUSS_ENG_CYC_busy e) + (d.now - (match x.run with | some r => r.start | none => d.now)) * 5 / 4) d)
      |> setEngState e 4 |> raise 102 e cause 0 |> abandonAwaits e |> redirectMigs
    (match (if x.spared then none else d.serves e) with
     | some l => migrate l e x.jobs d
     | none => onlyIf d.freeSpare.isNone (raise 108 e 0 0) d) |> ulwModeSettled |> dpdModeSettled

/-- The spare of a migration starts to serve: IDLE until its next job starts, or, in Rest, STOPPED with that state held (R192, R212). -/
def adoptEng (s : Nat) (d : Dev) : Dev :=
  if d.engState s = 5 then modEng s (fun x => { x with before := 1 }) d else d |> setEngState s 1 |> settleEng s

/-- TRUSS_MIGRATED (R214): the spare takes over at its slot boundary. -/
def trussMigrated (d : Dev) : Dev :=
  match d.tr.mig with
  | [] => d
  | m :: r =>
    let kept := (d.eng (d.phys m.logical)).old
    d |> passTo m.due |> modTr (fun t => { t with mig := r }) |> setPhys m.logical m.spare
      |> modEng m.spare (fun x => { x with queue := m.jobs, old := if m.jobs.isEmpty then none else kept, spared := false })
      |> adoptEng m.spare |> raise 103 m.logical 0 m.spare

/-- REINSTATE (R217). -/
def reinstate (e : Nat) (d : Dev) : Dev :=
  if !d.inReady then setF TRUSS_REFUSE_reason 9 d
  else if d.engState e = 4 then modTr (fun t => { t with reinst := t.reinst ||| 1 <<< e }) d
  else d

/-- REINSTATE_DONE (R217): the reload from the verified image and the test of an engine end. A spare reinstated in Rest is STOPPED
(R212). -/
def reinstateDone (e : Nat) (pass : Bool) (b : Blk) : Blk :=
  if b.dev.tr.reinst.testBit e then
    let dst := b.dev.key.matched.getD 2 (0, 0)
    let r := loadWords dst.1 (dst.2 / 8) b
    onDev (fun d => d |> modTr (fun t => { t with reinst := t.reinst - 2 ^ e })
      |> onlyIf pass (fun d => d |> setF (TRUSS_ENG_STAT_fault_cause e) 0
          |> modEng e (fun x => { seq := x.seq, pm := r.1.take 131072, spared := true, before := if d.inRest then 3 else 0 })
          |> setEngState e (if d.inRest then 5 else 3))) r.2
  else b

/-- What a write to the TRUSS block does beyond its access codes. -/
def trussWriteAfter (org : Origin) (off val : Nat) (d : Dev) : Dev :=
  if off = 0xA00008 then (trussDispatch org (bits val 3 0) (bits val 15 8) d).1
  else if off = 0xA0000C ∧ val.testBit 8 then reinstate (bits val 3 0) d
  else d

end Sys2Proof.Machine
end

