-- ==== Sys2Proof/Machine/Housekeeping.lean ====
section
/-!
DEFINITION. Housekeeping (chapter 14, R359 to R388): the ADC and its limits, the parapet, the stay outputs and the check
units. Temperatures are in 0.125 °C.
-/
namespace Sys2Proof.Machine

def modHk (g : HkSt → HkSt) (d : Dev) : Dev := { d with hk := g d.hk }

/-! ### The ADC (R359 to R365) -/

/-- Clamp to 12 bits. -/
def sat12 (v : Int) : Nat := (max 0 (min 4095 v)).toNat

/-- The corrected result of channel c from its raw code (R362); internal channels carry their trims already. -/
def Dev.hkValue (d : Dev) (c raw : Nat) : Nat :=
  if c < 96 then
    let off := signed 8 (d.f (HK_GRP_CAL_offset (c / 8)))
    sat12 ((((raw : Int) - off) * d.f (HK_GRP_CAL_gain (c / 8)) + 16384) / 32768)
  else min raw 4095

def Dev.hkLim (d : Dev) (c : Nat) : HkLim := smGet {} c d.hk.lims
def setHkLim (c : Nat) (l : HkLim) (d : Dev) : Dev := modHk (fun h => { h with lims := smPut {} c l h.lims }) d

/-- A limit trips (R364). -/
def hkTrip (c : Nat) (high : Bool) (d : Dev) : Dev :=
  let act := d.f (HK_LIM_action c)
  d |> setB (if high then HK_CH_lim_hi c else HK_CH_lim_lo c) true |> setHkLim c {}
    |> onlyIf (act == 2 && decide (c < 64)) (pathFault c 6)
    |> onlyIf (act == 1 || act == 3 || (act == 2 && decide (64 ≤ c))) (raise 55 c 0 0)

/-- A conversion of channel c is compared with its limits (R364). -/
def hkLimit (c v : Nat) (d : Dev) : Dev :=
  let persist := max 1 (d.f (HK_LIM_persist c))
  let l := d.hkLim c
  let tripped := d.on (HK_CH_lim_hi c) || d.on (HK_CH_lim_lo c)
  let high := decide (v > d.f (HK_LIM_high c))
  let low := decide (v < d.f (HK_LIM_low c))
  if !d.on HK_CFG_lim_en || d.on (HK_CH_cal c) then d
  else if d.on (HK_LIM_gate c) && decide (c < 64) && !d.txOn (bayOf c) then setHkLim c { l with bad := 0 } d
  else if high || low then
    if tripped then setHkLim c ⟨0, 0⟩ d
    else if l.bad + 1 ≥ persist then hkTrip c high d
    else setHkLim c ⟨l.bad + 1, 0⟩ d
  else if tripped then
    if l.good + 1 ≥ persist then d |> setHkLim c {} |> setB (HK_CH_lim_hi c) false |> setB (HK_CH_lim_lo c) false
    else setHkLim c ⟨0, l.good + 1⟩ d
  else setHkLim c {} d

/-- Does a conversion of channel c count towards a mean: of the first 64 of a measured group (R362), or of a sensor's round (R366)? -/
def HkSt.takes (h : HkSt) (c : Nat) : Bool :=
  (h.measuring != 0 && h.calGroup == some (c / 8) && decide ((smGet (0, 0) c h.acc).2 < 64)) || decide (96 ≤ c ∧ c < 152)

/-- A raw code counts. -/
def HkSt.take (c raw : Nat) (h : HkSt) : HkSt :=
  let a := smGet (0, 0) c h.acc
  if h.takes c then { h with acc := smPut (0, 0) c (a.1 + raw, a.2 + 1) h.acc } else h

/-- HK_CONVERSION (R360): the next channel in order converts to a raw code. -/
def hkConversion (raw : Nat) (d : Dev) : Dev :=
  if !d.deckUp then d
  else
    let c := d.hk.next
    let v := d.hkValue c raw
    d |> setF (HK_CH_value c) v |> hkLimit c v |> modHk (fun h => { h.take c (min raw 4095) with next := (c + 1) % 160 })
      |> onlyIf (c == 159) (fun d => setF HK_STAT_cycles (d.f HK_STAT_cycles + 1) d) |> otpWatch

/-- URGENT_REQUEST (R361). -/
def urgentRequest (ch : Nat) (d : Dev) : Dev :=
  if d.hk.urgent.isSome ∨ ch > 159 then incF HK_STAT_urgent_refused d else modHk (fun h => { h with urgent := some ch }) d

/-- URGENT_CONVERSION (R361). -/
def urgentConversion (raw : Nat) (d : Dev) : Dev :=
  match d.hk.urgent with
  | none => d
  | some c =>
    d |> modHk (fun h => { h with urgent := none }) |> setF HK_URG_RES_ch c |> setF HK_URG_RES_value (d.hkValue c raw)
      |> setB HK_URG_RES_done true

/-! ### System calibration (R362, R363) -/

/-- The channels of group g mark themselves as under calibration, or not. -/
def hkCalMark (g : Nat) (on : Bool) (d : Dev) : Dev := forAll (List.range 8) (fun i => setB (HK_CH_cal (8 * g + i)) on) d

/-- The measurements held are discarded. -/
def hkCalDrop (d : Dev) : Dev :=
  let d := match d.hk.calGroup with | some g => hkCalMark g false d | none => d
  modHk (fun h => { h with calGroup := none, measuring := 0, zero := none, full := none }) d

/-- A step names group g: another group's measurements are discarded. -/
def hkCalFor (g : Nat) (d : Dev) : Dev :=
  let d := if d.hk.calGroup = some g then d else hkCalDrop d
  d |> modHk (fun h => { h with calGroup := some g, acc := h.acc.filter fun x => 96 ≤ x.1 }) |> setF HK_CAL_STAT_group g
    |> setF HK_CAL_STAT_status 1

def hkCalZero (g : Nat) (d : Dev) : Dev :=
  if g > 11 then d else d |> hkCalFor g |> modHk (fun h => { h with measuring := 1 }) |> hkCalMark g true
def hkCalFull (g fs : Nat) (d : Dev) : Dev :=
  if g > 11 then d else d |> hkCalFor g |> modHk (fun h => { h with measuring := 2, fs := fs })
def hkCalAbort (g : Nat) (d : Dev) : Dev :=
  if g > 11 then d else d |> hkCalDrop |> setF HK_CAL_STAT_status 6 |> setF HK_CAL_STAT_group g

/-- The sum of a list. -/
def total (l : List Nat) : Nat := l.foldl (· + ·) 0

/-- HK_CAL_MEASURE_DONE (R362): each channel of the group has converted 64 times, and the sums of its raw codes are kept. -/
def hkCalMeasureDone (d : Dev) : Dev :=
  let m := (List.range 8).map fun i => smGet (0, 0) (8 * d.hk.calGroup.getD 0 + i) d.hk.acc
  let s := m.map Prod.fst
  let mean := min 4095 ((total s + 256) / 512)
  if d.hk.measuring = 0 ∨ m.any (fun a => a.2 != 64) then d
  else if d.hk.measuring = 1 then
    d |> modHk (fun h => { h with measuring := 0, zero := some s }) |> setF HK_CAL_STAT_status 2 |> setF HK_CAL_STAT_zero_mean mean
  else d |> modHk (fun h => { h with measuring := 0, full := some s }) |> setF HK_CAL_STAT_status 3 |> setF HK_CAL_STAT_full_mean mean

/-- Does each channel's mean lie within 16 codes of the group's (R363)? -/
def spreadGood (s : List Nat) : Bool := s.all fun x => decide ((8 * (x : Int) - total s).natAbs ≤ 8192)

/-- COMPUTE (R362, R363): the offset and gain when they are plausible. -/
def Dev.hkComputed (d : Dev) (g : Nat) : Option (Nat × Nat) :=
  match d.hk.zero, d.hk.full with
  | some z, some f =>
    let diff := total f - total z
    let off := (total z + 256) / 512
    let gain := (2 * d.hk.fs * 32768 * 512 + diff) / (2 * diff)
    if d.hk.calGroup = some g ∧ d.hk.measuring = 0 ∧ total z + 2048 * 512 ≤ total f ∧ off ≤ 64 ∧ 0x7999 ≤ gain ∧ gain ≤ 0x8666 ∧
        spreadGood z ∧ spreadGood f then some (off, gain) else none
  | _, _ => none

/-- HK_GRPg_CAL goes into firmware's settings records (R363). -/
def hkCalKeep (b : Blk) : Blk := if !b.dev.running ∨ b.dev.key.fwStopped then b else settingsPut (hkCalRecord b.dev) b

def hkCalCompute (g : Nat) (b : Blk) : Blk :=
  if g > 11 then b
  else
    let r := b.dev.hkComputed g
    let b := onDev (fun d => d |> hkCalDrop |> setF HK_CAL_STAT_group g) b
    match r with
    | some (off, gain) =>
      b |> onDev (fun d => d |> setF (HK_GRP_CAL_offset g) off |> setF (HK_GRP_CAL_gain g) gain |> setF HK_CAL_STAT_status 4) |> hkCalKeep
    | none => onDev (fun d => d |> setF HK_CAL_STAT_status 5 |> raise 56 g 0 0) b

/-! ### The parapet: sensors (R366 to R368) -/

/-- The die of sensor i (4: the deck), its number in the die, and the die's columns. -/
def sensDie (i : Nat) : Nat := min 4 (i / 12)
def sensPos (i : Nat) : Nat := if i < 48 then i % 12 else i - 48
def dieCols (die : Nat) : Nat := if die < 4 then 6 else 4

/-- The sensors of a die. -/
def dieSensors (die : Nat) : List Nat := (List.range 56).filter fun i => sensDie i == die

/-- The neighbours of sensor i (R367). -/
def sensNeighbours (i : Nat) : List Nat :=
  let die := sensDie i
  let cols := dieCols die
  let row := fun (x : Nat) => sensPos x / cols
  let col := fun (x : Nat) => sensPos x % cols
  (dieSensors die).filter fun j => j != i && decide (row j ≤ row i + 1 ∧ row i ≤ row j + 1 ∧ col j ≤ col i + 1 ∧ col i ≤ col j + 1)

/-- Insert into a rising list of integers, and sort. -/
def insInt (x : Int) : List Int → List Int
  | [] => [x]
  | a :: r => if x ≤ a then x :: a :: r else a :: insInt x r
def sortInt (l : List Int) : List Int := l.foldl (fun r x => insInt x r) []

/-- Twice the median of a list. -/
def median2 (l : List Int) : Int :=
  let s := sortInt l
  let n := s.length
  if n % 2 = 1 then 2 * s.getD (n / 2) 0 else s.getD (n / 2 - 1) 0 + s.getD (n / 2) 0

/-- Is sensor i trusted: not excluded? -/
def Dev.trusted (d : Dev) (i : Nat) : Bool := !d.on (HK_PAR_SENS_excluded i)

/-- Does sensor i deviate in a round with these readings (R367)? -/
def Dev.deviates (d : Dev) (temps : List Int) (i : Nat) : Bool :=
  let n := (sensNeighbours i).filter d.trusted
  d.trusted i && decide (3 ≤ n.length) &&
    decide ((2 * temps.getD i 0 - median2 (n.map fun j => temps.getD j 0)).natAbs > 128)

/-- A sensor is excluded or readmitted. -/
def setExcluded (i : Nat) (v : Bool) (d : Dev) : Dev :=
  let x := if i < 32 then HK_PAR_EXCL_LO_excl else HK_PAR_EXCL_HI_excl
  d |> setB (HK_PAR_SENS_excluded i) v |> (if v then setBitF x (i % 32) else clrBitF x (i % 32))
    |> modHk (fun h => { h with devRun := smPut 0 i 0 h.devRun })

/-- READMIT (R367). -/
def readmit (i : Nat) (d : Dev) : Dev := if i < 56 then setExcluded i false d else d

/-- The sensors' readings in a round (R366): of the mean of the conversions since the last one; a sensor without any keeps its reading
(DESIGN CHOICE, log entry 45). -/
def Dev.sensTemps (d : Dev) : List Int :=
  (List.range 56).map fun i =>
    let a := smGet (0, 0) (96 + i) d.hk.acc
    if a.2 = 0 then signed 16 (d.f (HK_PAR_SENS_temp i)) else Config.sensTemp (smGet 0 i d.otp.sens) a.1 a.2

/-- The sensors' part of a round: readings, deviations and exclusions (R366, R367). -/
def sensorRound (temps : List Int) (d : Dev) : Dev :=
  let d := modHk (fun h => { h with acc := h.acc.filter fun x => x.1 < 96 }) d
  let dev := (List.range 56).map (d.deviates temps)
  forAll (List.range 56) (fun i d =>
    let bad := dev.getD i false
    let run := if bad then smGet 0 i d.hk.devRun + 1 else 0
    d |> setF (HK_PAR_SENS_temp i) (temps.getD i 0 % 65536).toNat |> setB (HK_PAR_SENS_deviating i) bad
      |> modHk (fun h => { h with devRun := smPut 0 i run h.devRun })
      |> onlyIf (bad && decide (3 ≤ run)) (fun d => d |> setExcluded i true |> raise 51 i 0 0)) d

/-- The largest of a list, none when it is empty. -/
def maxInt : List Int → Option Int
  | [] => none
  | a :: r => some (r.foldl max a)

/-- The temperature of a die (R368). -/
def Dev.dieTemp (d : Dev) (temps : List Int) (die : Nat) : Int :=
  let t := (dieSensors die).filter d.trusted
  let use := if t.length ≥ 6 then t.filter fun i => !d.on (HK_PAR_SENS_deviating i) else t
  (maxInt (use.map fun i => temps.getD i 0)).getD 944

/-- The temperature of bay b: the mean of the trusted sensors of its row, else its die's (R368). -/
def Dev.rowTemp (d : Dev) (temps : List Int) (b : Nat) : Int :=
  let t := ((dieSensors (b / 2)).filter fun i => d.trusted i && sensPos i / 6 == b % 2).map fun i => temps.getD i 0
  if t.isEmpty then d.dieTemp temps (b / 2) else t.foldl (· + ·) 0 / (t.length : Int)

/-! ### Levels (R369) -/

/-- Thresholds and hystereses: Warning, Throttle, Shutdown. -/
def levelThr (l : Nat) : Int := match l with | 1 => 800 | 2 => 864 | _ => 944
def levelHys (l : Nat) : Int := match l with | 3 => 80 | _ => 32

/-- The level of a die at a temperature that was at level `old`. -/
def levelOf (old : Nat) (t : Int) : Nat :=
  [1, 2, 3].foldl (fun a l => if t ≥ levelThr l ∨ (old ≥ l ∧ t ≥ levelThr l - levelHys l) then l else a) 0

/-- A die's part of a round. -/
def dieRound (temps : List Int) (die : Nat) (d : Dev) : Dev :=
  let n := ((dieSensors die).filter d.trusted).length
  let t := d.dieTemp temps die
  let old := d.f (HK_PAR_DIE_level die)
  let new := levelOf old t
  let few := decide (n < 6)
  d |> setF (HK_PAR_DIE_trusted die) n |> setF (HK_PAR_DIE_temp die) (t % 65536).toNat |> setF (HK_PAR_DIE_level die) new
    |> onlyIf (few && !d.hk.few.testBit die) (raise 52 die 0 0)
    |> modHk (fun h => { h with few := if few then h.few ||| 1 <<< die else maskOff h.few (1 <<< die) })
    |> onlyIf (old == 0 && decide (1 ≤ new)) (raise 48 die 0 0)

/-- The temperatures of the five dies as the registers hold them. -/
def Dev.dieTemps (d : Dev) : List Int := (List.range 5).map fun i => signed 16 (d.f (HK_PAR_DIE_temp i))

/-! ### Throttle (R370 to R374) -/

/-- The steps of the throttle order: kind, unit and saving in 0.1 W (R370). -/
def SpanImg.order (m : SpanImg) : List (Nat × Nat × Nat) :=
  match m.get 9 0 with
  | some r => (List.range (r.b 0)).map fun i => (r.b (8 + 4 * i), r.b (9 + 4 * i), r.le (10 + 4 * i) 2)
  | none => []

/-- The saving of the first n steps. -/
def savingOf (o : List (Nat × Nat × Nat)) (n : Nat) : Nat := total ((o.take n).map fun x => x.2.2)

/-- The fewest steps, at least `from_`, whose savings sum to r. -/
def stepsFor (o : List (Nat × Nat × Nat)) (r : Nat) : Nat → Nat → Nat
  | 0, a => a
  | k + 1, a => if savingOf o a ≥ r then a else stepsFor o r k (a + 1)

/-- Undo the most recent step for as long as the rest sums to at least r. -/
def stepsUndo (o : List (Nat × Nat × Nat)) (r : Nat) : Nat → Nat
  | 0 => 0
  | a + 1 => if savingOf o a ≥ r then stepsUndo o r a else a + 1

/-- The loop acts (R371): hot at or above its threshold on some die, cool below 104 °C on every die. -/
def throttleAct (hw hot cool : Bool) (d : Dev) : Dev :=
  let o := d.map.order
  let all := savingOf o o.length
  let a := d.hk.loopSteps
  if hot then
    let r := min (d.hk.capRed + 30) all
    let a' := min o.length (stepsFor o r o.length a)
    d |> onlyIf (hw && a == 0 && decide (0 < a')) (raise0 49)
      |> onlyIf (r == all && !d.hk.spent) (raise0 61)
      |> modHk (fun h => { h with capRed := r, loopSteps := a', spent := h.spent || r == all })
      |> onlyIf (hw && r != d.hk.capRed) (loopAct 6 0 r)
  else if cool then
    let r := d.hk.capRed - 30
    let a' := stepsUndo o r a
    d |> modHk (fun h => { h with capRed := r, loopSteps := a', sched := if a' = 0 then none else h.sched, spent := h.spent && a' != 0 })
      |> onlyIf (hw && r != d.hk.capRed) (loopAct 6 0 r)
  else d

/-- The instant of the first symbol boundary of bay b's carriers, or of carrier c, with the lead of R372. -/
def Dev.bayBoundary (d : Dev) (b : Nat) : Nat := d.nextSymbol (d.bayGrid15 b) leadTicks
def Dev.carrierBoundary (d : Dev) (c : Nat) : Nat := d.nextSymbol (d.grid15 c) leadTicks

/-- The steps that one entry of the order makes at their boundaries (R372). -/
def Dev.stepsOf (d : Dev) (apply : Bool) (kind unit : Nat) : List ThrStep :=
  if kind = 1 then
    (if unit = 0xFF then List.range 8 else [unit]).map fun b => ⟨d.bayBoundary b, apply, 1, b⟩
  else if kind = 2 then [⟨d.carrierBoundary (unit % 8), apply, 2, unit⟩]
  else [⟨d.bayBoundary unit, apply, 3, unit⟩]

/-- The number of steps applied becomes n: each step that changes waits for its boundary. Their return to 0 raises E050 (R386; DEDUCED, log
entry 45). -/
def applySteps (n : Nat) (d : Dev) : Dev :=
  let o := d.map.order
  let n := min n o.length
  let was := d.f HK_PAR_STAT_steps
  let up := (o.drop was).take (n - was)
  let down := ((o.drop n).take (was - n)).reverse
  let new := up.flatMap (fun x => d.stepsOf true x.1 x.2.1) ++ down.flatMap (fun x => d.stepsOf false x.1 x.2.1)
  d |> modHk (fun h => { h with waiting := h.waiting ++ new }) |> setF HK_PAR_STAT_steps n |> setF HK_PAR_CAP_saving (savingOf o n)
    |> onlyIf (decide (0 < was) && n == 0) (raise0 50)

/-- The throttle's part of a round (R371, R374). -/
def throttleRound (d : Dev) : Dev :=
  let hw := !d.hk.therm
  let t := d.dieTemps
  let thr : Int := if hw then 864 else 896
  let hot := t.any fun x => decide (x ≥ thr)
  let cool := t.all fun x => decide (x < 832)
  let d := match d.hk.sched with
    | none =>
      if hot then d |> modHk (fun h => { h with sched := some 0 }) |> onlyIf (!hw) (raise0 54) |> throttleAct hw hot cool else d
    | some k =>
      let d := modHk (fun h => { h with sched := some (k + 1) }) d
      if (k + 1) % 25 = 0 then throttleAct hw hot cool d else d
  d |> applySteps (if hw then d.hk.loopSteps else max (d.f HK_PAR_THR_host_level) d.hk.loopSteps)
    |> setF HK_PAR_CAP_cap_red d.hk.capRed |> setB HK_PAR_STAT_backstop (!hw && d.hk.sched.isSome)

/-- The step that waits for the earliest boundary. -/
def HkSt.firstStep (h : HkSt) : Option ThrStep :=
  h.waiting.foldl (fun a s => match a with | none => some s | some x => if s.due < x.due then some s else some x) none

/-- Remove the first element equal to a step. -/
def dropStep (s : ThrStep) : List ThrStep → List ThrStep
  | [] => []
  | x :: r => if x = s then r else x :: dropStep s r

/-- One step of a bay's throttle attenuation, of 0 to 6 (R372). -/
def attStep (unit : Nat) (apply : Bool) (d : Dev) : Dev :=
  modHk (fun h => { h with att := smPut 0 unit (if apply then min 6 (smGet 0 unit h.att + 1) else smGet 0 unit h.att - 1) h.att }) d

/-- Two steps move one bay's attenuation at one boundary. -/
def ThrStep.joins (s x : ThrStep) : Bool := x.kind == 1 && x.unit == s.unit && x.due == s.due

/-- THROTTLE_STEP_EFFECT (R372): the attenuation steps of a bay that wait for one boundary are one change there
(R156), which splits a capture in progress (R153). -/
def throttleStepEffect (b : Blk) : Blk :=
  match b.dev.hk.firstStep with
  | none => b
  | some s =>
    if s.kind = 1 then
      onDev (fun d => d |> passTo s.due |> modHk (fun h => { h with waiting := h.waiting.filter fun x => !s.joins x })
        |> attWatch (bayPaths s.unit) (splitWatch (bayPaths s.unit) (forAll (d.hk.waiting.filter s.joins) fun x => attStep s.unit x.apply))) b
    else
    let b := onDev (fun d => d |> passTo s.due |> modHk (fun h => { h with waiting := dropStep s h.waiting })) b
    if s.kind = 2 then
      let k := 2 * (s.unit % 8) + s.unit / 128
      onDev (fun d => d |> modLink (fun l =>
          let v := smGet 0 k l.drop
          { l with drop := smPut 0 k (if s.apply then v + 1 else v - 1) l.drop }) |> layersChange (s.unit % 8)) b
    else if s.apply then
      b |> onDev (fun d => d |> modHk (fun h => { h with bayOff := h.bayOff ||| 1 <<< s.unit }) |> shedBayTx s.unit) |> renormHere
    else onDev (modHk fun h => { h with bayOff := maskOff h.bayOff (1 <<< s.unit) }) b

/-- The throttle after a commit: R is 0 and no step is applied, which raises E050 where steps were (R371, R386). -/
def throttleCommit (d : Dev) : Dev :=
  d |> onlyIf (!d.hk.therm && d.hk.capRed != 0) (loopAct 6 0 0)
    |> modHk (fun h => { h with sched := none, loopSteps := 0, capRed := 0, spent := false, waiting := [], att := [], bayOff := 0 })
    |> modLink (fun l => { l with drop := [] }) |> setF HK_PAR_STAT_steps 0 |> setF HK_PAR_CAP_cap_red 0 |> setF HK_PAR_CAP_saving 0
    |> setB HK_PAR_STAT_backstop false |> onlyIf (d.f HK_PAR_STAT_steps != 0) (raise0 50)

/-- A change of therm_mode governs from the parapet's next update, a round, and holds the steps in force (R25, R373). -/
def throttleMode (d : Dev) : Dev :=
  let n := d.f HK_PAR_STAT_steps
  if d.on (modeFld 5) = d.hk.therm then d
  else if d.hk.therm then
    d |> onlyIf (savingOf d.map.order n != d.hk.capRed) (loopAct 6 0 (savingOf d.map.order n))
      |> modHk (fun h => { h with
        therm := false, sched := if n = 0 then none else some 0, loopSteps := n, capRed := savingOf d.map.order n, spent := false })
  else
    d |> setF HK_PAR_THR_host_level n
      |> modHk (fun h => { h with therm := true, sched := none, loopSteps := 0, capRed := 0, spent := false })

/-! ### Shutdown (R375) -/

/-- A round found a die at or above 118 °C: the move into Rest begins; it shows as an entry (DEDUCED, log entry 44). Where
nothing is left to stop, E053 is raised at once. -/
def shutdownStart (d : Dev) : Dev :=
  let d := setB HK_PAR_STAT_shutdown true d
  if d.pwr ≤ 1 ∧ d.piersUp then
    d |> setB PWR_STAT_in_entry true |> setF PWR_STAT_target 2 |> modHk (fun h => { h with ramp := some (d.now + d.rampTicks) })
  else raise0 53 d

/-- The piers whose band-gap, as channels 152 to 155 last read it, differs from the deck's by more than 1 % (R235, R368). -/
def Dev.gapPiers (d : Dev) (deck : Nat) : Nat :=
  (List.range 4).foldl (fun m p => if deck < 100 * ((d.f (HK_CH_value (152 + p)) : Int) - deck).natAbs then m + 2 ^ p else m) 0

/-- HOUSEKEEPING_ROUND (R366 to R375, R233, R235): the readings of the 56 sensors, and the deck's band-gap as a code of the ADC. Piers without
power are not compared (log entry 60). -/
def housekeepingRound (deckGap : Nat) (d : Dev) : Dev :=
  if !d.deckUp then d
  else
    let temps := d.sensTemps
    let d := d |> sensorRound temps |> forAll (List.range 5) (dieRound temps)
      |> forAll (List.range 8) (fun b d => setF (HK_PAR_BAY_temp b) (d.rowTemp temps b % 65536).toNat d)
    let level := (List.range 5).foldl (fun a i => max a (d.f (HK_PAR_DIE_level i))) 0
    let top := (maxInt d.dieTemps).getD 0
    let d := d |> setF HK_PAR_STAT_level level |> setF HK_PAR_STAT_max_temp (top % 65536).toNat
    let was := d.on HK_PAR_STAT_shutdown
    let gap := if d.piersUp then d.gapPiers deckGap else d.cal.gap
    let d := d |> onlyIf (decide (top ≥ 944) && !was) shutdownStart
      |> onlyIf (was && decide (top < 864)) (fun d => d |> setB HK_PAR_STAT_shutdown false |> modHk (fun h => { h with safeOut := false }))
    d |> throttleMode |> throttleRound |> otpWatch
      |> forAll (List.range 4) (fun p d => onlyIf (gap.testBit p && !d.cal.gap.testBit p) (raise 122 p 0 0) d)
      |> (fun d => { d with cal := { d.cal with gap := gap } })
      |> onlyIf d.piersUp calTempTriggers

/-! ### Stay outputs (R377 to R381) -/

/-- Is STAY_n's path silent: shed, or its pier unpowered (R378)? -/
def Dev.stayShed (d : Dev) (n : Nat) : Bool := !d.piersUp || (d.bay (bayOf n)).shedTx.testBit (posOf n)

/-- The words of the registers. -/
def Dev.stayWord (d : Dev) (n : Nat) : Nat := 65536 * d.f (HK_STAY_gain n) + d.f (HK_STAY_code n)
def Dev.clearWord (d : Dev) (n : Nat) : Nat := 65536 * d.f (HK_STAY_CLR_gain n) + d.f (HK_STAY_CLR_code n)
def Dev.anchWord (d : Dev) (k : Nat) : Nat :=
  if d.on (HK_ANCH_override k) then 65536 * d.f (HK_ANCH_gain k) + d.f (HK_ANCH_code k) else smGet 0 k d.otp.anch

/-- Is the always-on reset released and VDDA_3V3 valid, and have 200 us passed since (R378)? -/
def Dev.stayPowered (d : Dev) : Bool := d.el.vdda && d.el.vaon
def Dev.staySettled (d : Dev) : Bool := decide (d.el.stayAt + 196608 ≤ d.now)

/-- The level of STAY_n, and whether it drives its word (R378). -/
def Dev.stayLevel (d : Dev) (n : Nat) : StayOut × Bool :=
  if !d.stayPowered then (.highZ, false)
  else if !d.staySettled then (.word (d.clearWord n), false)
  else if d.hk.zeroOut then (.word 0, false)
  else if d.hk.safeOut || !d.el.clrN || d.stayShed n || !d.hk.written.testBit n then (.word (d.clearWord n), false)
  else (.word (d.stayWord n), true)

/-- The level of ANCH_k (R378): before the first 200 us are over it may or may not drive its OTP value yet, which is open
(log entry 4). -/
def Dev.anchLevel (d : Dev) (k : Nat) : StayOut :=
  if !d.stayPowered then .highZ
  else if !d.staySettled then (if Config.freeValue (d.draws + k) % 2 = 0 then .word (smGet 0 k d.otp.anch) else .highZ)
  else if d.hk.zeroOut || d.hk.safeOut then .word (smGet 0 k d.otp.anch)
  else .word (d.anchWord k)

/-- STAY_UPDATE (R377, R378): every output takes its level, once every microsecond. -/
def stayUpdate (d : Dev) : Dev :=
  let outs := (List.range 64).map fun n => (n, (d.stayLevel n).1)
  let anch := (List.range 8).map fun k => (64 + k, d.anchLevel k)
  let drv := fun (base : Nat) => (List.range 32).foldl (fun a j => if (d.stayLevel (base + j)).2 then a + 2 ^ j else a) 0
  let otp := (List.range 8).foldl (fun a k => if d.anchLevel k = .word (smGet 0 k d.otp.anch) ∧ !d.on (HK_ANCH_override k) then a + 2 ^ k else a) 0
  { modHk (fun h => { h with drive := (outs ++ anch).foldl (fun m x => smPut .highZ x.1 x.2 m) [] }) d
    with draws := d.draws + 8 }
    |> setF HK_STAY_DRV_LO_drv (drv 0) |> setF HK_STAY_DRV_HI_drv (drv 32) |> setF HK_STAY_STAT_anch_otp otp
    |> setB HK_STAY_STAT_vdda_ok d.el.vdda |> setB HK_STAY_STAT_clr_pin (!d.el.clrN)

def modEl (g : ElSt → ElSt) (d : Dev) : Dev := { d with el := g d.el }

/-- STAY_n takes its level at once (R378). -/
def stayDrive (n : Nat) (d : Dev) : Dev :=
  let l := d.stayLevel n
  let x := if n < 32 then HK_STAY_DRV_LO_drv else HK_STAY_DRV_HI_drv
  d |> modHk (fun h => { h with drive := smPut .highZ n l.1 h.drive }) |> (if l.2 then setBitF else clrBitF) x (n % 32)

/-- SHED_COMPLETE (R115): the shed path's STAY output drives its clear code, and the events are raised. -/
def shedDone (n us : Nat) (d : Dev) : Dev :=
  if (d.faultsOf n).isEmpty then d else d |> stayDrive n |> shedComplete n us

/-- STAY_CLR_N is low (R380). -/
def stayClear (d : Dev) : Dev :=
  if d.el.clrN then d |> modEl (fun e => { e with clrN := false }) |> onlyIf d.deckUp (raise0 57) |> stayUpdate else d

/-- STAY_CLR_N rises (R380): at the first update after, R378 holds. -/
def stayClearRelease (d : Dev) : Dev :=
  if d.el.clrN then d else d |> modEl (fun e => { e with clrN := true }) |> stayUpdate

/-- VDDA_3V3 falls below 2.9 V (R381). -/
def staySupplyLost (d : Dev) : Dev :=
  if d.el.vdda then d |> modEl (fun e => { e with vdda := false }) |> onlyIf d.deckUp (raise0 62) |> stayUpdate else d

/-- VDDA_3V3 returns (R378, R381): ordinary outputs drive their clear codes until they are written again. -/
def staySupplyReturn (d : Dev) : Dev :=
  if d.el.vdda then d
  else d |> modEl (fun e => { e with vdda := true, stayAt := d.now }) |> modHk (fun h => { h with written := 0 }) |> stayUpdate

/-! ### Check units (R382 to R385) -/

/-- The width lowest bits of a number in reverse order. -/
def reflect (w v : Nat) : Nat := (List.range w).foldl (fun a i => if v.testBit i then a + 2 ^ (w - 1 - i) else a) 0

/-- One bit of the loop of R383. -/
def crcBit (w poly crc : Nat) (b : Bool) : Nat :=
  let s := crc * 2 % 2 ^ w
  if crc.testBit (w - 1) != b then s ^^^ (poly % 2 ^ w) else s

/-- The check value of bytes (R383). -/
def checkValue (j : CkJob) (l : List Nat) : Nat :=
  let crc := l.foldl (fun c x =>
    let x := if j.refin then reflect 8 x else x
    [7, 6, 5, 4, 3, 2, 1, 0].foldl (fun c i => crcBit j.width j.poly c (x.testBit i)) c) (j.init % 2 ^ j.width)
  ((if j.refout then reflect j.width crc else crc) ^^^ j.xorOut) % 2 ^ j.width

/-- CHECK_START (R382, R384, R385). -/
def checkStart (org : Origin) (u alive : Nat) (d : Dev) : Dev :=
  let status := fun (s : Nat) (d : Dev) => setF (HK_CK_STAT_status u) s d
  let wide := fun (lo hi : Nat → Fld) => d.f (lo u) + 0x100000000 * d.f (hi u)
  let width := d.f (HK_CK_CFG_width u)
  let src := d.f (HK_CK_SRC_value u)
  let len := d.f (HK_CK_LEN_value u)
  let diff := (alive + 256 - d.f (HK_CK_STAT_last_alive u)) % 256
  let alv := d.on (HK_CK_CFG_alive_en u)
  if org == .host && decide (u < 2) then d
  else if d.on (HK_CK_CFG_busy u) then status 5 d
  else if width < 8 ∨ width > 64 ∨ len = 0 ∨ len > 0x1000000 ∨ src + len > 0x4000000 then status 4 d
  else if alv && d.hk.aliveSeen.testBit u && !decide (1 ≤ diff ∧ diff ≤ 127) then d |> status 2 |> raise 60 u 0 0
  else
    let j : CkJob :=
      { width := width, poly := wide HK_CK_POLY_LO_value HK_CK_POLY_HI_value, init := wide HK_CK_INIT_LO_value HK_CK_INIT_HI_value
        xorOut := wide HK_CK_XOR_LO_value HK_CK_XOR_HI_value, refin := d.on (HK_CK_CFG_refin u), refout := d.on (HK_CK_CFG_refout u)
        src := src, len := len, notify := d.on (HK_CK_CFG_notify u) }
    d |> onlyIf alv (fun d => d |> setF (HK_CK_STAT_last_alive u) alive |> modHk (fun h => { h with aliveSeen := h.aliveSeen ||| 1 <<< u }))
      |> setB (HK_CK_CFG_busy u) true
      |> modHk (fun h => { h with jobs := h.jobs.filter (fun x => x.1 != u) ++ [(u, j)] })

/-- CHECK_DONE (R382, R385): the job of unit u ends; its status is written last. -/
def checkDone (u : Nat) (b : Blk) : Blk :=
  match b.dev.hk.jobs.find? fun x => x.1 == u with
  | none => b
  | some (_, j) =>
    let a := j.src / 8 * 8
    let n := (j.src + j.len + 7) / 8 - j.src / 8
    let b := touchRange 1 a n b
    let good := b.readable a n
    let v := checkValue j (((b.read8 a n).drop (j.src % 8)).take j.len)
    onDev (fun d => d |> modHk (fun h => { h with jobs := h.jobs.filter fun x => x.1 != u }) |> setB (HK_CK_CFG_busy u) false
      |> (if good then fun d => d |> setF (HK_CK_RES_LO_value u) v |> setF (HK_CK_RES_HI_value u) (v / 0x100000000)
            |> setF (HK_CK_STAT_status u) 1 |> incF (HK_CK_STAT_jobs u)
          else fun d => d |> errorResp |> setF (HK_CK_STAT_status u) 3)
      |> onlyIf j.notify (raise 59 u 0 0)) b

/-! ### Registers -/

/-- Are writes of an origin to this offset ignored (R374, R379, R382)? -/
def Dev.hkIgnores (d : Dev) (org : Origin) (off : Nat) : Bool :=
  (org == .host && decide (0x803000 ≤ off ∧ off < 0x803080)) ||
    (off == 0x802008 && !d.hk.therm) ||
    (decide (0x801200 ≤ off ∧ off < 0x801220) && !d.inReady)

/-- A limit's action 3 is taken as 1, and its persist 0 as 1 (R387). -/
def hkSubst (off val : Nat) : Nat :=
  if 0x800400 ≤ off ∧ off < 0x800680 then
    putBits (if bits val 31 30 = 3 then putBits val 31 30 1 else val) 28 25 (max 1 (bits val 28 25))
  else val

/-- What a write to the HK block does beside the device: the calibration's result is computed, and what HK_GRPg_CAL holds is kept (R363). -/
def hkCalWrite (off val : Nat) (b : Blk) : Blk :=
  if off = 0x800010 ∧ bits val 31 30 = 3 then hkCalCompute (bits val 19 16) b
  else if 0x800040 ≤ off ∧ off < 0x800070 then hkCalKeep b
  else b

/-- What a write to the HK block does beyond its access codes. -/
def hkWriteAfter (org : Origin) (off val : Nat) (d : Dev) : Dev :=
  if off = 0x800008 ∧ val.testBit 8 then urgentRequest (bits val 7 0) d
  else if off = 0x800010 then
    let g := bits val 19 16
    match bits val 31 30 with
    | 0 => hkCalAbort g d
    | 1 => hkCalZero g d
    | 2 => hkCalFull g (bits val 11 0) d
    | _ => d
  else if 0x801000 ≤ off ∧ off < 0x801100 then modHk (fun h => { h with written := h.written ||| 1 <<< ((off - 0x801000) / 4) }) d
  else if 0x801200 ≤ off ∧ off < 0x801220 then setB (HK_ANCH_override ((off - 0x801200) / 4)) true d
  else if off = 0x802000 ∧ val.testBit 8 then readmit (bits val 5 0) d
  else if 0x803000 ≤ off ∧ off < 0x803100 then
    let u := (off - 0x803000) / 64
    let r := (off - 0x803000) % 64
    if r = 0 ∧ val.testBit 25 then modHk (fun h => { h with aliveSeen := maskOff h.aliveSeen (1 <<< u) }) d
    else if r = 0x24 ∧ val.testBit 8 then checkStart org u (bits val 7 0) d
    else d
  else if off = 0x802058 ∧ val.testBit 31 then setF HK_PAR_TRIP_dies 0 d
  else d

end Sys2Proof.Machine
end

