-- ==== Sys2Proof/Machine/Avs.lean ====
section
/-!
DEFINITION. The deck voltage loop (chapter 15, R404 to R407) and the values that the PWR registers take.
-/
namespace Sys2Proof.Machine

def modPs (g : PwrSt → PwrSt) (d : Dev) : Dev := { d with ps := g d.ps }

/-- Is AVSBus driven: firmware runs on the PLL (R404)? -/
def Dev.avsRuns (d : Dev) : Bool := d.running && !d.on KEY_STATUS_refclk_wait

/-- A target within v_min to v_max, and at least the floor (R405, R406). -/
def Dev.avsClamp (d : Dev) (t : Nat) : Nat :=
  max (d.f PWR_AVS_TARGET_floor) (max (d.f PWR_AVS_CFG_v_min) (min (d.f PWR_AVS_CFG_v_max) t))

/-- A command of the exchange failed after its retries (R407). -/
def avsFail (d : Dev) : Dev := d |> incF PWR_AVS_STAT_bus_err |> raise0 133

/-- The voltage is read (R407): three readings in a row more than 25 mV from the target raise E134. A read that failed is tried again at the
next update. -/
def avsRead (measured : Nat) (bad : Bool) (d : Dev) : Dev :=
  let off := decide (measured > d.ps.sent + 25 ∨ d.ps.sent > measured + 25)
  let n := if off then d.ps.mism + 1 else 0
  if bad then d |> modPs (fun p => { p with reread := true }) |> avsFail
  else d |> setF PWR_AVS_STAT_measured (min measured 1023) |> modPs (fun p => { p with mism := n, reread := false }) |> onlyIf (decide (n = 3)) (raise0 134)

/-- The status is read (R407). -/
def avsStatus (bad : Bool) (d : Dev) : Dev := d |> modPs (fun p => { p with restat := bad }) |> onlyIf bad avsFail

/-- A target is sent and read back (R404, R407): `fail` is the command that failed after its retries: 0 none, 1 the write, 2 the read of the
voltage, 3 that of the status. A write that fails leaves the target in force; a failed read is tried again at the next update. The status is read
last; what it says has no effect that a rule gives (DESIGN CHOICE, log entry 31). -/
def avsSend (t measured fail : Nat) (d : Dev) : Dev :=
  let rail := d.f PWR_AVS_CFG_rail
  if fail = 1 then d |> modPs (fun p => { p with bus := [.target rail t] }) |> avsFail
  else
    d |> setF PWR_AVS_TARGET_target t
      |> modPs (fun p => { p with sent := t, unsent := false, bus := [.target rail t, .voltage rail, .status rail] })
      |> avsRead measured (fail == 2) |> avsStatus (fail == 3)

/-- The voltage alone is read again (R407). -/
def avsReread (measured fail : Nat) (d : Dev) : Dev :=
  d |> modPs (fun p => { p with bus := [.voltage (d.f PWR_AVS_CFG_rail)] }) |> avsRead measured (fail != 0)

/-- Counts of samples in a row (R405, R406). -/
def avsCount (margin : Nat) (d : Dev) : Dev :=
  modPs (fun p => { p with
    high := if margin > 60 then min (p.high + 1) 10 else 0
    calm := if margin > 25 then min (p.calm + 1) 100 else 0
    crit := if margin < 10 ∧ p.sent = 850 then p.crit + 1 else 0 }) d

/-- The target that the backstop raises the one in force to (R406): 20 mV more, up to 850, whatever v_max holds. -/
def Dev.avsRaised (d : Dev) : Nat := min 850 (d.ps.sent + 20)

/-- The target that a sample asks for (R405, R406), its counts made: the law's in hardware mode, else the host's when one is still to be sent;
never less than the floor or than what the backstop asks for. -/
def Dev.avsWant (d : Dev) (margin : Nat) : Nat :=
  let host := if d.ps.unsent then d.f PWR_AVS_TARGET_target else d.ps.sent
  if margin < 10 then max d.avsRaised (if d.hostMode 4 then host else 0)
  else if d.hostMode 4 then max host (d.f PWR_AVS_TARGET_floor)
  else d.avsClamp (if margin < 25 then d.ps.sent + 5 else if d.ps.high = 10 then d.ps.sent - 5 else d.ps.sent)

/-- A target that the host writes is due to be sent within 1 ms: at the next sample at the latest (R405). -/
def avsWriteAfter (off : Nat) (d : Dev) : Dev := onlyIf (off == 0x900054) (modPs fun p => { p with unsent := true }) d

/-- The status alone is read again (R407). -/
def avsRestat (fail : Nat) (d : Dev) : Dev :=
  d |> modPs (fun p => { p with bus := [.status (d.f PWR_AVS_CFG_rail)] }) |> avsStatus (fail != 0)

/-- AVS_SAMPLE (R405 to R407): the smallest margin of the sample; the rail voltage read back and the AVSBus command that failed, if a
target is sent. A target that the hardware loop sends counts for its excursion record; the backstop's do not (R417). -/
def avsSample (margin measured fail : Nat) (d : Dev) : Dev :=
  if !d.avsRuns then d
  else
    let d := d |> setF PWR_AVS_STAT_margin (min margin 255) |> avsCount margin
    let d := if margin < 10 then d |> setF PWR_AVS_TARGET_floor d.avsRaised |> raise0 135 |> onlyIf (d.ps.crit == 10) (raise0 136)
      else onlyIf (d.ps.calm == 100) (setF PWR_AVS_TARGET_floor 0) d
    let want := d.avsWant margin
    let falls := d.ps.high == 10 && fail != 1
    if want = d.ps.sent ∧ !d.ps.unsent then
      d |> onlyIf falls (modPs fun p => { p with high := 0 }) 
        |> (if d.ps.reread then avsReread measured fail else onlyIf d.ps.restat (avsRestat fail))
    else
      d |> avsSend want measured fail |> onlyIf falls (modPs fun p => { p with high := 0 })
        |> onlyIf (fail != 1 && decide (10 ≤ margin) && !d.hostMode 4) (loopAct 5 0 want)

/-- The loop writes a target outside its samples, at an entry (R397): what AVSBus answers there is open (log entry 31). -/
def avsWrite (t : Nat) (d : Dev) : Dev :=
  if d.avsRuns then { d with draws := d.draws + 2 } |> avsSend t (Config.freeValue d.draws) (Config.freeValue (d.draws + 1) % 4) else d

/-- Limits outside 650 to 850 are taken as the nearer limit; the unused bits of WAKE_TIMER_HI and the retention bits that
belong to firmware stay (R402, R409). -/
def pwrSubst (org : Origin) (off val : Nat) (d : Dev) : Nat :=
  let lim := fun (x : Nat) => max 650 (min 850 x)
  if off = 0x900050 then putBits (putBits val 31 22 (lim (bits val 31 22))) 21 12 (lim (bits val 21 12))
  else if off = 0x900054 then putBits val 9 0 (d.avsClamp (bits val 9 0))
  else if off = 0x900044 then val % 256
  else if off = 0x900010 ∧ org = .host then putBits val 3 2 (bits (d.f PWR_RET_CFG_retain) 3 2)
  else val

/-- v_min above v_max is refused (R409). -/
def pwrRefuses (off val : Nat) : Option (Dev → Dev) :=
  if off = 0x900050 ∧ bits val 21 12 > bits val 31 22 then some (setB PWR_STAT_param_refused true) else none

/-- A write of the target is ignored while the hardware loop drives it (R405; DEDUCED, log entry 31). -/
def Dev.pwrIgnores (d : Dev) (off : Nat) : Bool := off == 0x900054 && !d.hostMode 4

end Sys2Proof.Machine
end

