-- ==== Sys2Proof/Machine/SpanImage.lean ====
section
/-!
DEFINITION. Span-map images: their header, records and bodies, and the checks that CHECKING makes in the order of R77
(chapter 03, R72 to R77, R83, R485, and the record rules of the other chapters). A refusal is a reason code of R77 and a byte offset.
-/
namespace Sys2Proof.Machine

/-- A refusal: reason and offset (R77). -/
abbrev Refused := Nat × Nat

/-- A little-endian number in n bytes of a list from i. -/
def imgLe (l : List Nat) (i n : Nat) : Nat := ofLe ((l.drop i).take n)

/-- The first index of a range at which a condition holds. -/
def firstIdx (n : Nat) (p : Nat → Bool) : Option Nat := (List.range n).find? p

/-! ### The header (R72) -/

/-- The reason of a header that breaks R72, in the order of its table; 0: none. `level` is the effective level. -/
def headerReason (l : List Nat) (srcLen level : Nat) : Nat :=
  let total := imgLe l 8 4
  if l.take 4 ≠ [0x53, 0x50, 0x4D, 0x50] then 1
  else if l.getD 4 0 ≠ 2 ∨ l.getD 5 0 > 1 then 2
  else if imgLe l 6 2 ≠ 64 ∨ total ≠ srcLen ∨ total % 64 ≠ 0 ∨ total > 0x400000 then 1
  else if imgLe l 0xC 4 ≠ 0xB1 then 3
  else if imgLe l 0x10 2 > level then 10
  else if imgLe l 0x1C 4 ≠ 0 ∨ (l.drop 0x20).take 32 ≠ sha256 ((l.take total).drop 64) then 1
  else 0

/-! ### Bodies of single records -/

/-- Are bytes i to j - 1 of the body 0? -/
def SpanRec.zeros (r : SpanRec) (i j : Nat) : Bool := (List.range (j - i)).all fun k => r.b (i + k) == 0

/-- Resource blocks of a channel of 3GPP TS 38.104, by bandwidth in MHz (R485); PRESUMED from that text (log entry 30). -/
def resourceBlocks (scs15 : Bool) (mhz : Nat) : Nat :=
  if scs15 then
    match mhz with
    | 5 => 25 | 10 => 52 | 15 => 79 | 20 => 106 | 25 => 133 | 30 => 160 | 40 => 216 | 50 => 270 | _ => 0
  else
    match mhz with
    | 5 => 11 | 10 => 24 | 15 => 38 | 20 => 51 | 25 => 65 | 30 => 78 | 40 => 106 | 50 => 133 | 60 => 162 | 70 => 189
    | 80 => 217 | 90 => 245 | 100 => 273 | _ => 0

/-- The register of a REG_INIT pair: does a register of the part hold a field that is RW, RWG or RWL (R76)? -/
def regInitGood (part off : Nat) : Bool :=
  decide (off % 4 = 0) &&
    (if part < 4 then decide (0x3000000 + 0x400000 * part ≤ off ∧ off < 0x3400000 + 0x400000 * part)
     else part == 4 && decide (off < 0x3000000)) &&
    match findBank off with
    | some r => r.fields.any fun x => x.acc == .rw || x.acc == .rwg || x.acc == .rwl
    | none => false

/-- A pair of a REG_INIT record. -/
def SpanRec.pair (r : SpanRec) (i : Nat) : Nat × Nat := (r.le (8 * i) 4, r.le (8 * i + 4) 4)

/-- The pairs of a REG_INIT record (R485). -/
def SpanRec.pairs (r : SpanRec) : List (Nat × Nat) := (List.range ((r.raw.length - 8) / 8)).map r.pair

/-- Entry i of a THROTTLE record: kind, unit, saving (R370). -/
def SpanRec.step (r : SpanRec) (i : Nat) : Nat × Nat × Nat := (r.b (8 + 4 * i), r.b (9 + 4 * i), r.le (10 + 4 * i) 2)

/-- One throttle step entry by itself (R370). -/
def stepGood (s : Nat × Nat × Nat) : Bool :=
  let u := s.2.1
  decide (1 ≤ s.2.2 ∧ s.2.2 ≤ 1000) &&
    (match s.1 with
     | 1 => decide (u ≤ 7) || u == 0xFF
     | 2 => decide (u % 8 ≤ 5) && decide (u / 8 % 16 = 0)
     | 3 => decide (u ≤ 7)
     | _ => false)

/-- Units of a record type: the first number outside its range (R74). -/
def unitLimit (ty : Nat) : Nat :=
  match ty with
  | 1 => 4 | 2 => 8 | 3 => 128 | 4 => 64 | 5 => 6 | 6 => 2 | 7 => 320 | 8 => 1 | 9 => 1 | 10 => 1 | 11 => 16 | 12 => 6 | _ => 65536

/-- Does a record's body keep its own table (R485, R129, R140, R165, R270, R254, R370, R189)? -/
def bodyGood (r : SpanRec) : Bool :=
  let len := r.raw.length
  match r.ty with
  | 1 => len == 16 && r.zeros 4 8
  | 2 =>
    len == 16 && r.zeros 1 4 && decide (r.b 0 ≤ 2) &&
      (if r.b 0 = 0 then r.le 4 4 == 0 else decide (1575000 ≤ r.le 4 4 ∧ r.le 4 4 ≤ 7850000))
  | 3 =>
    len == 16 && r.zeros 6 8 && [0, 1, 2].all fun i => respAllowed (r.unit % 2) i (r.b (2 * i)) && decide (r.b (2 * i + 1) ≤ 7)
  | 4 =>
    let used := (List.range (r.b 0)).map fun i => r.b (1 + i)
    len == 16 && decide (r.b 0 ≤ 4) && used.all (fun m => decide (m < 64) && m != r.unit) && used.Nodup &&
      (List.range 4).all (fun i => decide (i < r.b 0) || r.b (1 + i) == 0xFF) &&
      decide (r.b 5 ≤ 3) && decide (r.b 6 ≤ 7) && decide (r.b 7 ≤ 1)
  | 5 =>
    let n := 2 ^ r.b 4
    let rate := n * (if r.b 1 = 0 then 1 else 2)
    len == 24 && r.zeros 6 8 && r.zeros 12 16 && decide (r.b 1 ≤ 1) && decide (8 ≤ r.b 4 ∧ r.b 4 ≤ 12) &&
      r.le 2 2 != 0 && r.le 2 2 == resourceBlocks (r.b 1 == 0) (r.b 0) && decide (15 * r.le 2 2 ≤ n) &&
      decide (512 ≤ rate ∧ rate ≤ 8192) && r.b 5 != 0
  | 6 =>
    len == 104 && (List.range 12).all fun i =>
      let o := 8 * i
      decide (r.b o ≤ 24) && decide (r.b (o + 1) ≤ 1) && decide (r.b (o + 2) ≤ 12) && decide (r.b (o + 3) ≤ 1) && r.b (o + 7) == 0
  | 7 =>
    len == 32 && decide (r.b 0 ≤ 1) && decide (r.b 1 ≤ 5) && decide (r.b 2 ≤ 23) && decide (1 ≤ r.b 3 ∧ r.b 3 ≤ 24) &&
      decide (r.b 6 ≤ 1) && r.b 7 == 0 && r.zeros 16 24
  | 8 =>
    len == 24 && decide (r.b 0 ≤ 4) && decide (r.b 1 ≤ 1) && decide (1 ≤ r.le 2 2 ∧ r.le 2 2 ≤ 6000)
  | 9 =>
    let n := r.b 0
    len == (16 + 4 * n + 7) / 8 * 8 && decide (n ≤ 60) && r.zeros 1 8 && r.zeros (8 + 4 * n) (len - 8) &&
      (List.range n).all (fun i => stepGood (r.step i) && (i == 0 || decide ((r.step (i - 1)).1 ≤ (r.step i).1))) &&
      (((List.range n).map r.step |>.filter fun s => s.1 == 3).map fun s => s.2.1).Nodup
  | 10 => len == 16 && decide (r.b 0 < 64) && r.zeros 1 8
  | 11 =>
    let ulw := (r.b 0).testBit 2
    len == 16 && decide (r.b 0 < 16) && decide (r.b 1 ≤ 1) && (r.b 1 == 0 || r.b 0 == 0) && decide (r.le 2 2 ≤ 1023) &&
      decide (r.le 2 2 + r.le 4 2 ≤ 1024) && (ulw || r.zeros 2 6) && ((r.b 0).testBit 0 || r.b 6 == 0) && r.b 7 == 0
  | 12 =>
    let ps := r.pairs
    len % 8 == 0 && decide (ps.length ≤ 1024) && ps.all (fun x => regInitGood r.unit x.1) &&
      (List.range ps.length).all fun i => i == 0 || decide ((r.pair (i - 1)).1 < (r.pair i).1)
  | _ => true

/-- Is a record type known in a format (R74)? Format 2.0 lacks TRUSS. -/
def tyKnown (minor ty : Nat) : Bool := decide (1 ≤ ty ∧ ty ≤ 12) && !(minor == 0 && ty == 11)

/-! ### The records in order (R73, R74) -/

/-- Walk n records from an offset: each is checked for fit, order, range and body; the records already walked, the type and
unit of the last, and the offset reached. -/
def walkRecords (l : List Nat) (total minor : Nat) : Nat → Nat → Option (Nat × Nat) → Except Nat (List SpanRec × Nat)
  | 0, off, _ => .ok ([], off)
  | n + 1, off, last =>
    let tw := imgLe l off 2
    let ty := tw % 0x8000
    let unit := imgLe l (off + 2) 2
    let len := imgLe l (off + 4) 4
    let known := tyKnown minor ty
    let r : SpanRec := { ty := ty, opt := decide (tw ≥ 0x8000) && !known, unit := unit, off := off, raw := (l.drop off).take len }
    let ordered : Bool := match last with
      | none => true
      | some (t, u) => decide (t < ty) || (t == ty && decide (u < unit))
    if off + 8 > total ∨ len < 8 ∨ len % 8 ≠ 0 ∨ off + len > total then .error off
    else if !ordered then .error off
    else if (if known then decide (unitLimit ty ≤ unit) || !bodyGood r else decide (tw < 0x8000)) then .error off
    else
      match walkRecords l total minor n (off + len) (some (ty, unit)) with
      | .error e => .error e
      | .ok (rs, e) => .ok (r :: rs, e)

/-- The records of an image, or the offset that R73 and R74 name. -/
def parseRecords (l : List Nat) : Except Nat (List SpanRec) :=
  let total := imgLe l 8 4
  match walkRecords l total (l.getD 5 0) (imgLe l 0x12 2) 64 none with
  | .error e => .error e
  | .ok (rs, e) =>
    match firstIdx (total - e) fun i => l.getD (e + i) 0 != 0 with
    | some i => .error (e + i)
    | none => .ok rs

/-- The parsed image. -/
def imageOf (l : List Nat) (image : Nat) (rs : List SpanRec) : SpanImg :=
  { fmtMajor := l.getD 4 0, fmtMinor := l.getD 5 0, level := imgLe l 0x10 2, mapId := imgLe l 0x18 4, image := image, recs := rs }

/-! ### References (R75, R166) -/

/-- The active paths of a direction on the bays of a span that carrier c names. -/
def SpanImg.dspPaths (m : SpanImg) (s c dir : Nat) : Nat :=
  match m.carrier c with
  | none => 0
  | some r =>
    ((List.range 32).filter fun i =>
      let n := 32 * s + i
      (r.b 5).testBit (n / 8) && (if dir = 0 then m.txActive n else m.rxActive n)).length

/-- The lane mask of a SPAN_DSP entry. -/
def SpanImg.laneMask (m : SpanImg) (s c dir : Nat) : Nat := m.dsp s c dir 4 + 256 * m.dsp s c dir 5 + 65536 * m.dsp s c dir 6

/-- Carriers and directions. -/
def carrierDirs : List (Nat × Nat) := (List.range 12).map fun i => (i / 2, i % 2)

/-- Has a span an active path? -/
def SpanImg.spanActive (m : SpanImg) (s : Nat) : Bool := (List.range 32).any fun i => m.txActive (32 * s + i) || m.rxActive (32 * s + i)

/-- Does a record hold a dangling reference (R75, R140, R166)? -/
def SpanImg.dangling (m : SpanImg) (r : SpanRec) : Bool :=
  match r.ty with
  | 1 => (List.range 16).any fun i => let n := 16 * r.unit + i; (m.txActive n || m.rxActive n) && m.width (n / 8) == 0
  | 3 => !(if r.unit % 2 = 0 then m.txActive (r.unit / 2) else m.rxActive (r.unit / 2))
  | 4 => !m.txActive r.unit || (List.range (r.b 0)).any fun i => pierOf (r.b (1 + i)) != pierOf r.unit || !m.txActive (r.b (1 + i))
  | 5 => (List.range 8).any fun b => (r.b 5).testBit b && m.width b == 0
  | 6 =>
    carrierDirs.any fun x =>
      let lanes := m.laneMask r.unit x.1 x.2 != 0
      let paths := m.dspPaths r.unit x.1 x.2 != 0
      (m.dsp r.unit x.1 x.2 0 != 0) != (lanes && paths) || (lanes && !m.spanActive r.unit)
  | 7 => (m.carrier (r.b 1)).isNone
  | _ => false

/-! ### Rules that join records -/

/-- Does the window of bay b keep its width mode's limits (R109)? -/
def SpanImg.windowGood (m : SpanImg) (b : Nat) (upTo : Nat) : Bool :=
  let es := (m.recs.filter fun r => r.ty == 5 && !r.opt && decide (r.unit ≤ upTo) && (r.b 5).testBit b).map SpanRec.edges
  let lo := es.foldl (fun a e => min a e.1) 10000000
  let hi := es.foldl (fun a e => max a e.2) (-10000000)
  let lok : Int := m.loKhz b
  es.isEmpty ||
    (decide (2300000 ≤ lok + lo ∧ lok + hi ≤ 7125000) &&
      (if m.width b = 1 then decide (-100000 ≤ lo ∧ hi ≤ 100000)
       else decide (hi - lo ≤ 600000) && (decide (25000 ≤ lo ∧ hi ≤ 725000) || decide (-725000 ≤ lo ∧ hi ≤ -25000))))

/-- FLOW records of a carrier and direction. -/
def SpanImg.flowsOf (m : SpanImg) (c dir : Nat) : List SpanRec :=
  m.recs.filter fun r => r.ty == 7 && !r.opt && r.b 0 == dir && r.b 1 == c

/-- Does a flow hold layer k? -/
def SpanRec.holdsLayer (r : SpanRec) (k : Nat) : Bool := decide (r.b 2 ≤ k ∧ k < r.b 2 + r.b 3)

/-- Bits of TRUSS classes of every engine together. -/
def SpanImg.servedClass (m : SpanImg) (c : Nat) : Bool := (List.range 16).any fun e => (m.classes e).testBit c

/-- Mode bits that an image's ADAPT record chooses; hardware mode for every function without one (R485). -/
def SpanImg.modes (m : SpanImg) : Nat := match m.get 10 0 with | some r => r.b 0 | none => 0

/-- Is a function of classes 0 to 2 put in hardware mode with no engine of its class (R190)? -/
def SpanImg.unserved (m : SpanImg) : Bool := [0, 1, 2].any fun i => !m.modes.testBit i && !m.servedClass i

/-- DPD engines whose mask names bay b (R190). -/
def SpanImg.dpdEngines (m : SpanImg) (b : Nat) : List Nat :=
  (List.range 16).filter fun e => (m.classes e).testBit 0 && (m.truss e 6).testBit b

/-- Must bay b be fitted: it has an active TX path whose model flag is 1? -/
def SpanImg.dpdBay (m : SpanImg) (b : Nat) : Bool := (List.range 8).any fun i => m.modelled (8 * b + i)

/-- Does a ULW engine's range overlap that of a lower engine (R190)? -/
def SpanImg.ulwOverlaps (m : SpanImg) (e : Nat) : Bool :=
  (List.range 1024).any fun k => m.ulwWrites e k && (List.range e).any fun f => m.ulwWrites f k

/-- Steps of a THROTTLE record. -/
def SpanRec.steps (r : SpanRec) : List (Nat × Nat × Nat) := (List.range (r.b 0)).map r.step

/-- Does a record break a rule that joins records (R77, step 5)? Each rule is tested at the record that R77 names for it. -/
def SpanImg.joinBad (m : SpanImg) (r : SpanRec) : Bool :=
  match r.ty with
  | 1 =>
    ((List.range 16).any fun i =>
      let n := 16 * r.unit + i
      (m.txActive n && (m.get 3 (2 * n)).isNone) || (m.rxActive n && (m.get 3 (2 * n + 1)).isNone)) ||
    [2 * r.unit, 2 * r.unit + 1].any fun b => m.dpdBay b && (m.dpdEngines b).isEmpty
  | 4 =>
    (List.range 8).any fun i =>
      let n := r.unit / 8 * 8 + i
      n != r.unit && m.txActive n && m.coupler n == m.coupler r.unit && ((m.get 4 n).isNone || decide (n < r.unit))
  | 5 =>
    let bays := (List.range 8).filter fun b => (r.b 5).testBit b
    bays.any fun b => m.loKhz b != m.loKhz (bays.headD 0) || !m.windowGood b r.unit
  | 6 =>
    carrierDirs.any fun x =>
      let c := x.1
      let dir := x.2
      let o := 1 - r.unit
      let both := match m.carrier c with | some q => q.b 5 % 16 != 0 && q.b 5 / 16 != 0 | none => false
      let differs := (List.range 4).any fun i => i != 1 && m.dsp r.unit c dir i != m.dsp o c dir i
      (both && (match m.get 6 o with
        | some _ => r.unit == 1 && differs
        | none => m.dsp r.unit c dir 0 != 0)) ||
      (List.range (m.dsp r.unit c dir 0)).any fun k => !(m.flowsOf c dir).any fun f => f.holdsLayer k
  | 7 =>
    let fs := m.recs.filter fun q => q.ty == 7 && !q.opt && q.b 0 == r.b 0 && decide (q.unit < r.unit)
    decide (r.b 2 + r.b 3 > m.layers (r.b 1) (r.b 0)) ||
      fs.any fun q => q.le 4 2 == r.le 4 2 ||
        (q.b 1 == r.b 1 && (List.range 24).any fun k => q.holdsLayer k && r.holdsLayer k)
  | 8 => carrierDirs.any fun x => decide (r.b (4 + 2 * x.1 + x.2) > m.layers x.1 x.2)
  | 9 =>
    let ss := r.steps
    (List.range 8).any (fun b =>
      decide (6 < (ss.filter fun s => s.1 == 1 && (s.2.1 == b || s.2.1 == 0xFF)).length) ||
      (ss.any (fun s => s.1 == 3 && s.2.1 == b) && !(List.range 8).any fun i => m.txActive (8 * b + i))) ||
    carrierDirs.any fun x =>
      let n := (ss.filter fun s => s.1 == 2 && s.2.1 == x.1 + 128 * x.2).length
      decide (0 < n ∧ m.layers x.1 x.2 < n + 1)
  | 10 => m.unserved
  | 11 =>
    m.ulwOverlaps r.unit || (List.range 8).any fun b =>
      m.dpdBay b && (m.dpdEngines b).contains r.unit && (m.dpdEngines b).any fun e => decide (e < r.unit)
  | _ => false

/-! ### Partial formations (R83) -/

/-- Is a record one of pier level? -/
def SpanRec.pierLevel (r : SpanRec) : Bool := !r.opt && (decide (r.ty ≤ 4) || (r.ty == 12 && decide (r.unit ≤ 3)))

/-- The offset that a SCOPE refusal names: the first pier-level record that differs or is new, else 0 for one that is absent. -/
def SpanImg.scope (m old : SpanImg) : Option Nat :=
  match m.recs.find? fun r => r.pierLevel && (match old.get r.ty r.unit with | some q => q.raw != r.raw | none => true) with
  | some r => some r.off
  | none => if old.recs.any fun q => q.pierLevel && (m.get q.ty q.unit).isNone then some 0 else none

/-! ### Capacities (R166, R255) -/

/-- Resource elements a second of one layer of carrier c: 12 N_RB x 14,000 for each 15 kHz of spacing. -/
def SpanImg.resPerLayer (m : SpanImg) (c : Nat) : Nat :=
  match m.carrier c with
  | some r => 12 * r.le 2 2 * 14000 * (if r.b 1 = 0 then 1 else 2)
  | none => 0

/-- The number of lanes of a mask. -/
def laneCount (x : Nat) : Nat := ((List.range 24).filter x.testBit).length

/-- Does a SPAN_DSP record load a girder or a lane beyond its capacity (R166)? -/
def SpanImg.dspOver (m : SpanImg) (s : Nat) : Bool :=
  [0, 1].any (fun g =>
    decide ((carrierDirs.filter fun x => m.dsp s x.1 x.2 1 == g).foldl
      (fun a x => a + m.dspPaths s x.1 x.2 * m.dsp s x.1 x.2 0 * m.resPerLayer x.1) 0 > 943718400000)) ||
  (List.range 24).any fun i => [0, 1].any fun dir =>
    decide (((List.range 6).filter fun c => (m.laneMask s c dir).testBit i).foldl (fun a c =>
      let n := laneCount (m.laneMask s c dir)
      a + (m.dspPaths s c dir + n - 1) / n * m.rate768 c) 0 > 160)

/-- Does a load of resource elements a second exceed 200 Gb/s, at 18.333 bits each and 5 % of headers (R255)? -/
def over200 (res : Nat) : Bool := decide (res * 18333 * 105 > 20000000000000000)

/-- Do the loads exceed what a port carries (R255)? -/
def SpanImg.portsOver (m : SpanImg) : Bool :=
  [0, 1].any fun dir =>
    let total := fun (n : Nat → Nat) => (List.range 6).foldl (fun a c => a + n c * m.resPerLayer c) 0
    (m.portsMode == 0 && [0, 1].any fun p => over200
      ((m.recs.filter fun r => r.ty == 7 && !r.opt && r.b 0 == dir && r.b 6 == p).foldl (fun a r => a + r.b 3 * m.resPerLayer (r.b 1)) 0)) ||
    (decide (1 ≤ m.portsMode) && over200 (total fun c => m.layers c dir)) ||
    (decide (m.portsMode ≤ 2) && over200 (total fun c => m.fallback c dir))

/-- The first record that a capacity refusal names. -/
def SpanImg.capacity (m : SpanImg) : Option Nat :=
  match m.recs.find? fun r => !r.opt && ((r.ty == 6 && m.dspOver r.unit) || (r.ty == 8 && m.portsOver)) with
  | some r => some r.off
  | none => if (m.get 8 0).isNone && m.portsOver then some 0 else none

/-! ### All checks -/

/-- The first failing check of an image in the order of R77, or the image. `fused` holds the paths disabled in OTP, `old` the
committed map of a partial formation. -/
def checkImage (l : List Nat) (image srcLen level fused : Nat) (old : Option SpanImg) : Except Refused SpanImg :=
  let h := headerReason l srcLen level
  if h ≠ 0 then .error (h, 0)
  else
    match parseRecords l with
    | .error e => .error (7, e)
    | .ok rs =>
      let m := imageOf l image rs
      let live := rs.filter fun r => !r.opt
      match live.find? m.dangling with
      | some r => .error (8, r.off)
      | none =>
        match live.find? m.joinBad with
        | some r => .error (7, r.off)
        | none =>
          if (m.get 10 0).isNone && m.unserved then .error (7, 0)
          else
            match old.bind m.scope with
            | some o => .error (9, o)
            | none =>
              match m.capacity with
              | some o => .error (5, o)
              | none =>
                match live.find? fun r => r.ty == 1 &&
                    (List.range 16).any fun i => fused.testBit (16 * r.unit + i) && ((r.le 0 2).testBit i || (r.le 2 2).testBit i) with
                | some r => .error (13, r.off)
                | none => .ok m

end Sys2Proof.Machine
end

