-- ==== Sys2Proof/Machine/Seal.lean ====
section
/-!
DEFINITION. The seal: canonical serialisation, leaf, span and device seals, and their publication (chapter 03, R85 to R89).
-/
namespace Sys2Proof.Machine

/-- Every offset of a bank. -/
def bankOffsets : Nat → List (Nat × Nat) → List Nat
  | base, [] => [base]
  | base, (n, st) :: ds => (List.range n).flatMap fun i => bankOffsets (base + i * st) ds

/-- Insert a register into a list that rises by offset. -/
def insertReg (x : Nat × List FieldDef) : List (Nat × List FieldDef) → List (Nat × List FieldDef)
  | [] => [x]
  | y :: r => if x.1 ≤ y.1 then x :: y :: r else y :: insertReg x r

/-- Every register that has an RWG field, by ascending offset (R85). -/
def governedRegs : List (Nat × List FieldDef) :=
  ((regTable.filter fun r => isGoverned r.fields).flatMap fun r => (bankOffsets r.base r.dims).map fun o => (o, r.fields)).foldr insertReg []

/-- The part of a register: pier p's window, or deck half 0 (R76, R85). -/
def regPart (off : Nat) : Nat := if off < 0x3000000 then 4 else (off - 0x3000000) / 0x400000

/-- The part of a record (R74, R85). -/
def SpanRec.part (r : SpanRec) : Nat :=
  if r.opt then 4
  else match r.ty with
    | 1 => r.unit
    | 2 => r.unit / 2
    | 3 => r.unit / 32
    | 4 => r.unit / 16
    | 6 => 4 + r.unit
    | 12 => r.unit
    | _ => 4

/-- Is a register loop-driven now (R86, R405): the rate always, the deck voltage target under avs_mode 0? -/
def Dev.loopDriven (d : Dev) (off : Nat) : Bool :=
  off == 0x100014 || off == 0x100018 || (off == 0x900054 && !d.on SPAN_ADAPT_MODE_avs_mode)

/-- Leaf seal of part k (R85). -/
def Dev.leafSeal (d : Dev) (k : Nat) : List Nat :=
  let recs := (d.map.recs.filter fun r => r.part == k).flatMap SpanRec.raw
  let regs := (governedRegs.filter fun x => regPart x.1 == k && !d.loopDriven x.1).flatMap fun x =>
    leBytes 4 x.1 ++ leBytes 4 (d.rwgWord x.1 x.2)
  sha256 ([0, k] ++ recs ++ regs)

/-- The six leaves and the two span seals (R85), by the index of the leaf window. -/
def Dev.leaves (d : Dev) : List (List Nat) :=
  let l := (List.range 6).map d.leafSeal
  let at_ := fun (i : Nat) => l.getD i []
  l ++ [0, 1].map fun s => sha256 ([1, s] ++ at_ (4 + s) ++ at_ (2 * s) ++ at_ (2 * s + 1))

/-- The device seal from the leaves (R85). -/
def sealOf (l : List (List Nat)) : List Nat := sha256 ([2] ++ l.getD 6 [] ++ l.getD 7 [])

/-- The new seal and epoch are published together (R88). -/
def publishSeal (d : Dev) : Dev :=
  let l := d.leaves
  { d with seals := { d.seals with
      pubEpoch := d.seals.epoch, pubSeal := sealOf l, pubLeaves := (List.range 8).map fun i => (i, l.getD i []) } }
    |> setF DECK_SEAL_EPOCH_epoch d.seals.epoch |> setB DECK_SEAL_STAT_busy false

/-- SEAL_RECOMPUTE (R88). -/
def sealRecompute (d : Dev) : Dev := if d.on DECK_SEAL_STAT_busy then publishSeal d else d

/-- SEAL_EPOCH_READ (R89): the published seal is latched. -/
def sealEpochRead (d : Dev) : Dev :=
  { d with seals := { d.seals with latched := d.seals.pubSeal } }
    |> forAll (List.range 8) (fun i d => setF (DECK_SEAL_seal i) (ofLe ((d.seals.pubSeal.drop (4 * i)).take 4)) d)

end Sys2Proof.Machine
end

