-- ==== Sys2Proof/Machine/Rom.lean ====
section
/-!
DEFINITION. The taps of the response ROM (R126): free values, held to the figures that the spec gives the responses. Log entry 61.
-/
namespace Sys2Proof.Machine

/-- The rate at which the taps of a response run, in the unit of its passband: 10 kHz, or on the deck 0.01 of the lower of its rates (R126). -/
def RomRow.tapRate (r : RomRow) : Nat :=
  if 3 ≤ r.stage then 100 * max r.up r.down
  else match r.dir, r.stage with | 0, 0 => 147456 | 0, _ => 294912 | _, 2 => 294912 | _, _ => 196608

/-- The centre tap in 2^-24, from the taps before it: the gain at the centre of the passband is exactly 2 (R126), in each of the samples that
an interpolation puts between two. -/
def RomRow.mid (r : RomRow) (l : List Int) : Int := 33554432 * r.up - 2 * l.sum

/-- The gain of linear-phase taps at num / den of the rate at which they run, in 2^-94: cos((m + 1) x) = 2 cos(x) cos(m x) - cos((m - 1) x). -/
def RomRow.gain (r : RomRow) (l : List Int) (num den : Nat) : Int :=
  let c := (trig num den).1
  let go := l.reverse.foldl (fun (a : Int × Int × Int) h => (a.1 + 2 * h * a.2.1, 2 * c * a.2.1 / 2 ^ 70 - a.2.2, a.2.1)) (r.mid l * 2 ^ 70, c, 2 ^ 70)
  go.1

/-- Is a passband gain at num / den of the tap rate 2 to within 0.02 dB, or after the DAC's sinc to within 0.05 dB (R126)? -/
def RomRow.flat (r : RomRow) (l : List Int) (num den : Nat) : Bool :=
  let g := r.gain l num den
  let unit : Int := 2 * r.up * 2 ^ 94
  if r.dir = 0 ∧ r.stage = 2 then
    let at_ := g * (trig num (2 * den)).2 * 10 ^ 14 * den * 1000000
    let whole := unit * 2 ^ 70 * 314159265358979 * num
    num == 0 || (decide (994261 * whole ≤ at_) && decide (at_ ≤ 1005773 * whole))
  else decide (997701 * unit ≤ 1000000 * g) && decide (1000000 * g ≤ 1002305 * unit)

/-- 10^(n / 20) for the ROM's attenuations of n dB, rounded up. -/
def dbRatio (n : Nat) : Int :=
  match n with | 65 => 1779 | 70 => 3163 | 80 => 10000 | 85 => 17783 | 90 => 31623 | 95 => 56235 | _ => 100000

/-- Is a stopband gain at num / den of the tap rate lower than 2 by the attenuation (R126)? -/
def RomRow.stops (r : RomRow) (l : List Int) (num den : Nat) : Bool :=
  decide ((r.gain l num den).natAbs * dbRatio r.atten ≤ 2 * r.up * 2 ^ 94)

/-- Do taps meet the figures of their response (R126)? DESIGN CHOICE (log entry 61): they are held to them at twice as many points of the passband
and of the stopband as the response has taps. The droop that RXEQ_W and RXEQ_N correct is stated nowhere, and of them only the gain at the
centre is asked. -/
def RomRow.meets (r : RomRow) (l : List Int) : Bool :=
  let n := 2 * r.taps
  let rate := r.tapRate
  (r.dir == 1 && r.stage == 0) ||
    ((List.range (n + 1)).all (fun j => r.flat l (r.pass * j) (rate * n)) &&
      (r.stop == 0 || (List.range (n + 1)).all fun j => r.stops l (r.stop * 2 * (n - j) + rate * j) (2 * rate * n)))

/-! ### Taps that meet the figures, in 2^-24, up to the centre: they stand where the free ones do not (log entry 61) -/

/-- TX2A_W. -/
def design0 : List Int :=
  [-804, 0, 2551, 0, -5719, 0, 10943, 0, -19015, 0, 30895, 0, -47726, 0, 70846, 0, -101810, 0, 142413, 0, -194743, 0, 261262, 0, -344945,
   0, 449525, 0, -579912, 0, 742945, 0, -948766, 0, 1213498, 0, -1564877, 0, 2055407, 0, -2798080, 0, 4087798, 0, -7008417, 0, 21323892]

/-- TX2A_N. -/
def design1 : List Int :=
  [-257, 0, 1067, 0, -2761, 0, 5870, 0, -11102, 0, 19377, 0, -31846, 0, 49916, 0, -75275, 0, 109919, 0, -156196, 0, 216878, 0, -295284,
   0, 395501, 0, -522783, 0, 684275, 0, -890360, 0, 1157322, 0, -1512954, 0, 2009711, 0, -2760417, 0, 4059704, 0, -6991057, 0, 21317966]

/-- TX2B_W. -/
def design2 : List Int :=
  [-1351, 0, 61084, 0, -417407, 0, 1643334, 0, -5107597, 0, 20599216]

/-- TX2B_N. -/
def design3 : List Int :=
  [-185, 0, 25020, 0, -258382, 0, 1306749, 0, -4717314, 0, 20421272]

/-- TXEQ_SINC. -/
def design4 : List Int :=
  [12869, -106894, 556113, -2863066]

/-- RX2_W. -/
def design9 : List Int :=
  [0, -1712, 0, 5502, 0, -13019, 0, 26285, 0, -47901, 0, 81110, 0, -129920, 0, 199345, 0, -295944, 0, 429000, 0, -613192, 0, 875053, 0,
   -1270760, 0, 1946836, 0, -3443722, 0, 10641514]

/-- RX2_N. -/
def design10 : List Int :=
  [0, -575, 0, 2393, 0, -6682, 0, 15310, 0, -30910, 0, 57002, 0, -98127, 0, 160063, 0, -250284, 0, 379025, 0, -561809, 0, 825768, 0,
   -1227316, 0, 1912781, 0, -3421971, 0, 10633917]

/-- RX34_W. -/
def design11 : List Int :=
  [0, -485, -932, -865, 0, 1390, 2429, 2093, 0, -3010, -5038, -4185, 0, 5663, 9237, 7497, 0, -9744, -15616, -12468, 0, 15737, 24889,
   19627, 0, -24218, -37906, -29598, 0, 35861, 55657, 43110, 0, -51452, -79295, -61006, 0, 71898, 110150, 84264, 0, -98252, -149770,
   -114022, 0, 131750, 199982, 151631, 0, -173881, -263000, -198743, 0, 226495, 341607, 257457, 0, -292002, -439472, -330575, 0, 373711,
   561712, 422068, 0, -476462, -715926, -537930, 0, 607812, 914204, 687876, 0, -780504, -1177351, -888992, 0, 1018034, 1544751, 1174548,
   0, -1369162, -2101163, -1619077, 0, 1954047, 3067780, 2430331, 0, -3168567, -5257520, -4482541, 0, 7523020, 15993423, 22647596]

/-- RX34_N. -/
def design12 : List Int :=
  [0, -206, -418, -407, 0, 703, 1265, 1121, 0, -1692, -2894, -2454, 0, 3449, 5725, 4725, 0, -6338, -10309, -8349, 0, 10826, 17343, 13846,
   0, -17492, -27688, -21857, 0, 27039, 42386, 33150, 0, -40306, -62673, -48637, 0, 58280, 90001, 69386, 0, -82118, -126075, -96652, 0,
   113182, 172902, 131919, 0, -153097, -232895, -176978, 0, 203857, 309040, 234071, 0, -268012, -405199, -306137, 0, 348997, 526661,
   397259, 0, -451752, -681157, -513519, 0, 583906, 880863, 664683, 0, -758231, -1146611, -867844, 0, 998209, 1517752, 1156236, 0,
   -1352542, -2078943, -1604313, 0, 1941286, 3051219, 2419701, 0, -3160176, -5247282, -4476470, 0, 7519321, 15989872, 22646229]

/-- RX34_M. -/
def design13 : List Int :=
  [0, -331, -653, -619, 0, 1027, 1817, 1585, 0, -2330, -3938, -3301, 0, 4542, 7468, 6106, 0, -8048, -12983, -10432, 0, 13326, 21196,
   16807, 0, -20957, -32966, -25865, 0, 31631, 49310, 38358, 0, -46160, -71421, -55160, 0, 65490, 100689, 77292, 0, -90721, -138731,
   -105945, 0, 123147, 187457, 142529, 0, -164315, -249165, -188756, 0, 216137, 326727, 246786, 0, -281083, -423893, -319479, 0, 362516,
   545852, 410854, 0, -465315, -700256, -526939, 0, 597067, 899230, 677468, 0, -770523, -1163585, -879528, 0, 1009173, 1532690, 1166372,
   0, -1361748, -2091255, -1612496, 0, 1948363, 3060405, 2425598, 0, -3164832, -5252963, -4479838, 0, 7521369, 15991832, 22646971]

/-- CU2_S. -/
def design14 : List Int :=
  [-541, 0, 1369, 0, -2704, 0, 4724, 0, -7641, 0, 11702, 0, -17198, 0, 24460, 0, -33865, 0, 45835, 0, -60845, 0, 79425, 0, -102164, 0,
   129723, 0, -162850, 0, 202397, 0, -249353, 0, 304897, 0, -370463, 0, 447859, 0, -539433, 0, 648352, 0, -779056, 0, 938034, 0,
   -1135224, 0, 1386713, 0, -1720373, 0, 2189025, 0, -2906146, 0, 4167277, 0, -7057041, 0, 21340263]

/-- CU2_L. -/
def design15 : List Int :=
  [-3775, 0, 13315, 0, -31486, 0, 62369, 0, -111020, 0, 183592, 0, -287582, 0, 432369, 0, -630355, 0, 899421, 0, -1268355, 0, 1789860, 0,
   -2576200, 0, 3920629, 0, -6904527, 0, 21288784]

/-- CU2_H. -/
def design16 : List Int :=
  [-528, 0, 40017, 0, -332560, 0, 1474247, 0, -4918844, 0, 20514813]

/-- CU3_S. -/
def design17 : List Int :=
  [0, 8254, 27652, 0, -152035, -294993, 0, 888467, 1425295, 0, -3341975, -5030721, 0, 12817089, 27206945]

/-- CU3_L. -/
def design18 : List Int :=
  [137480, 494182, 577541, -607252, -2992084, -3776433, 1250431, 13060558, 26194129]

/-- CD3_S. -/
def design19 : List Int :=
  [0, 2751, 9217, 0, -50678, -98331, 0, 296156, 475098, 0, -1113992, -1676907, 0, 4272363, 9068982]

/-- CD3_L. -/
def design20 : List Int :=
  [45827, 164727, 192514, -202417, -997361, -1258811, 416810, 4353519, 8731376]

/-- CD2_H. -/
def design21 : List Int :=
  [0, 9147, 0, -123689, 0, 653071, 0, -2365965, 0, 10215812]

/-- CD2_S. -/
def design22 : List Int :=
  [0, 384, 0, -869, 0, 1642, 0, -2805, 0, 4479, 0, -6808, 0, 9959, 0, -14123, 0, 19519, 0, -26394, 0, 35023, 0, -45718, 0, 58825, 0,
   -74736, 0, 93899, 0, -116828, 0, 144132, 0, -176551, 0, 215004, 0, -260681, 0, 315180, 0, -380729, 0, 460577, 0, -559693, 0, 686116,
   0, -853773, 0, 1089061, 0, -1448698, 0, 2080433, 0, -3526547, 0, 10669378]

/-- CD2_L. -/
def design23 : List Int :=
  [0, 4052, 0, -11367, 0, 24621, 0, -46448, 0, 80097, 0, -129536, 0, 199710, 0, -297078, 0, 430813, 0, -615489, 0, 877553, 0, -1273134,
   0, 1948747, 0, -3444847, 0, 10641311]

/-- The designed taps of a response. -/
def romDesign (idx : Nat) : List Int :=
  match idx with
  | 0 => design0 | 1 => design1 | 2 => design2 | 3 => design3 | 4 => design4 | 9 => design9 | 10 => design10 | 11 => design11
  | 12 => design12 | 13 => design13 | 14 => design14 | 15 => design15 | 16 => design16 | 17 => design17 | 18 => design18 | 19 => design19
  | 20 => design20 | 21 => design21 | 22 => design22 | 23 => design23
  | _ => List.replicate (romRow idx).centre 0

/-- The taps of a response before its centre, in 2^-24 (R126): the free ones where they meet its figures. -/
def romTaps (idx : Nat) : List Int :=
  let r := romRow idx
  let free := (List.range r.centre).map (Config.romTap idx)
  if r.meets free then free else romDesign idx

/-- The taps of the whole ROM. -/
def romBank : List (List Int) := (List.range 24).map romTaps

/-- Tap k of a response, in 2^-24: linear-phase, with a gain of exactly 2 at the centre of its passband (R126). -/
def tapQ (idx k : Nat) : Int :=
  let r := romRow idx
  let l := romBank.getD idx []
  if r.plain then (if k = r.centre then 33554432 else 0)
  else if k = r.centre then r.mid l
  else l.getD (min k (r.taps - 1 - k)) 0

end Sys2Proof.Machine
end

