-- ==== Sys2Proof/Machine/Signal.lean ====
section
/-!
DEFINITION. The sample path, one air tick at a time: stages, oscillators, combiner and splitter, rail weights, predistorter, converters and
DC canceller (R110, R119 to R128, R135, R142 to R144, R181), and the arches (R177 to R179). Log entry 61 says what it leaves open.
-/
namespace Sys2Proof.Machine

/-! ### Stages (R126 to R128) -/

/-- What a response makes of a stage's contents at output sample `label`, in 2^-24. -/
def FirSt.sum (f : FirSt) (idx label : Nat) : Int × Int :=
  let r := romRow idx
  (f.hist.zip (List.range f.hist.length)).foldl (fun a x =>
    let k : Int := (label * r.down + r.centre : Nat) - ((f.i : Int) - 1 - x.2) * r.up
    if 0 ≤ k ∧ k < r.taps then (a.1 + tapQ idx k.toNat * x.1.re, a.2 + tapQ idx k.toNat * x.1.im) else a) (0, 0)

/-- Is output sample `label` valid (R127): the input at its centre, delayed by the group delay? DESIGN CHOICE (log entry 61): an invalid input in
mid-stream (R17) makes only the output that is centred on it invalid, and primes the stage no second time. -/
def FirSt.valid (f : FirSt) (idx label : Nat) : Bool :=
  let r := romRow idx
  (f.hist.getD (f.i - 1 - label * r.down / r.up) {}).ok

/-- A change of a stage's response from a sample number on: the response before and after, and whether it cross-fades (R135). -/
structure Turnover where
  old : Nat
  new : Nat
  first : Nat
  faded : Bool

/-- A stage as it runs: its response, its shift, the latest changes, newest first, and the rate of its output in units of 7.68 MS/s. -/
structure StageCfg where
  idx : Nat
  sh : Nat
  past : List Turnover := []
  rate : Nat := 96

/-- The response before a sample's own, its own, and the weight of its own in 64ths (R135). -/
def StageCfg.at (g : StageCfg) (label : Nat) : Nat × Nat × Nat :=
  match g.past.find? fun t => decide (t.first ≤ label) with
  | some t => (t.old, t.new, if t.faded then min 64 (label - t.first + 1) else 64)
  | none => match g.past.getLast? with | some t => (t.old, t.old, 64) | none => (g.idx, g.idx, 64)

/-- An output sample of a stage and the components of it that saturate at the store (R127, R128, R135). DESIGN CHOICE (log entry 61): I and Q
saturate each for itself, and in a cross-fade the store of the new response counts. -/
def stageOut (g : StageCfg) (f : FirSt) (label : Nat) : Smp × Nat :=
  let r := g.at label
  if !f.valid r.2.1 label then ({}, 0)
  else
    let raw := fun (idx : Nat) => let v := f.sum idx label; (shrRound 24 v.1, shrRound 24 v.2)
    let y := raw r.2.1
    let z := (stageStore g.sh y.1, stageStore g.sh y.2)
    let n := ofBool (stageSat g.sh y.1) + ofBool (stageSat g.sh y.2)
    if 64 ≤ r.2.2 then (⟨z.1, z.2, true⟩, n)
    else
      let w := raw r.1
      let z' := (stageStore g.sh w.1, stageStore g.sh w.2)
      (⟨fadeSample r.2.2 z'.1 z.1, fadeSample r.2.2 z'.2 z.2, true⟩, n)

/-- Output samples `lo` to `lo + cnt - 1` of a stage from its inputs, newest first, with the number of the next input. -/
def stageRun (g : StageCfg) (b : Buf) (lo cnt : Nat) : List (Smp × Nat) :=
  (List.range cnt).map fun k => stageOut g { hist := b.xs, i := b.n } (lo + k)

/-- The inputs that output samples `lo` to `lo + cnt - 1` of a response need, as first and count. -/
def RomRow.needs (r : RomRow) (lo cnt : Nat) : Nat × Nat :=
  let first := (lo * r.down - r.centre + r.up - 1) / r.up
  (first, ((lo + cnt - 1) * r.down + r.centre) / r.up + 1 - first)

/-- Samples from number n on, oldest first, join what an element delivered before; a gap is filled with invalid samples. -/
def Buf.join (b : Buf) (n keep : Nat) (l : List Smp) : Buf :=
  { xs := (l.reverse ++ List.replicate (min keep (n - b.n)) ({} : Smp) ++ b.xs).take keep, n := n + l.length }

/-- What has been delivered and what is to come from there on, oldest first. -/
def Buf.ahead (b : Buf) (l : List Smp) : Buf := { xs := l.reverse ++ b.xs, n := b.n + l.length }

/-- An input sample enters a stage (R127: invalid input is zero): the outputs that it completes, and the components that saturate. -/
def firPush (g : StageCfg) (x : Smp) (f : FirSt) : FirSt × List Smp × Nat :=
  let r := romRow g.idx
  let f' : FirSt := { f with hist := ((if x.ok then x else {}) :: f.hist).take (r.taps / r.up + 2), i := f.i + 1 }
  let top := f.i * r.up + r.up - 1
  let n := if top < r.centre then 0 else (top - r.centre) / r.down + 1 - f.o
  let outs := (List.range n).map fun k => stageOut g f' (f.o + k)
  ({ f' with o := f.o + n }, outs.map Prod.fst, (outs.map Prod.snd).sum)

/-- Samples pass a stage. -/
def firRun (g : StageCfg) (xs : List Smp) (f : FirSt) : FirSt × List Smp × Nat :=
  xs.foldl (fun r x => let q := firPush g x r.1; (q.1, r.2.1 ++ q.2.1, r.2.2 + q.2.2)) (f, [], 0)

/-- Samples pass several stages, one after another. -/
def firsRun : List StageCfg → List FirSt → List Smp → List FirSt × List Smp × Nat
  | [], _, xs => ([], xs, 0)
  | _, [], xs => ([], xs, 0)
  | g :: gs, f :: fs, xs =>
    let r := firRun g xs f
    let q := firsRun gs fs r.2.1
    (r.1 :: q.1, q.2.1, r.2.2 + q.2.2)

/-- Empty stages for an input whose next sample has number i (R127, R133). -/
def emptyFirs : List StageCfg → Nat → List FirSt
  | [], _ => []
  | g :: gs, i =>
    let r := romRow g.idx
    let o := (i * r.up + r.down - 1) / r.down
    { i := i, o := o } :: emptyFirs gs o

/-- The number of the next sample behind stages: that of the last one's next output. -/
def nextOut (fs : List FirSt) (i : Nat) : Nat := match fs.getLast? with | some f => f.o | none => i

/-! ### Oscillators (R123) -/

/-- A sample shifted by f kHz at a rate of `rate` kHz: its phase is 0 at each subframe boundary, and so a function of its number alone. -/
def ncoShift (f : Int) (rate label : Nat) (x : Smp) : Smp :=
  if !x.ok then {}
  else
    let t := turn ((f * label) % rate).toNat rate
    let v := cmul (x.re, x.im) t
    ⟨satS 16 (shrRound 30 v.1), satS 16 (shrRound 30 v.2), true⟩

/-- Consecutive samples from number i on, shifted. -/
def ncoRun (f : Int) (rate i : Nat) (xs : List Smp) : List Smp := ((List.range xs.length).zip xs).map fun x => ncoShift f rate (i + x.1) x.2

/-- The IF of bay b, and the shift of carrier c on it, in kHz (R122). -/
def Dev.ifNow (d : Dev) (b : Nat) : Int := signed 32 (d.f (BAY_IF_KHZ_if_khz b))
def Dev.carrierShift (d : Dev) (c b : Nat) : Int :=
  (match d.map.carrier c with | some r => signed 32 (r.le 8 4) | none => 0) - d.ifNow b

/-! ### Numbering -/

/-- The tick that numbers the samples of now: at a subframe boundary of air time, a multiple of the ticks of a subframe. -/
def Dev.sigTick (d : Dev) : Nat := d.now + d.sigOff

def Dev.pathSig (d : Dev) (n : Nat) : PathSig := smGet {} n d.sig.paths
def modPath (n : Nat) (g : PathSig → PathSig) (d : Dev) : Dev :=
  { d with sig := { d.sig with paths := smPut {} n (g (d.pathSig n)) d.sig.paths } }

/-- The stages of carrier c on the deck, by direction (R124, R130); their shift is 1 (PRESUMED, log entry 61). -/
def Dev.carrierStages (d : Dev) (c dir : Nat) : List StageCfg :=
  let m := d.map.rate768 c
  let h := halfBands m
  let low := d.on (if dir = 0 then ARCH_CC_CFG_dl_lat c else ARCH_CC_CFG_ul_lat c)
  let half := fun (idx : Nat) (rate : Nat → Nat) => (List.range h).map fun k => ({ idx := idx, sh := 1, rate := rate k } : StageCfg)
  if dir = 0 then
    [{ idx := if low then 15 else 14, sh := 1, rate := 2 * m }] ++ half 16 (fun k => 4 * m * 2 ^ k) ++ [{ idx := if low then 18 else 17, sh := 1 }]
  else [{ idx := if low then 20 else 19, sh := 1, rate := 32 }] ++ half 21 (fun k => 16 / 2 ^ k) ++ [{ idx := if low then 23 else 22, sh := 1, rate := m }]

/-- A pier stage of a path as it runs: response and shift in force, and the changes that its samples still show. -/
def Dev.pierStage (d : Dev) (n dir stage : Nat) : StageCfg :=
  { idx := d.f (respFld n dir stage), sh := d.forced ((shiftFlds n dir).getD stage (respFld n dir stage))
    past := ((d.chain n dir).swaps.filter fun s => s.stage == stage).map fun s => ⟨s.old, s.new, d.sampleAt dir stage s.at12, s.faded⟩ }

/-! ### Downlink (R119, R120, R125, R142, R181) -/

/-- Samples `lo` to `lo + cnt - 1` behind the deck's stages, last stage first, from those of the arch, and the components that saturate at
the stores. Each store counts once: with the combiner's samples from `new` to `lo + cnt - 1` go those of a stage at the same air times. -/
def Dev.deckRun (d : Dev) (c n : Nat) (span : Nat × Nat) : List StageCfg → Nat → Nat → List Smp × Nat
  | [], lo, cnt => ((List.range cnt).map fun k => d.dlSample c n (lo + k), 0)
  | g :: gs, lo, cnt =>
    let w := (romRow g.idx).needs lo cnt
    let x := d.deckRun c n span gs w.1 w.2
    let out := (List.range cnt).zip (stageRun g { xs := x.1.reverse, n := w.1 + w.2 } lo cnt)
    let counted := out.filter fun y => decide (firstIn g.rate 96 span.1 ≤ lo + y.1 ∧ lo + y.1 < firstIn g.rate 96 span.2)
    (out.map fun y => y.2.1, x.2 + (counted.map fun y => y.2.2).sum)

/-- Samples of carrier c of path n at the combiner, and the components that saturate on the deck (R119, R122). -/
def Dev.carrierRun (d : Dev) (c n : Nat) (span : Nat × Nat) (lo cnt : Nat) : List Smp × Nat :=
  let r := d.deckRun c n span (d.carrierStages c 0).reverse lo cnt
  (ncoRun (d.carrierShift c (bayOf n)) 737280 lo r.1, r.2)

/-- The value of a deferred field at an instant: what comes into force by then (R139). -/
def Dev.forcedAt (d : Dev) (x : Fld) (t : Nat) : Nat :=
  d.deferred.foldl (fun v y => match y.kind with
    | .values l => if y.due ≤ t then (match l.find? fun z => z.1 == x with | some z => z.2 % x.size | none => v) else v
    | _ => v) (d.forced x)

/-- The largest g below 2^17 with g^80 x 10^n at most 2^1280, bits from 2^k down. -/
def attGo (n : Nat) : Nat → Nat → Nat
  | 0, g => g
  | k + 1, g => let t := g + 2 ^ k; attGo n k (if t ^ 80 * 10 ^ n ≤ 2 ^ 1280 then t else g)

/-- The gain of a carrier attenuation of n x 0.25 dB, 10^(-n / 80), in 2^-16 (R125): rounded down or up as the free value says (log entry
61). -/
def attGain (n : Nat) : Int := if n = 0 then 65536 else (attGo n 17 0 + Config.quarterUp n % 2 : Nat)

/-- The combiner (R125): one output from the carriers' samples, with their attenuations; valid when all are. The second part tells whether it
saturated. -/
def combine (l : List (Nat × Smp)) : Smp × Bool :=
  if !(l.all fun x => x.2.ok) then ({}, false)
  else
    let s := l.foldl (fun a x => (a.1 + attGain x.1 * x.2.re, a.2 + attGain x.1 * x.2.im)) ((0 : Int), (0 : Int))
    let y := (shrRound 16 s.1, shrRound 16 s.2)
    (⟨satS 16 y.1, satS 16 y.2, true⟩, decide (y.1 ≠ satS 16 y.1) || decide (y.2 ≠ satS 16 y.2))

/-- Samples `lo` to `lo + cnt - 1` of the combiner of path n (R125), those that saturated from `new` on, and the components that saturated on
the deck. A path without a carrier has no valid sample. -/
def Dev.combinerRun (d : Dev) (n new lo cnt : Nat) : List Smp × Nat × Nat :=
  let cs := (d.map.carriersOf (bayOf n)).map fun c => (c, d.carrierRun c n (new, lo + cnt) lo cnt)
  if cs.isEmpty then (List.replicate cnt {}, 0, 0)
  else
    let outs := (List.range cnt).map fun k =>
      combine (cs.map fun x => (d.forcedAt (ARCH_CC_CFG_dl_att x.1) ((lo + k) * 4 / 3 - d.sigOff), x.2.1.getD k {}))
    (outs.map Prod.fst, (((List.range cnt).zip outs).filter fun x => decide (new ≤ lo + x.1) && x.2.2).length, (cs.map fun x => x.2.2).sum)

/-- The next transfer of a crossing is lost (R17): pier p downwards, 4 + p upwards. -/
def loseTransfer (x : Nat) (d : Dev) : Dev := { d with sig := { d.sig with lost := d.sig.lost ++ [(x, d.now)] } }

/-- Is the next transfer of a crossing lost, 0 down, 1 up (R17)? -/
def Dev.xingLost (d : Dev) (p up : Nat) : Bool := d.sig.lost.any fun x => x.1 == p + 4 * up && decide (x.2 ≤ d.now)

/-- Samples cross: those of a transfer that is lost arrive as invalid zeros (R17). -/
def cross (lost : Bool) (xs : List Smp) : List Smp := if lost then xs.map fun _ => {} else xs

/-- The gain of the ramp of a thermal shutdown, as a fraction (R375). -/
def Dev.rampGain (d : Dev) : Int × Int := match d.hk.ramp with | some e => (e - d.now, d.rampTicks) | none => (1, 1)

/-- A rail weight multiplies a sample (R181), and the gain g of a shutdown's ramp with it (R375); the components that saturate. -/
def railSample (g w : Int × Int) (x : Smp) : Smp × Nat :=
  if !x.ok then ({}, 0)
  else
    let v := cmul (x.re, x.im) w
    let y := ((v.1 * g.1 / g.2 + 8192) / 16384, (v.2 * g.1 / g.2 + 8192) / 16384)
    (⟨satS 16 y.1, satS 16 y.2, true⟩, ofBool (decide (y.1 ≠ satS 16 y.1)) + ofBool (decide (y.2 ≠ satS 16 y.2)))

/-- The rail weight in force of path n (R181). -/
def Dev.railWeight (d : Dev) (n : Nat) : Int × Int :=
  let p := pierOf n
  let s := d.railOf n
  comps (d.f (PIER_RAIL_i p (n % 16) s) + 65536 * d.f (PIER_RAIL_q p (n % 16) s))

/-- What the elements must have delivered to make the DAC samples of tick a (R131): the numbers behind the last that the predistorter, stage
1, stage 0 and the crossing deliver. -/
def aheadOf (a : Nat) : Nat × Nat × Nat × Nat :=
  let s1 := 3 * a + 7
  let s0 := (s1 + 10) / 2 + 1
  (3 * a + 3, s1, s0, (s0 + 46) / 2 + 1)

/-- An element's samples up to number n, or nothing where it has others: then the element is filled anew from `start`. -/
def Buf.upTo (b : Buf) (n start : Nat) : Buf := if b.n = n then b else { n := min n start }

/-- The RESP_SWAPs of TX path n that come within the samples that its stages deliver ahead: air time, stage and response. -/
def Dev.swapsDue (d : Dev) (n : Nat) : List (Nat × Nat × Nat) :=
  if !d.map.txActive n then []
  else d.tt.filterMap fun x =>
    let e := x.2
    if e.armed && e.action == 5 && !e.w2.testBit 7 && e.paths.contains n && decide ((d.now : Int) ≤ e.due ∧ e.due ≤ (d.now : Int) + 64)
    then some (e.due.toNat, bits e.w2 9 8, bits e.w2 4 0) else none

/-- What those swaps, and a queued one at the end of the running cross-fade, make of the chain, in the order in which they come. -/
def foresee (n : Nat) : Nat → List (Nat × Nat × Nat) → Dev → Dev
  | 0, _, d => d
  | k + 1, l, d =>
    let c := d.chain n 0
    let next := l.foldl (fun o x => match o with | none => some x | some y => if x.1 < y.1 then some x else o) none
    let ends := match c.fade with | some f => some (d.fadeEnd n 0 f.1) | none => none
    let swap := fun (x : Nat × Nat × Nat) => foresee n k (l.erase x) (respSwap n 0 x.2.1 x.2.2 (12 * x.1) d)
    match ends, next with
    | some e, some x => if e ≤ 12 * x.1 then foresee n k l (crossFadeEnd n 0 d) else swap x
    | some _, none => if c.queued.isSome then foresee n k l (crossFadeEnd n 0 d) else d
    | none, some x => swap x
    | none, none => d

/-- The device as the stages of TX path n see it that handle samples ahead of their air time (R131, R135, R136). -/
def Dev.foreseen (d : Dev) (n : Nat) : Dev := let l := d.swapsDue n; foresee n (2 * l.length + 2) l d

/-- Air tick a of a TX path up to its rail weights (R119): each element delivers the samples of the tick by what it holds, the crossing those
that the stages behind it need ahead. -/
def txFront (n a : Nat) (d : Dev) : Dev :=
  let p := d.pathSig n
  let need := aheadOf a
  let was := (aheadOf (a - 1)).2.2.2
  let cc := p.cc.upTo was (3 * a / 4 - 96)
  let s0 := p.s0.upTo (firstIn 3 2 a) (3 * a / 2 - 96)
  let s1 := p.s1.upTo (3 * a) (3 * a - 128)
  let xs := p.xs.upTo (3 * a) (3 * a - 96)
  let c := d.combinerRun n was cc.n (need.2.2.2 - cc.n)
  let cross1 := if d.xingLost (pierOf n) 0 then (List.range c.1.length).zip c.1 |>.map fun x => if cc.n + x.1 < was then x.2 else {} else c.1
  let cc' := cc.join cc.n 128 cross1
  let f := d.foreseen n
  let y0 := stageRun (f.pierStage n 0 0) cc' s0.n (need.2.2.1 - s0.n)
  let y1 := stageRun (f.pierStage n 0 1) (s0.ahead (y0.map Prod.fst)) s1.n (need.2.1 - s1.n)
  let b1 := s1.ahead (y1.map Prod.fst)
  let shifted : Buf := { b1 with xs := (ncoRun (d.ifNow (bayOf n)) 2949120 (b1.n - b1.xs.length) b1.xs.reverse).reverse }
  let y2 := stageRun (f.pierStage n 0 2) shifted xs.n (need.1 - xs.n)
  let w := y2.map fun y => railSample d.rampGain (d.railWeight n) y.1
  let mine := fun (num den lo : Nat) (l : List (Smp × Nat)) =>
    let l' := (List.range l.length).zip l |>.filter fun x => decide (firstIn num den a ≤ lo + x.1 ∧ lo + x.1 < firstIn num den (a + 1))
    (l'.map fun x => x.2.2).sum
  let keep := fun (num den lo : Nat) (l : List (Smp × Nat)) => (l.map Prod.fst).take (firstIn num den (a + 1) - lo)
  let sat := c.2.2 + mine 3 2 s0.n y0 + mine 3 1 s1.n y1 + mine 3 1 xs.n y2 + mine 3 1 xs.n w
  d |> modPath n (fun p => { p with
        cc := cc', ccSat := p.ccSat || c.2.1 != 0
        s0 := s0.join s0.n 96 (keep 3 2 s0.n y0), s1 := s1.join s1.n 128 (keep 3 1 s1.n y1), xs := xs.join xs.n 96 (w.map Prod.fst) })
    |> addF (BAY_CH_SAT_tx_sat (bayOf n) (posOf n)) sat |> addF ARCH_CC_STAT_sat c.2.1

/-- Sample t of path m at the predistorter; a SYNC that is due blanks it (R133). -/
def Dev.xSmp (d : Dev) (m : Nat) (t : Int) : Smp :=
  let k : Int := ((d.pathSig m).xs.n : Int) - 1 - t
  if k < 0 ∨ d.syncBlanks m (t - 3 * d.sigOff) then {} else (d.pathSig m).xs.xs.getD k.toNat {}

/-- The predistorter's input of path m at sample t: zero before the chain's first valid sample (R142). -/
def Dev.xAt (d : Dev) (m : Nat) (t : Int) : Int × Int := let s := d.xSmp m t; if s.ok then (s.re, s.im) else (0, 0)

/-- The predistorted sample t of path n, and the components that saturate (R142 to R144): a bypass, and the linear LUTs, leave x. -/
def Dev.dpdAt (d : Dev) (n t : Nat) : (Int × Int) × Nat :=
  let sp := d.map.tapSpacing n
  let nb := d.map.neighbours n
  if !d.map.modelled n || !d.on (BAY_DPD_dpd_en (bayOf n) (posOf n)) || d.dpdLinear n then (d.xAt n t, 0)
  else
    let acc := dpdAcc (fun k i => lutStore (d.lutRaw n (d.dpdForce n) k i)) (fun k => d.xAt n (t - k * sp))
      (fun j => let m := nb.getD j 64; if d.emits m then d.xAt m t else (0, 0)) nb.length
    let z := (dpdStore acc.1, dpdStore acc.2)
    (z, ofBool (decide ((acc.1 + 4096) / 8192 ≠ z.1)) + ofBool (decide ((acc.2 + 4096) / 8192 ≠ z.2)))

/-- The kind that the calibration run of bay b measures now, in its occupancy, and the instant at which it began (R222): SET takes kinds 2 to
8 in code order, RX_IMAGE only in Wide. -/
def Dev.calNow (d : Dev) (b : Nat) : Option (Nat × Nat) :=
  match (d.bay b).cal with
  | none => none
  | some r =>
    if d.now < r.start ∨ r.until_ ≤ d.now ∨ r.kind = 1 then none
    else if r.kind ≠ 0 then some (r.kind, r.start)
    else
      let w := d.map.width b
      let l := runKinds 0 w
      let begun := fun (i : Nat) => r.start + usTicks (((l.take i).map fun k => occupancyUs k w).sum)
      (List.range l.length).findSome? fun i => if d.now < begun (i + 1) then l[i]?.map fun k => (k, begun i) else none

/-- Are the TX drivers of bay b switched to the internal return (R222): in kinds 2 to 6? -/
def Dev.internalReturn (d : Dev) (b : Nat) : Bool := match d.calNow b with | some k => decide (k.1 ≤ 6) | none => false

/-- Are eight sequences of 64 DAC codes orthogonal, each within full output and reaching it (R222)? -/
def seqsGood (c : Nat → Nat → Int × Int) : Bool :=
  let ts := List.range 64
  (List.range 8).all fun p =>
    (ts.all fun t => decide ((c p t).1.natAbs ≤ 8191) && decide ((c p t).2.natAbs ≤ 8191)) &&
      (ts.any fun t => (c p t).1.natAbs == 8191 || (c p t).2.natAbs == 8191) &&
      (List.range p).all fun q => ts.foldl (fun a t => cadd a (cmul (c p t) ((c q t).1, -(c q t).2))) (0, 0) == (0, 0)

/-- The Walsh sequence of position p at full output. -/
def walsh (p t : Nat) : Int × Int := (if ((List.range 6).countP fun i => (p + 1).testBit i && t.testBit i) % 2 = 0 then 8191 else -8191, 0)

/-- Code t of the sequence of path n (R222): the free ones where those of its bay are orthogonal and at full output, the Walsh sequences where
they are not (log entry 60). -/
def calSeq (n t : Nat) : Int × Int :=
  if seqsGood fun p => Config.calTone 7 (8 * bayOf n + p) then Config.calTone 7 n t else walsh (posOf n) t

/-- The DAC codes of path n at sample t in a calibration run (R222), none outside one: no stimulus in a kind's pre-measurement, its first 5 us
(R227), and none in RX_DC and ARRAY_RX; then the path's own sequence at cal_lvl dB below full output for ARRAY_TX, and for kinds 3 to 6 a
stimulus through the internal return, whose tone the spec does not give: a free value (log entry 60). -/
def Dev.calStim (d : Dev) (n t : Nat) : Option (Int × Int) :=
  (d.calNow (bayOf n)).map fun k =>
    let level := fun (x : Int) => shrRound 16 (attGain (4 * d.f (BAY_CAL_CFG_cal_lvl (bayOf n))) * x)
    if d.now < k.2 + usTicks 5 ∨ k.1 = 2 ∨ k.1 = 8 then (0, 0)
    else if k.1 = 7 then let c := calSeq n (t % 64); (level c.1, level c.2)
    else let c := Config.calTone k.1 n (t % 64); (satS 14 c.1, satS 14 c.2)

/-- Does path n transmit (R98, R120): its bay in TX or Loopback and not muted, the path live? -/
def Dev.transmits (d : Dev) (n : Nat) : Bool := d.txOn (bayOf n) && !d.on (BAY_FE_STAT_muted (bayOf n)) && d.txLive n

/-- Air tick a of a TX path from its predistorter to its DACs (R120, R133): an invalid, shed or muted sample is code 0. In a calibration run the
path's stimulus takes its place (R222). -/
def txBack (n a : Nat) (d : Dev) : Dev :=
  let out := [0, 1, 2].map fun k =>
    let t := 3 * a + k
    let stim := d.calStim n t
    if stim.isSome then (if d.transmits n then stim.getD (0, 0) else (0, 0), 0)
    else if !(d.xSmp n t).ok then ((0, 0), 0)
    else
      let z := d.dpdAt n t
      if d.transmits n then ((dacCode z.1.1, dacCode z.1.2), z.2 + ofBool (dacSat z.1.1) + ofBool (dacSat z.1.2)) else ((0, 0), z.2)
  d |> modPath n (fun p => { p with dac := (out.getD 2 ((0, 0), 0)).1 })
    |> addF (BAY_CH_SAT_tx_sat (bayOf n) (posOf n)) (out.map Prod.snd).sum

/-- Do samples move: a map is formed, the block is Active with its piers up, and no freeze window is open (R79, R119, R390)? -/
def Dev.sampling (d : Dev) : Bool := d.formed && d.inActive && d.piersUp && d.span.freeze.isNone

/-- The codes that the DACs of path n convert: 0 where no sample moves or the path does not transmit (R98, R120). -/
def Dev.dacNow (d : Dev) (n : Nat) : Int × Int := if d.sampling && d.transmits n then (d.pathSig n).dac else (0, 0)

/-- The codes that reach TXP_nn and TXN_nn: none through the internal return (R222). -/
def Dev.antennaNow (d : Dev) (n : Nat) : Int × Int := if d.internalReturn (bayOf n) then (0, 0) else d.dacNow n

/-- Air tick a of the capture of bay b (R153): while it samples, it takes the predistorter inputs of its path and of the neighbours. One that
emits nothing gives zeros (R143); a sample of the path, or of a neighbour that is to emit, may have its valid flag low. -/
def capTick (b a : Nat) (d : Dev) : Dev :=
  match (d.obsSt b).cap with
  | none => d
  | some c =>
    if d.now < c.start ∨ c.start + (c.len + 2) / 3 ≤ d.now then d
    else
      let s := smGet {} b d.sig.caps
      let word := fun (v : Int × Int) => (v.1 % 65536).toNat + 65536 * (v.2 % 65536).toNat
      let ts := [3 * a, 3 * a + 1, 3 * a + 2]
      let us := (List.range c.nb.length).map fun j => let m := c.nb.getD j 64
        ((ts.map fun t => word (if d.emits m then d.xAt m t else (0, 0))).reverse ++ s.u.getD j [], ts.any fun t => d.emits m && !(d.xSmp m t).ok)
      let s' : CapSig := {
        x := (ts.map fun t => word (d.xAt c.path t)).reverse ++ s.x, u := us.map Prod.fst
        bad := s.bad || (ts.any fun t => !(d.xSmp c.path t).ok) || us.any Prod.snd }
      { d with sig := { d.sig with caps := smPut {} b s' d.sig.caps } }

/-! ### Uplink (R110, R119, R121) -/

/-- The DC canceller (R110): a valid sample leaves less the estimate, which moves towards it by 2^-(dc_tc + 12) where `move`; an invalid one
leaves the estimate as it is. The form of the recursion is not stated (log entry 61). -/
def dcStep (tc : Nat) (r : (Int × Int) × List Smp) (x : Smp × Bool) : (Int × Int) × List Smp :=
  if !x.1.ok then (r.1, r.2 ++ [({} : Smp)])
  else
    let e := r.1
    let up := fun (e v : Int) => e + (v * 16777216 - e) / (2 ^ (tc + 12) : Nat)
    let y : Smp := ⟨satS 16 (x.1.re - shrRound 24 e.1), satS 16 (x.1.im - shrRound 24 e.2), true⟩
    ((if x.2 then (up e.1 x.1.re, up e.2 x.1.im) else e), r.2 ++ [y])

/-- Carrier c of path n behind the splitter (R119, R125): the path's samples from number i on are shifted and pass its stages; the components
that saturate there. Air time that no sample covers is invalid. -/
def Dev.ulCarrier (d : Dev) (n i : Nat) (xs : List Smp) (c : Nat) (s : CarSig) : CarSig × Nat :=
  let stages := d.carrierStages c 1
  let fs := if s.fs.isEmpty then emptyFirs stages i else s.fs
  let r := firsRun stages fs (ncoRun (-d.carrierShift c (bayOf n)) 737280 i xs)
  let keep := 4 * match d.map.carrier c with | some r => 2 ^ r.b 4 | none => 0
  ({ fs := r.1, out := s.out.join (nextOut fs i) keep r.2.1 }, r.2.2)

/-- Is a sample taken by path n at an instant valid (R98, R121, R133): its bay received, the path is live, the chain had begun? -/
def Dev.rxTakes (d : Dev) (n k : Nat) : Bool :=
  let s := d.bay (bayOf n)
  decide (max s.rxFrom (d.chain n 1).begun ≤ k) && (match s.rxTo with | some t => decide (k < t) | none => true) && d.rxLive n

/-- Instant k of an RX path (R119, R121), and the components that saturate: a sample taken outside RX and Loopback, in a turnaround or on a shed
path is an invalid zero; the internal return gives a path's RX mixer what its own TX driver puts out (R222). The DC estimate moves with the
samples taken in RX alone (R110), and `refill` leaves it as it is. -/
def Dev.rxPass (d : Dev) (n k : Nat) (refill : Bool) (p : PathSig) : PathSig × Nat :=
  let b := bayOf n
  let a := k + d.sigOff
  let xs : List Smp := (labelsIn 2 1 a).map fun i =>
    if d.rxTakes n k then
      let c := if d.internalReturn b then Config.returnCode n i p.dac else Config.adcCode n i
      ⟨adcWord (max (-8192) (min 8191 c.1)), adcWord (max (-8192) (min 8191 c.2)), true⟩
    else {}
  let g := fun (st : Nat) => d.pierStage n 1 st
  let i := 2 * a
  let fs := if p.rx.isEmpty then emptyFirs [g 0, g 1, g 2] i else p.rx
  let r0 := firRun (g 0) xs (fs.getD 0 {})
  let r := firsRun [g 1, g 2] (fs.drop 1) (ncoRun (-d.ifNow b) 1966080 (nextOut (fs.take 1) i) r0.2.1)
  let o := nextOut fs i
  let inRx := fun (label : Nat) => !refill && !((d.bay b).rxLoop && decide (3 * ((d.bay b).rxFrom + d.sigOff) ≤ label * 4))
  let marked := (List.range r.2.1.length).zip r.2.1 |>.map fun x => (x.2, inRx (o + x.1))
  let dc := if d.map.width b = 1 then marked.foldl (dcStep (d.f (BAY_RX_CFG_dc_tc b))) (p.dc, []) else (p.dc, r.2.1)
  let ys := cross (!refill && d.xingLost (pierOf n) 1) dc.2
  let p' : PathSig := { p with rx := r0.1 :: r.1, dc := dc.1 }
  (d.map.carriersOf b).foldl (fun r c =>
    let q := d.ulCarrier n o ys c (smGet {} c r.1.ul)
    ({ r.1 with ul := smPut {} c q.1 r.1.ul }, r.2 + q.2)) (p', r0.2.2 + r.2.2)

/-- Instant k of an RX path: the saturations count (R128). -/
def rxTick (n k : Nat) (d : Dev) : Dev :=
  let r := d.rxPass n k false (d.pathSig n)
  d |> modPath n (fun _ => r.1) |> addF (BAY_CH_SAT_rx_sat (bayOf n) (posOf n)) r.2

/-- The samples that RX stage 2 has delivered before tick a, counted from a start at 0: two inputs a tick, and the latest that each stage's
centre tap reaches. -/
def rxDone (a : Nat) : Nat := ((2 * a - 4 - 32 + 1) / 2 * 3 - 96 + 3) / 4

/-! ### A tick -/

/-- Ticks of samples that fill every stage of an uplink chain anew: twice its longest group delay, which is how far its filters reach back, and
more (R127, R131). -/
def Dev.rxFill (d : Dev) (n : Nat) : Nat :=
  256 + ((d.map.carriersOf (bayOf n)).foldl (fun a c => max a (ulLatency (d.map.rate768 c) (d.on (ARCH_CC_CFG_ul_lat c)))) 0) * 2 * 98304 / 100000000

/-- The timeline has moved against the samples, whose numbers change: the elements hold nothing, and the RX stages are filled anew with what
their antennas received, so that no stage primes again (R127). The DC estimates stay, and nothing counts. -/
def renumber (d : Dev) : Dev :=
  if d.sig.off = d.sigOff then d
  else
    let fill := fun (n : Nat) (p : PathSig) =>
      let first := max (d.now - d.rxFill n) (d.chain n 1).begun
      if d.map.rxActive n && !d.map.pierIdle (pierOf n) then
        ((List.range (d.now - first)).map (first + ·)).foldl (fun p k => (d.rxPass n k true p).1) { dc := p.dc }
      else ({ dc := p.dc } : PathSig)
    { d with sig := { d.sig with off := d.sigOff, at_ := d.now, paths := d.sig.paths.map fun x => (x.1, fill x.1 x.2) } }

/-- The device at an instant k that has passed, for the samples of that tick. -/
def Dev.backTo (d : Dev) (k : Nat) : Dev :=
  { d with now := k, t := { d.t with tick := (d.t.tick + 9830400 - (d.now - k) % 9830400) % 9830400 } }

/-- The air tick now of every chain, on the piers that are not idle. DESIGN CHOICE (log entry 61): one crossing transfer holds every sample of
its pier and direction in the next air tick in which one crosses (R17), so a lost transfer is over when a sample would have crossed. -/
def tickChains (d : Dev) : Dev :=
  let a := d.sigTick
  let live := (List.range 64).filter fun n => !d.map.pierIdle (pierOf n)
  let tx := live.filter d.map.txActive
  let d := d |> forAll tx (fun n => txFront n a) |> forAll tx (fun n => txBack n a) |> forAll (List.range 8) (fun b => capTick b a)
    |> forAll (live.filter d.map.rxActive) (fun n => rxTick n d.now)
  let down := (aheadOf a).2.2.2 != (aheadOf (a - 1)).2.2.2
  let up := rxDone (a + 1) != rxDone a
  { d with sig := { d.sig with lost := d.sig.lost.filter fun x => decide (d.now < x.2) || !(if x.1 < 4 then down else up) } }

/-- The air tick k of every chain: `tickChains` then, the clock as it is. -/
def sampleTick (k : Nat) (d : Dev) : Dev := { tickChains (d.backTo k) with now := d.now, t := d.t }

/-- The first air tick whose samples have not passed yet: none before a chain in use began. -/
def Dev.sampledTo (d : Dev) : Nat :=
  let l := ((List.range 64).filter d.map.txActive).map (fun n => (d.chain n 0).begun) ++
    ((List.range 64).filter d.map.rxActive).map fun n => (d.chain n 1).begun
  max d.sig.at_ (l.foldl min d.now)

/-- The samples of every air tick before t that have not passed yet. DESIGN CHOICE (log entry 61): those of air time that a command passed over
pass here, as the device stands now. Where no sample moves the elements run empty, and no transfer of theirs can be lost. -/
def sampleUpTo (t : Nat) (d : Dev) : Dev :=
  if !d.sampling then
    let idle := fun (p : PathSig) => { p.emptied with dc := p.dc, ccSat := p.ccSat }
    { d with sig := { d.sig with at_ := t, lost := [], paths := d.sig.paths.map fun x => (x.1, idle x.2) } }
  else
    let d := renumber d
    let d := forAll ((List.range (t - d.sampledTo)).map (d.sampledTo + ·)) sampleTick d
    { d with sig := { d.sig with at_ := max t d.sig.at_, dl := d.sig.dl.map fun x => (x.1, x.2.filter fun s => decide ((d.now : Int) ≤ s.at_ + 100000)) } }

/-! ### Arches (R177 to R179) -/

/-- The cyclic prefix of a symbol in samples, and the transform's size (R177): `long` for the first of a half subframe. -/
def prefixLen (size r768 : Nat) (long : Bool) : Nat := 9 * size / 128 + (if long then 512 * r768 / 128 else 0)

/-- The phase compensation of a symbol in 2^-16 of a turn (R178): f0 in kHz, t and the prefix in air ticks from the subframe's start; rounded
to the nearest. -/
def phaseComp (f0 t cp : Nat) : Nat := (2 * f0 * (t + cp) * 65536 + 983040) / (2 * 983040) % 65536

/-- Sample m of the downlink transform of the subcarriers xs (R177 to R179), q the phase compensation: in 2^-(30 + dl_scale), bins beyond the
carrier's being zero. -/
def idftSum (size q : Nat) (xs : List (Nat × (Int × Int))) (m : Nat) : Int × Int :=
  xs.foldl (fun a x => cadd a (cmul x.2 (turn (x.1 * m * (65536 / size) + (65536 - q)) 65536))) (0, 0)

/-- The bin of subcarrier k of a carrier with nrb resource blocks (R177). -/
def binOfSub (size nrb k : Nat) : Nat := (k + size * 2 - 6 * nrb) % size

/-- A symbol of the downlink (R177 to R179): the samples with their prefix, and the components that saturate. -/
def archDown (size nrb scale q cp : Nat) (sub : List (Int × Int)) : List (Int × Int) × Nat :=
  let xs := (((List.range sub.length).zip sub).filter fun x => x.2 != (0, 0)).map fun x => (binOfSub size nrb x.1, x.2)
  let out := (List.range size).map fun m =>
    let v := idftSum size q xs m
    let y := (shrRound (30 + scale) v.1, shrRound (30 + scale) v.2)
    ((satS 16 y.1, satS 16 y.2), ofBool (decide (y.1 ≠ satS 16 y.1)) + ofBool (decide (y.2 ≠ satS 16 y.2)))
  let x := out.map Prod.fst
  (x.drop (size - cp) ++ x, (out.map Prod.snd).sum)

/-- A symbol of the uplink (R177 to R179): the transform of its last `size` samples, q the phase compensation; the block exponent is the least
of 0 to 15 at which every rounded mantissa fits. -/
def archUp (path size nrb scale q : Nat) (x : List (Int × Int)) : UlStream :=
  let xs := ((List.range size).zip x).filter fun v => v.2 != (0, 0)
  let sums := (List.range (12 * nrb)).map fun k =>
    let bin := binOfSub size nrb k
    xs.foldl (fun a v => cadd a (cmul v.2 (turn (q + (size - bin) * v.1 * (65536 / size)) 65536))) ((0 : Int), (0 : Int))
  let mant := fun (e : Nat) (v : Int) => shrRound (30 + scale + e) v
  let fits := fun (e : Nat) => sums.all fun s => mant e s.1 == satS 16 (mant e s.1) && mant e s.2 == satS 16 (mant e s.2)
  let e := ((List.range 16).find? fits).getD 15
  ⟨path, e, !fits e, sums.map fun s => (satS 16 (mant e s.1), satS 16 (mant e s.2))⟩

/-- What an arch needs to know of a symbol of carrier c in a direction: transform size, scale in force, phase compensation and prefix. -/
def Dev.archOf (d : Dev) (c dir slot sym : Nat) : Nat × Nat × Nat × Nat :=
  let size := match d.map.carrier c with | some r => 2 ^ r.b 4 | none => 1
  let m := d.map.rate768 c
  let pos := symStart (d.grid15 c) slot sym
  let cp := prefixLen size m (pos % halfTicks == 0)
  let bay := ((List.range 8).find? fun b => (d.map.carriersOf b).contains c).getD 0
  let f0 := (d.map.loKhz bay : Int) + (match d.map.carrier c with | some r => signed 32 (r.le 8 4) | none => 0)
  let on := if dir = 0 then d.on (ARCH_CFG_dl_phcomp c) else d.on (ARCH_CFG_ul_phcomp c)
  let scale := if dir = 0 then d.forced (ARCH_CFG_dl_scale c) else d.forced (ARCH_CFG_ul_scale c)
  (size, scale, if on then phaseComp f0.toNat (pos % (2 * halfTicks)) (cp * 128 / m) else 0, cp)

/-- The arch of path n takes the subcarriers of a symbol that starts at instant t: its samples wait for the carrier stages (R180). -/
def dlSymbol (c n slot sym : Nat) (t : Int) (sub : List (Int × Int)) (d : Dev) : Dev × Nat :=
  let a := d.archOf c 0 slot sym
  let r := archDown a.1 (d.map.nRb c) a.2.1 a.2.2.1 a.2.2.2 sub
  let k := 64 * c + n
  ({ d with sig := { d.sig with dl := smPut [] k (smGet [] k d.sig.dl ++ [⟨t, r.1⟩]) d.sig.dl } }, r.2)

/-- The samples of a symbol of carrier c that started at instant t, from its prefix on, as the carrier stages of path n delivered them; none
when some are not held. -/
def Dev.ulSymbol (d : Dev) (c n len : Nat) (t : Int) : Option (List (Int × Int)) :=
  let s : CarSig := smGet {} c (d.pathSig n).ul
  let first : Int := (t + d.sigOff) * d.map.rate768 c / 128
  let back : Int := (s.out.n : Int) - first
  if back < len ∨ (s.out.xs.length : Int) < back then none
  else some (((s.out.xs.take back.toNat).reverse.take len).map fun x => if x.ok then (x.re, x.im) else (0, 0))

/-- What the arch of path n delivers of a symbol (R177 to R179): of the samples that its chain delivered, or of `given` for air time that the
model's clock passed in one step (log entry 61). -/
def Dev.ulArch (d : Dev) (c n slot sym : Nat) (t : Int) (given : List (Int × Int)) : UlStream :=
  let a := d.archOf c 1 slot sym
  let x := (d.ulSymbol c n (a.1 + a.2.2.2) t).getD given
  archUp n a.1 (d.map.nRb c) a.2.1 a.2.2.1 (x.drop a.2.2.2)

end Sys2Proof.Machine
end

