-- ==== Sys2Proof/Machine/Xantaka.lean ====
section
/-!
DEFINITION. The Xantaka link protocol (chapter 11, R265 to R295) but for management, which needs the register bus.
-/
namespace Sys2Proof.Machine

def modXk (g : XkSt → XkSt) (d : Dev) : Dev := { d with xk := g d.xk }

/-! ### Framing -/

/-- The big-endian number in n bytes from i. -/
def be (l : List Nat) (i n : Nat) : Nat := ofBe ((l.drop i).take n)

/-- The broadcast address. -/
def broadcast : Nat := 0xFFFFFFFFFFFF

/-- The device's address on a port: port B's last byte is one above port A's, modulo 256 (R265). -/
def Dev.macOf (d : Dev) (p : Nat) : Nat :=
  let a := d.otp.mac
  if p = 0 then a else a / 256 * 256 + (a % 256 + 1) % 256

/-- The family of a frame by its message type, without any check (R266). -/
def xkFamily (f : XkFrame) : Nat := f.payload.getD 1 0

/-- Is a frame addressed to the device (R265)? -/
def Dev.addressed (d : Dev) (f : XkFrame) : Bool :=
  f.dst == d.macOf 0 || f.dst == d.macOf 1 || (f.dst == broadcast && xkFamily f == 0x44)

/-- The payload size of the eCPRI header. -/
def xkSize (f : XkFrame) : Nat := be f.payload 2 2

/-- Does the eCPRI common header hold (R266)? -/
def xkHeader (f : XkFrame) : Bool :=
  f.payload.getD 0 0 == 0x10 && decide (0x40 ≤ xkFamily f ∧ xkFamily f ≤ 0x44) && decide (8 ≤ xkSize f) &&
    decide (4 + xkSize f ≤ f.payload.length) && decide (f.payload.length ≤ 9600)

/-- A message whose framing was accepted (R267). -/
structure XkMsg where
  ver : Nat
  kind : Nat
  stream : Nat
  seq : Nat
  body : List Nat
deriving DecidableEq, Repr

def xkMsg (f : XkFrame) : XkMsg :=
  let l := (f.payload.drop 4).take (xkSize f)
  { ver := l.getD 0 0, kind := l.getD 1 0, stream := be l 2 2, seq := be l 4 2, body := l.drop 8 }

/-- Is a version byte covered by the agreed one (R268)? -/
def verCovers (agreed v : Nat) : Bool := agreed != 0 && v / 16 == agreed / 16 && decide (v % 16 ≤ agreed % 16)

/-- Is a message in version (R268)? -/
def Dev.inVersion (d : Dev) (fam : Nat) (m : XkMsg) : Bool :=
  (fam == 0x44 && m.ver == 0x10 && decide (1 ≤ m.kind ∧ m.kind ≤ 3)) || verCovers (d.famVer fam) m.ver

/-- The kinds that the distributed unit may send: family, kind and the least minor. -/
def xkKinds : List (Nat × Nat × Nat) :=
  [(0x40, 1, 0), (0x41, 1, 0), (0x41, 2, 1), (0x42, 1, 0), (0x43, 1, 0), (0x43, 2, 1), (0x44, 1, 0), (0x44, 2, 0), (0x44, 3, 0)]

def kindKnown (fam : Nat) (m : XkMsg) : Bool :=
  xkKinds.any fun x => x.1 == fam && x.2.1 == m.kind && decide (x.2.2 ≤ m.ver % 16)

/-- A discard (R269, R277, R280): counted in its field, and E027. -/
def discard (x : Fld) (d : Dev) : Dev := d |> incF x |> raiseSec 27 27 0xFF 0 0

/-- What becomes of a received frame in the row of one family and set of kinds. -/
inductive Opened where
  /-- not a frame for the device, or one of another row -/
  | ignored
  /-- a MAC control frame (R240) -/
  | control
  | dropped
  | discarded (x : Fld)
  | message (m : XkMsg)
deriving DecidableEq, Repr

/-- Open a frame as a message of a family and kinds (R240, R253, R265 to R269). EtherType 0x8808 is that of MAC control (PRESUMED, IEEE 802.3,
log entry 28). -/
def Dev.xkOpen (d : Dev) (fam : Nat) (kinds : List Nat) (f : XkFrame) : Opened :=
  let m := xkMsg f
  if !d.portUp f.port then .ignored
  else if !expbPasses (2 * f.port) (frameSpan f.tci f.payload.length) d.now 128 then .dropped
  else if f.etype = 0x8808 then .control
  else if f.etype ≠ 0xAEFE ∨ !d.addressed f then .ignored
  else if !xkHeader f then .discarded LINK_XK_DISC_format
  else if xkFamily f ≠ fam then .ignored
  else if !d.inVersion fam m then .discarded LINK_XK_DISC_version
  else if !kindKnown fam m then .discarded LINK_XK_DISC_format
  else if kinds.contains m.kind then .message m else .ignored

/-- The downlink (0) or uplink (1) flow of an eAxC identifier. -/
def Dev.flowOf (d : Dev) (dir eaxc : Nat) : Option Nat :=
  (List.range 320).find? fun f => match d.map.get 7 f with | some r => r.b 0 == dir && r.le 4 2 == eaxc | none => false

/-- The sequence number of a received message is checked (R267): a gap counts in its flow. -/
def noteSeq (port fam : Nat) (m : XkMsg) (d : Dev) : Dev :=
  let key := 65536 * (256 * port + fam) + m.stream
  let last := smGet 0 key d.xk.seqRx
  let gap := last != 0 && m.seq != last % 65536
  let d := modXk (fun x => { x with seqRx := smPut 0 key (m.seq + 1) x.seqRx }) d
  if gap && fam == 0x40 then
    match d.flowOf 0 m.stream with
    | some f => incF (LINK_FLOW_W3_seq_gaps f) d
    | none => d
  else d

/-- Act on a frame, which passes its port's expansion buffer first: drops and discards are the same in every row. -/
def xkReceive (fam : Nat) (kinds : List Nat) (f : XkFrame) (g : XkMsg → Blk → Blk) (b : Blk) : Blk :=
  let b := if b.dev.portUp f.port then onDev (expbEnter (2 * f.port) (frameSpan f.tci f.payload.length) f.payload) b else b
  match b.dev.xkOpen fam kinds f with
  | .ignored | .dropped => b
  | .control => onDev (macControl f.port) b
  | .discarded x => onDev (discard x) b
  | .message m => b |> onDev (noteSeq f.port fam m) |> g m

/-- Ports that are UP. -/
def Dev.upPorts (d : Dev) : List Nat := [0, 1].filter d.portUp

/-- Queue a message on a port, with the instant at which it is too late, and whether its last six bytes are stamped as it leaves (R265 to R268,
R281, R283). -/
def sendTo (stamp : Bool) (flow : Option Nat) (due p dst tci fam kind stream : Nat) (body : List Nat) (d : Dev) : Dev :=
  let key := 65536 * (256 * p + fam) + stream
  let seq := smGet 0 key d.xk.seqTx
  let payload := [0x10, fam] ++ beBytes 2 (8 + body.length) ++ [d.famVer fam, kind] ++ beBytes 2 stream ++ beBytes 2 seq ++ [0, 0] ++ body
  d |> modXk (fun x => { x with seqTx := smPut 0 key ((seq + 1) % 65536) x.seqTx })
    |> setTxq p (d.txq p ++ [⟨flow, d.macOf p, dst, tci, payload, due, stamp⟩])

/-- A device message on a port: to the last peer heard there, or broadcast and untagged (R265). An echo response is stamped at its egress (R283). -/
def sendMsg (p fam kind : Nat) (body : List Nat) (d : Dev) : Dev :=
  let a := smGet (broadcast, 0) p d.xk.peer
  sendTo (fam == 0x42 && kind == 2) none 0 p a.1 a.2 fam kind 0 body d

/-- A device message on every UP port. -/
def sendAll (fam kind : Nat) (body : List Nat) (d : Dev) : Dev := forAll d.upPorts (fun p => sendMsg p fam kind body) d

/-! ### Downlink sections (R273 to R279) -/

/-- Data bytes of n resource blocks (R273). -/
def bfpLen (n : Nat) : Nat := (n + 1) / 2 + 27 * n

/-- Bits i to i + n - 1 of a byte string, most significant bit first. -/
def bitsMsb (l : List Nat) (i n : Nat) : Nat :=
  (List.range n).foldl (fun a k => 2 * a + ofBool ((l.getD ((i + k) / 8) 0).testBit (7 - (i + k) % 8))) 0

/-- The exponent of block r, and mantissa k (0 to 23: I then Q of each subcarrier) of block r, of n packed blocks (R274). -/
def bfpExp (l : List Nat) (r : Nat) : Nat := if r % 2 = 0 then l.getD (r / 2) 0 / 16 else l.getD (r / 2) 0 % 16
def bfpMant (l : List Nat) (n r k : Nat) : Int := signed 9 (bitsMsb l (8 * ((n + 1) / 2) + 216 * r + 9 * k) 9)

/-- A decompressed component (R275) and whether it saturated. -/
def bfpValue (l : List Nat) (n r k : Nat) : Int := satS 16 (bfpMant l n r k * (2 ^ bfpExp l r : Nat))
def bfpSat (l : List Nat) (n r k : Nat) : Bool :=
  decide (bfpMant l n r k * (2 ^ bfpExp l r : Nat) ≠ bfpValue l n r k)

/-- Do the fields of a downlink section follow R273 and R279, and is its layer enabled (check 3 of R277)? -/
def Dev.sectionGood (d : Dev) (f : Nat) (l : List Nat) : Bool :=
  match d.map.get 7 f with
  | none => false
  | some r =>
    let c := r.b 1
    let nrb := d.map.nRb c
    let layer := l.getD 0 0
    let flags := l.getD 1 0
    let start := be l 2 2
    let n := be l 4 2
    let beam := be l 6 2
    decide (r.b 2 ≤ layer ∧ layer < r.b 2 + r.b 3) && decide (layer < d.enabled c 0) && decide (flags ≤ 1) &&
      decide (start < nrb) && decide (1 ≤ n ∧ n ≤ nrb - start) && decide (beam < 8192) && l.getD 8 0 == 1 &&
      l.getD 9 0 == 0 && be l 10 2 == bfpLen n &&
      (flags == 0 || (decide (1 ≤ d.famVer 0x40 % 16) && decide (4096 ≤ beam ∧ beam < 5120)))

/-- Slots in a frame of carrier c's grid. -/
def Dev.slotsOf (d : Dev) (c : Nat) : Nat := if d.grid15 c then 10 else 20

/-- Does a slot lie on the grid of flow f's carrier (R273)? -/
def Dev.slotGood (d : Dev) (f slot : Nat) : Bool :=
  match d.map.get 7 f with | some r => decide (slot < d.slotsOf (r.b 1)) | none => false

/-- Do two sections cover a resource block of one layer and symbol in common (R278)? -/
def overlaps (a b : Section_) : Bool :=
  a.carrier == b.carrier && a.frame == b.frame && a.slot == b.slot && a.sym == b.sym && a.layer == b.layer &&
    decide (a.start < b.start + b.n ∧ b.start < a.start + a.n)

/-- A section that passed every check is accepted (R277 to R279). -/
def acceptSection (s : Section_) (late : Bool) (ws : Option (List Nat)) (b : Blk) : Blk :=
  let dup := b.dev.xk.sections.any (overlaps s)
  let b := onDev (fun d => d
    |> setF (LINK_FLOW_W1_sections s.flow) (d.f (LINK_FLOW_W1_sections s.flow) + 1)
    |> onlyIf dup (incF (LINK_FLOW_W1_dup s.flow))
    |> onlyIf late (fun d => d |> incF (LINK_FLOW_W2_late s.flow) |> raiseSec 26 26 0xFF 0 s.flow)
    |> modXk (fun x => { x with sections := x.sections ++ [s] })) b
  let b := bufferWrite 2 b
  match ws with
  | some w => dynUpdate (s.beam - 4096) s.carrier s.frame s.slot s.sym w b
  | none => b

/-- One section of a message: `l` begins with its header, `w` holds its weight vector, if flagged, and data its data. -/
def downlinkSection (stream frame slot sym : Nat) (l w data : List Nat) (b : Blk) : Blk :=
  let d := b.dev
  match d.flowOf 0 stream with
  | none => onDev (discard LINK_XK_DISC_unknown_flow) b
  | some f =>
    if d.flowState f < 2 then onDev (discard LINK_XK_DISC_unknown_flow) b
    else if !d.sectionGood f l ∨ !d.slotGood f slot then onDev (discard LINK_XK_DISC_format) b
    else
      let c := match d.map.get 7 f with | some r => r.b 1 | none => 0
      let t := d.symInstant (d.grid15 c) frame slot sym
      if t - d.now > 491520 then onDev (discard LINK_XK_DISC_early) b
      else if (d.now : Int) + threeS (d.grid15 c) + 1 > t then
        onDev (fun d => d |> incF (LINK_FLOW_W2_too_late f) |> raiseSec 26 26 0xFF 1 f) b
      else
        let s : Section_ :=
          { flow := f, carrier := c, frame := frame, slot := slot, sym := sym, layer := l.getD 0 0, start := be l 2 2
            n := be l 4 2, beam := be l 6 2, data := data, holes := [] }
        let ws := if l.getD 1 0 = 1 then some ((List.range 64).map fun i => be w (4 * i) 4) else none
        acceptSection s (decide (t - d.now < 245760)) ws b

/-- The sections of a message, each checked on its own (R269): one whose length passes the end discards the rest, and so do bytes left behind
the last. -/
def sectionsLoop (stream frame slot sym : Nat) : Nat → List Nat → Blk → Blk
  | 0, l, b => if l.isEmpty then b else onDev (discard LINK_XK_DISC_format) b
  | n + 1, l, b =>
    let wl := if (l.getD 1 0).testBit 0 then 256 else 0
    let dl := be l 10 2
    if l.length < 12 ∨ l.length < 12 + wl + dl then onDev (discard LINK_XK_DISC_format) b
    else
      let b := downlinkSection stream frame slot sym (l.take 12) ((l.drop 12).take wl) ((l.drop (12 + wl)).take dl) b
      sectionsLoop stream frame slot sym n (l.drop (12 + wl + dl)) b

/-- The message header of sections (R273): legal frame, slot and symbol, reserved bits 0, 1 to 255 sections. -/
def sectionsMessage (f : XkFrame) (b : Blk) : Blk :=
  xkReceive 0x40 [1] f (fun m b =>
    let h := be m.body 0 4
    if m.body.length < 4 ∨ bits h 12 8 ≠ 0 ∨ h % 256 = 0 ∨ bits h 21 17 > 19 ∨ bits h 16 13 > 13 then
      onDev (discard LINK_XK_DISC_format) b
    else sectionsLoop m.stream (bits h 31 22) (bits h 21 17) (bits h 16 13) (h % 256) (m.body.drop 4) b) b

/-! ### The downlink pass of a symbol (R170, R173, R180, R278) -/

/-- The section that gives a resource block of a layer and symbol: the latest that arrived (R278). -/
def Dev.sectionAt (d : Dev) (c frame slot sym layer rb : Nat) : Option Section_ :=
  d.xk.sections.reverse.find? fun s =>
    s.carrier == c && s.frame == frame && s.slot == slot && s.sym == sym && s.layer == layer &&
      decide (s.start ≤ rb ∧ rb < s.start + s.n)

/-- The layer sample of subcarrier k of a resource block (R278): zero where no section covers it, or its word was poisoned (R336). -/
def layerSample (s : Option Section_) (rb k : Nat) : Int × Int :=
  match s with
  | none => (0, 0)
  | some s =>
    if s.holes.contains ((12 * (rb - s.start) + k) / 2) then (0, 0)
    else (bfpValue s.data s.n (rb - s.start) (2 * k), bfpValue s.data s.n (rb - s.start) (2 * k + 1))

/-- The girder's sums for the subcarriers of a resource block of antenna n, before their store (R173). -/
def Blk.dlSums (b : Blk) (c frame slot sym n rb : Nat) : List (Int × Int) :=
  let layers := (List.range (b.dev.enabled c 0)).map fun l =>
    let s := b.dev.sectionAt c frame slot sym l rb
    (s, match s with | some x => b.renormWeight c (b.dev.beamUse x.beam) 0 n | none => (0, 0))
  (List.range 12).map fun k => girderSum (layers.map fun x => (x.2, layerSample x.1 rb k))

/-- The downlink paths of carrier c on span s. -/
def Dev.carrierPaths (d : Dev) (c s dir : Nat) : List Nat :=
  let bays := match d.map.carrier c with | some r => r.b 5 | none => 0
  (List.range 64).filter fun n =>
    spanOf n == s && bays.testBit (bayOf n) && (if dir = 0 then d.map.txActive n else d.map.rxActive n)

/-- The requests for a front-end state of bay b that take effect by instant t, as instant and state: armed entries, and the pending one of
its register (R57, R99). -/
def Dev.feRequests (d : Dev) (b : Nat) (t : Int) : List (Int × Nat) :=
  let l := (d.tt.filterMap fun x => let e := x.2
    if e.armed && e.action == 1 && e.kind == 3 && e.index == b then some (e.due, e.w2) else none) ++
    (match (d.bay b).req with | some r => [((r.2 : Int), r.1)] | none => [])
  l.filter fun x => decide (x.1 ≤ t)

/-- Will bay b be in TX at instant t (R98, R278), by its state now and the requests that take effect by then? -/
def Dev.txBy (d : Dev) (b : Nat) (t : Int) : Bool :=
  let l := d.feRequests b t
  let others := (l.filter fun x => x.2 != 4).map Prod.fst
  let now := d.feTarget b == 4 && (!d.inTransition b || decide (((d.bay b).turnEnd : Int) ≤ t))
  match others.max? with
  | some s => ((l.filter fun x => x.2 == 4 && decide (s < x.1)).map Prod.fst).min?.any fun x => decide (x + 1573 ≤ t)
  | none => now || ((l.map Prod.fst).min?.any fun x => decide (x + 1573 ≤ t))

/-- Is every bay of carrier c out of TX at instant t? The sections of a symbol then are accepted and not used (R278). -/
def Dev.carrierSilent (d : Dev) (c : Nat) (t : Int) : Bool :=
  (List.range 8).all fun b => !(match d.map.carrier c with | some r => (r.b 5).testBit b | none => false) || !d.txBy b t

/-- A pass of the girders for the symbol that starts at air time t begins (R170): pending dynamic copies come into force. -/
def passBegins (t : Int) (b : Blk) : Blk :=
  b |> dynReach t
    |> onDev (modGir fun g => { g with lastPass := some (match g.lastPass with | some p => max p t | none => t) })

/-- The sections of a symbol are read from their buffers (R336). -/
def sectionsRead (mine : Section_ → Bool) (b : Blk) : Blk :=
  let r := b.dev.xk.sections.foldl (fun r s =>
    if mine s then (let q := bufferRead 2 (12 * s.n) r.2; (r.1 ++ [{ s with holes := q.1 }], q.2)) else (r.1 ++ [s], r.2)) (([] : List Section_), b)
  onDev (modXk fun x => { x with sections := r.1 }) r.2

/-- The buffers of the girders and arches are written and read, one for each path of n samples (R336): the holes, by path. -/
def workPass (n : Nat) (paths : List Nat) (b : Blk) : List (Nat × List Nat) × Blk :=
  paths.foldl (fun r p => let q := bufferRead 3 n r.2; (r.1 ++ [(p, q.1)], q.2)) ([], bufferWrite 3 b)

/-- The holes of path p. -/
def holesOf (l : List (Nat × List Nat)) (p : Nat) : List Nat := (l.lookup p).getD []

/-- The girders' words of a symbol reach the arches of carrier c (R173, R177 to R180), path by path; the components that saturate there. -/
def archPass (c slot sym : Nat) (t : Int) (words : Nat → List (Int × Int)) (paths : List Nat) (d : Dev) : Dev :=
  let r := paths.foldl (fun r n => let q := dlSymbol c n slot sym t (words n) r.1; (q.1, r.2 + q.2)) (d, 0)
  countArchSat 0 r.2 r.1

/-- DL_PASS_START (R170, R173, R177 to R180, R278): the pass of a symbol begins three mean symbols before it; pending dynamic copies
come into force; each resource block's use is counted; the girders' words pass the arches to the carrier stages. Every girder and arch holds in a
freeze window (R79). DESIGN CHOICE (log entry 58): a pass that would begin in one is dropped, and its sections are not used. -/
def dlPassStart (c frame slot sym : Nat) (b : Blk) : Blk :=
  if (b.dev.map.carrier c).isNone then b
  else
    let t := b.dev.symInstant (b.dev.grid15 c) frame slot sym
    let held := b.dev.span.freeze.isSome
    let b := onDev (passTo (t - threeS (b.dev.grid15 c)).toNat) b
    let b := if held then b else passBegins t b
    let mine := fun (s : Section_) => s.carrier == c && s.frame == frame && s.slot == slot && s.sym == sym
    let b :=
      if held || b.dev.carrierSilent c t then b
      else
        let b := sectionsRead mine b
        let used := b.dev.xk.sections.filter mine
        let b := used.foldl (fun b s => touchBeam s.beam b) b
        let b := onDev (forAll (List.range (b.dev.enabled c 0)) fun l =>
          forAll (List.range (b.dev.map.nRb c)) fun rb d =>
            match d.sectionAt c frame slot sym l rb with
            | some s => countUse s.beam d
            | none => d) b
        let b := onDev (forAll used fun s => addF (LINK_FLOW_W3_sat s.flow)
          (((List.range s.n).map fun r => ((List.range 24).map fun k => ofBool (bfpSat s.data s.n r k)).sum).sum)) b
        let sh := b.dev.forced (GIRDER_SHIFT_dl_sh c)
        let sums := fun (n : Nat) => (List.range (b.dev.map.nRb c)).flatMap (b.dlSums c frame slot sym n)
        let sat := fun (s : Nat) => ((b.dev.carrierPaths c s 0).map fun n => girderSats sh (sums n)).sum
        let s0 := sat 0
        let s1 := sat 1
        let paths := b.dev.carrierPaths c 0 0 ++ b.dev.carrierPaths c 1 0
        let w := workPass (12 * b.dev.map.nRb c) paths b
        onDev (fun d => d |> countGirderSat (d.map.girderOf 0 c 0) 0 s0 |> countGirderSat (d.map.girderOf 1 c 0) 0 s1
          |> archPass c slot sym t (fun n => holed (holesOf w.1 n) (girderWords sh (sums n))) paths) w.2
    onDev (modXk fun x => { x with sections := x.sections.filter fun s => !mine s }) b

/-! ### Uplink (R174, R276, R280, R281) -/

/-- UPLINK_PLAN (R280). -/
def uplinkPlan (f : XkFrame) (b : Blk) : Blk :=
  xkReceive 0x41 [1] f (fun m => onDev fun d =>
    match d.flowOf 1 (be m.body 0 2) with
    | none => if m.body.length < 2 then discard LINK_XK_DISC_format d else discard LINK_XK_DISC_unknown_flow d
    | some fl =>
      if d.flowState fl ≠ 2 then discard LINK_XK_DISC_unknown_flow d
      else
        match d.map.get 7 fl with
        | none => d
        | some r =>
          let l := m.body
          let c := r.b 1
          let sym := l.getD 5 0
          let syms := l.getD 6 0
          let start := be l 8 2
          let n := be l 10 2
          let good := l.length == 12 + 2 * r.b 3 && decide (be l 2 2 ≤ 1023) && decide (sym ≤ 13) &&
            decide (1 ≤ syms ∧ syms ≤ 14 - sym) && l.getD 7 0 == 0 && decide (l.getD 4 0 < d.slotsOf c) &&
            decide (start < d.map.nRb c) && decide (1 ≤ n ∧ n ≤ d.map.nRb c - start)
          let t := d.symInstant (d.grid15 c) (be l 2 2) (l.getD 4 0) sym
          let live := d.xk.plans.filter fun p => decide ((d.now : Int) < p.ends)
          if !good then discard LINK_XK_DISC_format d
          else if t - d.now < 245760 then incF (LINK_FLOW_W2_too_late fl) d
          else if t - d.now > 9830400 then discard LINK_XK_DISC_early d
          else if live.length ≥ 2048 then discard LINK_XK_DISC_format d
          else
            let ends := d.symInstant (d.grid15 c) (be l 2 2) (l.getD 4 0) (sym + syms)
            let p : Plan :=
              { flow := fl, frame := be l 2 2, slot := l.getD 4 0, sym := sym, syms := syms, start := start, n := n
                beams := (List.range (r.b 3)).map (fun i => be l (12 + 2 * i) 2 % 8192), ends := ends }
            modXk (fun x => { x with plans := live ++ [p] }) d) b

/-- The plans of a flow for a symbol that have not ended when it starts (R280); a plan of the same frame number 1,024 frames before has. -/
def Dev.plansFor (d : Dev) (f frame slot sym : Nat) : List Plan :=
  d.xk.plans.filter fun p => p.flow == f && p.frame == frame && p.slot == slot && decide (p.sym ≤ sym ∧ sym < p.sym + p.syms) &&
    (match d.map.get 7 f with | some r => decide (d.symInstant (d.grid15 (r.b 1)) frame slot sym < p.ends) | none => false)

/-- The beam that governs a resource block of a flow's layer in a symbol: the later plan's (R280). -/
def Dev.planBeam (d : Dev) (f frame slot sym layer rb : Nat) : Option Nat :=
  ((d.plansFor f frame slot sym).reverse.find? fun p => decide (p.start ≤ rb ∧ rb < p.start + p.n)).map fun p => p.beams.getD layer 0

/-- Runs of contiguous resource blocks that share a beam, as start, length and beam (R281). -/
def runsOf : Nat → Nat → List (Option Nat) → List (Nat × Nat × Nat)
  | _, _, [] => []
  | 0, _, _ => []
  | fuel + 1, i, none :: l => runsOf fuel (i + 1) l
  | fuel + 1, i, some x :: l =>
    let n := ((some x :: l).takeWhile fun y => y == some x).length
    (i, n, x) :: runsOf fuel (i + n) ((some x :: l).drop n)

/-- The largest number of resource blocks in a frame of one section (R265, R281). -/
def maxBlocks (mtu : Nat) : Nat := ((List.range 400).filter fun n => 28 + bfpLen n ≤ mtu).length - 1

/-- A run cut into pieces of at most k blocks. -/
def cutRun : Nat → Nat → Nat × Nat × Nat → List (Nat × Nat × Nat)
  | 0, _, _ => []
  | fuel + 1, k, (i, n, x) => if n ≤ k then [(i, n, x)] else (i, k, x) :: cutRun fuel k (i + k, n - k, x)

/-- The compression of a resource block (R276): the least exponent at which every mantissa fits, at most 7. -/
def bfpMantAt (e : Nat) (x : Int) : Int := shrRound e x
def bfpFit (l : List Int) : Nat :=
  (((List.range 8).find? fun e => l.all fun x => decide (-256 ≤ bfpMantAt e x ∧ bfpMantAt e x ≤ 255)).getD 7)
def bfpSatCount (l : List Int) : Nat := (l.filter fun x => decide (bfpMantAt (bfpFit l) x ≠ satS 9 (bfpMantAt (bfpFit l) x))).length

/-- Pack bits, most significant first, into bytes. -/
def packBits (l : List Bool) : List Nat :=
  (List.range ((l.length + 7) / 8)).map fun i => (List.range 8).foldl (fun a k => 2 * a + ofBool (l.getD (8 * i + k) false)) 0

/-- The data of a section from the components of its blocks, 24 each (R274, R276). -/
def bfpPack (blocks : List (List Int)) : List Nat :=
  let exps := blocks.map bfpFit
  let ebytes := (List.range ((blocks.length + 1) / 2)).map fun i => 16 * exps.getD (2 * i) 0 + exps.getD (2 * i + 1) 0
  let mbits := blocks.flatMap fun l => l.flatMap fun x =>
    let m := (satS 9 (bfpMantAt (bfpFit l) x) % 512).toNat
    (List.range 9).map fun k => m.testBit (8 - k)
  ebytes ++ packBits mbits

/-- One layer sample of the uplink (R174): the two spans' partial sums added, shifted and stored. -/
def Blk.ulAcc (b : Blk) (c : Nat) (u : BeamUse) (e : Nat) (rx : List UlStream) (k : Nat) : Int × Int :=
  girderUlSum e (rx.map fun s => ((b.renormWeight c u 1 s.path, s.m.getD k (0, 0)), s.exp))

/-- The sections of flow f, with record r, for a symbol of carrier c (R281): for each enabled layer, each run of planned blocks that share a
beam, cut to the MTU. A section is a layer, and the start, the length and the beam of a run. -/
def Dev.ulRuns (d : Dev) (c f frame slot sym : Nat) (r : SpanRec) : List (Nat × Nat × Nat × Nat) :=
  ((List.range (r.b 3)).filter fun i => r.b 2 + i < d.enabled c 1).flatMap fun i =>
    let beams := (List.range (d.map.nRb c)).map fun rb => d.planBeam f frame slot sym i rb
    ((runsOf (d.map.nRb c + 1) 0 beams).flatMap (cutRun 400 (maxBlocks (d.f LINK_XK_CFG_mtu)))).map fun run => (r.b 2 + i, run)

/-- One section is formed (R174, R273, R276): the layer's sums and the uses and saturations they count, and the message's body. -/
def ulSection (c frame slot sym e : Nat) (rx : List UlStream) (x : Nat × Nat × Nat × Nat) (b : Blk) : List Nat × Nat × Blk :=
  let run := x.2
  let sh := b.dev.forced (GIRDER_SHIFT_ul_sh c)
  let g := b.dev.map.girderOf (if (b.dev.carrierPaths c 0 1).isEmpty then 1 else 0) c 1
  let u := b.dev.beamUse run.2.2
  let accs := (List.range run.2.1).map fun j => (List.range 12).map fun k => b.ulAcc c u e rx (12 * (run.1 + j) + k)
  let blocks := accs.map fun l => (girderWords sh l).flatMap fun v => [v.1, v.2]
  let head := [x.1, 0] ++ beBytes 2 run.1 ++ beBytes 2 run.2.1 ++ beBytes 2 run.2.2 ++ [1, e] ++ beBytes 2 (bfpLen run.2.1)
  (beBytes 4 (frame <<< 22 ||| slot <<< 17 ||| sym <<< 13 ||| 1) ++ head ++ bfpPack blocks, (blocks.map bfpSatCount).sum,
    onDev (fun d => d |> forAll (List.range run.2.1) (fun _ => countUse run.2.2) |> countGirderSat g 1 (accs.map (girderSats sh)).sum) b)

/-- Where the frames of uplink flow f with record r go (R259, R272, R281): to its port, into the discard counted at a port, or none is built.
DESIGN CHOICE (log entry 28): those built between the fault of their port and the move are discarded too. -/
def Dev.ulWay (d : Dev) (f : Nat) (r : SpanRec) : Option (Bool × Nat) :=
  match d.flowPort f with
  | some port => if d.flowState f ≠ 2 then none else some (d.portUp port, port)
  | none =>
    if d.famVer 0x40 = 0 ∨ d.link.carry ≠ some 0 ∨ !d.upPorts.isEmpty then none
    else some (false, if d.map.portsMode = 0 then r.b 6 else d.map.timingPort)

/-- The sections of one flow for one symbol (R281). The girder forms its sums whatever becomes of the frames (R174). -/
def ulFlow (c frame slot sym e : Nat) (ends : Int) (rx : List UlStream) (f : Nat) (b : Blk) : Blk :=
  match b.dev.map.get 7 f with
  | none => b
  | some r =>
    (b.dev.ulRuns c f frame slot sym r).foldl (fun b x =>
      let y := ulSection c frame slot sym e rx x b
      let packed := addF (LINK_FLOW_W3_sat f) y.2.1
      onDev (match b.dev.ulWay f r with
        | none => id
        | some (false, port) => fun d => d |> packed |> addF (LINK_PORT_STAT_lost_frames port) 1
        | some (true, port) => fun d => d |> packed
          |> sendTo false (some f) (ends + threeS (d.grid15 c)).toNat port (ofBe ((r.raw.drop 16).take 6)) (r.le 14 2) 0x40 1 (r.le 4 2) y.1) y.2.2) b

/-- The beams that the plans of a flow name for a symbol (R280). -/
def Dev.plannedBeams (d : Dev) (f frame slot sym : Nat) : List Nat := (d.plansFor f frame slot sym).flatMap fun p => p.beams

/-- What the arches deliver of an uplink symbol of carrier c, for its live RX paths (R174, R177 to R179). -/
def Dev.ulStreams (d : Dev) (c slot sym : Nat) (t : Int) (rx : List UlSamples) : List UlStream :=
  ((d.carrierPaths c 0 1 ++ d.carrierPaths c 1 1).filter d.rxLive).map fun n =>
    d.ulArch c n slot sym t (match rx.find? fun s => s.path == n with | some s => s.x | none => [])

/-- UL_SECTIONS_SEND (R170, R171, R174, R177 to R179, R281): at the end of an uplink symbol of carrier c the girders pass it, and the planned
sections of each flow are built from what the arches deliver for the live RX paths, and queued. Every girder and arch holds in a freeze window
(R79). DESIGN CHOICE (log entry 58): a pass that would begin in one is dropped, and no section of its symbol is sent. -/
def ulSectionsSend (c frame slot sym : Nat) (rx : List UlSamples) (b : Blk) : Blk :=
  if (b.dev.map.carrier c).isNone then b
  else if b.dev.span.freeze.isSome then onDev (fun d => passTo (d.symInstant (d.grid15 c) frame slot (sym + 1)).toNat d) b
  else
    let t := b.dev.symInstant (b.dev.grid15 c) frame slot sym
    let ends := b.dev.symInstant (b.dev.grid15 c) frame slot (sym + 1)
    let flows := (List.range 320).filter fun f => match b.dev.map.get 7 f with | some r => r.b 0 == 1 && r.b 1 == c | none => false
    let b := b |> onDev (passTo ends.toNat) |> passBegins t
    let b := (flows.flatMap fun f => b.dev.plannedBeams f frame slot sym).foldl (fun b id => touchBeam id b) b
    let rx := b.dev.ulStreams c slot sym t rx
    let w := workPass (12 * b.dev.map.nRb c) (rx.map UlStream.path) b
    let rx := rx.map fun s => { s with m := holed (holesOf w.1 s.path) s.m }
    let b := w.2
    let e := rx.foldl (fun a s => max a s.exp) 0
    let lo := rx.foldl (fun a s => min a s.exp) 15
    let b := onDev (fun d => d |> setF (ARCH_EXP_ul_emax c) e |> setF (ARCH_EXP_ul_emin c) (min e lo)
      |> countArchSat 1 (rx.filter fun s => s.sat).length) b
    flows.foldl (fun b f => ulFlow c frame slot sym e ends rx f b) b

/-- UL_OVERRUN (R281): three mean symbols after its end, the frames of a symbol of flow f that have not left are dropped. -/
def ulOverrun (f : Nat) (d : Dev) : Dev :=
  match (d.txq 0 ++ d.txq 1).find? fun x => x.flow == some f with
  | none => d
  | some x =>
    let late := fun (y : TxFrame) => y.flow == some f && y.due == x.due
    d |> passTo x.due |> setTxq 0 ((d.txq 0).filter fun y => !late y) |> setTxq 1 ((d.txq 1).filter fun y => !late y)
      |> addF (LINK_FLOW_W2_too_late f) ((d.txq 0 ++ d.txq 1).filter late).length |> raiseSec 31 31 0xFF 0 f

/-- WEIGHT_UPDATE (R282). -/
def weightUpdate (f : XkFrame) (b : Blk) : Blk :=
  xkReceive 0x41 [2] f (fun m b =>
    let id := be m.body 0 2
    let d := b.dev
    let ranged := (List.range 16).any fun e => d.map.ulwWrites e id
    if m.body.length ≠ 320 ∨ m.body.getD 2 0 > 5 ∨ m.body.getD 3 0 ≠ 0 ∨ ((m.body.drop 8).take 56).any (· != 0) ∨ id ≥ 1024 ∨
        (!d.on (modeFld 2) && ranged) then onDev (discard LINK_XK_DISC_format) b
    else
      dynUpdate id (m.body.getD 2 0) (be m.body 4 2) (m.body.getD 6 0) (m.body.getD 7 0)
        ((List.range 64).map fun i => be m.body (64 + 4 * i) 4) b) b

/-! ### Timing (R283, R284) -/

/-- A timestamp of network time now: nanoseconds and sixteenths (R36, R283). -/
def Dev.stamp (d : Dev) : List Nat := beBytes 4 d.nt ++ beBytes 2 (d.t.ntU % 3072 / 192)

/-- ECHO_REQUEST (R283): answered on the same port, `turn` air ticks after its arrival, at most 100 us; the timestamp of the egress is put in as
the response leaves its queue. -/
def echoRequest (f : XkFrame) (turn : Nat) (b : Blk) : Blk :=
  xkReceive 0x42 [1] f (fun m => onDev fun d =>
    if m.body.length ≠ 8 then discard LINK_XK_DISC_format d
    else
      let ingress := d.stamp
      let d := passTicks (min turn 98304) d
      sendMsg f.port 0x42 2 (m.body ++ ingress ++ List.replicate 6 0) d) b

/-- TIME_REPORT (R284): a change of quality or permission that has not been reported is, on every UP port while the timing family is agreed. -/
def timeReport (d : Dev) : Dev :=
  let owed := d.xk.owed
  let d := modXk (fun x => { x with owed := owed - 1 }) d
  if owed = 0 ∨ d.famVer 0x42 = 0 then d
  else
    sendAll 0x42 3 ([d.quality + 128 * ofBool d.txPermit, 0, 0, 0] ++ beBytes 4 (d.f TL_ERR_EST_err_ns) ++ beBytes 4 d.nt ++
      beBytes 2 d.t.frame ++ beBytes 4 d.t.tick) d

/-! ### Heartbeat (R288, R289) -/

/-- The power state code of a heartbeat: 3 while the starting entry runs. -/
def Dev.pwrCode (d : Dev) : Nat := if d.pwr ≤ 2 then d.pwr else 3

/-- The heartbeat body (R288). -/
def Dev.heartbeatBody (d : Dev) : List Nat :=
  d.otp.devId.take 8 ++ beBytes 2 d.t.frame ++ [0, 0] ++ beBytes 4 d.nt ++ [d.quality + 128 * ofBool d.txPermit, d.pwrCode] ++
    [ofBool d.formed + 2 * d.f SPAN_STATUS_partial + 4 * d.f LINK_STAT_fallback + 8 * d.f LINK_STAT_active,
     d.f DECK_SEAL_STAT_diverged + 16 * d.f DECK_SEAL_STAT_held] ++
    beBytes 4 (d.f TL_ERR_EST_err_ns) ++ beBytes 4 (d.f SPAN_MAP_ID_map_id) ++ beBytes 4 d.seals.pubEpoch ++ d.seals.pubSeal ++
    beBytes 2 d.ev.haltCount ++ beBytes 2 d.xk.hbCount

/-- HEARTBEAT (R288, R389): at the next frame boundary one is built and sent on every UP port, in the starting entry too; none in
Dormant. -/
def heartbeat (d : Dev) : Dev :=
  if d.pwr = 3 ∨ !d.running then d
  else
    let d := if d.t.tick = 0 then d else passTo d.nextFrame d
    d |> sendAll 0x44 1 d.heartbeatBody |> modXk (fun x => { x with hbCount := (x.hbCount + 1) % 65536 })

/-- A heartbeat-family frame is a sign of life (R289). -/
def signOfLife (d : Dev) : Dev :=
  d |> setF LINK_XK_STAT_hb_rx (d.f LINK_XK_STAT_hb_rx + 1) |> setB LINK_XK_STAT_peer_silent false
    |> modXk (fun x => { x with lifeAt := d.now })

/-- An accepted one gives the peer's address and tag on its port (R265). -/
def peerHeard (f : XkFrame) (d : Dev) : Dev := modXk (fun x => { x with peer := smPut (broadcast, 0) f.port (f.src, f.tci) x.peer }) d

/-- Receive a heartbeat-family message: a sign of life whatever its kind and body, a discarded one too (R269, R289). -/
def xkHeartbeat (kinds : List Nat) (f : XkFrame) (g : XkMsg → Dev → Dev) (b : Blk) : Blk :=
  let life := fun (x : Opened) => match x with | .discarded _ => xkHeader f | .message _ => true | _ => false
  b |> (if life (b.dev.xkOpen 0x44 kinds f) then onDev signOfLife else id) |> xkReceive 0x44 kinds f (fun m => onDev (g m))

/-- Does a heartbeat or a capability result follow its layout (R269, R288, R290)? -/
def peerBodyGood (m : XkMsg) : Bool :=
  if m.kind = 1 then
    m.body.length == 68 && be m.body 10 2 == 0 && decide (be m.body 8 2 ≤ 1023) && bits (m.body.getD 16 0) 6 3 == 0 && decide (m.body.getD 16 0 % 8 ≤ 4) &&
      decide (m.body.getD 17 0 ≤ 3) && decide (m.body.getD 18 0 < 64) && decide (m.body.getD 19 0 < 32)
  else
    m.body.length == 17 && ((List.range 5).all fun i => m.body.getD (3 * i) 0 == 0x40 + i) && decide (be m.body 15 2 ≤ 1023)

/-- PEER_HEARTBEAT (R289): any kind but an offer, which has a row of its own. -/
def peerHeartbeat (f : XkFrame) (b : Blk) : Blk :=
  xkHeartbeat [1, 3] f (fun m d => if peerBodyGood m then peerHeard f d else discard LINK_XK_DISC_format d) b

/-- PEER_SILENT (R289). -/
def peerSilent (d : Dev) : Dev :=
  let lim := d.f LINK_XK_CFG_peer_to
  if lim ≠ 0 ∧ !d.upPorts.isEmpty ∧ !d.on LINK_XK_STAT_peer_silent then
    d |> passTo (d.xk.lifeAt + usTicks (10000 * lim)) |> setB LINK_XK_STAT_peer_silent true |> raise0 28
  else d

/-! ### Capability exchange (R290 to R293) -/

/-- The device's own offer: families 0x40 to 0x44 with their highest minor; every major is 1 (R292). -/
def Dev.ownOffer (d : Dev) : List (Nat × Nat × Nat) :=
  [(0x40, 1, 1), (0x41, 1, 1), (0x42, 1, 0), (0x43, 1, if 257 ≤ d.effLevel then 1 else 0), (0x44, 1, 0)]

/-- Send the offer on some ports (R290). -/
def sendOffer (ports : List Nat) (d : Dev) : Dev :=
  let body := [5] ++ d.ownOffer.flatMap fun x => [x.1, x.2.1, x.2.2, 0]
  let d := forAll ports (fun p => sendMsg p 0x44 2 body) d
  if ports.isEmpty ∨ d.f LINK_XK_STAT_caps > 1 then d else setF LINK_XK_STAT_caps 1 d

/-- A result from the last offer of the distributed unit (R290, R291, R293), sent on some ports. -/
def sendResult (ports : List Nat) (d : Dev) : Dev :=
  match d.xk.offer with
  | none => d
  | some du =>
    let ok := du.any fun x => x.1 == 0x44 && x.2.1 == 1
    let agree := fun (x : Nat × Nat × Nat) =>
      let minors := (du.filter fun y => y.1 == x.1 && y.2.1 == x.2.1).map fun y => y.2.2
      if minors.isEmpty then (0, 0) else (x.2.1, min x.2.2 (minors.foldl max 0))
    let vers := if ok then d.ownOffer.map agree else [(0, 0), (0, 0), (0, 0), (0, 0), (1, 0)]
    let at_ := d.frameLead
    let frame := (d.t.frame + (d.t.tick + (at_ - d.now)) / frameTicks) % 1024
    let body := (List.range 5).flatMap (fun i => [0x40 + i, (vers.getD i (0, 0)).1, (vers.getD i (0, 0)).2]) ++ beBytes 2 frame
    let d := d |> forAll ports (fun p => sendMsg p 0x44 3 body) |> modXk (fun x => { x with result := some ⟨vers, frame, at_, ok⟩ })
    if ok then d else d |> setF LINK_XK_STAT_caps 3 |> raise0 30

/-- CAPABILITY_OFFER (R290): 1 to 16 entries of 4 bytes after their count. -/
def capabilityOffer (f : XkFrame) (b : Blk) : Blk :=
  xkHeartbeat [2] f (fun m d =>
    let n := m.body.getD 0 0
    if n = 0 ∨ n > 16 ∨ m.body.length ≠ 1 + 4 * n ∨
        (List.range n).any fun i => m.body.getD (4 + 4 * i) 0 != 0 || !decide (0x40 ≤ m.body.getD (1 + 4 * i) 0 ∧ m.body.getD (1 + 4 * i) 0 ≤ 0x44) then
      discard LINK_XK_DISC_format d
    else
      let l := (List.range n).map fun i => (m.body.getD (1 + 4 * i) 0, m.body.getD (2 + 4 * i) 0, m.body.getD (3 + 4 * i) 0)
      d |> peerHeard f |> modXk (fun x => { x with offer := some l }) |> sendResult [f.port]) b

/-- The device's own offer changed (R290, R292). -/
def offerChanged (d : Dev) : Dev := d |> sendOffer d.upPorts |> sendResult d.upPorts

/-- CAPS_OFFER_RESEND (R290): while caps is OFFERED. -/
def capsOfferResend (d : Dev) : Dev := if d.f LINK_XK_STAT_caps = 1 then sendOffer d.upPorts d else d

/-- CAPS_CHANGED (R293): a result takes effect at its frame boundary. -/
def capsChanged (d : Dev) : Dev :=
  match d.xk.result with
  | none => d
  | some r =>
    let v := fun (i : Nat) => 16 * (r.vers.getD i (0, 0)).1 + (r.vers.getD i (0, 0)).2
    let d := d |> passTo r.at_ |> modXk (fun x => { x with result := none })
    let changed := (List.range 5).any fun i => d.famVer (0x40 + i) != v i
    d |> setF LINK_XK_VER_LO_sections (v 0) |> setF LINK_XK_VER_LO_control (v 1) |> setF LINK_XK_VER_LO_timing (v 2)
      |> setF LINK_XK_VER_LO_management (v 3) |> setF LINK_XK_VER_HI_heartbeat (v 4) |> setF LINK_XK_VER_HI_frame r.frame
      |> onlyIf r.ok (setF LINK_XK_STAT_caps 2)
      |> onlyIf changed (raise0 29)
      |> onlyIf (r.ok && v 0 == 0 && (List.range 320).any fun f => (d.map.get 7 f).isSome) (raise0 30)
      |> refreshFlows

/-- PORT_UP (R247, R290): the port enters UP, and the device sends its offer on it. -/
def portUpRow (p rx tx : Nat) (d : Dev) : Dev :=
  if d.port p = 2 then
    let first := d.upPorts.isEmpty
    d |> portComesUp p rx tx |> onlyIf first (modXk fun x => { x with lifeAt := max x.lifeAt d.now }) |> sendOffer [p]
  else d

/-- The next frame of each UP port's transmit queue enters its expansion buffer when the one before has passed it: a tick of the idling block.
A frame that passes takes its timestamp as it leaves (R36, R283), and an uplink section counts as sent (R295). -/
def drainPorts (d : Dev) : Dev :=
  forAll d.upPorts (fun p d =>
    match d.txq p with
    | [] => d
    | x :: rest =>
      if d.now < (d.expb (2 * p + 1)).till then d
      else
        let payload := if x.stamp then x.payload.take (x.payload.length - 6) ++ d.stamp else x.payload
        let n := frameSpan x.tci payload.length
        d |> setTxq p rest |> expbEnter (2 * p + 1) n payload
          |> (match x.flow with
              | some f => onlyIf (expbPasses (2 * p + 1) n d.now 128) (setF (LINK_FLOW_W1_sections f) (d.f (LINK_FLOW_W1_sections f) + 1))
              | none => id)) d

end Sys2Proof.Machine
end

