-- ==== Sys2Proof/Machine/Span.lean ====
section
/-!
DEFINITION. Formation of a span map up to its freeze window, pier seals, and the interface level (chapter 03, R66 to R80,
R84, R90 to R92, R490). The release is in SpanRelease.lean.
-/
namespace Sys2Proof.Machine

def modSpan (g : SpanSt → SpanSt) (d : Dev) : Dev := { d with span := g d.span }

/-- The formation state (R66). -/
def Dev.formState (d : Dev) : Nat := d.f SPAN_STATUS_form_state

/-- A refusal is shown (R77): reason and offset in SPAN_REFUSE, and E144. -/
def spanNote (reason off : Nat) (d : Dev) : Dev :=
  d |> setF SPAN_REFUSE_reason reason |> setF SPAN_REFUSE_offset off |> raise 144 0xFF reason 0

/-- SPAN_FORM_TIME: microseconds since the form command (R67). -/
def noteFormTime (d : Dev) : Dev := setF SPAN_FORM_TIME_us ((d.now - d.span.formAt) * 100 / 98304) d

/-- A formation is refused (R77): nothing of the shadow stays, the structure in force is unchanged. -/
def spanRefuse (reason off : Nat) (d : Dev) : Dev :=
  d |> onlyIf (decide (d.formState < 4)) noteFormTime
    |> modSpan (fun s => { s with shadow := none, loaded := [] })
    |> setF SPAN_STATUS_form_state 0 |> setF SPAN_STATUS_image d.map.image |> spanNote reason off

/-- FORM (R68): a full formation in Ready, a partial one in Rest while Formed. -/
def spanForm (image : Nat) (d : Dev) : Dev :=
  if d.formState ≠ 0 then setB SPAN_STATUS_busy true d
  else if d.inReady || (d.inRest && d.formed) then
    d |> modSpan (fun s => { s with
        formAt := d.now, formPartial := d.inRest, formImage := image
        formAddr := 64 * d.f SPAN_SRC_ADDR_addr, formLen := d.f SPAN_SRC_LEN_len, shadow := none, loaded := [] })
      |> setF SPAN_STATUS_form_state 1 |> setF SPAN_STATUS_image image
  else spanNote 6 0 d

/-- ABORT (R70). -/
def spanAbort (d : Dev) : Dev := if 1 ≤ d.formState ∧ d.formState ≤ 4 then spanRefuse 11 0 d else d

/-- UNFORM (R84): accepted only in Ready with form_state IDLE; it comes due at a reference boundary. -/
def spanUnform (org : Origin) (d : Dev) : Dev :=
  if d.inReady && d.formState == 0 then deferTo (.unform org) d.refBoundary d else spanNote 6 0 d

/-- A write of SPAN_CMD (R490): with more than one command it is refused as a whole. -/
def spanCmd (org : Origin) (v : Nat) (d : Dev) : Dev :=
  let c := v % 16
  if c = 1 then spanForm (bits v 5 4) d
  else if c = 2 then spanAbort d
  else if c = 4 then deferTo (.commit org) d.refBoundary d
  else if c = 8 then spanUnform org d
  else if c = 0 then d
  else setB SPAN_STATUS_cmd_refused true d

/-- The hash that the active manifest gives for span-map image k (R307, R308). -/
def Dev.imageHash (d : Dev) (k : Nat) : Option (List Nat) :=
  ((d.key.active.getD {}).parts.find? fun p => p.ty == 5 && p.index == k).map ManPart.hash

/-- LOADING_DONE (R66): the image is read from deck SRAM and hashed, and compared with the active manifest. DESIGN CHOICE (log entry
58): an image whose address and length run beyond the 64 MiB of deck SRAM cannot match, and is refused with reason HASH, offset 0. -/
def loadingDone (b : Blk) : Blk :=
  if b.dev.formState ≠ 1 then b
  else
    let a := b.dev.span.formAddr
    let len := b.dev.span.formLen
    let n := (len + 7) / 8
    if a + len > 0x4000000 then onDev (spanRefuse 4 0) b
    else
      let b := b |> touchRange 1 a n |> errorResps a n
      let img := (b.read8 a n).take len
      if b.readable a n && b.dev.imageHash b.dev.span.formImage == some (sha256 img) then
        onDev (fun d => d |> modSpan (fun s => { s with loaded := img }) |> setF SPAN_STATUS_form_state 2) b
      else onDev (spanRefuse 4 0) b

/-- CHECKING_DONE (R77): the checks in their order; the image becomes the shadow or is refused. -/
def checkingDone (d : Dev) : Dev :=
  if d.formState ≠ 2 then d
  else
    let old := if d.span.formPartial then d.span.committed else none
    match checkImage d.span.loaded d.span.formImage d.span.loaded.length d.effLevel d.otp.fused old with
    | .error (reason, off) => spanRefuse reason off d
    | .ok m => d |> modSpan (fun s => { s with shadow := some m, loaded := [] }) |> setF SPAN_STATUS_form_state 3

/-- SHADOW_READY (R66, R67). -/
def shadowReady (d : Dev) : Dev :=
  if d.formState ≠ 3 then d
  else d |> noteFormTime |> setF SPAN_STATUS_form_state 4 |> setF SPAN_REFUSE_reason 0 |> setF SPAN_REFUSE_offset 0 |> raise0 145

/-- FORM_MEM_ERR (R77): an uncorrectable error of shadow memory. -/
def formMemErr (d : Dev) : Dev := if d.formState = 3 then spanRefuse 12 0 d else d

/-! ### The freeze window -/

/-- Everything holds at T (R79): loads and captures in progress and calibration runs are abandoned (R183, R152, R226). -/
def freezeBegin (z : Freeze) (d : Dev) : Dev :=
  d |> railAbandon |> forAll (List.range 8) (fun b d => d |> captureDiscard b |> calAbandon b)
    |> modSpan (fun s => { s with freeze := some z }) |> setF SPAN_STATUS_form_state 5

/-- A commit comes due at now (R78); true when its freeze window begins. -/
def commitDue (org : Origin) (entry : Option Nat) (d : Dev) : Dev × Bool :=
  if d.formState = 4 ∧ (if d.span.formPartial then d.inRest else d.inReady) then
    (freezeBegin { unform := false, org := org, start := d.now, acks := 0, entry := entry, deferred := [], failed := 0 } d, true)
  else (spanNote 6 0 d, false)

/-- A commit that a register asked for comes due (R78). -/
def commitByWrite (org : Origin) (d : Dev) : Dev :=
  let r := commitDue org none d
  if r.2 then r.1 else setB SPAN_STATUS_commit_refused true r.1

/-- An unform comes due (R84): checked again. -/
def unformDue (org : Origin) (d : Dev) : Dev :=
  if d.inReady && d.formState == 0 then
    freezeBegin { unform := true, org := org, start := d.now, acks := 0, entry := none, deferred := [], failed := 0 } d
  else spanNote 6 0 d

/-- SWAP_ACK (R79, R80): a die acknowledges its swap; 0 to 3 the piers, 4 and 5 the deck halves. -/
def swapAck (die : Nat) (d : Dev) : Dev :=
  if die < 6 then modSpan (fun s => { s with freeze := s.freeze.map fun z => { z with acks := z.acks ||| 1 <<< die } }) d else d

/-! ### Pier seals (R90) -/

/-- Paths of pier p. -/
def pierPaths (p : Nat) : List Nat := (List.range 16).map fun i => 16 * p + i

/-- PIER_SEAL_CHECK (R90): results of the same epoch are compared; a disagreement sheds the pier's 16 paths as path faults. -/
def pierSealCheck (p : Nat) (agree : Bool) (d : Dev) : Dev :=
  if p ≥ 4 ∨ !d.piersUp ∨ agree ∨ d.on DECK_SEAL_STAT_busy ∨ d.fb DECK_SEAL_STAT_diverged p then d
  else
    d |> raise 146 p 0 0 |> setBitF DECK_SEAL_STAT_diverged p
      |> forAll (pierPaths p) (fun n => pathFault n 5)

/-- The fault shed of a divergence ends on path n (R90, R116): the fault bits that only the divergence holds clear. -/
def divergenceOver (n : Nat) (d : Dev) : Dev :=
  let b := bayOf n
  let k := posOf n
  let s := d.bay b
  d |> onlyIf (s.divTx.testBit k) (clrBitF (BAY_SHED_tx_fault b) k) |> onlyIf (s.divRx.testBit k) (clrBitF (BAY_SHED_rx_fault b) k)
    |> modBay b (fun s => { s with divTx := maskOff s.divTx (1 <<< k), divRx := maskOff s.divRx (1 <<< k) })

/-- PIER_RELOAD_DONE (R90): the reloaded pier agrees again, or is held with both bays Off. -/
def pierReloadDone (p : Nat) (agree : Bool) (d : Dev) : Dev :=
  if p ≥ 4 ∨ !d.fb DECK_SEAL_STAT_diverged p ∨ d.pierHeld p then d
  else if agree then
    d |> clrBitF DECK_SEAL_STAT_diverged p |> forAll (pierPaths p) divergenceOver |> raise 147 p 0 0
  else
    d |> modSpan (fun s => { s with heldPiers := s.heldPiers ||| 1 <<< p }) |> setB DECK_SEAL_STAT_held true
      |> bayDown (2 * p) |> bayDown (2 * p + 1) |> raise 148 p 0 0

/-! ### The interface level (R91, R92) -/

/-- The effective level that a declaration gives, as 256 x major + minor. -/
def levelOfDecl (v : Nat) : Nat := if v = 0 then 0x100 else min 0x102 v

/-- HOSTLEVEL_WRITE (R92): a new effective level changes the offer (R292). -/
def hostlevelWrite (org : Origin) (rel : Bool) (val : Nat) (d : Dev) : Dev :=
  let v := val % 0x10000
  let eff := levelOfDecl v
  if !d.inReady ∨ (0 < v ∧ v < 0x100) ∨ d.map.level > eff then raise0 152 d
  else
    let was := d.effLevel
    let old := 256 * d.f DECK_HOSTLEVEL_host_major + d.f DECK_HOSTLEVEL_host_minor
    d |> setF DECK_HOSTLEVEL_host_major (v / 256) |> setF DECK_HOSTLEVEL_host_minor v
      |> setF DECK_HOSTLEVEL_eff_major (eff / 256) |> setF DECK_HOSTLEVEL_eff_minor eff
      |> (if rel then governedInRelease 0xC old v else governed org 0xC old v) |> onlyIf (eff != was) offerChanged

end Sys2Proof.Machine
end

