-- ==== Sys2Proof/Machine/RegBus.lean ====
section
/-!
DEFINITION. A write to a register: access codes, refused, substituted and ignored values, locking, the ledger and what a block
does beyond its fields (chapters 00 and 16, R6 to R10, R413, R482, R483); SPAN_ADAPT_MODE (R24 to R26) and the writes whose
effect waits for a boundary (R99, R112, R138).
-/
namespace Sys2Proof.Machine

/-! ### Effects that wait for a boundary -/

/-- A SYNC discards the captures of its span's bays (R153). -/
def syncNow (s : Nat) (d : Dev) : Dev := d |> forAll ((List.range 4).map fun i => 4 * s + i) captureDiscard |> syncSpan s

/-- What a deferred write does at its boundary. -/
def deferredEffect (k : DefKind) (b : Blk) : Blk :=
  match k with
  | .values l => onDev (forAll l fun x => setForced x.1 x.2) b
  | .gain n tx rx => onDev (attWatch [n] (splitWatch [n] (applyGain n (some tx) (some rx)))) b
  | .hostShed k tx rx => b |> onDev (hostShedEffect k tx rx) |> renormHere
  | .commit org => onDev (commitByWrite org) b
  | .unform org => onDev (unformDue org) b
  | .sync s => onDev (syncNow s) b

/-- The deferred write that comes first. -/
def Dev.firstDeferred (d : Dev) : Option Deferred :=
  d.deferred.foldl (fun o x => match o with | none => some x | some y => if x.due < y.due then some x else some y) none

/-- DEFERRED_WRITE_EFFECT (R138): the deferred write that comes first takes effect at its boundary. -/
def runDeferred (b : Blk) : Blk :=
  match b.dev.firstDeferred with
  | none => b
  | some x =>
    b |> onDev (fun d => { passTo x.due d with deferred := d.deferred.erase x }) |> deferredEffect x.kind

/-- Every deferred write due by an instant takes effect. -/
def runDeferredTo (t : Nat) (b : Blk) : Blk :=
  b.dev.deferred.foldl (fun b _ =>
    match b.dev.firstDeferred with
    | some x => if x.due ≤ t then runDeferred b else b
    | none => b) b

/-! ### SPAN_ADAPT_MODE -/

/-- Does function i run an operation, one of the first three (R25)? -/
def Dev.modeBusy (d : Dev) (i : Nat) : Bool :=
  match i with
  | 0 => d.dpdBusy
  | 1 => (List.range 8).any fun b => (d.bay b).cal.isSome || !(d.calBay b).awaits.isEmpty
  | 2 => d.jobOf 2
  | _ => false

/-- The mode bits take new values (R25): a function that runs an operation stays in the mode that governs it, with its
pending bit set. -/
def modesStore (v : Nat) (d : Dev) : Dev :=
  let d := forAll (List.range 6) (fun i d =>
    let governs := d.hostMode i
    let wait := d.modeBusy i && v.testBit i != governs
    d |> setB (modeFld i) (v.testBit i) |> (if wait then setBitF else clrBitF) SPAN_ADAPT_MODE_pending i) d
  if d.fb SPAN_ADAPT_MODE_pending 0 then d else dpdModeChanged d

/-- The mode bits as the register holds them. -/
def Dev.modes (d : Dev) : Nat := (List.range 6).foldl (fun a i => a + (d.f (modeFld i) <<< i)) 0

/-- A write to SPAN_ADAPT_MODE (R24, R191): accepted in Ready, and as a pair of a release. DESIGN CHOICE (log entry 58): a write in
Ready before the first formation is accepted like any other and governs from then on; R24 speaks of writes after formation, R26 of
hardware mode before it. -/
def adaptModeWrite (org : Origin) (rel : Bool) (v : Nat) (d : Dev) : Dev :=
  if !rel && !d.inReady then setB SPAN_ADAPT_MODE_refused true d
  else
    let old := d.modes
    let d := d |> onlyIf (v.testBit 31) (setB SPAN_ADAPT_MODE_refused false) |> modesStore v
    let d := if rel then governedInRelease 0x200020 old d.modes d else governed org 0x200020 old d.modes d
    forAll [0, 1, 2] (fun i d => if old.testBit i && !v.testBit i && !d.classServed i then raise 109 0xFF i 0 d else d) d

/-! ### Access codes -/

/-- One field takes a write by its access code (R9): `locked` bars a change of an RWL field, and the flag tells of one. -/
def storeField (off v : Nat) (locked : Bool) (r : Dev × Bool) (x : FieldDef) : Dev × Bool :=
  let y := x.at off
  let n := bits v x.hi x.lo
  match x.acc with
  | .rw => (setF y n r.1, r.2)
  | .rwg => (setF y n r.1, r.2)
  | .rwl => if locked then (r.1, r.2 || r.1.f y != n) else (setF y n r.1, r.2)
  | .w1c => (setF y (maskOff (r.1.f y) n) r.1, r.2)
  | .ro => r
  | .wo => r

/-- A register's fields take a write (R9, R482). -/
def storeReg (off v : Nat) (rel : Bool) (fs : List FieldDef) (d : Dev) : Dev :=
  let r := fs.foldl (storeField off v (d.formed && !rel)) (d, false)
  onlyIf r.2 (raise0 149) r.1

/-- The register offset within its bay block, and the bay (R118, R441). -/
def bayRel (off : Nat) : Option (Nat × Nat) :=
  if off < 0x3000000 ∨ 0x4000000 ≤ off then none
  else
    let r := (off - 0x3000000) % 0x400000
    if r < 0x2000 ∧ r % 0x1000 < 0x800 then some (2 * ((off - 0x3000000) / 0x400000) + r / 0x1000, r % 0x1000) else none

/-- Values of a bay register taken as another: verification and limits (R164), overload and DC canceller (R118), retry and trigger
step (R239). -/
def baySubst (rel v : Nat) : Nat :=
  if rel = 0x3A4 then
    let v := if bits v 23 16 = 0 then putBits v 23 16 1 else v
    let v := if bits v 12 8 < 8 then putBits v 12 8 8 else v
    if bits v 7 4 = 0 then putBits v 7 4 1 else v
  else if rel = 0x10 then putBits (putBits v 23 16 (max 1 (bits v 23 16))) 3 0 (min 9 (bits v 3 0))
  else if rel = 0x400 then putBits (putBits v 15 8 (max 1 (bits v 15 8))) 4 0 (max 1 (bits v 4 0))
  else v

/-- A value of BAY_SHED: the host bits of inactive paths are ignored (R114). -/
def Dev.shedSubst (d : Dev) (b v : Nat) : Nat :=
  putBits (putBits v 15 8 (bits v 15 8 &&& d.f (BAY_ACTIVE_rx_active b))) 7 0 (bits v 7 0 &&& d.f (BAY_ACTIVE_tx_active b))

/-- Values taken as another (R483). -/
def Dev.substValue (d : Dev) (org : Origin) (off val : Nat) : Nat :=
  let v := val |> tlSubst off |> girSubst off |> linkSubst off |> dmaSubst off |> keySubst off |> hkSubst off |> ledgerSubst off
  let v := pwrSubst org off v d
  match bayRel off with
  | some (b, r) => if r = 0x14 then d.shedSubst b v else baySubst r v
  | none => v

/-- A refused value (R483): the status bit that its chapter names. -/
def Dev.refusesValue (d : Dev) (off v : Nat) : Option (Dev → Dev) :=
  [tlRefuses off v d, linkRefuses off v d, keyRefuses off v d, dmaRefuses off v d, pwrRefuses off v].findSome? id

/-- Writes that a chapter ignores: those of a channel, descriptor, trim word or mode that is not the writer's, of a pier window
without power (R118), and of LEDGER_EPOCH by the host (R414). -/
def Dev.ignoresWrite (d : Dev) (org : Origin) (off : Nat) : Bool :=
  dmaIgnores org off || d.hkIgnores org off || d.calIgnores off || d.pwrIgnores off ||
    (off == 0x300014 && org == .host) || (decide (0x3000000 ≤ off) && !d.piersUp) ||
    (match bayRel off with
     | some (_, r) => (org == .host && decide (0x320 ≤ r ∧ r < 0x340)) || (org != .loop && d.dpdHw && decide (0x380 ≤ r ∧ r < 0x3A0))
     | none => false)

/-- What a bay register does beyond its access codes. -/
def bayAfter (b rel v : Nat) (was : Bool) (d : Dev) : Dev :=
  if 0x200 ≤ rel ∧ rel < 0x220 then chainWriteAfter (8 * b + (rel - 0x200) / 4) 0 d
  else if 0x220 ≤ rel ∧ rel < 0x240 then chainWriteAfter (8 * b + (rel - 0x220) / 4) 1 d
  else if 0x360 ≤ rel ∧ rel < 0x380 then
    let n := 8 * b + (rel - 0x360) / 4
    if d.on (BAY_DPD_dpd_en b ((rel - 0x360) / 4)) = was ∨ d.dpdState n = 5 then d else d |> dpdStart n |> dpdModeSettled
  else if rel = 0x344 then forAll (List.range 4) (fun j => lineFalls (1 + 4 * b + j)) (bayWriteAfter b rel v d)
  else if rel = 0x3A0 then
    d |> onlyIf (v.testBit 8) (clearFb (8 * b + bits v 2 0)) |> onlyIf (v.testBit 7) (expandCmd b (bits v 2 0) (bits v 3 3))
  else bayWriteAfter b rel v d

/-- What a write does beyond its access codes. `was`: the dpd_en that a BAY_DPD_k held before. -/
def writeAfter (org : Origin) (off v : Nat) (was : Bool) (b : Blk) : Blk :=
  let b := b |> girWriteAfter off v |> ledgerWriteAfter off v |> keyWriteAfter off v |> hkCalWrite off v
  onDev (fun d =>
    let d := d |> tlWriteAfter org off v |> linkWriteAfter off v |> dmaWriteAfter org off v |> memWriteAfter off v
      |> hkWriteAfter org off v |> calWriteAfter off v |> trussWriteAfter org off v |> avsWriteAfter off
    let d := if off = LINK_REST_rx_rest.off then linkRest d else d
    let d := if off = 0x200000 then spanCmd org v d else d
    match bayRel off with
    | some (k, r) => bayAfter k r v was d
    | none => d) b

/-- A rail weight register, as pier, path and buffer (R188). -/
def railRel (off : Nat) : Option (Nat × Nat × Nat) :=
  if off < 0x3000000 then none
  else
    let r := (off - 0x3000000) % 0x400000
    if 0x4000 ≤ r ∧ r < 0x4080 then some ((off - 0x3000000) / 0x400000, (r - 0x4000) / 8, (r - 0x4000) % 8 / 4) else none

/-- The register at an offset is written (R9, R413, R482, R483); `rel`: by a release. -/
def regStore (org : Origin) (rel : Bool) (off v : Nat) (r : RegDef) (b : Blk) : Blk :=
  let old := b.dev.rwgWord off r.fields
  let was : Bool := match bayRel off with
    | some (k, o) => b.dev.on (BAY_DPD_dpd_en k ((o - 0x360) / 4))
    | none => false
  let b := onDev (storeReg off v rel r.fields) b
  let b := if isGoverned r.fields then
      onDev (fun d => if rel then governedInRelease off old (d.rwgWord off r.fields) d else governed org off old (d.rwgWord off r.fields) d) b
    else b
  writeAfter org off v was b

/-- A write of v to the register at an offset; an unassigned one is ignored (R8). A release's write that finds the ledger's input queue full
waits for the record that makes room (R419). -/
def regWrite (org : Origin) (rel : Bool) (off val : Nat) (b : Blk) : Blk :=
  let b := if rel && b.dev.ledgerFull then ledgerForm b else b
  if off = 0x200020 then onDev (adaptModeWrite org rel val) b
  else if off = 0xC then onDev (hostlevelWrite org rel val) b
  else if b.dev.ignoresWrite org off then b
  else
    match railRel off with
    | some (p, i, s) => onDev (railWrite p i s val) b
    | none =>
      match findBank off with
      | none => b
      | some r =>
        let v := b.dev.substValue org off val
        match b.dev.refusesValue off v with
        | some g => onDev g b
        | none => regStore org rel off v r b

/-- Is a register governed (R413)? -/
def governedOff (off : Nat) : Bool := match findBank off with | some r => isGoverned r.fields | none => false

/-- Is a write one that the ledger records, were it accepted (R413): of a governed register, or a restep? -/
def governedWrite (off v : Nat) : Bool := governedOff off || (off == 0x10002C && v.testBit 0)

end Sys2Proof.Machine
end

