-- ==== Sys2Proof/Machine/Timetable.lean ====
section
/-!
DEFINITION. The timetable: entries, arming, cancelling, execution and the actions (chapter 02, R48 to R57, R484).
-/
namespace Sys2Proof.Machine

/-! ### Entries -/

/-- Word 3 as it reads (R49). -/
def TtEntry.w3 (e : TtEntry) : Nat :=
  e.fireCount * 0x100000 + e.status * 0x10000 + ofBool e.moved * 0x8000 + e.rep * 4 + e.latePolicy * 2

/-- Is an action an RF action (R57)? -/
def isRf (code : Nat) : Bool := decide (1 ≤ code ∧ code ≤ 8)

/-- The period of a repeating entry (R55). -/
def Dev.ttPeriod (d : Dev) (e : TtEntry) : Nat := if e.rep = 1 then slotTicks (d.grid15 e.carrier) else frameTicks

/-- The bay of a bay or path target. -/
def TtEntry.bay (e : TtEntry) : Nat := if e.kind = 4 then bayOf e.index else e.index

/-- The active paths of a target in one direction. -/
def Dev.ttActive (d : Dev) (e : TtEntry) (dir : Nat) : List Nat :=
  e.paths.filter fun n => if dir = 0 then d.map.txActive n else d.map.rxActive n

/-! ### Arming (R51, R484) -/

/-- Target kinds that an action allows (R57). -/
def actionKinds (code : Nat) : List Nat :=
  match code with
  | 1 => [3]
  | 2 => [0, 1, 2, 3, 4]
  | 3 => [0, 2, 3, 4]
  | 4 => [3, 4]
  | 5 => [3, 4]
  | 6 => [1]
  | 7 => [0]
  | 8 => [3, 4]
  | 16 => [3, 4]
  | 17 => [5]
  | 18 => [6]
  | 19 => [0]
  | 20 => [0]
  | _ => []

/-- Are bits hi to lo of an argument 0? -/
def zeroBits (v hi lo : Nat) : Bool := bits v hi lo == 0

/-- Is an entry's argument well formed for its action, on a target that exists (R57)? -/
def Dev.argGood (d : Dev) (org : Origin) (e : TtEntry) : Bool :=
  let a := e.w2
  match e.action with
  | 1 => decide (a ≤ 5)
  | 2 => zeroBits a 31 28 && zeroBits a 15 2
  | 3 => decide (a ≤ 1) && e.tick % slotTicks (d.grid15 e.carrier) == 0
  | 4 => zeroBits a 31 18 && zeroBits a 15 14 && zeroBits a 7 6
  | 5 => zeroBits a 31 10 && zeroBits a 6 5 && respAllowed (bits a 7 7) (bits a 9 8) (bits a 4 0) &&
      !(d.ttActive e (bits a 7 7)).isEmpty
  | 6 => a == 0 && e.tick % 8 == 0
  | 7 => a == 0
  | 8 => d.map.calArgGood a (e.kind == 4) e.bay
  | 16 => decide (a < 8) && captureAllowed org a (d.f (BAY_CAPD_slot e.bay a))
  | 17 => decide (a < 256)
  | 18 => a % 64 == 0 && !(org == .host && decide (e.index < 16))
  | 19 => decide (a < 65536)
  | 20 => a == 0
  | _ => false

/-- Is an entry's target formed (R484, R207)? A RESP_SWAP needs a path that is active in the direction it names (R134). -/
def Dev.targetFormed (d : Dev) (e : TtEntry) : Bool :=
  let i := e.index
  let any := e.paths.any fun n => d.map.txActive n || d.map.rxActive n
  if e.action = 5 ∧ (d.ttActive e (bits e.w2 7 7)).isEmpty then false else
  match e.kind with
  | 0 => true
  | 1 => decide (i < 2) && any
  | 2 => decide (i < 4) && any
  | 3 => decide (i < 8) && d.bayFormed i
  | 4 => decide (i < 64) && any
  | 5 => decide (i < 16) && (d.assigned i 0 != 0 || d.phys i != i)
  | 6 => decide (i < 32)
  | _ => false

/-- Are an entry's target and carrier formed (R484)? -/
def Dev.entryFormed (d : Dev) (e : TtEntry) : Bool :=
  if d.formed then d.targetFormed e && (e.carrier == 7 || (d.map.carrier e.carrier).isSome)
  else e.carrier == 7 && (e.kind == 0 || (e.kind == 6 && decide (e.index < 32)))

/-- Check 1 of R51. -/
def Dev.wellFormed (d : Dev) (org : Origin) (e : TtEntry) : Bool :=
  (actionKinds e.action).contains e.kind && d.entryFormed e && decide (e.tick < frameTicks) && e.rep != 3 && d.argGood org e

/-- Armed entries that execute next at an instant. -/
def Dev.armedAt (d : Dev) (t : Int) : Nat := (d.tt.filter fun x => x.2.armed && x.2.due == t).length

/-- The requested time as an instant: within 512 frames of now (R51). -/
def Dev.requested (d : Dev) (e : TtEntry) : Int :=
  let span := 1024 * frameTicks
  let ahead := (e.frame * frameTicks + e.tick + span - (d.t.frame * frameTicks + d.t.tick) % span) % span
  (d.now : Int) + (if ahead ≥ span / 2 then (ahead : Int) - span else ahead)

/-- An entry is refused at arming: E005. -/
def ttRefuse (i : Nat) (e : TtEntry) (d : Dev) : Dev :=
  d |> setTt i { e with status := 4 } |> incF TL_TT_COUNT_refused |> raise 5 i 0 i

/-- The first execution after the lost one of a late repeating entry (R55): at its requested time plus a whole period, ahead of
now. -/
def Dev.nextOnGrid (d : Dev) (req : Int) (period : Nat) : Int := req + (max 0 (((d.now : Int) - req) / period) + 1) * period

/-- A late entry (R52, R53): counted, recorded, and dropped or moved to a boundary. -/
def ttLate (i : Nat) (e : TtEntry) (req : Int) (d : Dev) : Dev :=
  let d := d |> raise 4 i 0 i |> incF TL_TT_COUNT_late |> ledgerPut e.origin 4 i (0x108000 + 16 * i) e.w0 e.w1
  let at_ : Int := d.nextSymbol (d.grid15 e.carrier) leadTicks
  let move := e.latePolicy == 1 && !isRf e.action && decide (at_ ≤ req + slotTicks (d.grid15 e.carrier)) && decide (d.armedAt at_ < 32)
  if move then setTt i { e with armed := true, status := if e.rep = 0 then 3 else 1, req := req, due := at_ } d
  else if e.rep = 0 then setTt i { e with status := 3 } d
  else
    let next := d.nextOnGrid req (d.ttPeriod e)
    setTt i { e with armed := true, status := 1, req := next, due := next } d

/-- The host arms a CAL_RUN: its kinds become due (R233). -/
def armDue (org : Origin) (e : TtEntry) (d : Dev) : Dev :=
  if org = .host ∧ e.action = 8 then
    forAll e.paths (fun n d => forAll (runKinds e.w2 (d.map.width e.bay)) (calDue n) d) d
  else d

/-- TT_ARM (R51): arm = 1 on an entry that is not ARMED, with the repeat and late_policy just written. Firmware arms no CAL_RUN in
host-assisted mode (R234). -/
def ttArm (org : Origin) (i : Nat) (d : Dev) : Dev :=
  let e := { d.ttE i with fireCount := 0, moved := false, armed := false, origin := org }
  let req := d.requested e
  if org = .firmware ∧ e.action = 8 ∧ d.on (modeFld 1) then d
  else if !d.wellFormed org e ∨ d.armedAt req ≥ 32 then ttRefuse i e d
  else
    let d := armDue org e d
    if req < (d.now : Int) + leadTicks then ttLate i e req d
    else setTt i { e with armed := true, status := 1, req := req, due := req } d

/-! ### Calibration runs that firmware arms (R234) -/

/-- Armed entries with an action on bay b or its paths. -/
def Dev.bayEntries (d : Dev) (b action : Nat) : List TtEntry :=
  (d.tt.filter fun x => x.2.armed && x.2.action == action && (x.2.kind == 3 || x.2.kind == 4) && x.2.bay == b).map Prod.snd

/-- Does an armed entry execute within `len` ticks from t? -/
def Dev.firesIn (d : Dev) (e : TtEntry) (t len : Nat) : Bool :=
  let ahead : Int := e.due - t
  if 0 ≤ ahead then decide (ahead < len) else e.rep != 0 && decide (ahead % d.ttPeriod e < len)

/-- The state that bay b has at t as its armed entries stand. -/
def Dev.feAt (d : Dev) (b t : Nat) : Nat :=
  let r : Int × Nat := (d.bayEntries b 1).foldl (fun r e => if r.1 ≤ e.due ∧ e.due ≤ (t : Int) then (e.due, e.w2) else r) ((d.now : Int), d.fe b)
  r.2

/-- Does a run of a kind find bay b free for `len` ticks from t, in a state in which it may start (R225, R234)? -/
def Dev.calFits (d : Dev) (b kind t len : Nat) : Bool :=
  (d.feAt b t == 2 || (kind != 1 && (d.feAt b t == 3 || d.feAt b t == 4))) &&
    !((d.bayEntries b 1).any fun e => decide (e.w2 ≥ 3) && d.firesIn e t len) && !((d.bayEntries b 8).any fun e => d.firesIn e t len)

/-- The first opportunity of bay b for a kind (R234): a slot without such entries, or a guard period that they leave long enough. -/
def Dev.calChance (d : Dev) (b kind : Nat) : Option Nat :=
  let slot := slotTicks false
  let need := if kind = 1 then usTicks 300 else usTicks (occupancyUs kind (d.map.width b)) + 2 * 1573
  let first := d.nextSlot false leadTicks
  let slots := (List.range 84).find? fun k => d.calFits b kind (first + k * slot) slot
  let now := d.now + leadTicks
  let opens := now :: ((d.bayEntries b 1).filter fun e => e.w2 == 2 && decide ((now : Int) ≤ e.due)).map fun e => e.due.toNat + 1573
  let guards := opens.filter fun t => d.feAt b t == 2 && d.calFits b kind t need && !(t == now && d.inTransition b)
  let all := guards ++ (match slots with | some k => [first + k * slot] | none => [])
  match all with | [] => none | t :: r => some (r.foldl min t)

/-- The entry that firmware takes, from the highest number down among the last 64: one never written, or an entry of its own that has
ended (log entry 60). -/
def Dev.freeEntry (d : Dev) : Option Nat :=
  ((List.range 64).map fun k => 2047 - k).find? fun i =>
    let e := d.ttE i
    !e.armed && (decide (e.origin = .firmware) || (e.w0 == 0 && e.w1 == 0 && e.w2 == 0 && e.status == 0))

/-- Firmware arms an entry for instant t on the reference grid, with an action, a target code and an argument; without a free entry it
does not. -/
def fwArm (t action target arg : Nat) (d : Dev) : Dev :=
  let at_ := d.t.frame * frameTicks + d.t.tick + (t - d.now)
  match d.freeEntry with
  | some i =>
    d |> setTt i { w0 := 0x7000000 + at_ % frameTicks, w1 := 0x200000 * action + target + at_ / frameTicks % 1024, w2 := arg } |> ttArm .firmware i
  | none => d

/-- The targets bay b and path n of an entry (R49). -/
def bayTarget (b : Nat) : Nat := 0x2000 * b + 0xC00
def pathTarget (n : Nat) : Nat := 0x2000 * n + 0x1000

/-- An expansion of the loop ended well: firmware arms the DPD_APPLY of the set at the first slot boundary of the reference grid that the
lead allows (R158). -/
def dpdApplyArm (b : Nat) (d : Dev) : Dev :=
  match (d.obsSt b).exp with
  | none => d
  | some (k, set) =>
    let n := 8 * b + k
    let d' := expansionDone b d
    if (d.dpdSt n).step = 3 ∧ (d'.dpdSt n).step = 4 ∧ !d.key.fwStopped then fwArm (d'.nextSlot false leadTicks) 3 (pathTarget n) set d' else d'

/-- Firmware arms a CAL_RUN of a kind that is due on bay b (R234), of one path alone where only that is due: on the paths that can run it, that
no run in progress and no armed entry covers, and whose retry interval after a failure is over (R233). -/
def calArmKind (b kind : Nat) (d : Dev) : Dev :=
  let busy := (match (d.bay b).cal with | some r => r.pairs | none => []) ++ (d.calBay b).awaits.flatMap CalAwait.pairs
  let armed := fun (n : Nat) => (d.bayEntries b 8).any fun e => (runKinds e.w2 (d.map.width b)).contains kind && e.paths.contains n
  let due := ((d.runPairs b kind none).map Prod.fst).filter fun n => (d.calPath n).due.testBit (kind - 1) &&
    smGet 0 kind (d.calPath n).failAt == 0 && !busy.contains (n, kind) && !armed n
  if due.isEmpty then d
  else match d.calChance b kind with
    | some t => fwArm t 8 (if kind ≠ 1 ∧ due.length = 1 then pathTarget (due.headD 0) else bayTarget b) kind d
    | none => d

/-- Firmware looks for calibrations to arm, after a housekeeping round and after a retry became due (R234, log entry 60): in hardware
mode, for the kinds that the device's power state allows, on bays that are formed and not held, while the class is served. -/
def calArmDue (d : Dev) : Dev :=
  if d.key.fwStopped || d.on (modeFld 1) || !(d.inReady || d.inActive) || !d.classServed 1 || d.span.freeze.isSome then d
  else
    forAll ((List.range 8).filter fun b => d.bayFormed b && !d.pierHeld (b / 2)) (fun b =>
      forAll (if d.inActive then (List.range 9).drop 1 else [1]) (calArmKind b)) d

/-- A write to word w of entry i (R50). DESIGN CHOICE (log entry 32): words 1 to 3 of a LATE entry that waits for its moved run are stored, and the
run uses them; a write of its word 0 ends the wait. -/
def ttWrite (org : Origin) (i w v : Nat) (d : Dev) : Dev :=
  let e := d.ttE i
  let late := setB TL_STATUS_armed_wr true
  if w = 3 then
    if e.isArmed then
      if v.testBit 14 then d |> ttCancel i |> onlyIf (v.testBit 0) late else late d
    else
      let d := setTt i { e with rep := bits v 3 2, latePolicy := bits v 1 1 } d
      if v.testBit 0 then ttArm org i d else d
  else if e.isArmed then late d
  else if w = 0 then setTt i { e with w0 := v % 0x8000000, status := 0, moved := false, fireCount := 0, armed := false } d
  else if w = 1 then setTt i { e with w1 := v % 0x20000000 } d
  else setTt i { e with w2 := v } d

/-! ### Execution (R54, R55, R57, R81) -/

/-- An execution ends: DONE or FAILED, once or until the next; a late entry that ran moved stays LATE. -/
def ttFinish (i : Nat) (ok : Bool) (d : Dev) : Dev :=
  let e := d.ttE i
  let mv := e.moved || e.due != e.req
  let e := { e with fireCount := (e.fireCount + 1) % 4096, moved := mv }
  if e.rep = 0 then
    setTt i { e with armed := false, status := if !ok then 6 else if e.status = 3 then 3 else 2 } d
  else
    let next := e.req + d.ttPeriod e
    setTt i { e with status := if ok then 1 else 6, req := next, due := next } d

/-- An RF entry due in a freeze window ends FAILED (R81). -/
def ttWindowFail (i : Nat) (d : Dev) : Dev :=
  let e := d.ttE i
  let d := modSpan (fun s => { s with freeze := s.freeze.map fun z => { z with failed := z.failed + 1 } }) d
  if e.rep = 0 then setTt i { e with armed := false, status := 6 } d
  else
    let next := e.req + d.ttPeriod e
    setTt i { e with status := 6, req := next, due := next } d

/-- An entry due in a freeze window (R81): RF fails, another is deferred to the release. -/
def ttInWindow (i : Nat) (z : Freeze) (d : Dev) : Dev :=
  if isRf (d.ttE i).action then ttWindowFail i d
  else if z.deferred.contains i then d
  else modSpan (fun s => { s with freeze := some { z with deferred := z.deferred ++ [i] } }) d

/-- A COMMIT entry executes (R78): DONE when its freeze window begins. -/
def runCommit (i : Nat) (d : Dev) : Dev :=
  let r := commitDue (d.ttE i).origin (some i) d
  ttFinish i r.2 r.1

/-- COMMIT entries due at an instant execute before every other entry of it (R81), and so do the register writes deferred to it
(R78, R112). -/
def runFirst (t : Nat) (skip : Nat) (b : Blk) : Blk :=
  let b := runDeferredTo t b
  let l := (b.dev.tt.filter fun x => x.1 != skip && x.2.armed && x.2.action == 7 && x.2.due == (t : Int)).map (·.1)
  l.foldl (fun b j => onDev (fun d => match d.span.freeze with
    | some z => ttInWindow j z d
    | none => runCommit j d) b) b

/-- Is it entry i's turn among the entries that share its air time, which execute in ascending index order (R54)? COMMIT comes
first whatever its index (R81), and an entry deferred to a release waits for that. -/
def Dev.ttTurn (d : Dev) (i : Nat) : Bool :=
  d.tt.all fun x => decide (i ≤ x.1) || !x.2.armed || x.2.action == 7 || x.2.due != (d.ttE i).due ||
    (match d.span.freeze with | some z => z.deferred.contains x.1 | none => false)

/-- An armed entry with this action executes at its air time, in its turn: what comes due with it first, then its action, unless a freeze
window holds dispatch. -/
def ttRun (i code : Nat) (act : TtEntry → Blk → Blk × Bool) (b : Blk) : Blk :=
  let e := b.dev.ttE i
  if !e.armed ∨ e.action ≠ code then b
  else
    let t := e.due.toNat
    let held := match b.dev.span.freeze with | some z => decide (z.start + leadTicks ≤ t) | none => false
    if held || !b.dev.ttTurn i then b
    else
      let b := b |> onDev (passTo t) |> (if b.dev.span.freeze.isSome then id else runFirst t i)
      match b.dev.span.freeze with
      | some z => onDev (ttInWindow i z) b
      | none =>
        if !(b.dev.ttE i).armed then b
        else
          let r := act e b
          onDev (ttFinish i r.2) r.1

/-! ### The actions -/

/-- An action of the device alone. -/
def devAct (g : Dev → Dev × Bool) (b : Blk) : Blk × Bool :=
  let r := g b.dev
  ({ b with dev := r.1 }, r.2)

/-- A pier that is powered down refuses (R57). -/
def withPiers (g : Dev → Dev × Bool) (b : Blk) : Blk × Bool := if b.dev.piersUp then devAct g b else (b, false)

/-- FE_STATE (R99): it cancels a pending register request of the bay. -/
def actFeState (e : TtEntry) : Blk → Blk × Bool :=
  devAct fun d => d |> modBay e.index (fun s => { s with req := none }) |> setB (BAY_FE_STAT_held e.index) false
    |> feRequest e.index e.w2

/-- The time that path n's rail weights have spent under a buffer in the last 100 ms, given its recent changes, newest first
(R156). -/
def railTime (now buf cur : Nat) : List (Nat × Nat) → Nat → Nat
  | [], upTo => if cur = buf then upTo - (now - 98304000) else 0
  | (t, left) :: r, upTo =>
    let from_ := max (t - 1) (now - 98304000)
    (if cur = buf then upTo - from_ else 0) + railTime now buf left r from_

/-- A change of path n's rail weight buffer to `buf` (R156): TRACK returns to ACQUIRE when more than 20 % of the last 100 ms were spent
under the other buffer, which is read as the one that was in force for less of them, so that the sweep of R184 holds TRACK (log entry
62). -/
def railChanged (n buf : Nat) (d : Dev) : Dev :=
  let h := (d.dpdSt n).railHist.filter fun x => decide (d.now < x.1 + 98304000)
  let other := min (railTime d.now 0 (1 - buf) h d.now) (railTime d.now 1 (1 - buf) h d.now)
  d |> modDpd n (fun s => { s with railHist := (d.now + 1, 1 - buf) :: h })
    |> onlyIf (decide (19660800 < other)) (dpdReacquire n)

/-- BEAM_SWITCH (R182, R183). -/
def actBeamSwitch (e : TtEntry) (b : Blk) : Blk × Bool :=
  let paths := b.dev.ttActive e 0
  if b.dev.piersUp ∨ paths.isEmpty then
    let was := paths.filter fun n => b.dev.railOf n != e.w2 % 2
    let r := beamSwitch e.w2 paths b
    (onDev (forAll (was.filter fun n => r.1.dev.railOf n == e.w2 % 2) fun n => railChanged n (e.w2 % 2)) r.1, r.2)
  else (onDev (railFail paths) b, false)

/-- DPD_APPLY (R148). -/
def actDpdApply (e : TtEntry) : Blk → Blk × Bool :=
  withPiers fun d => (d.ttActive e 0).foldl (fun (r : Dev × Bool) n =>
    let x := dpdApplyPath n (e.w2 % 2) r.1
    (x.1, r.2 && !x.2)) (d, true)

/-- GAIN_SET (R111). -/
def actGainSet (e : TtEntry) : Blk → Blk × Bool :=
  withPiers fun d =>
    let paths := e.paths.filter fun n => d.map.txActive n || d.map.rxActive n
    (attWatch paths (splitWatch paths (forAll paths (gainSetPath e.w2))) d, true)

/-- RESP_SWAP (R134). -/
def actRespSwap (e : TtEntry) : Blk → Blk × Bool :=
  withPiers fun d =>
    let dir := bits e.w2 7 7
    (forAll (d.ttActive e dir) (fun n => respSwap n dir (bits e.w2 9 8) (bits e.w2 4 0) (12 * d.now)) d, true)

/-- SYNC (R133). -/
def actSync (e : TtEntry) : Blk → Blk × Bool := devAct fun d => (syncNow e.index d, true)

/-- CAL_RUN (R225, R90): a held pier refuses it. -/
def actCalRun (e : TtEntry) : Blk → Blk × Bool :=
  devAct fun d =>
    if d.pierHeld (e.bay / 2) then (feRefuse e.bay 6 d, false)
    else if !d.map.calArgGood e.w2 (e.kind == 4) e.bay then (d, false)
    else calRun e.bay e.w2 (if e.kind = 4 then some e.index else none) d

/-- The path of a CAPTURE entry: a bay target captures the path that the descriptor names (R152). -/
def TtEntry.capPath (e : TtEntry) (d : Dev) : Nat :=
  if e.kind = 4 then e.index else 8 * e.index + d.f (BAY_CAPD_pos e.index e.w2)

/-- CAPTURE (R152) whose conditions are checked at the instant at which it runs. -/
def actCapture (e : TtEntry) : Blk → Blk × Bool := devAct fun d => captureStart (e.capPath d) e.w2 d

/-- CAPTURE at its air time, after the check at T - settle. -/
def actCaptureChecked (e : TtEntry) : Blk → Blk × Bool :=
  devAct fun d =>
    let n := e.capPath d
    if d.capWaits (bayOf n) then (captureBegin n e.w2 d, true) else (captureFail n d, false)

/-- CAPTURE (R152), entry i: the first command comes to T - settle, where the conditions are checked and the receiver is
reserved; the second comes to T. A command that comes later than T - settle checks at T (log entry 32). -/
def ttCapture (i : Nat) (b : Blk) : Blk :=
  let e := b.dev.ttE i
  if !e.armed ∨ e.action ≠ 16 then b
  else
    let n := e.capPath b.dev
    let bay := bayOf n
    let t := e.due.toNat
    let before := 8 * b.dev.f (BAY_OBS_CFG_settle bay)
    let seen := match (b.dev.obsSt bay).pre with | some (j, u, _) => j == i && u == t | none => false
    if seen then b |> ttRun i 16 actCaptureChecked |> onDev (modObs bay fun s => { s with pre := none })
    else if before = 0 ∨ t < b.dev.now + before then ttRun i 16 actCapture b
    else
      let b := b |> onDev (passTo (t - before)) |> (if b.dev.span.freeze.isSome then id else runDeferredTo (t - before))
      onDev (fun d => if d.captureMay n e.w2 then captureReserve i t n d else d |> captureFail n |> ttFinish i false) b

/-- TRUSS_JOB (R207). -/
def actTrussJob (e : TtEntry) : Blk → Blk × Bool := devAct (trussDispatch .firmware e.index e.w2)

/-- DMA_START (R347). -/
def actDmaStart (e : TtEntry) : Blk → Blk × Bool := devAct (dmaStart e.index e.w2)

/-- NOTIFY (R438). -/
def actNotify (e : TtEntry) : Blk → Blk × Bool := devAct fun d => (raise 158 0xFF 0 e.w2 d, true)

/-- SNAPSHOT (R423). -/
def actSnapshot (e : TtEntry) (b : Blk) : Blk × Bool := (snapshotRecord e.origin b, true)

/-- The action of an entry that was deferred to a release: those not marked RF (R81). -/
def actDeferred (e : TtEntry) : Blk → Blk × Bool :=
  match e.action with
  | 16 => actCapture e
  | 17 => actTrussJob e
  | 18 => actDmaStart e
  | 19 => actNotify e
  | _ => actSnapshot e

/-- COMMIT (R78). -/
def ttCommit (i : Nat) (b : Blk) : Blk :=
  let e := b.dev.ttE i
  if !e.armed ∨ e.action ≠ 7 then b
  else
    let t := e.due.toNat
    let held := match b.dev.span.freeze with | some z => decide (z.start + leadTicks ≤ t) | none => false
    if held then b
    else
      let b := b |> onDev (passTo t) |> (if b.dev.span.freeze.isSome then id else runDeferredTo t)
      onDev (fun d => match d.span.freeze with
        | some z => ttInWindow i z d
        | none => runCommit i d) b

end Sys2Proof.Machine
end

