-- ==== Sys2Proof/Machine/SpanRelease.lean ====
section
/-!
DEFINITION. The release at the end of a freeze window: a commit's, a failed swap's and an unform's (chapter 03, R79 to R85,
R101, R122, R130, R131, R147, R170, R181, R261).
-/
namespace Sys2Proof.Machine

/-! ### What a new structure loads -/

/-- Did the record of a type and unit change between two images? -/
def recChanged (old new : SpanImg) (ty unit : Nat) : Bool := (old.get ty unit).map SpanRec.raw != (new.get ty unit).map SpanRec.raw

/-- The IF of a bay in kHz (R122): in Wide the centre of its window relative to the LO, rounded towards it. -/
def SpanImg.ifKhz (m : SpanImg) (b : Nat) : Int :=
  let es := (m.carriersOf b).filterMap fun c => (m.carrier c).map SpanRec.edges
  if m.width b ≠ 2 ∨ es.isEmpty then 0
  else
    let lo := es.foldl (fun a e => min a e.1) 10000000
    let hi := es.foldl (fun a e => max a e.2) (-10000000)
    (lo + hi).tdiv 2

/-- Active masks of bay b. -/
def SpanImg.bayTx (m : SpanImg) (b : Nat) : Nat := m.txMask (b / 2) / 2 ^ (8 * (b % 2)) % 256
def SpanImg.bayRx (m : SpanImg) (b : Nat) : Nat := m.rxMask (b / 2) / 2 ^ (8 * (b % 2)) % 256

/-- The front-end state that a release leaves a bay in (R101): Off where the new structure leaves its pier idle (R27) or the pier is
held (R90). -/
def formBayState (old new : SpanImg) (b : Nat) (d : Dev) : Dev :=
  if new.width b = 0 || new.pierIdle (b / 2) || d.pierHeld (b / 2) then bayDown b d
  else if old.width b = 0 then bayDown b d
  else if recChanged old new 2 b then
    d |> bayDown b |> setF (BAY_FE_STAT_state b) 1 |> modBay b (fun s => { s with dest := 1 })
  else d

/-- A bay takes its records: state, LO, IF, active paths, and the kinds due when it is formed anew or changed (R233). -/
def formBay (old new : SpanImg) (b : Nat) (d : Dev) : Dev :=
  let tx := new.bayTx b
  let rx := new.bayRx b
  d |> formBayState old new b
    |> setF (BAY_LO_KHZ_lo_khz b) (new.loKhz b)
    |> setF (BAY_ACTIVE_tx_active b) tx |> setF (BAY_ACTIVE_rx_active b) rx
    |> setF (BAY_SHED_tx_host b) (d.f (BAY_SHED_tx_host b) &&& tx) |> setF (BAY_SHED_rx_host b) (d.f (BAY_SHED_rx_host b) &&& rx)
    |> setF (BAY_SHED_tx_fault b) (d.f (BAY_SHED_tx_fault b) &&& tx) |> setF (BAY_SHED_rx_fault b) (d.f (BAY_SHED_rx_fault b) &&& rx)
    |> modBay b (fun s => { s with shedTx := s.shedTx &&& tx, shedRx := s.shedRx &&& rx }) |> refreshLive b
    |> onlyIf (new.width b != 0 && recChanged old new 2 b) (calDueAll b)

/-- What every commit, a partial one included, leaves in a bay's registers: its IF (R122), and its counts and its paths' cleared (R118,
R138, R164). DESIGN CHOICE (log entry 58): an unform clears the counts too. -/
def bayCounts (new : SpanImg) (b : Nat) (d : Dev) : Dev :=
  d |> setF (BAY_IF_KHZ_if_khz b) (toTwos32 (new.ifKhz b)) |> setF (BAY_SYNTH_STAT_unlock_count b) 0
    |> setF (BAY_CH_STAT_swap_replaced b) 0 |> setF (BAY_CH_STAT_swap_done b) 0
    |> setF (BAY_OBS_STAT_cap_failed b) 0 |> setF (BAY_OBS_STAT_cap_spoiled b) 0 |> setF (BAY_OBS_STAT_cap_ok b) 0
    |> forAll (List.range 8) (fun k d => d
        |> setF (BAY_RX_PEAK_ovl_slots b k) 0 |> setF (BAY_CH_SAT_rx_sat b k) 0 |> setF (BAY_CH_SAT_tx_sat b k) 0
        |> setF (BAY_DPD_reverts b k) 0 |> setF (BAY_DPD_apply_skipped b k) 0 |> setF (BAY_DPD_wr_refused b k) 0)

/-- A path takes its records: chains, predistorter and rail weights (R130, R147, R181). -/
def formPath (old new : SpanImg) (n : Nat) (d : Dev) : Dev :=
  let anew := new.txActive n && !old.txActive n
  let d := d |> loadChain n 0 |> loadChain n 1 |> onlyIf anew (railReset n)
  if anew || (new.txActive n && recChanged old new 4 n) then dpdInstallLinear n d
  else if new.txActive n then d else d |> dpdStart n |> dpdModeSettled

/-- The byte of a carrier and direction that both spans share (R166): from the span on which the carrier has traffic. -/
def SpanImg.dspBoth (m : SpanImg) (c dir i : Nat) : Nat := if m.dsp 0 c dir 0 ≠ 0 then m.dsp 0 c dir i else m.dsp 1 c dir i

/-- A carrier takes its records: arch scales and phase compensation, transform size, layers formed (R165, R175, R187). -/
def formCarrier (new : SpanImg) (c : Nat) (d : Dev) : Dev :=
  let put := fun (x : Fld) (v : Nat) (d : Dev) => d |> setF x v |> setForced x v
  d |> put (ARCH_CFG_dl_scale c) (new.dspBoth c 0 2) |> put (ARCH_CFG_ul_scale c) (new.dspBoth c 1 2)
    |> setF (ARCH_CFG_dl_phcomp c) (new.dspBoth c 0 3) |> setF (ARCH_CFG_ul_phcomp c) (new.dspBoth c 1 3)
    |> setF (ARCH_EXP_fft_log2 c) (match new.carrier c with | some r => r.b 4 | none => 0)
    |> setF (GIRDER_LAYERS_dl_formed c) (new.layers c 0) |> setF (GIRDER_LAYERS_ul_formed c) (new.layers c 1)

/-- Counts of the girders clear, and every dynamic entry is empty (R170, R186). -/
def formGirders (d : Dev) : Dev :=
  d |> dynEmptyAll |> modGir (fun g => { g with done := (2 ^ 64, 0) }) |> setF GIRDER_CB_STAT_torn 0
    |> setF GIRDER_USE_COUNT_null_uses 0 |> setF GIRDER_USE_COUNT_fallback_uses 0
    |> setF GIRDER_DYN_STAT_dyn_late 0 |> setF GIRDER_DYN_STAT_dyn_replaced 0
    |> setF GIRDER_RENORM_tx_capped 0 |> setF GIRDER_RENORM_rx_capped 0
    |> forAll (List.range 4) (fun g d => d |> setF (GIRDER_SAT_dl_sat g) 0 |> setF (GIRDER_SAT_ul_sat g) 0)

/-- Is a flow context the same in two images: its own record and its carrier's? -/
def sameFlow (old new : SpanImg) (f : Nat) : Bool :=
  !recChanged old new 7 f && match new.get 7 f with | some r => !recChanged old new 5 (r.b 1) | none => true

/-- A flow context takes its record, and its counts clear (R272, R295). -/
def formFlow (new : SpanImg) (f : Nat) (d : Dev) : Dev :=
  let g := fun (h : SpanRec → Nat) => match new.get 7 f with | some r => h r | none => 0
  d |> setF (LINK_FLOW_W0_eaxc f) (g fun r => r.le 4 2) |> setF (LINK_FLOW_W0_count f) (g fun r => r.b 3)
    |> setF (LINK_FLOW_W0_first f) (g fun r => r.b 2) |> setF (LINK_FLOW_W0_carrier f) (g fun r => r.b 1)
    |> setF (LINK_FLOW_W0_dir f) (g fun r => r.b 0)
    |> setF (LINK_FLOW_W1_sections f) 0 |> setF (LINK_FLOW_W1_dup f) 0 |> setF (LINK_FLOW_W2_late f) 0
    |> setF (LINK_FLOW_W2_too_late f) 0 |> setF (LINK_FLOW_W3_seq_gaps f) 0 |> setF (LINK_FLOW_W3_sat f) 0

/-- Sections and plans of a flow context that the new structure does not keep are gone. -/
def formTraffic (old new : SpanImg) (d : Dev) : Dev :=
  modXk (fun x => { x with
    sections := x.sections.filter fun s => sameFlow old new s.flow
    plans := x.plans.filter fun s => sameFlow old new s.flow }) d

/-- Everything that the records of the committed image set, a partial commit's without the piers (R83). -/
def loadStructure (old new : SpanImg) (partial_ : Bool) (d : Dev) : Dev :=
  let d := if partial_ then d
    else d |> forAll (List.range 8) (formBay old new) |> forAll (List.range 64) (formPath old new)
  d |> forAll (List.range 8) (bayCounts new) |> forAll (List.range 6) (formCarrier new) |> formGirders
    |> forAll (List.range 320) (formFlow new) |> formTraffic old new

/-- The latencies of the carriers, after the pairs (R130, R131). -/
def loadLatencies (d : Dev) : Dev :=
  forAll (List.range 6) (fun c d =>
    let on := (d.map.carrier c).isSome
    d |> setF (ARCH_CC_DLLAT_ps c) (if on then dlLatency (d.map.rate768 c) (d.on (ARCH_CC_CFG_dl_lat c)) else 0)
      |> setF (ARCH_CC_ULLAT_ps c) (if on then ulLatency (d.map.rate768 c) (d.on (ARCH_CC_CFG_ul_lat c)) else 0)) d

/-- The REG_INIT pairs of an image in the order of their records (R76); a partial commit writes none of the piers'. -/
def SpanImg.initPairs (m : SpanImg) (partial_ : Bool) : List (Nat × Nat) :=
  (m.recs.filter fun r => r.ty == 12 && !r.opt && !(partial_ && decide (r.unit < 4))).flatMap SpanRec.pairs

/-- A write that waited for its boundary takes what its register holds after the pairs (R82). -/
def refreshDeferred (d : Dev) (x : Deferred) : Deferred :=
  match x.kind with
  | .values l => { x with kind := .values (l.map fun p => (p.1, d.f p.1)) }
  | .gain n _ _ => { x with kind := .gain n (d.f (BAY_GAIN_tx_att (bayOf n) (posOf n))) (d.f (BAY_GAIN_rx_att (bayOf n) (posOf n))) }
  | .hostShed b _ _ => { x with kind := .hostShed b (d.f (BAY_SHED_tx_host b)) (d.f (BAY_SHED_rx_host b)) }
  | _ => x

/-- The value of a REG_INIT pair as its register takes it (R485): bits outside RW, RWG and RWL fields are ignored. -/
def pairValue (off v : Nat) : Nat :=
  match findBank off with
  | some r => r.fields.foldl (fun a x => match x.acc with
      | .rw | .rwg | .rwl => a + bits v x.hi x.lo <<< x.lo
      | _ => a) 0
  | none => v

/-- The pairs are written (R79): what they would defer is in force at once (R130). A governed one waits while the ledger is closed (R393). -/
def writePairs (l : List (Nat × Nat)) (b : Blk) : Blk :=
  let waiting := b.dev.deferred
  let b := onDev (fun d => { d with deferred := [] }) b
  let b := l.foldl (fun b p =>
    let v := pairValue p.1 p.2
    if b.dev.ldg.closed && governedWrite p.1 v then onDev (holdWrite .firmware p.1 v) b else regWrite .firmware true p.1 v b) b
  let now := b.dev.deferred
  let b := onDev (fun d => { d with deferred := [] }) b
  let b := now.foldl (fun b x => deferredEffect x.kind b) b
  onDev (fun d => { d with deferred := waiting.map (refreshDeferred d) ++ d.deferred }) b

/-- The committed image changes: its records, its pairs and its modes (R79, R485). -/
def installImage (new : SpanImg) (partial_ : Bool) (b : Blk) : Blk :=
  let old := b.dev.map
  let b := onDev (fun d => d |> modSpan (fun s => { s with committed := some new }) |> loadStructure old new partial_) b
  b |> writePairs (new.initPairs partial_) |> onDev (fun d => d |> modesStore new.modes |> loadLatencies)

/-- The shadow device seal (R85): the seal of the device as the release would leave it. -/
def Blk.shadowSeal (b : Blk) : List Nat :=
  match b.dev.span.shadow with
  | some m => sealOf (installImage m b.dev.span.formPartial b).dev.leaves
  | none => List.replicate 32 0

/-! ### The end of a freeze window -/

/-- Every armed entry that the structure in force does not count as formed is cancelled, and one CANCEL record counts them
(R81, R84). -/
def cancelUnformed (d : Dev) : Dev :=
  let r := cancelArmed (fun _ e => !d.entryFormed e) d
  ledgerPut .none 5 0 0x200000 0 r.2 r.1

/-- The least of a list of indices and the list without it, repeated: ascending order. -/
def insNatAsc (x : Nat) : List Nat → List Nat
  | [] => [x]
  | y :: r => if x ≤ y then x :: y :: r else y :: insNatAsc x r

/-- The entries deferred from the window execute in ascending index order (R81). -/
def runWindow (l : List Nat) (b : Blk) : Blk :=
  (l.foldr insNatAsc []).foldl (fun b i =>
    let e := b.dev.ttE i
    if !e.armed then b
    else
      let r := actDeferred e b
      onDev (ttFinish i r.2) r.1) b

/-- The window ends: E151 when an RF entry failed in it, and dispatch resumes (R81). -/
def endWindow (z : Freeze) (d : Dev) : Dev :=
  d |> setF SPAN_STATUS_win_failed (min z.failed 255) |> onlyIf (decide (0 < z.failed)) (raise 151 0xFF 0 z.failed)

/-- SPAN_MAP_ID, SPAN_MAP_VER and SPAN_STATUS of the structure in force. DESIGN CHOICE (log entry 58): while no map is committed
SPAN_STATUS.image and SPAN_MAP_VER read 0, as R84 gives for SPAN_MAP_ID. -/
def showMap (partial_ : Bool) (d : Dev) : Dev :=
  let m := d.map
  d |> setF SPAN_MAP_ID_map_id m.mapId |> setF SPAN_MAP_VER_level_needed m.level
    |> setF SPAN_MAP_VER_fmt_major (if d.formed then m.fmtMajor else 0) |> setF SPAN_MAP_VER_fmt_minor (if d.formed then m.fmtMinor else 0)
    |> setB SPAN_STATUS_formed d.formed |> setB SPAN_STATUS_partial partial_ |> setF SPAN_STATUS_image m.image
    |> setF SPAN_STATUS_form_state 0

/-- Did a span's pier-level or SPAN_DSP records change (R79)? -/
def spanChanged (old new : SpanImg) (s : Nat) : Bool :=
  let mine := fun (m : SpanImg) => (m.recs.filter fun r =>
    !r.opt && ((r.pierLevel && r.part / 2 == s) || (r.ty == 6 && r.unit == s))).map SpanRec.raw
  mine old != mine new

/-- What follows the structure in every other block: ports, layers, throttle, engines, girders. -/
def settleStructure (before : List (List Nat)) (b : Blk) : Blk :=
  b |> onDev (fun d => d |> throttleCommit |> commitPorts
        |> forAll (List.range 6) (fun c d => d |> setF (GIRDER_LAYERS_dl_enabled c) (d.layersWanted c 0)
            |> setF (GIRDER_LAYERS_ul_enabled c) (d.layersWanted c 1))
        |> refreshFlows |> trussCommit before)
    |> renormHere

/-- A die did not acknowledge (R80): everything is as before, and the shadow is discarded. -/
def swapFail (z : Freeze) (missing : Nat) (b : Blk) : Blk :=
  b |> onDev (fun d => d |> modSpan (fun s => { s with freeze := none }) |> spanRefuse 14 missing)
    |> runWindow z.deferred |> onDev (endWindow z)

/-- The release of a commit whose dies all acknowledged (R79). -/
def commitSucceeds (z : Freeze) (m : SpanImg) (b : Blk) : Blk :=
  let d := b.dev
  let old := d.map
  let part := d.span.formPartial
  let before := d.assignments
  let anew := !d.formed
  b |> onDev (modSpan fun s => { s with freeze := none, shadow := none, heldPiers := if anew then 0 else s.heldPiers })
    |> onDev (onlyIf anew fun d => d |> setB DECK_SEAL_STAT_held false |> setF DECK_SEAL_STAT_diverged 0)
    |> installImage m part
    |> onDev (fun d => d |> advanceEpoch |> showMap part |> ledgerPut z.org 6 m.image 0x200000 old.mapId m.mapId)
    |> settleStructure before
    |> onDev (fun d => d |> forAll [0, 1] (fun s d => onlyIf (d.inReady && spanChanged old m s) (syncNow s) d) |> cancelUnformed)
    |> runWindow z.deferred |> onDev (fun d => d |> endWindow z |> raise0 150)

/-- COMMIT_RELEASE (R79, R80): at the end of the window, 1,967 ticks after its start. -/
def commitRelease (b : Blk) : Blk :=
  match b.dev.span.freeze with
  | none => b
  | some z =>
    if z.unform then b
    else
      let b := onDev (passTo (z.start + leadTicks)) b
      let want := if b.dev.span.formPartial then 0x30 else 0x3F
      match b.dev.span.shadow with
      | none => swapFail z want b
      | some m => if maskOff want z.acks ≠ 0 then swapFail z (maskOff want z.acks) b else commitSucceeds z m b

/-- UNFORM_RELEASE (R84). DESIGN CHOICE (log entry 58): swap acknowledgements are not asked for here; the spec gives a failure for want of one
to a commit only (R79, R80). -/
def unformRelease (b : Blk) : Blk :=
  match b.dev.span.freeze with
  | none => b
  | some z =>
    if !z.unform then b
    else
      let old := b.dev.map
      let before := b.dev.assignments
      b |> onDev (fun d => d |> passTo (z.start + leadTicks)
            |> modSpan (fun s => { s with freeze := none, committed := none })
            |> forAll (List.range 8) bayDown |> loadStructure old {} false |> loadLatencies
            |> advanceEpoch |> showMap false |> ledgerPut z.org 12 old.image 0x200000 old.mapId 0)
        |> settleStructure before
        |> onDev cancelUnformed |> runWindow z.deferred |> onDev (fun d => d |> endWindow z |> raise0 150)

end Sys2Proof.Machine
end

