-- ==== Sys2Proof/Machine/Writes.lean ====
section
/-!
DEFINITION. What a written word does wherever it lands in BAR0 (R413, R419, R439, R441), with the requests for a power state and the
resets that a word can ask for (R10, R296, R376, R390 to R393, R443, R461), and the writes that the ledger holds (R393, R419).
-/
namespace Sys2Proof.Machine

/-! ### Requests (R390 to R392) -/

/-- The requestable transitions (R390). -/
def pwrMove (from_ to_ : Nat) : Bool := [(1, 0), (0, 1), (1, 2), (2, 1), (2, 3), (1, 4), (2, 4)].contains (from_, to_)

/-- Is an armed entry one that stands against Rest (R391): its target is a pier, a bay or a path, or its action is RF? -/
def TtEntry.pierBound (e : TtEntry) : Bool := e.armed && (decide (2 ≤ e.kind ∧ e.kind ≤ 4) || isRf e.action)

/-- Does a refuser of R391 apply to a request, at its write or at its commit point? STATE, code 1, is checked apart. -/
def Dev.refuser (d : Dev) (from_ to_ : Nat) (commit : Bool) (code : Nat) : Bool :=
  match code with
  | 2 => to_ == 0 && !d.formed
  | 3 => (to_ == 0 || to_ == 2 || to_ == 3 || from_ == 2) && d.f SPAN_STATUS_form_state != 0
  | 4 => from_ == 2 && d.on HK_PAR_STAT_shutdown
  | 5 => to_ == 2 && d.trussBusy
  | 6 => decide (to_ ≥ 2) && d.portHolds 0
  | 7 => decide (to_ ≥ 2) && d.portHolds 1
  | 8 => decide (to_ ≥ 2) && d.dmaActive
  | 9 => decide (to_ ≥ 2) && !d.hk.jobs.isEmpty
  | 10 => (to_ == 2 && d.tt.any fun e => e.2.pierBound) || (decide (to_ ≥ 3) && d.tt.any fun e => e.2.armed)
  | 11 => decide (to_ ≥ 3) && (d.f KEY_STAGE_session == 2 || d.stage == 4 || d.key.otpOp.isSome)
  | 12 => decide (to_ ≥ 3) &&
      (if commit then d.f LEDGER_STAT_fill != 0 else decide (d.f LEDGER_STAT_fill > 126) || d.on LEDGER_STAT_arc_fail)
  | _ => false

/-- The first refuser in code order. -/
def Dev.firstRefuser (d : Dev) (from_ to_ : Nat) (commit : Bool) : Option Nat :=
  ((List.range 13).filter fun c => decide (2 ≤ c)).find? fun c => d.refuser from_ to_ commit c

/-- A request is refused (result 2) or its entry aborted (result 3): R391, R392. -/
def pwrRefuse (code to_ result : Nat) (d : Dev) : Dev :=
  d |> setF PWR_STAT_last_result result |> setF PWR_REFUSER_request to_ |> setF PWR_REFUSER_refuser code
    |> incF (if result = 2 then PWR_COUNT_refused else PWR_COUNT_aborted) |> raise 129 0xFF code 0

/-- An accepted request for Dormant or Off closes the ledger, and its undrained records go into one archive block (R393). -/
def ledgerClose (b : Blk) : Blk := b |> ledgerFormAll |> onDev (modLdg fun l => { l with closed := true }) |> arcFlush

/-- Every bay passes down to Off (R395, step 1). -/
def baysOff (d : Dev) : Dev := forAll (List.range 8) bayDown d

/-- An accepted request starts an entry (R392). -/
def pwrBegin (to_ : Nat) (b : Blk) : Blk :=
  let from_ := b.dev.pwr
  let b := onDev (fun d => d |> setB PWR_STAT_in_entry true |> setF PWR_STAT_target to_
    |> modPs (fun s => { s with entry := some ⟨to_, from_, d.refBoundary, false⟩ })) b
  let b := if to_ = 2 then arcFlush b else if to_ ≥ 3 then ledgerClose b else b
  if from_ = 1 ∧ to_ ≥ 2 then onDev baysOff b else b

/-- A request is checked and refused or accepted (R390, R391). -/
def pwrRequest (to_ : Nat) (b : Blk) : Blk :=
  let from_ := b.dev.pwr
  if !pwrMove from_ to_ then onDev (pwrRefuse 1 to_ 2) b
  else
    match b.dev.firstRefuser from_ to_ false with
    | some c => onDev (pwrRefuse c to_ 2) b
    | none => pwrBegin to_ b

/-- A write of PWR_CMD: held while an entry runs (R392). -/
def pwrCmd (to_ : Nat) (b : Blk) : Blk :=
  if b.dev.on PWR_STAT_in_entry then
    onDev (fun d => d |> setB PWR_STAT_held true |> setF PWR_STAT_held_target to_ |> raise 131 0xFF 0 0) b
  else pwrRequest to_ b

/-- A held request is checked and acted on when an entry completes or aborts (R392). -/
def pwrActHeld (b : Blk) : Blk :=
  if b.dev.on PWR_STAT_held then
    b |> onDev (setB PWR_STAT_held false) |> onDev (rstF PWR_STAT_held_target) |> pwrRequest (b.dev.f PWR_STAT_held_target)
  else b

/-! ### Resets (R10, R296, R376, R443, R457, R461) -/

/-- Everything returns to reset but what a reset leaves: OTP, the pins, the Halt count, the fixed-trip record and the crystal. An
OTP operation that runs has programmed an unstated number of its words (log entry 4). -/
def clearDev (cause : Nat) (d : Dev) : Dev :=
  let d := match d.key.otpOp with
    | some (op, k) => d |> draw |> otpProgram op k (Config.freeValue d.draws % (d.otpNeeds op k + 1))
    | none => d
  let n : Dev :=
    { now := d.now, draws := d.draws, otp := d.otp, el := { d.el with offHeld := false, wakeDriven := none }
      ev := { haltCount := d.ev.haltCount }, hk := { safeOut := d.el.trips != 0 || d.el.tripHold.isSome, zeroOut := d.hk.zeroOut }
      key := { bootAt := d.now, cause := cause }, t := { stopped := true } }
  n |> setF HK_PAR_TRIP_tripped (d.f HK_PAR_TRIP_tripped) |> setF HK_PAR_TRIP_dies (d.f HK_PAR_TRIP_dies)
    |> setF TL_SLEEP_xtal_ok (d.f TL_SLEEP_xtal_ok) |> stayUpdate

/-- A reset of a running device (R461, R376, R443, R459): each anchorage override that it ends counts and raises E058 (R379). The count stands on
the reset value of R10 (DEDUCED, log entry 19). -/
def resetDev (cause : Nat) (d : Dev) : Dev :=
  forAll ((List.range 8).filter fun k => d.on (HK_ANCH_override k)) (fun k d => d |> incF HK_STAY_STAT_anch_reverts |> raise 58 k 0 0)
    (clearDev cause d)

/-- The deck leaves reset when nothing holds it (R296): the boot ROM starts. -/
def leaveReset (d : Dev) : Dev :=
  if d.deckUp then
    { d with t := { d.t with stopped := false } } |> modKey (fun k => { k with bootAt := d.now })
      |> modHk (fun h => { h with zeroOut := false, safeOut := false }) |> stayUpdate
  else d

/-- RESET_N (R461). -/
def resetPin (d : Dev) : Dev := d |> modEl (fun e => { e with resetN := false }) |> resetDev 0

/-- RESET_RELEASE (R296). -/
def resetRelease (d : Dev) : Dev := if d.el.resetN then d else d |> modEl (fun e => { e with resetN := true }) |> leaveReset

/-- DEVICE_RESET (R443): a write of DECK_RESET. -/
def deviceReset (v : Nat) (d : Dev) : Dev := if v % 2 = 1 ∧ bits v 15 8 = 0xC3 then d |> resetDev 0 |> leaveReset else d

/-! ### Words (R439, R441) -/

/-- Does an offset lie in a range? -/
def offIn (off lo hi : Nat) : Bool := decide (lo ≤ off ∧ off < hi)

/-- A write to a register: a governed one waits while the ledger takes no record (R393, R419). -/
def busRegister (org : Origin) (off v : Nat) (b : Blk) : Blk :=
  if governedWrite off v && b.dev.ledgerHolds then onDev (holdWrite org off v) b else regWrite org false off v b

/-- A word written at an offset of BAR0 (R439, R441). -/
def busWord (org : Origin) (off v : Nat) (b : Blk) : Blk :=
  if off = 0x10 then onDev (deviceReset v) b
  else if offIn off 0x1000 0x2000 || offIn off 0x200100 0x200220 || offIn off 0x380000 0x3C1000 || offIn off 0x402000 0x404000 then b
  else if offIn off 0x108000 0x110000 then onDev (ttWrite org ((off - 0x108000) / 16) (off % 16 / 4) v) b
  else if offIn off 0x410000 0x41FFF8 then (stageWrite 1 (off - 0x410000) (leBytes 4 v) b).2
  else if offIn off 0xA04000 0xA08000 then onDev (descWrite org ((off - 0xA04000) / 64) (off % 64 / 4) v) b
  else if off = 0x900000 then pwrCmd (v % 8) b
  else if offIn off 0x1000000 0x1100000 then codebookWrite ((off - 0x1000000) / 256) (off % 256 / 4) v b
  else if offIn off 0x1100000 0x1100140 then dynPortWrite (off - 0x1100000) v b
  else if offIn off 0x1100140 0x3000000 then b
  else if offIn off 0x3000000 0x4000000 && offIn (off % 0x400000) 0x100000 0x104000 then
    let r := off % 0x400000 - 0x100000
    onDev (coefWrite org (16 * ((off - 0x3000000) / 0x400000) + r / 0x400) (r % 0x400 / 0x200) (r % 0x200 / 4) v) b
  else busRegister org off v b

/-! ### Writes that the ledger holds (R393, R419) -/

/-- The writes held take effect in their order, until one finds no room in the ledger. -/
def releaseHeld (b : Blk) : Blk :=
  b.dev.ldg.held.foldl (fun b _ =>
    match b.dev.ldg.held with
    | [] => b
    | w :: r =>
      if governedWrite w.off w.val && b.dev.ledgerHolds then b
      else b |> onDev (modLdg fun l => { l with held := r }) |> busWord w.org w.off w.val) b

end Sys2Proof.Machine
end

