-- ==== Sys2Proof/Machine/Power.lean ====
section
/-!
DEFINITION. Power states: entries and their completion, Dormant and the wake, supplies and trips (R45, R46, R334, R375, R376, R389 to R403,
R457 to R462, R467). Requests and resets stand in Writes.lean.
-/
namespace Sys2Proof.Machine

/-! ### Entries (R394, R395, R397, R403) -/

/-- Steps 3 to 5 of an entry to Rest, with the records that it writes (R395, R236, R338, R341). -/
def restSteps (b : Blk) : Blk :=
  let b := b |> retireAll |> spareRows
  let b := (List.range 8).foldl (fun b k => calRecord k b) b
  onDev (fun d => d |> trussStop |> piersDown) b

/-- Steps 1 to 3 of an entry to Dormant (R397): the ports, the voltage and the stay outputs. -/
def sleepSteps (d : Dev) : Dev :=
  d |> linkStop |> avsWrite 800 |> forAll (List.range 8) anchToOtp |> modHk (fun h => { h with zeroOut := true })
    |> stayUpdate

/-- Address of retention bank k. -/
def retBank (k : Nat) : Nat := 0x80000 * (120 + k)

/-- The CRC-32C of retention bank k as read through correction (R397). -/
def Blk.retCrc (b : Blk) (k : Nat) : Nat := crc32c (b.read8 (retBank k) 65536)

/-- Step 4 (R397, R398): each selected bank's check, or its poison. -/
def retentionEntry (b : Blk) : Blk :=
  let sel := (List.range 8).filter fun k => b.dev.fb PWR_RET_CFG_retain k
  let good : Nat → Bool := fun k => b.readable (retBank k) 65536
  let mask : (Nat → Bool) → Nat := fun p => (sel.filter p).foldl (fun a k => a + 2 ^ k) 0
  let b := sel.foldl (fun b k => b |> touchRange 1 (retBank k) 65536 |> errorResps (retBank k) 65536) b
  onDev (fun d => d
    |> forAll (sel.filter good) (fun k d => setF (PWR_RET_CRC_crc k) (b.retCrc k) d)
    |> setF PWR_RET_STAT_retained (mask good) |> setF PWR_RET_STAT_poison (mask fun k => !good k)) b

/-- The ledger opens again, and the held writes take effect in order (R393). -/
def ledgerReopen (b : Blk) : Blk :=
  if b.dev.ldg.closed then b |> onDev (modLdg fun l => { l with closed := false }) |> releaseHeld else b

/-- The steps an entry takes before its commit point, but for those taken at its write. -/
def entrySteps (e : PwrEntry) (b : Blk) : Blk :=
  if e.target ≥ 3 then b |> (if e.from_ = 1 then restSteps else retireAll) |> onDev sleepSteps else b

/-- An entry is aborted at its commit point (R392): the steps taken are undone, the bays excepted. `b` is the block before the steps
of `entrySteps`: ports that they disabled start again, and piers that they powered down are powered again. -/
def entryAbort (e : PwrEntry) (code : Nat) (b : Blk) : Blk :=
  let b := onDev (fun d => d |> setB PWR_STAT_in_entry false |> modPs (fun s => { s with entry := none, wakeSeen := 0 })) b
  let b := if e.target ≥ 3 then onDev (fun d => d |> linkStop |> linkStart) b else b
  let b := if e.target = 4 ∧ e.from_ = 1 then b |> onDev piersDown |> piersUp else b
  b |> ledgerReopen |> onDev (pwrRefuse code e.target 3) |> pwrActHeld

/-- The instant at which the domains switch, or at which a move to or from Active takes effect (R390, R392). -/
def entrySwitch (e : PwrEntry) (b : Blk) : Blk :=
  let b := onDev (modPs fun s => { s with entry := some { e with committed := true } }) b
  if e.target = 2 then restSteps b
  else if e.target = 1 ∧ e.from_ = 0 then onDev (fun d => d |> forAll (List.range 8) bayToWarm |> setF PWR_STAT_state 1) b
  else if e.target = 1 then b |> onDev (setF PWR_STAT_state 1) |> onDev trussResume |> piersUp
  else if e.target = 3 then retentionEntry b
  else b

/-- ENTRY_COMMIT_POINT (R392): every refuser is checked again, the ports as they were before the steps disabled them. A shutdown's ramp
overtakes an entry (R375). -/
def entryCommitPoint (b : Blk) : Blk :=
  match b.dev.ps.entry with
  | none => b
  | some e =>
    if e.committed ∨ b.dev.hk.ramp.isSome then b
    else
      let b := if e.target = 0 ∨ e.from_ = 0 then onDev (passTo e.at_) b else b
      let c := entrySteps e b
      let applies := fun (k : Nat) => (if k = 6 ∨ k = 7 then b else c).dev.refuser e.from_ e.target true k
      match ((List.range 13).filter fun k => decide (2 ≤ k)).find? applies with
      | some code => entryAbort e code b
      | none => entrySwitch e c

/-- An entry completes: E128, and a held request is acted on. -/
def entryDone (state : Nat) (b : Blk) : Blk :=
  b |> onDev (fun d => d |> setF PWR_STAT_state state |> setB PWR_STAT_in_entry false |> modPs (fun s => { s with entry := none })
    |> raise 128 0xFF state 0) |> pwrActHeld

/-! ### Supplies and trips (R376, R403, R457 to R462, R467) -/

/-- What the always-on domain holds is gone (R403, R457): the fixed-trip record and the crystal's state. -/
def aonOff (d : Dev) : Dev :=
  d |> setF HK_PAR_TRIP_tripped 0 |> setF HK_PAR_TRIP_dies 0 |> setF TL_SLEEP_xtal_ok 0

/-- POWER_ON (R457, R462): no rail that PWR_OK speaks for is up yet. -/
def powerOn (d : Dev) : Dev :=
  let d := { d with el := { d.el with vaon := true, pwrOk := false, trips := 0, tripHold := none, stayAt := d.now } }
  let d := d |> clearDev 0 |> aonOff
  { d with ev := {} } |> stayUpdate

/-- VAON_LOSS (R457): as at power-on. -/
def vaonLoss (d : Dev) : Dev :=
  let d := { d with el := { d.el with vaon := false, trips := 0, tripHold := none } }
  let d := d |> clearDev 0 |> aonOff
  { d with ev := {} } |> stayUpdate

/-- PWR_OK_FALL (R459): ignored in Dormant until a wake starts, and while the deck has no power. -/
def pwrOkFall (d : Dev) : Dev :=
  let e := modEl (fun e => { e with pwrOk := false }) d
  if !d.el.pwrOk ∨ d.pwr = 3 ∨ d.el.offHeld then e else resetDev 0 e

/-- PWR_OK_RISE (R459). -/
def pwrOkRise (d : Dev) : Dev :=
  if d.el.pwrOk then d
  else
    let e := modEl (fun e => { e with pwrOk := true, okAt := d.now }) d
    if d.pwr = 3 then e else leaveReset e

/-- FIXED_TRIP (R376): dies, bit d. The comparators stand on the powered dies. -/
def fixedTrip (dies : Nat) (d : Dev) : Dev :=
  let dies := dies % 32
  if dies = 0 ∨ !d.el.vaon ∨ !d.el.pwrOk ∨ d.pwr = 3 ∨ d.el.offHeld then d
  else
    d |> modEl (fun e => { e with trips := e.trips ||| dies, tripHold := none })
      |> setB HK_PAR_TRIP_tripped true |> setF HK_PAR_TRIP_dies (d.f HK_PAR_TRIP_dies ||| dies) |> resetDev 2

/-- TRIP_RELEASE (R376): comparators release; the last one starts the 10 ms hold. -/
def tripRelease (dies : Nat) (d : Dev) : Dev :=
  let left := d.el.trips - (d.el.trips &&& dies)
  if d.el.trips = 0 then d
  else modEl (fun e => { e with trips := left, tripHold := if left = 0 then some (d.now + 9830400) else none }) d

/-- TRIP_HOLD_END (R376). -/
def tripHoldEnd (d : Dev) : Dev :=
  match d.el.tripHold with
  | none => d
  | some t => d |> passTo t |> modEl (fun e => { e with tripHold := none }) |> leaveReset

/-- XTAL_START (R467). -/
def xtalStart (d : Dev) : Dev := if d.el.vaon ∧ !d.el.offHeld then setB TL_SLEEP_xtal_ok true d else d

/-- CRYSTAL_FAILURE (R467). -/
def crystalFailure (d : Dev) : Dev := if d.pwr = 3 then d else setB TL_SLEEP_xtal_ok false d

/-- Does the sleep counter run on the RC oscillator (R46, R467)? -/
def Dev.onRc (d : Dev) : Bool := d.on TL_SLEEP_src || !d.on TL_SLEEP_xtal_ok

/-! ### Completion -/

/-- Requested Off (R403): every domain is off, and the deck is held in reset. -/
def goOff (d : Dev) : Dev := d |> clearDev 0 |> aonOff |> modEl (fun e => { e with offHeld := true }) |> stayUpdate

/-- The device is Dormant (R45, R397): the counters stop, and the estimate held at this entry is kept. -/
def goDormant (b : Blk) : Blk :=
  let d := b.dev
  let e := d.errNow.getD (0xFFFFFFFF * fineNs)
  b |> entryDone 3
    |> onDev (fun d => { d with
        t := { d.t with stopped := true, eLast := min e (0xFFFFFFFF * fineNs), eAt := d.now }
        ldg := { d.ldg with held := [] }
        regs := (setB TL_QUALITY_source_changed false d).regs
        el := { d.el with wakeDriven := none }
        ps := { d.ps with sleepAt := d.now, rcSlept := d.onRc, waking := d.ps.wakeSeen, wakeSeen := 0 } })

/-- ENTRY_COMPLETE (R390, R392): the commit point comes first where it has not been reached. -/
def entryComplete (b : Blk) : Blk :=
  let b := entryCommitPoint b
  match b.dev.ps.entry with
  | none => b
  | some e =>
    if !e.committed ∨ b.dev.hk.ramp.isSome then b
    else
      let b := onDev (setF PWR_STAT_last_result 1) b
      match e.target with
      | 0 => entryDone 0 b
      | 1 => b |> (if e.from_ = 0 then onDev (passTo (e.at_ + 1573)) else id) |> onDev svnAdvance |> entryDone 1
      | 2 => entryDone 2 b
      | 3 => goDormant b
      | _ => b |> onDev (modLdg fun l => { l with held := [] }) |> onDev goOff

/-- STARTING_ENTRY_COMPLETE (R389): firmware runs on the PLL, the microcode is loaded, and the piers are up for Ready. After a round at 118 °C
the device is in Rest and stays there until the dies are cool (R375; DEDUCED, log entry 44). -/
def startingComplete (b : Blk) : Blk :=
  let d := b.dev
  if d.pwr ≠ 4 ∨ !d.on PWR_STAT_in_entry ∨ !d.running ∨ d.key.fwStopped ∨ d.on KEY_STATUS_refclk_wait ∨
      (List.range 16).all (fun e => d.engState e == 0) then b
  else if d.f PWR_STAT_target = 2 ∨ d.on HK_PAR_STAT_shutdown then
    b |> onDev lapBegins |> retireAll |> onDev trussStop |> onDev (modPs fun s => { s with piersOff := true }) |> entryDone 2
  else b |> onDev lapBegins |> onDev (setF PWR_STAT_state 1) |> piersUp |> onDev svnAdvance |> entryDone 1

/-- SHUTDOWN_RAMP_END (R375): as at any entry to Rest the bays' records are written (R236), an archive block begins (R421), the merge buffer
retires and queued rows are spared (R338, R341); then the device is in Rest, and E053 is raised (R12). An entry that ran is overtaken, and
its closed ledger opens again. -/
def shutdownRampEnd (b : Blk) : Blk :=
  match b.dev.hk.ramp with
  | none => b
  | some t =>
    let b := onDev (fun d => d |> passTo t |> modHk (fun h => { h with ramp := none, safeOut := true })
          |> forAll (List.range 8) (fun k d => onlyIf (d.on (HK_ANCH_override k)) (fun d => d |> anchToOtp k
              |> incF HK_STAY_STAT_anch_reverts |> raise 58 k 0 0) d)) b
    let b := if b.dev.key.fwStopped then b else (List.range 8).foldl (fun b k => calRecord k b) b
    b |> arcFlush |> retireAll |> spareRows |> onDev (fun d => d |> trussStop |> piersDown |> modPs (fun s => { s with entry := none, wakeSeen := 0 }) |> stayUpdate)
      |> ledgerReopen |> entryDone 2 |> onDev (raise0 53)

/-! ### Dormant and the wake (R45, R46, R399 to R401) -/

/-- WAKE_PIN (R399): an entry to Dormant completes first; Off ignores it. -/
def wakePin (d : Dev) : Dev :=
  if !d.el.resetN ∨ !d.el.vaon then d
  else if d.pwr = 3 then (if d.ps.waking = 0 then modPs (fun s => { s with waking := 1 }) d else d)
  else
    match d.ps.entry with
    | some e => if e.target = 3 ∧ d.ps.wakeSeen = 0 then d |> modPs (fun s => { s with wakeSeen := 1 }) |> raise 131 0xFF 0 0 else d
    | none => d

/-- The count that wakes the device. -/
def Dev.wakeTimer (d : Dev) : Nat := d.f PWR_WAKE_TIMER_HI_count % 256 * 0x100000000 + d.f PWR_WAKE_TIMER_LO_count

/-- WAKE_TIMER (R399, R462): the device pulls WAKE_N low itself. -/
def wakeTimer (d : Dev) : Dev :=
  if d.pwr = 3 ∧ d.ps.waking = 0 ∧ d.wakeTimer ≠ 0 then
    d |> passTo (d.ps.sleepAt + 30000 * d.wakeTimer) |> modPs (fun s => { s with waking := 2 })
      |> (fun d => modEl (fun e => { e with wakeDriven := some d.now }) d)
  else d

/-- SLEEP_SOURCE_CHANGED (R46). -/
def sleepSourceChanged (d : Dev) : Dev :=
  if d.pwr = 3 ∧ !d.ps.rcSlept then d |> setB TL_SLEEP_xtal_ok false |> setB TL_QUALITY_source_changed true |> modPs (fun s => { s with rcSlept := true })
  else d

/-- Fields that the always-on domain keeps across Dormant (R400, R409). -/
def aonFields : List Fld :=
  [TL_FRAME_OFFSET_ticks, TL_JUMP_MAX_ns, TL_SLEEP_src, TL_SLEEP_xtal_ok, TL_RATE_LO_rate_lo, TL_RATE_HI_rate_hi, HK_PAR_TRIP_tripped,
   HK_PAR_TRIP_dies, PWR_RET_CFG_wake_to, PWR_RET_CFG_retain, PWR_RET_STAT_poison, PWR_RET_STAT_lost, PWR_RET_STAT_retained,
   PWR_WAKE_TIMER_LO_count, PWR_WAKE_TIMER_HI_count, PWR_COUNT_wakes] ++ (List.range 8).map PWR_RET_CRC_crc

/-- Time after a sleep of `count` counts (R45, R46): the counters go on from where they stopped. -/
def wakeTime (t : TimeSt) (now count : Nat) (rc : Bool) : TimeSt :=
  let e := t.eLast + count * (if rc then 1875000 else 0) * 10000000000 + (if rc then 0 else count * 46875000000000)
  let q := (t.tick + 30000 * count) / frameTicks
  { ntU := t.ntU + 93750000 * count, wraps := (t.ntU + 93750000 * count) / wrapUnits, tick := (t.tick + 30000 * count) % frameTicks, frame := (t.frame + q) % 1024
    fis := (t.fis + q) % 100, r := t.r, frameOffset := t.frameOffset, eLast := e, eAt := now, coastFirst := true }

/-- WAKE_POWER_UP (R399, R400): the deck restarts as from a reset, at an edge of the sleep counter. -/
def wakePowerUp (d : Dev) : Dev :=
  if d.pwr ≠ 3 ∨ d.ps.waking = 0 ∨ !d.el.pwrOk ∨ !d.el.resetN ∨ !d.el.vaon then d
  else
    let counts := (d.now - d.ps.sleepAt + 29999) / 30000
    let d := passTo (d.ps.sleepAt + 30000 * counts) d
    let full : Bool := decide (counts ≥ 2 ^ 40 - 1)
    let count := min counts (2 ^ 40 - 1)
    let changed := d.on TL_QUALITY_source_changed
    let stepped := d.on TL_QUALITY_stepped
    let spares := d.mp.spares.filter fun s => decide (s.1 ≥ 120)
    let n : Dev :=
      { now := d.now, draws := d.draws, otp := d.otp, el := d.el, ev := { haltCount := d.ev.haltCount }
        key := { bootAt := d.now, cause := 1 }, mp := { spares := spares }, t := wakeTime d.t d.now count d.ps.rcSlept }
    n |> forAll aonFields (fun x n => setF x (d.f x) n) |> incF PWR_COUNT_wakes |> setF PWR_STAT_wake_src d.ps.waking
      |> setF PWR_STAT_target (if d.on PWR_RET_CFG_wake_to then 1 else 2) |> setF MEM_SPARE_soft_used spares.length
      |> setF TL_SLEEP_CNT_LO_count_lo (count % 0x100000000) |> setF TL_SLEEP_CNT_HI_count_hi (count / 0x100000000)
      |> setB TL_QUALITY_source_changed changed |> onlyIf changed (raise0 9)
      |> (fun n => if full then { n with t := { n.t with coastFirst := false } } |> setQuality 0
                   else n |> setQuality 4 |> setB TL_QUALITY_stepped stepped |> raise0 8)
      |> showErr |> stayUpdate

/-- ROM_DONE (R296, R334, R401): OTP is read, deck SRAM initialised but for the retained banks that are intact. `lost` names the
retained banks whose contents did not survive. -/
def romDone (lost : Nat) (b : Blk) : Blk :=
  if !b.dev.deckUp ∨ b.dev.stage ≠ 0 ∨ b.dev.on MEM_STAT_init_done then b
  else
    let retained := if b.dev.key.cause = 1 then b.dev.f PWR_RET_STAT_retained else 0
    let intact := (List.range 8).filter fun k =>
      retained.testBit k && !lost.testBit k && b.readable (retBank k) 65536 && b.retCrc k == b.dev.f (PWR_RET_CRC_crc k)
    let gone := if b.dev.key.cause = 1 then (List.range 8).filter fun k =>
      (retained.testBit k || b.dev.fb PWR_RET_STAT_poison k) && !intact.contains k else []
    let b := intact.foldl (fun b k => touchRange 1 (retBank k) 65536 b) b
    b |> onMem (initBanks (intact.map fun k => 120 + k))
      |> onDev (fun d => d |> refreshOtp |> setF MEM_SPARE_fuse_used d.otp.fuseRows.length |> setB MEM_STAT_init_done true
          |> onlyIf (d.key.cause == 1) (setF PWR_RET_STAT_lost (gone.foldl (fun a k => a + 2 ^ k) 0))
          |> forAll gone (fun k d => raise 132 k 0 0 d)
          |> onlyIf (gone.contains 0) (forAll (List.range 2048) cbInvalidate)
          |> onlyIf (gone.contains 1) (forAll (List.range 2048) (fun e d => cbInvalidate (2048 + e) d))
          |> publishSeal |> setF KEY_STATUS_stage 1)

end Sys2Proof.Machine
end

