-- ==== Sys2Proof/Machine/Bus.lean ====
section
/-!
DEFINITION. BAR0 and the PCIe endpoint: access rules, the windows, the values that reads return, and what resets the endpoint (R6,
R8, R9, R297, R425, R436, R439 to R442, R482, R483).
-/
namespace Sys2Proof.Machine

/-! ### Access rules (R6, R440) -/

/-- Does a write of `width` bytes keep the rule of its range (R6, R440)? -/
def writeAllowed (off width : Nat) : Bool :=
  if offIn off 0x1000000 0x1100140 then (width == 4 && off % 4 == 0) || (width == 64 && off % 64 == 0)
  else if offIn off 0x1100140 0x3000000 then true
  else width == 4 && off % 4 == 0

/-- Does a read of `width` bytes keep the rule of its range? -/
def readAllowed (off width : Nat) : Bool :=
  if offIn off 0x1100140 0x2000000 then true
  else if offIn off 0x2000000 0x3000000 then
    decide (4 ≤ width ∧ width ≤ 512 ∧ width % 4 = 0) && off % 4 == 0 && off / 4096 == (off + width - 1) / 4096
  else width == 4 && off % 4 == 0

/-- An access that breaks the rule of its range: Unsupported Request, recorded in DECK_HOST_ERR; a write's shows in Advanced Error Reporting
(R440). -/
def hostErr (write : Bool) (off : Nat) (d : Dev) : Dev :=
  { d with host := { d.host with resp := .unsupported, aerUr := d.host.aerUr || write } }
    |> incF DECK_HOST_ERR_count |> setB DECK_HOST_ERR_write write |> setB DECK_HOST_ERR_sticky true |> setF DECK_HOST_ERR_offset (off / 4)

/-- Offsets that answer before RUNNING (R297, R315). -/
def answersEarly (off : Nat) : Bool := offIn off 0 0xC || offIn off 0x400000 0x404000 || offIn off 0x410000 0x41FFF8

/-- Does an offset answer now? -/
def Dev.answers (d : Dev) (off : Nat) : Bool := d.running || answersEarly off

/-! ### BAR2: the MSI-X table and the Pending Bit Array (R435)

An offset from 0x400_0000, above BAR0, names the byte of BAR2 at its excess (DESIGN CHOICE, log entry 65). -/

/-- Does an offset name BAR2's 8 KiB? -/
def inBar2 (off : Nat) : Bool := offIn off 0x4000000 0x4002000

/-- A word of BAR2. Address words keep their bits 1:0 at 0, and bit 0 of a control word masks its vector, as the PCIe specification lays the
table out (PRESUMED, log entry 65). -/
def Dev.bar2Word (d : Dev) (r : Nat) : Nat :=
  if r < 0x200 then (if r % 16 / 4 = 3 then ofBool (d.host.msixMask.testBit (r / 16)) else smGet 0 (r / 4) d.host.table)
  else if r = 0x1000 then (List.range 32).foldl (fun a v => if d.pba v then a + 2 ^ v else a) 0
  else 0

/-- A word written into BAR2: the Pending Bit Array is read-only. -/
def bar2Write (r v : Nat) (d : Dev) : Dev :=
  if 0x200 ≤ r then d
  else if r % 16 / 4 = 3 then
    { d with host := { d.host with
        msixMask := if v.testBit 0 then d.host.msixMask ||| 1 <<< (r / 16) else maskOff d.host.msixMask (1 <<< (r / 16)) } } |> flushVectors d
  else { d with host := { d.host with table := smPut 0 (r / 4) (if r % 16 = 0 then v / 4 * 4 else v) d.host.table } }

/-! ### Writes -/

/-- The value that a link write brings to a register (R286): RWG fields take it, every other bit keeps its value. -/
def Dev.linkValue (d : Dev) (off v : Nat) (fs : List FieldDef) : Nat :=
  fs.foldl (fun a x =>
    a + (match x.acc with
      | .rwg => bits v x.hi x.lo
      | .rw => d.f (x.at off)
      | .rwl => d.f (x.at off)
      | _ => 0) <<< x.lo) 0

/-- Does the staging window take a write: the host owns an open session (R440)? -/
def Dev.stagingTakes (d : Dev) : Bool := d.f KEY_STAGE_owner == 1 && d.f KEY_STAGE_session == 1

/-- A word written from outside or by firmware, where the offset answers. The host's write waits on the PCIe link behind one of its own that
the ledger holds (R419). -/
def busTake (org : Origin) (off v : Nat) (b : Blk) : Blk :=
  if !b.dev.answers off ∨ (offIn off 0x410000 0x41FFF8 ∧ !b.dev.stagingTakes) then b
  else if org = .host ∧ b.dev.hostWaits then onDev (holdWrite org off v) b
  else busWord org off v b

/-- A write of `width` bytes at an offset of BAR0, its words in order. Without a powered deck nothing answers. -/
def busWrite (org : Origin) (off width : Nat) (l : List Word) (b : Blk) : Blk :=
  if b.dev.deckUp && inBar2 off && org == .host && width == 4 && off % 4 == 0 then onDev (bar2Write (off - 0x4000000) ((l.getD 0 0).toNat)) b
  else if !b.dev.deckUp ∨ off ≥ 0x4000000 then b
  else if !writeAllowed off width then (if org == .host then onDev (hostErr true off) b else b)
  else
    ((List.range (width / 4)).foldl (fun b i => busTake org (off + 4 * i) ((l.getD i 0).toNat) b)
      (onDev (fun d => { d with host := { d.host with resp := .none } }) b))

/-- The host's write of one word. -/
def hostWrite (off v : Nat) (b : Blk) : Blk := busWrite .host off 4 [BitVec.ofNat 32 v] b

/-! ### Reads -/

/-- DECK_EVT_SUMMARY (R431). -/
def Dev.evtSummary (d : Dev) : Nat :=
  min d.ev.haltCount 65535 * 65536 + 16 * ofBool d.faultPin + 8 * ofBool d.evtPin + 4 * ofBool (d.classPending 2) +
    2 * ofBool (d.classPending 1) + ofBool (d.classPending 0)

/-- Fields that a read makes up from the state of the moment, over the stored word w. -/
def Dev.liveWord (d : Dev) (off w : Nat) : Nat :=
  if off = 0x100000 then d.nt
  else if off = 0x100034 then putBits w 2 2 (ofBool d.onRc)
  else if off = 0x100 then d.evtSummary
  else if off = LINK_XK_MAC_LO_addr.off then d.otp.mac % 4294967296
  else if off = LINK_XK_MAC_LO_addr.off + 4 then d.otp.mac / 4294967296 % 65536
  else if off = 0x500108 ∨ off = 0x500148 then
    let p := (off - 0x500108) / 0x40
    putBits (putBits w 15 8 (min 255 (d.expbFill (2 * p) d.now).toNat)) 7 0 (min 255 (d.expbFill (2 * p + 1) d.now).toNat)
  else if offIn off 0x801200 0x801220 then
    let k := (off - 0x801200) / 4
    if d.on (HK_ANCH_override k) then w else putBits w 16 0 (smGet 0 k d.otp.anch)
  else if offIn off 0x400 0x680 then
    putBits (putBits w 23 22 (eventClass ((off - 0x400) / 4))) 21 21 (ofBool (d.evPending ((off - 0x400) / 4)))
  else if offIn off 0x50 0x60 then ofLe ((d.otp.devId.drop (off - 0x50)).take 4)
  else if offIn off 0xA01000 0xA01400 && (off - 0xA01000) % 64 == 12 then
    match (smGet {} ((off - 0xA01000) / 64) d.tr.eng).run with
    | some r => (w + (d.now - r.start) * 5 / 4) % 4294967296
    | none => w
  else if off = KEY_STAGE_idle_s.off then
    putBits w 31 16 (if d.f KEY_STAGE_session = 0 then 0 else min 65535 ((d.now - d.key.opAt) / secTicks))
  else
    match bayRel off with
    | some (b, r) =>
      if r = 0x264 then
        let mask : (Nat → Bool) → Nat := fun p => (List.range 8).foldl (fun a i => if p (8 * b + i) then a + 2 ^ i else a) 0
        putBits (putBits w 31 24 (mask fun n => d.chainValid n 1 3)) 23 16 (mask fun n => d.chainValid n 0 3)
      else if r = 0x344 then putBits w 4 4 (ofBool (d.on (BAY_OBS_STAT_busy b) || d.capWaits b || (d.obsSt b).byCal))
      else if offIn r 0x420 0x440 then
        let n := 8 * b + (r - 0x420) / 4
        putBits w 15 0 (if d.f (BAY_CAL_PATH_count b (posOf n)) = 0 then 65535 else min 65535 ((d.now - (d.calPath n).lastAt) / secTicks))
      else w
    | none => w

/-- The value of the register at an offset: WO fields, reserved bits and unassigned offsets read 0 (R8, R9). -/
def Dev.regValue (d : Dev) (off : Nat) : Nat :=
  if decide (0x3000000 ≤ off) && !d.piersUp then 0
  else
    match findBank off with
    | none => 0
    | some r => d.liveWord off (d.rawWord off (r.fields.filter fun x => x.acc != .wo))

/-- Word w of a timetable entry (R49). -/
def Dev.ttWord (d : Dev) (i w : Nat) : Nat :=
  match w with
  | 0 => (d.ttE i).w0
  | 1 => (d.ttE i).w1
  | 2 => (d.ttE i).w2
  | _ => (d.ttE i).w3

/-- Entry i of the event queue, as 16 bytes (R427). -/
def EvEntry.bytes (e : EvEntry) : List Nat :=
  leBytes 2 e.event ++ [e.cls, e.flags, e.unit, e.cause] ++ leBytes 2 e.count ++ leBytes 4 e.ns ++ leBytes 4 (e.frame * 0x200000 + e.cycle)

/-- Leaf seal k of the window (R89): the six leaves, the two deck halves, or the shadow's device seal. -/
def Blk.leafBytes (b : Blk) (k : Nat) : List Nat :=
  if k < 8 then smGet [] k b.dev.seals.pubLeaves
  else if b.dev.f SPAN_STATUS_form_state = 4 then b.shadowSeal
  else []

/-- A word read in register space or a pier window, where the offset answers. -/
def Blk.busValue (b : Blk) (off : Nat) : Nat :=
  let d := b.dev
  if !d.answers off then 0
  else if offIn off 0x1000 0x2000 then
    ofLe (((smGet {} ((off - 0x1000) / 16) d.ev.queue).bytes.drop (off % 16)).take 4)
  else if offIn off 0x108000 0x110000 then d.ttWord ((off - 0x108000) / 16) (off % 16 / 4)
  else if offIn off 0x200100 0x200220 then ofLe (((b.leafBytes ((off - 0x200100) / 32)).drop (off % 32)).take 4)
  else if offIn off 0x380000 0x3C0000 then b.rd32 (0x3A80000 + (off - 0x380000))
  else if offIn off 0x3C0000 0x3C1000 then ofLe ((List.range 4).map fun i => smGet 0 (off - 0x3C0000 + i) d.ldg.window)
  else if offIn off 0x402000 0x403000 then ofLe ((List.range 4).map fun i => smGet 0 (off - 0x402000 + i) d.key.report)
  else if offIn off 0x403000 0x404000 then ofLe ((List.range 4).map fun i => d.hssPublic.getD (off - 0x403000 + i) 0)
  else if offIn off 0x410000 0x41FFF8 then 0
  else if offIn off 0xA04000 0xA08000 then d.descWord ((off - 0xA04000) / 64) (off % 64 / 4)
  else if offIn off 0x1100000 0x2000000 then 0
  else if offIn off 0x3000000 0x4000000 && offIn (off % 0x400000) 0x100000 0x104000 then
    let r := off % 0x400000 - 0x100000
    let n := 16 * ((off - 0x3000000) / 0x400000) + r / 0x400
    if d.piersUp && d.map.modelled n then d.coef n (r % 0x400 / 0x200) (r % 0x200 / 4) else 0
  else d.regValue off

/-- Deck SRAM behind an offset of a window (R418, R168, R154). -/
def sramOf (off : Nat) : Option Nat :=
  if offIn off 0x380000 0x3C0000 then some (0x3A80000 + (off - 0x380000))
  else if offIn off 0x1000000 0x1100000 then some (0x3C00000 + (off - 0x1000000))
  else if offIn off 0x2000000 0x3000000 then some off
  else none

/-- What a host read latches beside its value: the time snapshot (R33), the published seal (R89) and the ledger sequence (R415). -/
def readLatch (off : Nat) (d : Dev) : Dev :=
  if off = 0x100000 then latchSnap d
  else if off = DECK_SEAL_EPOCH_epoch.off then sealEpochRead d
  else if off = LEDGER_WR_SEQ_seq.off then wrSeqRead d
  else d

/-- HOST_WINDOW_READ (R6, R154, R168, R335 to R337, R418, R440): a read of `width` bytes at an offset of BAR0. An access that breaks the
rule of its range is an Unsupported Request; in a window of deck SRAM `err` bits of its first code word have flipped since the word was
written or last seen; elsewhere the register or window answers. -/
def windowRead (off width err : Nat) (b : Blk) : Blk :=
  let answer := fun (r : HostResp) => onDev fun d => { d with host := { d.host with resp := r } }
  if b.dev.deckUp && inBar2 off && width == 4 && off % 4 == 0 then answer (.data (b.dev.bar2Word (off - 0x4000000))) b
  else if !b.dev.deckUp ∨ off ≥ 0x4000000 then b
  else if !readAllowed off width then onDev (hostErr false off) b
  else if !b.dev.answers off then answer (.data 0) b
  else
    match sramOf off with
    | none => b |> onDev (readLatch off) |> fun b => answer (.data (b.busValue off)) b
    | some a =>
        let a8 := a / 8 * 8
        let n := (a + width + 7) / 8 - a / 8
        let b := b |> upset a8 err |> touchRange 1 a8 n
        let v := ofLe (((b.read8 a8 n).drop (a % 8)).take width)
        if b.readable a8 n then answer (.data v) b else b |> onDev errorResp |> answer (.poisoned v)

/-! ### The endpoint (R425, R433 to R436) -/

/-- The capabilities of the endpoint (R433); anything not listed is absent. -/
inductive HostCap where
  | powerManagement | msix | pciExpress | advancedErrorReporting | deviceSerialNumber
deriving DecidableEq, Repr

/-- What configuration space reads (R433 to R435). -/
structure ConfigHeader where
  vendor : Nat := 0x1E6B
  device : Nat := 0x6464
  revision : Nat := 0xB1
  classCode : Nat := 0x118000
  subVendor : Nat := 0x1E6B
  subsystem : Nat
  interruptPin : Nat := 0
  bar0 : Nat
  bar2 : Nat
  bar4 : Nat := 0
  bar5 : Nat := 0
  serial : Nat
  capabilities : List HostCap := [.powerManagement, .msix, .pciExpress, .advancedErrorReporting, .deviceSerialNumber]
  d3hot : Bool
  noSoftReset : Bool := true
  /-- MSI-X: vectors, and the places of the table and of the Pending Bit Array in BAR2 -/
  vectors : Nat := 32
  tableAt : Nat := 0
  pbaAt : Nat := 0x1000
  /-- largest payload supported and set, and the largest read request that the device issues, in bytes -/
  maxPayload : Nat := 256
  payload : Nat
  maxRead : Nat := 512
  unsupportedSeen : Bool
deriving DecidableEq, Repr

/-- Configuration space as it reads: the Subsystem ID from OTP, the serial number bytes 0 to 7 of the OTP device identifier (R434). -/
def Dev.configHeader (d : Dev) : ConfigHeader :=
  { subsystem := d.otp.subsystem % 65536, serial := ofLe (d.otp.devId.take 8), bar0 := d.host.bar0, bar2 := d.host.bar2, d3hot := d.host.d3hot
    payload := if d.host.payload256 then 256 else 128, unsupportedSeen := d.host.aerUr }

/-- The endpoint returns to reset, and nothing else (R436): 6 is HOST_ERR, 10 is FETCH_ERR. Every event that is pending then owes a message. -/
def endpointReset (d : Dev) : Dev :=
  let d := { d with host := { linkUp := d.host.linkUp, msixSent := d.host.msixSent, lastMsg := d.host.lastMsg, resp := d.host.resp
                              unsent := (List.range 160).filter d.evPending } }
  let busy := (List.range 16).filter fun k => d.chState (16 + k) != 0
  d |> forAll busy (fun k d => d |> chEnd (16 + k) 6 |> raise 44 (16 + k) 6 0)
    |> onlyIf (d.f KEY_STAGE_owner == 1) stageFree
    |> onlyIf (d.stage == 3) (offerRefuse 10 0)

/-- FUNCTION_LEVEL_RESET (R436). -/
def functionReset (d : Dev) : Dev := if d.deckUp then endpointReset { d with host := { d.host with linkUp := true } } else d

/-- HOST_LINK_DOWN (R428, R436): the data link goes down. -/
def hostLinkDown (d : Dev) : Dev :=
  if d.deckUp && d.host.linkUp then
    { d with host := { d.host with linkUp := false } } |> endpointReset |> onlyIf (d.running && !d.key.fwStopped) (raise0 156)
  else d

/-- MSIX_UNMASK (R425, R433, R435, R436): a configuration write of the host leaves the settings `cfg`; the message that a vector owes leaves
when it may. A base address keeps the bits that its BAR's size leaves. -/
def msixUnmask (cfg : HostCfg) (d : Dev) : Dev :=
  if !d.deckUp then d
  else
    { d with host := { d.host with
        linkUp := true, d3hot := cfg.d3hot, busMaster := cfg.busMaster, msixEnable := cfg.enable, msixFuncMask := cfg.funcMask
        msixMask := cfg.mask % 2 ^ 32, bar0 := cfg.bar0 % 2 ^ 64 / 0x4000000 * 0x4000000, bar2 := cfg.bar2 % 2 ^ 64 / 0x2000 * 0x2000
        payload256 := cfg.payload256, aerUr := d.host.aerUr && !cfg.aerClear } }
      |> flushVectors d

end Sys2Proof.Machine
end

