-- ==== Sys2Proof/Machine/Management.lean ====
section
/-!
DEFINITION. Xantaka management: reads and writes of registers over a fronthaul port (R285 to R287).
-/
namespace Sys2Proof.Machine

/-- Do writes through management never reach an offset (R286): no RWG field, the KEY or LEDGER block, or LINK_XK_CFG itself? -/
def mgmtBars (off : Nat) : Bool :=
  !governedOff off || offIn off 0x400000 0x404000 || offIn off 0x300000 0x300100 || off == LINK_XK_CFG_mgmt.off

/-- The status that a request's item gets (R285 to R287): 0 OK, 1 ALIGN, 2 ACCESS, 3 DISABLED. -/
def Dev.mgmtStatus (d : Dev) (write : Bool) (off : Nat) : Nat :=
  let mode := d.f LINK_XK_CFG_mgmt
  if mode = 0 ∨ (mode = 1 ∧ write) then 3
  else if off % 4 ≠ 0 ∨ off ≥ 0x1000000 then 1
  else if (if write then mgmtBars off else offIn off 0x400000 0x420000) then 2
  else 0

/-- A read through management latches nothing, and the seal registers return the published seal (R285). -/
def Blk.mgmtValue (b : Blk) (off : Nat) : Nat :=
  if offIn off 0x20 0x40 then ofLe ((b.dev.seals.pubSeal.drop (off - 0x20)).take 4)
  else b.busValue off

/-- A read item in the ring's window (R335, R337): a word that is not delivered is an error response. The value and the status that the
response then carries are stated nowhere: the value is free, and the status free but not OK (log entry 4). -/
def mgmtRead (off : Nat) (b : Blk) : Blk × List Nat :=
  match sramOf off with
  | none => (b, beBytes 4 (b.mgmtValue off) ++ [0, 0, 0, 0])
  | some a =>
    let b := touch 1 a b
    let k := b.dev.draws
    if b.mem.bad a then
      (onDev (fun d => errorResp { d with draws := k + 2 }) b, beBytes 4 (Config.freeValue k) ++ [1 + Config.freeValue (k + 1) % 255, 0, 0, 0])
    else (b, beBytes 4 (b.mgmtValue off) ++ [0, 0, 0, 0])

/-- The 8 bytes of the response for a write that has taken effect: the value read after it (R286). -/
def Blk.mgmtAck (b : Blk) (off : Nat) : List Nat := beBytes 4 (b.mgmtValue off) ++ [0, 0, 0, 0]

/-- One item: the block after it, and its 8 bytes of the response, none while the ledger holds its write (R286, R419). The value beside a status
other than OK is stated nowhere: a free value (log entry 4). -/
def mgmtItem (write : Bool) (off v : Nat) (b : Blk) : Blk × Option (List Nat) :=
  let st := b.dev.mgmtStatus write off
  if st ≠ 0 then
    (onDev (fun d => d |> draw |> incF LINK_XK_MGMT_refused) b, some (beBytes 4 (Config.freeValue b.dev.draws) ++ [st, 0, 0, 0]))
  else if write then
    let w := match findBank off with | some r => b.dev.linkValue off v r.fields | none => v
    let waits := governedWrite off w && b.dev.ledgerHolds
    let b := b |> onDev (fun d => setF LINK_XK_MGMT_writes (d.f LINK_XK_MGMT_writes + 1) d) |> busRegister .link off w
    (b, if waits then none else some (b.mgmtAck off))
  else ((mgmtRead off b).1, some (mgmtRead off b).2)

/-- Items in order (R287), from those of a request that are left to the end or to a write that waits. -/
def mgmtItems (q : MgmtReq) : List (Nat × Nat) → Blk → Blk × MgmtReq
  | [], b => (b, { q with held := none, items := [] })
  | x :: l, b =>
    match mgmtItem q.write x.1 x.2 b with
    | (b, none) => (b, { q with held := some x.1, items := l })
    | (b, some r) => mgmtItems { q with done := q.done ++ r } l b

/-- Every item of a request answered BUSY: `waiting` requests waited when it arrived (R287). -/
def mgmtBusy (l : List (Nat × Nat)) (b : Blk) : Blk × List Nat :=
  (onDev (fun d => d |> addF LINK_XK_STAT_mgmt_busy l.length |> (fun d => { d with draws := d.draws + l.length })) b,
   (List.range l.length).flatMap fun i => beBytes 4 (Config.freeValue (b.dev.draws + i)) ++ [4, 0, 0, 0])

/-- A request is carried on: answered when its items are done, kept at the front of those that wait when a write is held. -/
def mgmtRun (q : MgmtReq) (b : Blk) : Blk :=
  let r := mgmtItems q q.items b
  if r.2.held.isSome then onDev (modXk fun x => { x with mgmt := r.2 :: x.mgmt }) r.1
  else onDev (onlyIf (r.1.dev.portUp q.port) (sendTo false none 0 q.port q.dst q.tci 0x43 3 0 (q.tag ++ [q.count, 0] ++ r.2.done))) r.1

/-- MGMT_READ (kind 1) and MGMT_WRITE (kind 2): requests are executed in order of arrival, behind one whose write the ledger holds (R287). -/
def mgmtRequest (write : Bool) (f : XkFrame) (waiting : Nat) (b : Blk) : Blk :=
  xkReceive 0x43 [if write then 2 else 1] f (fun m b =>
    let n := m.body.getD 2 0
    if m.body.length ≠ 4 + 8 * n ∨ n = 0 ∨ n > 16 ∨ m.body.getD 3 0 ≠ 0 ∨
        (!write && (List.range n).any fun i => be m.body (8 + 8 * i) 4 != 0) then onDev (discard LINK_XK_DISC_format) b
    else
      let items := (List.range n).map fun i => (be m.body (4 + 8 * i) 4, be m.body (8 + 8 * i) 4)
      let q : MgmtReq := ⟨f.port, f.src, f.tci, m.body.take 2, n, write, [], none, items⟩
      if max waiting b.dev.xk.mgmt.length ≥ 8 then
        let r := mgmtBusy items b
        onDev (sendTo false none 0 f.port f.src f.tci 0x43 3 0 (m.body.take 2 ++ [n, 0] ++ r.2)) r.1
      else if b.dev.xk.mgmt.isEmpty then mgmtRun q b
      else onDev (modXk fun x => { x with mgmt := x.mgmt ++ [q] }) b) b

/-- The oldest request that waits goes on once the ledger holds no write from the link any more: a tick of the idling block (R286, R419). -/
def mgmtResume (b : Blk) : Blk :=
  match b.dev.xk.mgmt with
  | [] => b
  | q :: rest =>
    if b.dev.ldg.held.any fun w => w.org == .link then b
    else
      let b := onDev (modXk fun x => { x with mgmt := rest }) b
      mgmtRun { q with done := q.done ++ (match q.held with | some off => b.mgmtAck off | none => []), held := none } b

end Sys2Proof.Machine
end

