-- ==== Sys2Proof/Machine/Service.lean ====
section
/-!
DEFINITION. The service port (R444 to R450).
-/
namespace Sys2Proof.Machine

def modSvc (g : SvcSt → SvcSt) (d : Dev) : Dev := { d with svc := g d.svc }

/-- Is the service port served (R297, R444)? -/
def Dev.served (d : Dev) : Bool := d.deckUp && decide (2 ≤ d.stage)

/-! ### Frames (R445) -/

/-- A response frame. -/
def svcFrame (ty status tag : Nat) (payload : List Nat) : List Nat :=
  let h := [0x53, 0x56, ty, status] ++ leBytes 2 tag ++ leBytes 2 payload.length ++ payload
  h ++ leBytes 4 (crc32c h)

/-- A request frame, if the bytes received hold a good one. Bytes after it have no meaning. -/
def svcParse (l : List Nat) : Option SvcReq :=
  let len := leAt l 6 2
  if l.length < 12 ∨ l.take 2 ≠ [0x53, 0x56] ∨ len > 4096 ∨ l.length < 12 + len ∨
      leAt l (8 + len) 4 ≠ crc32c (l.take (8 + len)) then none
  else some { ty := l.getD 2 0, tag := leAt l 4 2, payload := (l.drop 8).take len }

/-- The request's processing ends: the response replaces an unread one (R446). -/
def respond (status : Nat) (payload : List Nat) (d : Dev) : Dev :=
  match d.svc.req with
  | none => d
  | some r => modSvc (fun s => { s with req := none, resp := some (svcFrame r.ty status r.tag payload) }) d

/-- Does a request's payload match its type (R447)? -/
def svcPayloadGood (r : SvcReq) : Bool :=
  let n := r.payload.length
  match r.ty with
  | 0x11 => decide (5 ≤ n)
  | 0x20 => n == 8 && decide (1 ≤ leAt r.payload 4 2 ∧ leAt r.payload 4 2 ≤ 127) && leAt r.payload 6 2 == 0
  | 0x21 => n == 4 && decide (leAt r.payload 0 2 ≤ 2047) && leAt r.payload 2 2 == 0
  | _ => n == 0

/-- The request types (R447). -/
def svcTypes : List Nat := [0x01, 0x10, 0x11, 0x12, 0x13, 0x14, 0x15, 0x20, 0x21]

/-- WRITE_REQ (R444 to R447): a bad frame raises E157 whether or not a request is being processed. An unknown type and a payload that does
not match are answered at once. -/
def writeReq (l : List Nat) (d : Dev) : Dev :=
  if !d.served then d
  else
    match svcParse l with
    | none => d |> modSvc (fun s => { s with err := true }) |> raiseSec 157 157 0xFF 0 0
    | some r =>
      if d.svc.req.isSome then modSvc (fun s => { s with err := true }) d
      else
      let d := modSvc (fun s => { s with req := some r, resp := none }) d
      if !svcTypes.contains r.ty then respond 3 [] d else if !svcPayloadGood r then respond 2 [] d else d

/-- READ_RESP (R446): the response, or bytes of 0x00. -/
def readResp (d : Dev) : Dev :=
  if d.deckUp then modSvc (fun s => { s with sent := s.resp.getD [0], resp := none }) d else d

/-- STATUS (R444). -/
def svcStatus (d : Dev) : Dev :=
  if !d.deckUp then d
  else if !d.served then modSvc (fun s => { s with sent := [0] }) d
  else
    modSvc (fun s => { s with
      sent := [ofBool s.resp.isSome + 2 * ofBool s.req.isSome + 4 * ofBool s.err + 128], err := false }) d

/-- A transaction: its opcode byte, and the bytes that follow it (R444). An unknown opcode makes the device ignore the rest. -/
def svcTransaction (op : Nat) (l : List Nat) (d : Dev) : Dev :=
  match op with
  | 0x05 => svcStatus d
  | 0x02 => writeReq l d
  | 0x32 => writeReq l d
  | 0x0B => readResp d
  | 0x6B => readResp d
  | _ => d

/-! ### Requests -/

/-- Process the request that waits, when it has a type. -/
def onReq (ty : Nat) (g : SvcReq → Blk → Blk) (b : Blk) : Blk :=
  if !b.dev.served then b
  else match b.dev.svc.req with | some r => if r.ty = ty then g r b else b | none => b

/-- The GET_STATUS response (R448). -/
def Dev.statusBytes (d : Dev) : List Nat :=
  let run : List Nat → List Nat := fun l => if d.running then l else l.map fun _ => 0
  let reg := fun (x : Fld) => leBytes 4 (d.regValue x.off)
  d.otp.devId.take 16 ++ reg DECK_STEPPING_stepping ++ reg KEY_STATUS_stage ++ reg KEY_ACT_REL_value ++ reg KEY_STAGE_session ++
    [if d.running then d.pwr else 0xFF] ++ run [d.quality + 128 * ofBool d.txPermit] ++ [0, 0] ++
    run (reg SPAN_MAP_ID_map_id ++ leBytes 4 d.seals.pubEpoch ++ d.seals.pubSeal ++ leBytes 4 d.evtSummary ++
      (List.range 5).flatMap (fun w => reg (DECK_EVT_PEND_pend w)) ++ reg LEDGER_WR_SEQ_seq ++ reg LEDGER_ARC_SEQ_seq ++
      reg HK_PAR_STAT_level)

/-- GET_STATUS. -/
def getStatus (b : Blk) : Blk := onReq 0x01 (fun _ => onDev fun d => respond 0 d.statusBytes d) b

/-- The slots of this boot's records from one back, newest first, n at most (R416, R418). -/
def Dev.ringBack (d : Dev) (slot : Nat) : Nat → List Nat
  | 0 => []
  | n + 1 => if d.ringRec slot = {} then [] else slot :: d.ringBack ((slot + 8191) % 8192) n

/-- The slots of the records that the ring holds, oldest first. -/
def Dev.ringHeld (d : Dev) : List Nat := (d.ringBack ((d.f LEDGER_WR_SLOT_slot + 8191) % 8192) 8192).reverse

/-- Does a record answer for a sequence: its own, or one of the lost run that it describes (R418, R449)? -/
def RingRec.answersFor (r : RingRec) (seq : Nat) : Bool :=
  decide ((seq + r.lost + 0x100000000 - r.seq) % 0x100000000 ≤ r.lost)

/-- LEDGER_RING (R449). A record that cannot be read ends the answer as one that the ring does not hold (DEDUCED, log entry 50). -/
def ledgerRing (b : Blk) : Blk :=
  onReq 0x20 (fun r b =>
    let first := leAt r.payload 0 4
    let found := (b.dev.ringHeld.dropWhile fun s => !(b.dev.ringRec s).answersFor first).take (leAt r.payload 4 2)
    let l := found.takeWhile fun s => b.readable (ringAddr s) 4
    let b := (found.take (l.length + 1)).foldl (fun b s => touchRange 1 (ringAddr s) 4 b) b
    let b := onDev (onlyIf (decide (l.length < found.length)) errorResp) b
    let d := b.dev
    onDev (respond 0 (leBytes 4 (d.f LEDGER_WR_SEQ_seq) ++ leBytes 4 (d.f LEDGER_RD_SEQ_seq) ++ leBytes 2 l.length ++ [0, 0] ++
      l.flatMap fun s => b.ringRaw s)) b) b

/-- LEDGER_ARCHIVE (R447): `ok` tells whether the store could be read. -/
def ledgerArchive (ok : Bool) (b : Blk) : Blk :=
  onReq 0x21 (fun r b =>
    if ok && !b.dev.key.storeAbsent then onDev (respond 0 (b.mem.sbytes (arcAddr (leAt r.payload 0 2)) 0x1000)) b
    else onDev (respond 5 []) b) b

/-- The answer to a staging operation's reason (R315, R447): 12 BUSY, 13 TOO_LARGE, else REFUSED. -/
def stageAnswer (close : Bool) (x : Nat × Blk) : Blk :=
  onDev (if x.1 = 0 then respond 0 [] else if x.1 = 12 then respond 1 [] else if x.1 = 13 ∧ !close then respond 6 []
    else respond 4 (if close then [x.1] else [])) x.2

/-- Staging operations of the service port. -/
def svcOpen (b : Blk) : Blk := onReq 0x10 (fun _ b => stageAnswer false (stageOpen 2 b)) b
def svcWrite (b : Blk) : Blk := onReq 0x11 (fun r b => stageAnswer false (stageWrite 2 (leAt r.payload 0 4) (r.payload.drop 4) b)) b
def svcAbort (b : Blk) : Blk := onReq 0x13 (fun _ b => stageAnswer false (stageAbort 2 b)) b
def svcClear (b : Blk) : Blk := onReq 0x14 (fun _ b => stageAnswer false (stageClear 2 b)) b

/-- A close that passes verification is answered when its write completes (R447). -/
def svcClose (b : Blk) : Blk :=
  onReq 0x12 (fun _ b =>
    if b.dev.f KEY_STAGE_session = 2 ∧ b.dev.f KEY_STAGE_owner = 2 then b
    else
      let r := stageClose 2 b
      if r.1.2 then r.2 else stageAnswer true (r.1.1, r.2)) b

/-- STAGE_COMMIT_DONE (R316), and the answer to the service port's close. -/
def commitDone (ok : Bool) (b : Blk) : Blk :=
  let owner := b.dev.f KEY_STAGE_owner
  let session := b.dev.f KEY_STAGE_session
  let r := stageCommitDone ok b
  if session = 2 ∧ owner = 2 then onReq 0x12 (fun _ b => stageAnswer true (r.1, b)) r.2 else r.2

/-- STAGE_STATUS of the service port (R315, R447). -/
def svcStageStatus (b : Blk) : Blk :=
  onReq 0x15 (fun _ => onDev fun d =>
    respond 0 (leBytes 4 (d.regValue KEY_STAGE_session.off) ++ leBytes 4 (d.regValue KEY_REFUSE_reason.off) ++
      leBytes 4 (d.regValue KEY_SVN_staged.off)) d) b

end Sys2Proof.Machine
end

