-- ==== Sys2Proof/Machine/Pins.lean ====
section
/-!
DEFINITION. The pins (R462, R463) and the JTAG port (R470). The stay and anchorage outputs are in Housekeeping.lean.
-/
namespace Sys2Proof.Machine

/-! ### Pin states (R463) -/

/-- The device's condition (R463), the columns of its table. -/
inductive PinCond where
  | unpowered | held | rom | running | dormant
deriving DecidableEq, Repr

def Dev.pinCond (d : Dev) : PinCond :=
  if !d.el.vaon then .unpowered
  else if d.pwr = 3 then .dormant
  else if !d.deckUp then .held
  else if d.running then .running
  else .rom

/-- Is WAKE_N pulled low by the device (R462): from the match of its timer until PWR_OK has been high for 10 us? -/
def Dev.wakeLow (d : Dev) : Bool :=
  match d.el.wakeDriven with
  | none => false
  | some t => !(d.el.pwrOk && decide (max t d.el.okAt + usTicks 10 ≤ d.now))

/-- The level of ALIGN_OUT (R58, R59): high for one bit time of 16 base cycles from the frame boundary, then the frame's 80 bits, the first one
first, and low until the next boundary. -/
def Dev.alignHigh (d : Dev) : Bool :=
  let k := d.t.tick / 128
  d.f TL_ALIGN_CFG_role == 1 && d.t.alignOut != 0 && (k == 0 || (decide (k ≤ 80) && d.t.alignOut.testBit (80 - k)))

def pinBit (x : Bool) : PinLevel := if x then .high else .low

/-- Is pier p powered? -/
def Dev.pierOn (d : Dev) (p : Nat) : Bool := d.piersUp && !d.map.pierIdle p

/-- What the device itself does with a pin (R463). -/
def Dev.pinOwn (d : Dev) (p : Pin) : PinLevel :=
  let idle : Pin → PinLevel := fun p =>
    match p with
    | .txp _ | .lane _ | .pcie => .off
    | .rxp _ | .orxp _ | .calp => .unterminated
    | .evtN | .faultN | .wakeN => .released
    | .qspiCs => .pullUp
    | .svcIo _ | .tdo => .highZ
    | .orxs _ _ | .ppsOut | .alignOut | .avsClk | .avsMdata => .pullDown
  if p = .wakeN ∧ d.wakeLow then .low
  else match d.pinCond with
    | .unpowered => .highZ
    | .held => idle p
    | .dormant =>
      match p with
      | .orxs _ _ | .ppsOut | .alignOut | .qspiCs | .avsClk | .avsMdata => .highZ
      | p => idle p
    | .rom =>
      match p with
      | .orxs _ _ | .ppsOut | .alignOut => .low
      | .evtN => if d.evtPin then .low else .released
      | .faultN => if d.faultPin then .low else .released
      | .qspiCs | .pcie => .signal
      | p => idle p
    | .running =>
      match p with
      | .txp n => if d.transmits n && !d.internalReturn (bayOf n) then .signal else .off
      | .rxp n => if d.pierOn (pierOf n) then .terminated else .unterminated
      | .orxp b => if d.pierOn (b / 2) then .terminated else .unterminated
      | .calp => if (List.range 4).any d.pierOn then .terminated else .unterminated
      | .orxs k b => pinBit ((d.obsSt b).sel.testBit k)
      | .lane l => if d.lane l = 0 || d.fb LINK_REST_tx_rest l then .off else .signal
      | .ppsOut => pinBit d.ppsHigh
      | .alignOut => pinBit d.alignHigh
      | .evtN => if d.evtPin then .low else .released
      | .faultN => if d.faultPin then .low else .released
      | .qspiCs | .pcie => .signal
      | .avsClk | .avsMdata => if d.avsRuns then .signal else .pullDown
      | .svcIo _ | .tdo | .wakeN => idle p

/-! ### JTAG (R470) -/

/-- The instruction that acts: one that would drive pins acts as BYPASS while RESET_N is high. -/
def Dev.jtagActs (d : Dev) : Jtag :=
  if d.el.resetN then (match d.el.jtag with | .samplePreload => .samplePreload | _ => .bypass) else d.el.jtag

/-- The pins of the boundary-scan chain (R470): every digital ball and every lane ball that the device drives. -/
def scanPins : List Pin :=
  (List.range 8).flatMap (fun b => [.orxs 0 b, .orxs 1 b, .orxs 2 b]) ++ [.lane 0, .lane 1, .lane 2, .lane 3, .pcie, .ppsOut, .alignOut,
    .evtN, .faultN, .qspiCs, .svcIo 0, .svcIo 1, .svcIo 2, .svcIo 3, .avsClk, .avsMdata, .wakeN]

/-- The level of a pin: EXTEST and its two forms drive a pin of the chain with what its cell holds. -/
def Dev.pinLevel (d : Dev) (p : Pin) : PinLevel :=
  match d.jtagActs with
  | .bypass | .samplePreload => d.pinOwn p
  | _ => match d.el.scan.find? fun x => x.1 == p with | some x => x.2 | none => d.pinOwn p

/-- Load an instruction: SAMPLE/PRELOAD takes the levels of the pins into the chain, BYPASS, and one that acts as BYPASS, puts 0 into the bypass
bit. DESIGN CHOICE (log entry 55): no row shifts the chain, and what SAMPLE/PRELOAD took is what EXTEST drives. -/
def jtagLoad (j : Jtag) (d : Dev) : Dev :=
  let n := modEl (fun e => { e with jtag := j }) d
  match n.jtagActs with
  | .samplePreload => modEl (fun e => { e with scan := scanPins.map fun p => (p, d.pinLevel p) }) n
  | .bypass => modEl (fun e => { e with bypassBit := false }) n
  | _ => n

end Sys2Proof.Machine
end

