-- ==== Sys2Proof/Machine/TrussOps.lean ====
section
/-!
DEFINITION. The truss engines' instructions (R194 to R205), one operation of a bundle each. An operation acts on an engine
whose job runs; its operand `o` gives its stage in a LOOPM kernel (R205) and says whether it ends its bundle (R194, R195, R202).
-/
namespace Sys2Proof.Machine

/-- Does engine e run a job whose program has not halted? -/
def Dev.runsJob (d : Dev) (e : Nat) : Bool :=
  (match (d.eng e).run with | some r => r.ended.isNone | none => false) && d.engState e == 2

/-- Does an operation of stage stg take effect on engine e (R205)? The kernel of the nearest LOOPM decides, whatever loops stand inside it. -/
def Dev.acts (d : Dev) (e stg : Nat) : Bool :=
  d.runsJob e &&
    match (d.eng e).loops.find? fun f => f.kind == 2 with
    | some f => decide (stg ≤ f.pass) && decide (f.pass < stg + f.n)
    | none => true

/-! ### Registers and address generators -/

/-- The physical register that Vk names (R204). -/
def EngSt.reg (x : EngSt) (k : Nat) : Nat := if k < x.rrsize then (k + x.rrb) % x.rrsize else k

def EngSt.vec (x : EngSt) (k lane : Nat) : Nat := smGet 0 (32 * x.reg k + lane) x.v
def EngSt.acc (x : EngSt) (i lane : Nat) : Int × Int := smGet (0, 0) (32 * i + lane) x.a
def EngSt.agOf (x : EngSt) (g : Nat) : AgSt := smGet {} g x.ag
def EngSt.setAg (x : EngSt) (g : Nat) (v : AgSt) : EngSt := { x with ag := smPut {} g v x.ag }

/-- The lanes of a vector or an accumulator. -/
def lanes : List Nat := List.range 32

/-- The length of a generator: a field of 0 means 65,536 (R201). -/
def AgSt.length (g : AgSt) : Nat := if g.len = 0 then 65536 else g.len

/-- A circular pointer outside its buffer is folded (R202). -/
def AgSt.fold (g : AgSt) : AgSt × Bool :=
  if g.circ && !decide (g.base ≤ g.ptr ∧ g.ptr < g.base + g.length) then
    ({ g with ptr := g.base + (((g.ptr : Int) - g.base) % g.length).toNat }, true)
  else (g, false)

/-- The word that an access uses for lane i (R201). -/
def AgSt.addr (g : AgSt) (i : Nat) : Nat :=
  if g.circ then (g.base + (g.ptr - g.base + i) % g.length) % 65536 else (g.ptr + i) % 65536

/-- The pointer moved by an offset (R201). -/
def AgSt.move (g : AgSt) (o : Int) : AgSt :=
  { g with ptr := if g.circ then g.base + (((g.ptr : Int) - g.base + o) % g.length).toNat else (((g.ptr : Int) + o) % 65536).toNat }

/-- The accesses of a bundle that share a quarter with one before them in the order X, Y, K and store (R195). -/
def bankCycles (l : List (Nat × Nat)) : Nat :=
  (l.filter fun x => l.any fun y => decide (y.1 < x.1) && x.2 &&& y.2 != 0).length

/-- An access of n words through generator g: the words' addresses; the pointer folds and moves, and what the bundle's accesses now share of
the quarters, in whatever order they were issued, costs cycles (R195, R201, R202). -/
def agAccess (e g n : Nat) (d : Dev) : List Nat × Dev :=
  let x := d.eng e
  let f := (x.agOf g).fold
  let l := (List.range n).map f.1.addr
  let mask := l.foldl (fun m a => m ||| 1 <<< (a / 16384)) 0
  let all := (g, mask) :: x.quarters
  let d := d |> setEng e { (x.setAg g (f.1.move f.1.off)) with quarters := all }
    |> onlyIf f.2 (setBitF (TRUSS_ENG_OVF_circ_resize e) g)
    |> addF (TRUSS_ENG_STALL_bank e) (bankCycles all - bankCycles x.quarters)
  (l, d)

/-- A bundle that reads a loaded register before it is ready stalls, and the stall counts (R194). -/
def interlock (e k : Nat) (d : Dev) : Dev :=
  let x := d.eng e
  let r := smGet 0 (x.reg k) x.ready
  if x.cyc < r then d |> modEng e (fun x => { x with cyc := r }) |> addF (TRUSS_ENG_STALL_interlock e) (r - x.cyc) else d

/-- The components that a source delivers, lane by lane; the K bus reads through AG2 (R194). -/
def readSrc (e : Nat) (s : TSrc) (d : Dev) : List (Int × Int) × Dev :=
  match s with
  | .v k => (lanes.map fun i => comps ((d.eng e).vec k i), interlock e k d)
  | .a k => (lanes.map ((d.eng e).acc k), d)
  | .kBus =>
    let r := agAccess e 2 32 d
    (r.1.map fun a => comps (smGet 0 a (r.2.eng e).lm), r.2)
  | .kBroadcast =>
    let r := agAccess e 2 1 d
    (List.replicate 32 (comps (smGet 0 (r.1.getD 0 0) (r.2.eng e).lm)), r.2)

/-! ### Accumulators (R196, R197) -/

/-- The limits of a component. -/
def accMax : Int := 549755813887
def accMin : Int := -549755813888

/-- One component takes the value v: held when it holds its limit, and held from now on when v passes one. -/
def accComp (key : Nat) (old v : Int) (x : EngSt) : Int × Bool :=
  if x.limit.contains key then (old, false)
  else if v > accMax then (accMax, true) else if v < accMin then (accMin, true) else (v, false)

/-- Lane `lane` of accumulator i takes a value; true when a component saturated. -/
def accLane (i lane : Nat) (v : Int × Int) (r : EngSt × Bool) : EngSt × Bool :=
  let x := r.1
  let o := x.acc i lane
  let k := 64 * i + 2 * lane
  let p := accComp k o.1 v.1 x
  let q := accComp (k + 1) o.2 v.2 x
  let lim := if p.2 then insNat k x.limit else x.limit
  let lim := if q.2 then insNat (k + 1) lim else lim
  ({ x with a := smPut (0, 0) (32 * i + lane) (p.1, q.1) x.a, limit := lim }, r.2 || p.2 || q.2)

/-- The accumulator takes a value in every lane; what a saturation does depends on the program's ovf_trap bit: a trap
stops the job at the end of the bundle (R197). -/
def accWrite (e i : Nat) (vals : List (Int × Int)) (d : Dev) : Dev :=
  let r := lanes.foldl (fun r lane => accLane i lane (vals.getD lane (0, 0)) r) (d.eng e, false)
  let first := r.2 && !r.1.sat.testBit i
  let trap := match r.1.run with | some j => j.trap | none => false
  d |> setEng e { r.1 with sat := if r.2 then r.1.sat ||| 1 <<< i else r.1.sat }
    |> onlyIf r.2 (setBitF (TRUSS_ENG_OVF_acc_ovf e) i)
    |> onlyIf (first && !trap) (incF (TRUSS_ENG_OVF_ovf_sums e))
    |> onlyIf (r.2 && trap) (modEng e fun x => { x with trap := true })

/-- A sum begins: the accumulator is 0 and holds no limit (R196). -/
def accClear (e i : Nat) (d : Dev) : Dev :=
  modEng e (fun x => { x with
    a := lanes.foldl (fun m lane => smPut (0, 0) (32 * i + lane) (0, 0) m) x.a
    limit := x.limit.filter fun k => k / 64 != i, sat := maskOff x.sat (1 <<< i) }) d

/-- The accumulator gains a value in every lane. -/
def accAdd (e i : Nat) (vals : List (Int × Int)) (d : Dev) : Dev :=
  accWrite e i ((lanes.zip vals).map fun p => cadd ((d.eng e).acc i p.1) p.2) d

/-- Lane-wise product of two lists. -/
def lanewise (f : Int × Int → Int × Int → Int × Int) (l r : List (Int × Int)) : List (Int × Int) := (l.zip r).map fun p => f p.1 p.2

/-- The complex conjugate. -/
def conj (v : Int × Int) : Int × Int := (v.1, -v.2)

/-- MAC, MACC, MACK and MACZ (R194). -/
def macOp (e i : Nat) (f : Int × Int → Int × Int → Int × Int) (clear : Bool) (x y : TSrc) (d : Dev) : Dev :=
  let p := readSrc e x d
  let q := readSrc e y p.2
  q.2 |> onlyIf clear (accClear e i) |> accAdd e i (lanewise f p.1 q.1)

/-! ### Vector arithmetic -/

/-- A component in a register: a value outside the native word is not stated by the spec, and is a free value (log entry
4). -/
def regComp (v : Int) (k : Nat) : Nat := if -32768 ≤ v ∧ v ≤ 32767 then (v % 65536).toNat else Config.freeValue k % 65536

/-- A vector register takes a value in every lane. -/
def vregWrite (e k : Nat) (vals : List (Int × Int)) (d : Dev) : Dev :=
  let n := d.draws
  let w := fun (lane : Nat) (v : Int × Int) => regComp v.1 (n + 2 * lane) + 65536 * regComp v.2 (n + 2 * lane + 1)
  { modEng e (fun x => { x with v := lanes.foldl (fun m lane => smPut 0 (32 * x.reg k + lane) (w lane (vals.getD lane (0, 0))) m) x.v }) d
    with draws := n + 64 }

/-- A destination takes a value in every lane. -/
def dstWrite (e : Nat) (t : TDst) (vals : List (Int × Int)) (d : Dev) : Dev :=
  match t with | .v k => vregWrite e k vals d | .a i => accWrite e i vals d

/-- A lane-wise operation of two sources. -/
def vecOp2 (e : Nat) (f : Int × Int → Int × Int → Int × Int) (t : TDst) (x y : TSrc) (d : Dev) : Dev :=
  let p := readSrc e x d
  let q := readSrc e y p.2
  dstWrite e t (lanewise f p.1 q.1) q.2

/-- A lane-wise operation of one source. -/
def vecOp1 (e : Nat) (f : Int × Int → Int × Int) (t : TDst) (x : TSrc) (d : Dev) : Dev :=
  let p := readSrc e x d
  dstWrite e t (p.1.map f) p.2

def vSub (a b : Int × Int) : Int × Int := (a.1 - b.1, a.2 - b.2)
def vMin (a b : Int × Int) : Int × Int := (min a.1 b.1, min a.2 b.2)
def vMax (a b : Int × Int) : Int × Int := (max a.1 b.1, max a.2 b.2)
def vShr (s : Nat) (a : Int × Int) : Int × Int := (a.1 / (2 ^ s : Nat), a.2 / (2 ^ s : Nat))
def vMag2 (a : Int × Int) : Int × Int := (a.1 * a.1 + a.2 * a.2, 0)

/-! ### Exponents (R199, R200) -/

/-- The number of bits of a number. -/
def bitLen (n : Nat) : Nat := if n = 0 then 0 else Nat.log2 n + 1

/-- Leading bits equal to the sign bit, less 1, of a value of w bits (R199). -/
def expW (w : Nat) (v : Int) : Nat := w - 1 - bitLen (if v < 0 then (-v - 1).toNat else v.toNat)

/-- The smaller exponent of two components. -/
def exp40 (v : Int × Int) : Nat := min (expW 40 v.1) (expW 40 v.2)

/-- EXP S, A. -/
def expOp (e s i : Nat) (d : Dev) : Dev :=
  modEng e (fun x => { x with s := smPut 0 s (lanes.foldl (fun m lane => min m (exp40 (x.acc i lane))) 39) x.s }) d

/-- NORM A, V: each lane's shift goes to its word of V. -/
def normOp (e i k : Nat) (d : Dev) : Dev :=
  modEng e (fun x => { x with
    a := lanes.foldl (fun m lane =>
      let v := x.acc i lane
      let f : Int := (2 ^ exp40 v : Nat)
      smPut (0, 0) (32 * i + lane) (v.1 * f, v.2 * f) m) x.a
    v := lanes.foldl (fun m lane => smPut 0 (32 * x.reg k + lane) (exp40 (x.acc i lane)) m) x.v }) d

/-! ### Loads and stores -/

/-- LDX, LDY and LDK: a vector through generator g goes to register k; a broadcast brings one word to every lane. -/
def loadOp (e g k : Nat) (broadcast : Bool) (d : Dev) : Dev :=
  let r := agAccess e g (if broadcast then 1 else 32) d
  modEng e (fun x => { x with loads := x.loads ++ [(x.reg k, lanes.map fun lane =>
    smGet 0 (r.1.getD (if broadcast then 0 else lane) 0) x.lm)] }) r.2

/-- ST16 and ST32 (R198, R200): accumulator i through AG3 with shift s. A 32-bit store takes two words a lane, I first; exp16 of its
components is not stated, so that BX becomes a free value not above the one held (log entry 4). -/
def storeOp (e i s : Nat) (wide bx : Bool) (d : Dev) : Dev :=
  let w := if wide then 32 else 16
  let vals := lanes.flatMap fun lane => let v := (d.eng e).acc i lane; [shrRound s v.1, shrRound s v.2]
  let outs := vals.map (satS w)
  let sats := ((vals.zip outs).filter fun p => p.1 != p.2).length
  let words := if wide then outs.map toTwos32 else lanes.map fun lane => ofComps (outs.getD (2 * lane) 0, outs.getD (2 * lane + 1) 0)
  let r := agAccess e 3 words.length d
  let least := outs.foldl (fun m v => min m (expW 16 v)) (r.2.eng e).bx
  let bxv := if bx then (if wide then min (r.2.eng e).bx (Config.freeValue d.draws % 16) else least) else (r.2.eng e).bx
  r.2 |> modEng e (fun x => { x with
        lm := (List.range words.length).foldl (fun m j => smPut 0 (r.1.getD j 0) (words.getD j 0) m) x.lm, bx := bxv })
    |> addF (TRUSS_ENG_STALL_st_sat e) sats |> onlyIf (bx && wide) draw

/-! ### Addresses, loops and control -/

/-- AGSET (R202, R204). A register rotation size that R204 does not allow leaves the size open: a free one of those allowed
(log entry 4). -/
def agSet (e g : Nat) (f : AgField) (v : Int) (d : Dev) : Dev :=
  let n := (v % 65536).toNat
  let upd := fun (h : AgSt → AgSt) => modEng e (fun x => x.setAg g (h (x.agOf g))) d
  match f with
  | .base => upd fun a => { a with base := n }
  | .length => upd fun a => { a with len := n }
  | .pointer => upd fun a => { a with ptr := n }
  | .offset => upd fun a => { a with off := (v + 65536) % 131072 - 65536 }
  | .mode => upd fun a => { a with circ := n % 2 == 1 }
  | .rrsize =>
    if n % 8 = 0 ∧ 8 ≤ n ∧ n ≤ 64 then modEng e (fun x => { x with rrsize := n }) d
    else d |> modEng e (fun x => { x with rrsize := 8 * (1 + Config.freeValue d.draws % 8) }) |> draw

/-- AGADD (R201). -/
def agAdd (e g : Nat) (v : Int) (d : Dev) : Dev :=
  let f := ((d.eng e).agOf g).fold
  d |> modEng e (fun x => x.setAg g (f.1.move v)) |> onlyIf f.2 (setBitF (TRUSS_ENG_OVF_circ_resize e) g)

/-- A change of a generator takes effect (R202). -/
def agApply (e : Nat) (c : AgChange) (d : Dev) : Dev :=
  match c with
  | .set g f v => agSet e g f v d
  | .add g v => agAdd e g v d

/-- AGSET and AGADD: the change waits for the end of its bundle (R202). -/
def agLater (e : Nat) (c : AgChange) (d : Dev) : Dev := modEng e (fun x => { x with ags := x.ags ++ [c] }) d

/-! ### Bundles (R194, R195, R197, R202) -/

/-- The loads of a bundle that ends are delivered: their registers are ready 3 bundles after issue, and the next bundle begins. -/
def EngSt.nextBundle (x : EngSt) : EngSt :=
  { x with
    v := x.loads.foldl (fun v l => lanes.foldl (fun v lane => smPut 0 (32 * l.1 + lane) (l.2.getD lane 0) v) v) x.v
    ready := (x.loads.foldl (fun r l => smPut 0 l.1 (x.cyc + 3) r) x.ready).filter fun r => decide (x.cyc + 1 < r.2)
    cyc := x.cyc + 1, quarters := [], loads := [] }

/-- A bundle of engine e ends: its generators change, its loads are delivered, and a trap stops the job with E098. -/
def bundleEnd (e : Nat) (d : Dev) : Dev :=
  let x := d.eng e
  if x.run.isNone then d
  else
    d |> modEng e (fun x => { x.nextBundle with ags := [], trap := false }) |> forAll x.ags (agApply e)
      |> onlyIf x.trap (fun d => d |> raise 98 e 0 0 |> endJob e 2 none)

/-- JOB_END (R210): the bundle of the HALT ends first. -/
def haltEnd (e result : Nat) (fit : Option FitResult) (d : Dev) : Dev :=
  let halted : Bool := match (d.eng e).run with | some r => r.ended.isSome | none => false
  d |> onlyIf halted (bundleEnd e) |> jobEnd e result fit

/-- An operation on the device, and the end of its bundle. -/
def truOp (e : Nat) (o : TBun) (g : Dev → Dev) (d : Dev) : Dev :=
  d |> onlyIf (d.acts e o.stg) g |> onlyIf (o.last && d.runsJob e) (bundleEnd e)

/-- ENDL: the mark that ends a loop body carries no stage, acts in every pass (R203, R205) and ends its bundle. -/
def truMark (e : Nat) (g : Dev → Dev) (d : Dev) : Dev := if d.runsJob e then d |> bundleEnd e |> onlyIf ((bundleEnd e d).runsJob e) g else d

/-- An operation on the block, and the end of its bundle. -/
def truBlk (e : Nat) (o : TBun) (g : Blk → Blk) (b : Blk) : Blk :=
  let on := b.dev.runsJob e
  let b := if b.dev.acts e o.stg then g b else b
  if o.last && on then onDev (bundleEnd e) b else b

/-- LOOP, LOOP.R and LOOPM (R203, R205): a count of 0 skips the body, a fifth level ends the job with BAD_PARAM. -/
def loopOp (e kind n stages start after : Nat) (d : Dev) : Dev :=
  if n = 0 then modEng e (fun x => { x with pc := after }) d
  else if (d.eng e).loops.length ≥ 4 then endJob e 7 none d
  else modEng e (fun x => { x with loops := ⟨kind, n, stages, 0, start, after⟩ :: x.loops, pc := start }) d

/-- ENDL (R203 to R205): a pass ends; LOOP.R and LOOPM rotate the register file. -/
def endlOp (e : Nat) (d : Dev) : Dev :=
  modEng e (fun x =>
    match x.loops with
    | [] => x
    | f :: r =>
      let total := if f.kind = 2 then f.n + f.stages - 1 else f.n
      let x := if f.kind = 0 then x else { x with rrb := (x.rrb + x.rrsize - 1) % x.rrsize }
      if f.pass + 1 < total then { x with loops := { f with pass := f.pass + 1 } :: r, pc := f.start }
      else { x with loops := r, pc := f.after }) d

/-- BR, CALL and RET; a return without a call goes to a bundle that the spec does not state. -/
def brOp (e target : Nat) (d : Dev) : Dev := modEng e (fun x => { x with pc := target }) d
def callOp (e target ret : Nat) (d : Dev) : Dev := modEng e (fun x => { x with pc := target, calls := ret :: x.calls }) d
def retOp (e : Nat) (d : Dev) : Dev :=
  match (d.eng e).calls with
  | r :: c => modEng e (fun x => { x with pc := r, calls := c }) d
  | [] => d |> modEng e (fun x => { x with pc := Config.freeValue d.draws % 8192 }) |> draw

/-- HALT: the program has ended; its completion is written by JOB_END. -/
def haltOp (e : Nat) (d : Dev) : Dev := modEng e (fun x => { x with run := x.run.map fun r => { r with ended := some 1 } }) d

/-! ### The port (R211) -/

/-- GET: n words of deck SRAM from address a go to local memory at l. -/
def getOp (e l a n : Nat) (b : Blk) : Blk :=
  let r := portRead e l (a / 4 * 4) n b
  if r.2 then r.1 else onDev (jobMemErr e) r.1

/-- PUT: n words of local memory at l go to deck SRAM at address a. The matched images are read-only (R302). -/
def putOp (e l a n : Nat) (b : Blk) : Blk :=
  let a := a / 4 * 4
  if b.dev.protects a (4 * n) then onDev errorResp b
  else (List.range n).foldl (fun b i => if a + 4 * i < 0x4000000 then write32 (a + 4 * i) (smGet 0 ((l + i) % 65536) (b.dev.eng e).lm) b else b) b

/-- WRCOEF: a word of local memory goes to a coefficient window with origin LOOP (R146, R211). -/
def wrcoefOp (e n set w l : Nat) (d : Dev) : Dev := coefWrite .loop n set w (smGet 0 (l % 65536) (d.eng e).lm) d

/-- WRDYN: 64 words of local memory update a dynamic entry of the engine's own range (R170, R211). -/
def wrdynOp (e k carrier frame slot sym l : Nat) (b : Blk) : Blk :=
  let d := b.dev
  let at_ := fun (i : Nat) => match d.serves e with | some x => d.assigned x i | none => 0
  let base := at_ 2 + 256 * at_ 3
  let n := at_ 4 + 256 * at_ 5
  if (at_ 0).testBit 2 && decide (base ≤ k ∧ k < base + n) then
    dynUpdate k carrier frame slot sym ((List.range 64).map fun i => smGet 0 ((l + i) % 65536) (d.eng e).lm) b
  else onDev (incF TRUSS_REFUSE_count) b

end Sys2Proof.Machine
end

