-- ==== Sys2Proof/Machine/Commands.lean ====
section
/-!
DEFINITION. What the commands share: when the device takes one, who writes what, and the small operations that only one command
uses.
-/
namespace Sys2Proof.Machine

/-! ### When a command has an effect -/

/-- A command that the device takes in any condition: a pin, a supply, a clock. -/
def always (g : Blk → Blk) (s : State) : Host.Outcome State Fault Refusal := .next (s.act g)

/-- A command for the deck: without a powered deck out of reset it does nothing (R389, R459, R461). -/
def whileUp (g : Blk → Blk) (s : State) : Host.Outcome State Fault Refusal :=
  .next (if s.blk.dev.deckUp then s.act g else s)

/-- A command for what firmware has brought into service: before RUNNING it does nothing (R296, R297, R389). -/
def whileRunning (g : Blk → Blk) (s : State) : Host.Outcome State Fault Refusal :=
  .next (if s.blk.dev.deckUp && s.blk.dev.running then s.act g else s)

/-! ### Who writes -/

/-- A write by an origin: management writes by an item of a request (R285, R286), the service port writes no register (R450), and firmware that
has stopped writes nothing (R337). -/
def wordsFrom (org : Origin) (off width : Nat) (l : List Word) (b : Blk) : Blk :=
  match org with
  | .link =>
    if b.dev.running then (mgmtItem true off ((l.getD 0 0).toNat) b).1 else b
  | .service => b
  | .none => b
  | .host => busWrite .host off width l b
  | .firmware => if b.dev.key.fwStopped then b else busWrite .firmware off width l b
  | .loop => busWrite .loop off width l b
  | .keystone => busWrite .keystone off width l b

/-- One word. -/
def wordFrom (org : Origin) (off : Nat) (v : Word) (b : Blk) : Blk := wordsFrom org off 4 [v] b

/-- A word or a 64-byte burst (R167, R170). -/
def burstFrom (org : Origin) (off : Nat) (l : List Word) (b : Blk) : Blk := wordsFrom org off (4 * l.length) l b

/-- A field of one bit is written 1, and every other bit of its register with the value it reads. -/
def setBitFrom (org : Origin) (x : Fld) (b : Blk) : Blk :=
  wordFrom org x.off (BitVec.ofNat 32 (b.dev.regValue x.off ||| 2 ^ x.lo)) b

/-- Word w of timetable entry i. -/
def ttWordWrite (org : Origin) (i w v : Nat) (b : Blk) : Blk :=
  if i < 2048 ∧ w < 4 then wordFrom org (0x108000 + 16 * i + 4 * w) (BitVec.ofNat 32 v) b else b

/-- Word w of coefficient set `set` of path n (R146). -/
def coefWordWrite (org : Origin) (n set w : Nat) (v : Word) (b : Blk) : Blk :=
  if n < 64 ∧ set < 2 ∧ w < 128 then
    wordFrom org (0x3100000 + 0x400000 * (n / 16) + 0x400 * (n % 16) + 0x200 * set + 4 * w) v b
  else b

/-- A staging operation of the host, by its bit of KEY_STAGE_CMD, or of the service port (R315). -/
def stagingFrom (org : Origin) (cmd : Nat) (svc : Blk → Blk) (b : Blk) : Blk :=
  match org with
  | .host => hostWrite 0x400028 cmd b
  | .service => svc b
  | _ => b

/-- STAGE_WRITE: the host through the window, the service port by its request. -/
def stageWriteFrom (org : Origin) (off : Nat) (v : Word) (b : Blk) : Blk :=
  match org with
  | .host => if off < 65528 then hostWrite (0x410000 + off) v.toNat b else b
  | .service => svcWrite b
  | _ => b

/-- A target that the host sets is clamped, and sent where the write takes effect at once (R405). -/
def avsTargetWrite (org : Origin) (v : Word) (measured fail : Nat) (b : Blk) : Blk :=
  let was := b.dev.ps.unsent
  b |> onDev (modPs fun p => { p with unsent := false }) |> wordFrom org PWR_AVS_TARGET_target.off v
    |> onDev (fun d =>
        if d.ps.unsent then onlyIf (d.hostMode 4 && d.avsRuns) (fun d => avsSend (d.f PWR_AVS_TARGET_target) measured fail d) d
        else modPs (fun p => { p with unsent := was }) d)

/-! ### Reads that latch -/

def answerData (v : Nat) (d : Dev) : Dev := { d with host := { d.host with resp := .data v } }

/-- TL_NT_READ (R33). -/
def ntRead (d : Dev) : Dev := if d.running then d |> latchSnap |> answerData d.nt else answerData 0 d

/-- SEAL_EPOCH_READ (R89). -/
def sealRead (d : Dev) : Dev := if d.running then d |> sealEpochRead |> answerData (d.f DECK_SEAL_EPOCH_epoch) else answerData 0 d

/-- WR_SEQ_READ (R415). -/
def seqRead (d : Dev) : Dev := if d.running then d |> wrSeqRead |> answerData (d.f LEDGER_WR_SEQ_seq) else answerData 0 d

/-! ### Single operations -/

/-- CROSSING_TRANSFER (R17, R488): a transfer of pier p's crossing with errBits bits in error; an idle pier's carries control and
housekeeping only (R27). An uncorrectable one, upwards or downwards, delivers its samples as invalid zeros. -/
def crossing (p : Nat) (up : Bool) (errBits : Nat) (d : Dev) : Dev :=
  if p ≥ 4 ∨ errBits = 0 ∨ !d.piersUp then d
  else if errBits = 1 then incF (PIER_XING_corrected p) d
  else d |> onlyIf (d.sampling && !d.map.pierIdle p) (loseTransfer (p + 4 * ofBool up)) |> incF (PIER_XING_uncorrected p) |> raise (70 + 8 * p) p 0 0

/-- FAULT_SHED_CLEAR (R116): the fault bits named are written 1, the host bits with their values. -/
def faultShedClear (b tx rx : Nat) (blk : Blk) : Blk :=
  hostWrite (bayBase b + 0x14) (0x1000000 * (rx % 256) + 0x10000 * (tx % 256) + blk.dev.regValue (bayBase b + 0x14) % 0x10000) blk

/-- The last sample of bay b's capture has been taken: its path's, and the observation's, lag samples later (R153). -/
def captureEnd (b : Nat) (d : Dev) : Dev :=
  match (d.obsSt b).cap with
  | none => d
  | some c => let d := passTo (c.start + (c.len + c.lag + 2) / 3) d; sampleUpTo d.now d

/-- CAPTURE_WRITTEN (R154): the slot takes the header and the blocks, then the bay shows it. The block of a neighbour that emits nothing
holds zeros (R143). -/
def captureWritten (b : Nat) (given : CapResult) (blk : Blk) : Blk :=
  let blk := onDev (captureEnd b) blk
  match (blk.dev.obsSt b).cap with
  | none => blk
  | some c =>
    let r := blk.dev.capSamples b c given
    let block := fun (l : List Nat) => ((l ++ List.replicate c.len 0).take c.len).flatMap (leBytes 4)
    let head := captureHeader c (captureStatus c r) (seqNext (blk.dev.obsSt b).seq) (blk.dev.capOwr c r) r
    let u := r.u.flatMap block
    blk |> store (captureSlot b c.slot) (head ++ block r.y ++ block r.x ++ u) |> onDev (captureFinish b given)

/-- X times the conjugate of Y. -/
def cmulConj (a b : Int × Int) : Int × Int := cmul a (conj b)

/-- BXD: the block exponent goes to a scalar (R200). -/
def bxdOp (e s : Nat) (d : Dev) : Dev := modEng e (fun x => { x with s := smPut 0 s x.bx x.s }) d

/-- BXCLR (R200). -/
def bxclrOp (e : Nat) (d : Dev) : Dev := modEng e (fun x => { x with bx := 15 }) d

/-- WAITP: every port transfer of this model has ended when its instruction has, so nothing is left to wait for (log entry 2). -/
def waitpOp (d : Dev) : Dev := d

/-- FIRMWARE_DISPATCH (R207). -/
def firmwareDispatch (eng desc : Nat) (d : Dev) : Dev := if d.key.fwStopped then d else (trussDispatch .firmware eng desc d).1

/-- ENGINE_HANG (R213): cause 4, on an engine that is RUNNING. -/
def engineHang (e : Nat) (d : Dev) : Dev := if d.engState e = 2 then trussFault e 4 d else d

/-- AM_LOCK_LOSS (R257). -/
def amLockLoss (p : Nat) (d : Dev) : Dev := if d.portUp p then portFault p d else d

/-- FIRMWARE_MEM_ERR (R337): firmware reads the word at a, cannot have it, and stops. -/
def firmwareMemErr (a : Nat) (b : Blk) : Blk :=
  let a8 := a / 8 * 8
  if b.dev.key.fwStopped ∨ a8 ≥ 0x4000000 ∨ !b.mem.bad a8 then b
  else b |> touch 1 a8 |> onDev (fun d => d |> errorResp |> modKey (fun k => { k with fwStopped := true }) |> raise0 36)

/-- Does an entry that spares rows still run (R341)? -/
def Dev.sparing (d : Dev) : Bool := match d.ps.entry with | some e => e.from_ == 1 && decide (2 ≤ e.target) | none => false

/-- SPARE_RECORD_WRITE (R341): the remaps in force become the current record, after the entry to Rest has completed. -/
def spareRecordWrite (b : Blk) : Blk :=
  let d := b.dev
  if d.sparing ∨ d.key.fwStopped ∨ d.key.storeAbsent ∨ d.mp.unwritten.isEmpty then b
  else
    b |> onMem (recWrite 3 0x30000 0x2000 2
          (d.otp.devId.take 8 ++ d.mp.spares.flatMap fun s => [s.1] ++ leBytes 2 s.2.1 ++ [s.2.2]))
      |> onDev (modMp fun p => { p with unwritten := [] })

/-- HK_CAL_CMD as step, group and full-scale code (R362). -/
def hkStep (step g fs : Nat) : Nat := 0x40000000 * step + 0x10000 * (g % 16) + fs % 4096

/-- LEDGER_RECORD_FORM (R419): a record leaves the input queue, and a write that waited for room takes effect. -/
def ledgerRecordForm (b : Blk) : Blk := b |> ledgerForm |> releaseHeld

/-- EVENT_CLEAR (R424). -/
def eventClear (w : Nat) (v : Word) (b : Blk) : Blk := hostWrite (0x110 + 4 * (w % 5)) v.toNat b

end Sys2Proof.Machine
end

