-- ==== Sys2Proof/Machine/CmdBays.lean ====
section
/-!
DEFINITION. The commands of bays, paths, chains and predistortion: one meaning each.
-/
namespace Sys2Proof.Machine

/-- FE_REQUEST (R99). -/
def execFeRequest (b st : Nat) (s : State) : Host.Outcome State Fault Refusal := whileUp (hostWrite (bayBase b) st) s

/-- FE_REQUEST_EFFECT (R102). -/
def execFeRequestEffect (b : Nat) (s : State) : Host.Outcome State Fault Refusal := whileRunning (onDev (feRequestEffect b)) s

/-- TRANSITION_COMPLETE (R97). -/
def execTransitionComplete (b : Nat) (s : State) : Host.Outcome State Fault Refusal :=
  whileRunning (onDev (transitionComplete b)) s

/-- SYNTH_LOCK (R104). -/
def execSynthLock (b band : Nat) (s : State) : Host.Outcome State Fault Refusal := whileRunning (onDev (synthLock b band)) s

/-- PHASE_ALIGNED (R104). -/
def execPhaseAligned (b : Nat) (s : State) : Host.Outcome State Fault Refusal := whileRunning (onDev (phaseAligned b)) s

/-- TURNAROUND_COMPLETE (R98). -/
def execTurnaroundComplete (b : Nat) (s : State) : Host.Outcome State Fault Refusal :=
  whileRunning (onDev (attWatch (bayPaths b) (turnaroundComplete b))) s

/-- SYNTH_UNLOCK (R106). -/
def execSynthUnlock (b : Nat) (s : State) : Host.Outcome State Fault Refusal := whileRunning (onDev (synthUnlock b)) s

/-- RELOCK_SEARCH (R107). -/
def execRelockSearch (b : Nat) (s : State) : Host.Outcome State Fault Refusal := whileRunning (onDev (relockSearch b)) s

/-- SYNTH_FAIL (R107). -/
def execSynthFail (b : Nat) (s : State) : Host.Outcome State Fault Refusal := whileRunning (onDev (synthFail b)) s

/-- GAIN_WRITE (R112). -/
def execGainWrite (n tx rx : Nat) (s : State) : Host.Outcome State Fault Refusal :=
  whileUp (hostWrite (bayBase (n / 8) + 0x20 + 4 * (n % 8)) (256 * (tx % 64) + rx % 64)) s

/-- DEFERRED_WRITE_EFFECT (R138). -/
def execDeferredWriteEffect (s : State) : Host.Outcome State Fault Refusal := whileRunning runDeferred s

/-- RX_OVERLOAD (R113). -/
def execRxOverload (n : Nat) (symbols : List (List (Int × Int))) (s : State) : Host.Outcome State Fault Refusal :=
  whileRunning (onDev (rxOverload n symbols)) s

/-- PATH_FAULT (R115). -/
def execPathFault (n cause : Nat) (s : State) : Host.Outcome State Fault Refusal := whileRunning (onDev (pathFault n cause)) s

/-- SHED_COMPLETE (R115). -/
def execShedComplete (n us : Nat) (s : State) : Host.Outcome State Fault Refusal := whileRunning (onDev (shedDone n us)) s

/-- RENORMALISE (R176). -/
def execRenormalise (c : Nat) (s : State) : Host.Outcome State Fault Refusal := whileRunning (renormalise c) s

/-- HOST_SHED (R116). -/
def execHostShed (b tx rx : Nat) (s : State) : Host.Outcome State Fault Refusal :=
  whileUp (hostWrite (bayBase b + 0x14) (256 * (rx % 256) + tx % 256)) s

/-- FAULT_SHED_CLEAR (R116). -/
def execFaultShedClear (b tx rx : Nat) (s : State) : Host.Outcome State Fault Refusal := whileUp (faultShedClear b tx rx) s

/-- PATH_REJOIN (R116). -/
def execPathRejoin (n persists : Nat) (s : State) : Host.Outcome State Fault Refusal :=
  whileRunning (onDev (pathRejoin n persists)) s

/-- CROSS_FADE_END (R136). -/
def execCrossFadeEnd (n dir : Nat) (s : State) : Host.Outcome State Fault Refusal := whileRunning (onDev (crossFadeEnd n dir)) s

/-- COEF_WRITE (R146). -/
def execCoefWrite (org : Origin) (n set w : Nat) (v : Word) (s : State) : Host.Outcome State Fault Refusal :=
  whileUp (coefWordWrite org n set w v) s

/-- EXPAND (R145). -/
def execExpand (n set : Nat) (s : State) : Host.Outcome State Fault Refusal :=
  whileUp (hostWrite (bayBase (n / 8) + 0x3A0) (n % 8 + 8 * (set % 2) + 128)) s

/-- EXPANSION_DONE (R145). -/
def execExpansionDone (b : Nat) (s : State) : Host.Outcome State Fault Refusal := whileRunning (onDev (dpdApplyArm b)) s

/-- CLEAR_FB (R162). -/
def execClearFb (n : Nat) (s : State) : Host.Outcome State Fault Refusal :=
  whileUp (hostWrite (bayBase (n / 8) + 0x3A0) (n % 8 + 256)) s

/-- CAPTURE_WRITTEN (R154). -/
def execCaptureWritten (b : Nat) (r : CapResult) (s : State) : Host.Outcome State Fault Refusal :=
  whileRunning (captureWritten b r) s

/-- REVERT (R161). -/
def execRevert (n : Nat) (s : State) : Host.Outcome State Fault Refusal := whileRunning (onDev (revert n)) s

/-- VERIFY_TIMEOUT (R160). -/
def execVerifyTimeout (n : Nat) (s : State) : Host.Outcome State Fault Refusal := whileRunning (onDev (verifyTimeout n)) s

/-- OBS_FAIL (R159). -/
def execObsFail (n : Nat) (s : State) : Host.Outcome State Fault Refusal := whileRunning (onDev (obsFail n)) s

end Sys2Proof.Machine
end

