-- ==== Sys2Proof/Machine/CmdBeams.lean ====
section
/-!
DEFINITION. The commands of codebook, dynamic entries, girders and rail weights: one meaning each.
-/
namespace Sys2Proof.Machine

/-- CODEBOOK_WRITE (R168). -/
def execCodebookWrite (org : Origin) (e j : Nat) (l : List Word) (s : State) : Host.Outcome State Fault Refusal :=
  whileUp (burstFrom org (0x1000000 + 256 * (e % 4096) + 4 * (j % 64)) l) s

/-- DYNAMIC_UPDATE (R170). -/
def execDynamicUpdate (org : Origin) (off : Nat) (l : List Word) (s : State) : Host.Outcome State Fault Refusal :=
  whileUp (burstFrom org (0x1100000 + off % 0x140) l) s

/-- REVALIDATE (R172). -/
def execRevalidate (e : Nat) (s : State) : Host.Outcome State Fault Refusal :=
  whileUp (hostWrite GIRDER_CB_REVALID_index.off e) s

/-- DL_PASS_START (R180). -/
def execDlPassStart (c frame slot sym : Nat) (s : State) : Host.Outcome State Fault Refusal :=
  whileRunning (dlPassStart c frame slot sym) s

/-- LAYERS_CHANGE (R175). -/
def execLayersChange (c : Nat) (s : State) : Host.Outcome State Fault Refusal := whileRunning (onDev (layersChange c)) s

/-- RAIL_WRITE (R181). -/
def execRailWrite (org : Origin) (p i set : Nat) (v : Word) (s : State) : Host.Outcome State Fault Refusal :=
  whileUp (wordFrom org (0x3004000 + 0x400000 * (p % 4) + 8 * (i % 16) + 4 * (set % 2)) v) s

/-- RAIL_LOAD_DONE (R183). -/
def execRailLoadDone (s : State) : Host.Outcome State Fault Refusal := whileRunning (onDev railLoadDone) s

end Sys2Proof.Machine
end

