-- ==== Sys2Proof/Machine/CmdCal.lean ====
section
/-!
DEFINITION. The commands of array calibration: one meaning each.
-/
namespace Sys2Proof.Machine

/-- CAL_RUN_END (R225). -/
def execCalRunEnd (b : Nat) (s : State) : Host.Outcome State Fault Refusal := whileRunning (onDev (calRunEnd b)) s

/-- CAL_RESULT (R232). -/
def execCalResult (b : Nat) (ref : CalMeas) (l : List CalOutcome) (s : State) : Host.Outcome State Fault Refusal :=
  whileRunning (calServed b ref l) s

/-- CORRECTION_IN_FORCE (R231). -/
def execCorrectionInForce (b : Nat) (s : State) : Host.Outcome State Fault Refusal :=
  whileRunning (onDev (correctionInForce b)) s

/-- CAL_APPLY (R232). -/
def execCalApply (b k kind : Nat) (s : State) : Host.Outcome State Fault Refusal :=
  whileUp (hostWrite (bayBase b + 0x408) (256 + 16 * (k % 8) + kind % 16)) s

/-- CAL_RETRY (R233). -/
def execCalRetry (n kind : Nat) (s : State) : Host.Outcome State Fault Refusal := whileRunning (onDev fun d => calArmDue (calRetry n kind d)) s

/-- CAL_RECORD_WRITE (R236). -/
def execCalRecordWrite (b : Nat) (s : State) : Host.Outcome State Fault Refusal := whileRunning (calRecordWrite b) s

end Sys2Proof.Machine
end

