-- ==== Sys2Proof/Machine/CmdEngines.lean ====
section
/-!
DEFINITION. The commands of the truss engines' instructions: one meaning each.
-/
namespace Sys2Proof.Machine

/-- MAC (R196). -/
def execMac (e acc : Nat) (x y : TSrc) (o : TBun) (s : State) : Host.Outcome State Fault Refusal :=
  whileRunning (onDev (truOp e o (macOp e acc cmul false x y))) s

/-- MACC (R196). -/
def execMacc (e acc : Nat) (x y : TSrc) (o : TBun) (s : State) : Host.Outcome State Fault Refusal :=
  whileRunning (onDev (truOp e o (macOp e acc cmulConj false x y))) s

/-- MACK (R196). -/
def execMack (e acc : Nat) (x k : TSrc) (o : TBun) (s : State) : Host.Outcome State Fault Refusal :=
  whileRunning (onDev (truOp e o (macOp e acc cmul false x k))) s

/-- MACZ (R196). -/
def execMacz (e acc : Nat) (x y : TSrc) (o : TBun) (s : State) : Host.Outcome State Fault Refusal :=
  whileRunning (onDev (truOp e o (macOp e acc cmul true x y))) s

/-- ADD (R194). -/
def execAdd (e : Nat) (dst : TDst) (x y : TSrc) (o : TBun) (s : State) : Host.Outcome State Fault Refusal :=
  whileRunning (onDev (truOp e o (vecOp2 e cadd dst x y))) s

/-- SUB (R194). -/
def execSub (e : Nat) (dst : TDst) (x y : TSrc) (o : TBun) (s : State) : Host.Outcome State Fault Refusal :=
  whileRunning (onDev (truOp e o (vecOp2 e vSub dst x y))) s

/-- MUL (R194). -/
def execMul (e : Nat) (dst : TDst) (x y : TSrc) (o : TBun) (s : State) : Host.Outcome State Fault Refusal :=
  whileRunning (onDev (truOp e o (vecOp2 e cmul dst x y))) s

/-- CONJ (R194). -/
def execConj (e : Nat) (dst : TDst) (x : TSrc) (o : TBun) (s : State) : Host.Outcome State Fault Refusal :=
  whileRunning (onDev (truOp e o (vecOp1 e conj dst x))) s

/-- SHR (R194). -/
def execShr (e : Nat) (dst : TDst) (x : TSrc) (sh : Nat) (o : TBun) (s : State) : Host.Outcome State Fault Refusal :=
  whileRunning (onDev (truOp e o (vecOp1 e (vShr sh) dst x))) s

/-- MAG2 (R194). -/
def execMag2 (e : Nat) (dst : TDst) (x : TSrc) (o : TBun) (s : State) : Host.Outcome State Fault Refusal :=
  whileRunning (onDev (truOp e o (vecOp1 e vMag2 dst x))) s

/-- MIN (R194). -/
def execMin (e : Nat) (dst : TDst) (x y : TSrc) (o : TBun) (s : State) : Host.Outcome State Fault Refusal :=
  whileRunning (onDev (truOp e o (vecOp2 e vMin dst x y))) s

/-- MAX (R194). -/
def execMax (e : Nat) (dst : TDst) (x y : TSrc) (o : TBun) (s : State) : Host.Outcome State Fault Refusal :=
  whileRunning (onDev (truOp e o (vecOp2 e vMax dst x y))) s

/-- CLRACC (R196). -/
def execClracc (e acc : Nat) (o : TBun) (s : State) : Host.Outcome State Fault Refusal :=
  whileRunning (onDev (truOp e o (accClear e acc))) s

/-- NORM (R199). -/
def execNorm (e acc k : Nat) (o : TBun) (s : State) : Host.Outcome State Fault Refusal :=
  whileRunning (onDev (truOp e o (normOp e acc k))) s

/-- EXP (R199). -/
def execExp (e sreg acc : Nat) (o : TBun) (s : State) : Host.Outcome State Fault Refusal :=
  whileRunning (onDev (truOp e o (expOp e sreg acc))) s

/-- BXD (R200). -/
def execBxd (e sreg : Nat) (o : TBun) (s : State) : Host.Outcome State Fault Refusal :=
  whileRunning (onDev (truOp e o (bxdOp e sreg))) s

/-- BXCLR (R200). -/
def execBxclr (e : Nat) (o : TBun) (s : State) : Host.Outcome State Fault Refusal := whileRunning (onDev (truOp e o (bxclrOp e))) s

/-- LDX (R201). -/
def execLdx (e k : Nat) (o : TBun) (s : State) : Host.Outcome State Fault Refusal :=
  whileRunning (onDev (truOp e o (loadOp e 0 k false))) s

/-- LDY (R201). -/
def execLdy (e k : Nat) (o : TBun) (s : State) : Host.Outcome State Fault Refusal :=
  whileRunning (onDev (truOp e o (loadOp e 1 k false))) s

/-- LDK (R201). -/
def execLdk (e k : Nat) (o : TBun) (s : State) : Host.Outcome State Fault Refusal :=
  whileRunning (onDev (truOp e o (loadOp e 2 k false))) s

/-- LDKB (R201). -/
def execLdkb (e k : Nat) (o : TBun) (s : State) : Host.Outcome State Fault Refusal :=
  whileRunning (onDev (truOp e o (loadOp e 2 k true))) s

/-- ST16 (R198). -/
def execSt16 (e acc sh : Nat) (bx : Bool) (o : TBun) (s : State) : Host.Outcome State Fault Refusal :=
  whileRunning (onDev (truOp e o (storeOp e acc (min sh 39) false bx))) s

/-- ST32 (R198). -/
def execSt32 (e acc sh : Nat) (bx : Bool) (o : TBun) (s : State) : Host.Outcome State Fault Refusal :=
  whileRunning (onDev (truOp e o (storeOp e acc (min sh 39) true bx))) s

/-- AGSET (R202). -/
def execAgset (e g : Nat) (f : AgField) (v : Int) (o : TBun) (s : State) : Host.Outcome State Fault Refusal :=
  whileRunning (onDev (truOp e o (agLater e (.set g f v)))) s

/-- AGADD (R202). -/
def execAgadd (e g : Nat) (v : Int) (o : TBun) (s : State) : Host.Outcome State Fault Refusal :=
  whileRunning (onDev (truOp e o (agLater e (.add g v)))) s

/-- LOOP (R203). -/
def execLoop (e n start after : Nat) (o : TBun) (s : State) : Host.Outcome State Fault Refusal :=
  whileRunning (onDev (truOp e o (loopOp e 0 n 1 start after))) s

/-- LOOP_R (R205). -/
def execLoopR (e n start after : Nat) (o : TBun) (s : State) : Host.Outcome State Fault Refusal :=
  whileRunning (onDev (truOp e o (loopOp e 1 n 1 start after))) s

/-- LOOPM (R205). -/
def execLoopm (e n stages start after : Nat) (o : TBun) (s : State) : Host.Outcome State Fault Refusal :=
  whileRunning (onDev (truOp e o (loopOp e 2 n stages start after))) s

/-- ENDL (R203). -/
def execEndl (e : Nat) (s : State) : Host.Outcome State Fault Refusal := whileRunning (onDev (truMark e (endlOp e))) s

/-- BR (R194). -/
def execBr (e target : Nat) (o : TBun) (s : State) : Host.Outcome State Fault Refusal :=
  whileRunning (onDev (truOp e o (brOp e target))) s

/-- CALL (R194). -/
def execCall (e target ret : Nat) (o : TBun) (s : State) : Host.Outcome State Fault Refusal :=
  whileRunning (onDev (truOp e o (callOp e target ret))) s

/-- RET (R194). -/
def execRet (e : Nat) (o : TBun) (s : State) : Host.Outcome State Fault Refusal := whileRunning (onDev (truOp e o (retOp e))) s

/-- HALT (R194). -/
def execHalt (e : Nat) (o : TBun) (s : State) : Host.Outcome State Fault Refusal := whileRunning (onDev (truOp e o (haltOp e))) s

/-- GET (R211). -/
def execGet (e l a n : Nat) (o : TBun) (s : State) : Host.Outcome State Fault Refusal := whileRunning (truBlk e o (getOp e l a n)) s

/-- PUT (R211). -/
def execPut (e l a n : Nat) (o : TBun) (s : State) : Host.Outcome State Fault Refusal := whileRunning (truBlk e o (putOp e l a n)) s

/-- WRCOEF (R211). -/
def execWrcoef (e n set w l : Nat) (o : TBun) (s : State) : Host.Outcome State Fault Refusal :=
  whileRunning (onDev (truOp e o (wrcoefOp e n set w l))) s

/-- WRDYN (R211). -/
def execWrdyn (e k carrier frame slot sym l : Nat) (o : TBun) (s : State) : Host.Outcome State Fault Refusal :=
  whileRunning (truBlk e o (wrdynOp e k carrier frame slot sym l)) s

/-- WAITP (R194). -/
def execWaitp (e : Nat) (o : TBun) (s : State) : Host.Outcome State Fault Refusal := whileRunning (onDev (truOp e o waitpOp)) s

end Sys2Proof.Machine
end

