-- ==== Sys2Proof/Machine/CmdHk.lean ====
section
/-!
DEFINITION. The commands of housekeeping: one meaning each.
-/
namespace Sys2Proof.Machine

/-- HK_CONVERSION (R360). -/
def execHkConversion (raw : Nat) (s : State) : Host.Outcome State Fault Refusal := whileUp (onDev (hkConversion raw)) s

/-- URGENT_REQUEST (R361). -/
def execUrgentRequest (ch : Nat) (s : State) : Host.Outcome State Fault Refusal :=
  whileUp (hostWrite 0x800008 (256 + ch % 256)) s

/-- URGENT_CONVERSION (R361). -/
def execUrgentConversion (raw : Nat) (s : State) : Host.Outcome State Fault Refusal := whileUp (onDev (urgentConversion raw)) s

/-- HK_CAL_ZERO (R362). -/
def execHkCalZero (g : Nat) (s : State) : Host.Outcome State Fault Refusal := whileUp (hostWrite 0x800010 (hkStep 1 g 0)) s

/-- HK_CAL_FULL (R362). -/
def execHkCalFull (g fs : Nat) (s : State) : Host.Outcome State Fault Refusal := whileUp (hostWrite 0x800010 (hkStep 2 g fs)) s

/-- HK_CAL_MEASURE_DONE (R362). -/
def execHkCalMeasureDone (s : State) : Host.Outcome State Fault Refusal := whileUp (onDev hkCalMeasureDone) s

/-- HK_CAL_COMPUTE (R363). -/
def execHkCalCompute (g : Nat) (s : State) : Host.Outcome State Fault Refusal := whileUp (hostWrite 0x800010 (hkStep 3 g 0)) s

/-- HK_CAL_ABORT (R362). -/
def execHkCalAbort (g : Nat) (s : State) : Host.Outcome State Fault Refusal := whileUp (hostWrite 0x800010 (hkStep 0 g 0)) s

/-- HOUSEKEEPING_ROUND (R366). -/
def execHousekeepingRound (deckGap : Nat) (s : State) : Host.Outcome State Fault Refusal :=
  whileUp (onDev fun d => calArmDue (housekeepingRound deckGap d)) s

/-- THROTTLE_STEP_EFFECT (R372). -/
def execThrottleStepEffect (s : State) : Host.Outcome State Fault Refusal := whileRunning throttleStepEffect s

/-- SHUTDOWN_RAMP_END (R375). -/
def execShutdownRampEnd (s : State) : Host.Outcome State Fault Refusal := whileRunning shutdownRampEnd s

/-- FIXED_TRIP (R376). -/
def execFixedTrip (dies : Nat) (s : State) : Host.Outcome State Fault Refusal := always (onDev (fixedTrip dies)) s

/-- TRIP_RELEASE (R376). -/
def execTripRelease (dies : Nat) (s : State) : Host.Outcome State Fault Refusal := always (onDev (tripRelease dies)) s

/-- TRIP_HOLD_END (R376). -/
def execTripHoldEnd (s : State) : Host.Outcome State Fault Refusal := always (onDev tripHoldEnd) s

/-- READMIT (R367). -/
def execReadmit (i : Nat) (s : State) : Host.Outcome State Fault Refusal := whileUp (hostWrite 0x802000 (256 + i % 64)) s

/-- STAY_UPDATE (R377). -/
def execStayUpdate (s : State) : Host.Outcome State Fault Refusal := always (onDev stayUpdate) s

/-- ANCH_OVERRIDE (R379). -/
def execAnchOverride (k : Nat) (v : Word) (s : State) : Host.Outcome State Fault Refusal :=
  whileUp (hostWrite (0x801200 + 4 * (k % 8)) v.toNat) s

/-- STAY_CLEAR (R380). -/
def execStayClear (s : State) : Host.Outcome State Fault Refusal := always (onDev stayClear) s

/-- STAY_CLEAR_RELEASE (R380). -/
def execStayClearRelease (s : State) : Host.Outcome State Fault Refusal := always (onDev stayClearRelease) s

/-- STAY_SUPPLY_LOST (R381). -/
def execStaySupplyLost (s : State) : Host.Outcome State Fault Refusal := always (onDev staySupplyLost) s

/-- STAY_SUPPLY_RETURN (R381). -/
def execStaySupplyReturn (s : State) : Host.Outcome State Fault Refusal := always (onDev staySupplyReturn) s

/-- CHECK_START (R382). -/
def execCheckStart (org : Origin) (u alive : Nat) (s : State) : Host.Outcome State Fault Refusal :=
  whileUp (wordFrom org (0x803024 + 0x40 * (u % 4)) (BitVec.ofNat 32 (256 + alive % 256))) s

/-- CHECK_DONE (R382). -/
def execCheckDone (u : Nat) (s : State) : Host.Outcome State Fault Refusal := whileRunning (checkDone u) s

end Sys2Proof.Machine
end

