-- ==== Sys2Proof/Machine/CmdJobs.lean ====
section
/-!
DEFINITION. The commands of the truss engines' jobs, faults and microcode: one meaning each.
-/
namespace Sys2Proof.Machine

/-- HOST_DISPATCH (R207). -/
def execHostDispatch (eng desc : Nat) (s : State) : Host.Outcome State Fault Refusal :=
  whileUp (hostWrite TRUSS_DISPATCH_desc.off (256 * (desc % 256) + eng % 16)) s

/-- FIRMWARE_DISPATCH (R207). -/
def execFirmwareDispatch (eng desc : Nat) (s : State) : Host.Outcome State Fault Refusal :=
  whileRunning (onDev (firmwareDispatch eng desc)) s

/-- JOB_DESCRIPTOR_WRITE (R206). -/
def execJobDescriptorWrite (org : Origin) (j w : Nat) (v : Word) (s : State) : Host.Outcome State Fault Refusal :=
  whileUp (wordFrom org (0xA04000 + 64 * (j % 256) + 4 * (w % 16)) v) s

/-- JOB_START (R209). -/
def execJobStart (e : Nat) (s : State) : Host.Outcome State Fault Refusal := whileRunning (jobStart e) s

/-- JOB_END (R210). -/
def execJobEnd (e result : Nat) (fit : Option FitResult) (s : State) : Host.Outcome State Fault Refusal :=
  whileRunning (onDev (haltEnd e result fit)) s

/-- JOB_TIMEOUT (R209). -/
def execJobTimeout (e : Nat) (s : State) : Host.Outcome State Fault Refusal := whileRunning (onDev (jobTimeout e)) s

/-- TRUSS_FAULT (R213). -/
def execTrussFault (e cause : Nat) (s : State) : Host.Outcome State Fault Refusal := whileRunning (onDev (trussFault e cause)) s

/-- ENGINE_HANG (R213). -/
def execEngineHang (e : Nat) (s : State) : Host.Outcome State Fault Refusal := whileRunning (onDev (engineHang e)) s

/-- TRUSS_MIGRATED (R214). -/
def execTrussMigrated (s : State) : Host.Outcome State Fault Refusal := whileRunning (onDev trussMigrated) s

/-- REINSTATE (R217). -/
def execReinstate (e : Nat) (s : State) : Host.Outcome State Fault Refusal :=
  whileUp (hostWrite TRUSS_CMD_engine.off (256 + e % 16)) s

/-- REINSTATE_DONE (R217). -/
def execReinstateDone (e : Nat) (pass : Bool) (s : State) : Host.Outcome State Fault Refusal :=
  whileRunning (reinstateDone e pass) s

/-- UCODE_LOAD (R193). -/
def execUcodeLoad (dir : List TrussProg) (major minor : Nat) (s : State) : Host.Outcome State Fault Refusal :=
  whileRunning (ucodeLoad dir major minor) s

end Sys2Proof.Machine
end

