-- ==== Sys2Proof/Machine/CmdKey.lean ====
section
/-!
DEFINITION. The commands of the keystone: boot, staging, OTP and attestation: one meaning each.
-/
namespace Sys2Proof.Machine

/-- OFFER (R299). -/
def execOffer (s : State) : Host.Outcome State Fault Refusal := whileUp (hostWrite 0x400010 1) s

/-- FETCH_DONE (R300). -/
def execFetchDone (table : List Nat) (images : List (List Nat)) (busErr : Option Nat) (conv : List (List Nat)) (s : State) : Host.Outcome State Fault Refusal :=
  whileUp (fetchDone table images busErr conv) s

/-- ACTIVATION_DONE (R318). -/
def execActivationDone (ok : Bool) (conv : List (List Nat)) (s : State) : Host.Outcome State Fault Refusal :=
  whileUp (activationDone ok conv) s

/-- ROM_DONE (R296). -/
def execRomDone (lost : Nat) (s : State) : Host.Outcome State Fault Refusal := whileUp (romDone lost) s

/-- STORE_DONE (R312). -/
def execStoreDone (present : Bool) (s : State) : Host.Outcome State Fault Refusal := whileUp (storeDone present) s

/-- PLL_SWITCH (R298). -/
def execPllSwitch (khz : Nat) (s : State) : Host.Outcome State Fault Refusal := whileRunning (onDev (pllSwitch khz)) s

/-- STAGE_OPEN (R314). -/
def execStageOpen (org : Origin) (s : State) : Host.Outcome State Fault Refusal := whileUp (stagingFrom org 1 svcOpen) s

/-- STAGE_WRITE (R315). -/
def execStageWrite (org : Origin) (off : Nat) (v : Word) (s : State) : Host.Outcome State Fault Refusal :=
  whileUp (stageWriteFrom org off v) s

/-- STAGE_CLOSE (R316). -/
def execStageClose (org : Origin) (s : State) : Host.Outcome State Fault Refusal := whileUp (stagingFrom org 2 svcClose) s

/-- STAGE_COMMIT_DONE (R316). -/
def execStageCommitDone (ok : Bool) (s : State) : Host.Outcome State Fault Refusal := whileUp (commitDone ok) s

/-- STAGE_ABORT (R315). -/
def execStageAbort (org : Origin) (s : State) : Host.Outcome State Fault Refusal := whileUp (stagingFrom org 4 svcAbort) s

/-- STAGE_CLEAR (R315). -/
def execStageClear (org : Origin) (s : State) : Host.Outcome State Fault Refusal := whileUp (stagingFrom org 8 svcClear) s

/-- STAGE_STATUS (R315). -/
def execStageStatus (s : State) : Host.Outcome State Fault Refusal := whileUp svcStageStatus s

/-- STAGE_TIMEOUT (R314). -/
def execStageTimeout (s : State) : Host.Outcome State Fault Refusal := whileUp (onDev stageTimeout) s

/-- PROG_SLOT (R325). -/
def execProgSlot (slot : Nat) (s : State) : Host.Outcome State Fault Refusal :=
  whileUp (hostWrite 0x400030 (1 + 64 * (slot % 4))) s

/-- REVOKE (R325). -/
def execRevoke (slot : Nat) (s : State) : Host.Outcome State Fault Refusal :=
  whileUp (hostWrite 0x400030 (2 + 64 * (slot % 4))) s

/-- OTP_DONE (R325). -/
def execOtpDone (words : Nat) (s : State) : Host.Outcome State Fault Refusal := whileRunning (onDev (otpDone words)) s

/-- ATTEST_PREPARE (R328). -/
def execAttestPrepare (good : Bool) (s : State) : Host.Outcome State Fault Refusal := whileRunning (attestPrepare good) s

/-- ATTEST (R329). -/
def execAttest (s : State) : Host.Outcome State Fault Refusal := whileUp (hostWrite 0x400010 2) s

/-- REPORT_DONE (R329). -/
def execReportDone (s : State) : Host.Outcome State Fault Refusal := whileRunning (onDev reportDone) s

end Sys2Proof.Machine
end

