-- ==== Sys2Proof/Machine/CmdLedger.lean ====
section
/-!
DEFINITION. The commands of ledger, archive, events and the endpoint: one meaning each.
-/
namespace Sys2Proof.Machine

/-- LEDGER_RECORD_FORM (R419). -/
def execLedgerRecordForm (s : State) : Host.Outcome State Fault Refusal := whileUp ledgerRecordForm s

/-- GAP_RECORD (R419). -/
def execGapRecord (s : State) : Host.Outcome State Fault Refusal := whileUp gapRecord s

/-- EXCURSION_INTERVAL (R417). -/
def execExcursionInterval (s : State) : Host.Outcome State Fault Refusal := whileRunning (onDev excursionInterval) s

/-- ARCHIVE_BLOCK (R421). -/
def execArchiveBlock (s : State) : Host.Outcome State Fault Refusal := whileRunning archiveBlock s

/-- ARCHIVE_BLOCK_DONE (R421). -/
def execArchiveBlockDone (ok : Bool) (s : State) : Host.Outcome State Fault Refusal := whileRunning (archiveBlockDone ok) s

/-- ARCHIVE_RETRY (R421). -/
def execArchiveRetry (s : State) : Host.Outcome State Fault Refusal := whileRunning archiveRetry s

/-- FLUSH (R421). -/
def execFlush (s : State) : Host.Outcome State Fault Refusal := whileUp (hostWrite 0x300084 0x40000000) s

/-- ARCHIVE_READ (R422). -/
def execArchiveRead (sector : Nat) (s : State) : Host.Outcome State Fault Refusal :=
  whileUp (hostWrite 0x300084 (0x80000000 + sector % 2048)) s

/-- ARCHIVE_READ_DONE (R422). -/
def execArchiveReadDone (ok : Bool) (s : State) : Host.Outcome State Fault Refusal := whileRunning (archiveReadDone ok) s

/-- WR_SEQ_READ (R415). -/
def execWrSeqRead (s : State) : Host.Outcome State Fault Refusal := whileUp (onDev seqRead) s

/-- EVENT_CLEAR (R424). -/
def execEventClear (w : Nat) (v : Word) (s : State) : Host.Outcome State Fault Refusal := whileUp (eventClear w v) s

/-- MSIX_UNMASK (R425). -/
def execMsixUnmask (cfg : HostCfg) (s : State) : Host.Outcome State Fault Refusal := whileUp (onDev (msixUnmask cfg)) s

/-- DEVICE_RESET (R443). -/
def execDeviceReset (v : Word) (s : State) : Host.Outcome State Fault Refusal := whileUp (hostWrite 0x10 v.toNat) s

/-- FUNCTION_LEVEL_RESET (R436). -/
def execFunctionLevelReset (s : State) : Host.Outcome State Fault Refusal := whileUp (onDev functionReset) s

/-- HOST_LINK_DOWN (R436). -/
def execHostLinkDown (s : State) : Host.Outcome State Fault Refusal := whileUp (onDev hostLinkDown) s

end Sys2Proof.Machine
end

