-- ==== Sys2Proof/Machine/CmdLink.lean ====
section
/-!
DEFINITION. The commands of lanes, ports and the Xantaka protocol: one meaning each.
-/
namespace Sys2Proof.Machine

/-- SIGNAL_DETECT (R244). -/
def execSignalDetect (l : Nat) (s : State) : Host.Outcome State Fault Refusal := whileRunning (onDev (signalDetect l)) s

/-- LOSS_OF_SIGNAL (R244). -/
def execLossOfSignal (l : Nat) (s : State) : Host.Outcome State Fault Refusal := whileRunning (onDev (lossOfSignal l)) s

/-- CLOCK_LOCK_LOSS (R243). -/
def execClockLockLoss (l : Nat) (s : State) : Host.Outcome State Fault Refusal := whileRunning (onDev (clockLockLoss l)) s

/-- SEEK_TIMEOUT (R243). -/
def execSeekTimeout (l : Nat) (s : State) : Host.Outcome State Fault Refusal := whileRunning (onDev (seekTimeout l)) s

/-- BACKOFF_END (R244). -/
def execBackoffEnd (l : Nat) (s : State) : Host.Outcome State Fault Refusal := whileRunning (onDev (backoffEnd l)) s

/-- ACQUIRE_TIMEOUT (R243). -/
def execAcquireTimeout (l : Nat) (s : State) : Host.Outcome State Fault Refusal := whileRunning (onDev (acquireTimeout l)) s

/-- MERIT_UPDATE (R245). -/
def execMeritUpdate (l : Nat) (merit : Int) (eq : Nat) (s : State) : Host.Outcome State Fault Refusal :=
  whileRunning (onDev (meritUpdate l merit eq)) s

/-- LANE_UP (R243). -/
def execLaneUp (l : Nat) (s : State) : Host.Outcome State Fault Refusal := whileRunning (onDev (laneUp l)) s

/-- PORT_UP (R247). -/
def execPortUp (p rx tx : Nat) (s : State) : Host.Outcome State Fault Refusal := whileRunning (onDev (portUpRow p rx tx)) s

/-- ALIGNING_EXPIRED (R247). -/
def execAligningExpired (p : Nat) (s : State) : Host.Outcome State Fault Refusal := whileRunning (onDev (aligningExpired p)) s

/-- FEC_UNCORRECTED (R257). -/
def execFecUncorrected (p n corr : Nat) (s : State) : Host.Outcome State Fault Refusal :=
  whileRunning (onDev (fecUncorrected p n corr)) s

/-- AM_LOCK_LOSS (R257). -/
def execAmLockLoss (p : Nat) (s : State) : Host.Outcome State Fault Refusal := whileRunning (onDev (amLockLoss p)) s

/-- FAILOVER (R258). -/
def execFailover (ns : Nat) (s : State) : Host.Outcome State Fault Refusal := whileRunning (onDev (failover ns)) s

/-- REVERT_HOLD_EXPIRED (R260). -/
def execRevertHoldExpired (s : State) : Host.Outcome State Fault Refusal := whileRunning (onDev revertHoldExpired) s

/-- FAILBACK (R260). -/
def execFailback (s : State) : Host.Outcome State Fault Refusal := whileRunning (onDev failback) s

/-- FAILBACK_CMD (R260). -/
def execFailbackCmd (s : State) : Host.Outcome State Fault Refusal := whileUp (hostWrite 0x500004 1) s

/-- RESEEK (R251). -/
def execReseek (p : Nat) (s : State) : Host.Outcome State Fault Refusal :=
  whileUp (hostWrite 0x500004 (if p = 0 then 2 else 4)) s

/-- LINK_REST_WRITE (R251). -/
def execLinkRestWrite (v : Word) (s : State) : Host.Outcome State Fault Refusal := whileUp (hostWrite 0x500018 v.toNat) s

/-- TXEQ_WRITE (R250). -/
def execTxeqWrite (org : Origin) (l : Nat) (v : Word) (s : State) : Host.Outcome State Fault Refusal :=
  whileUp (wordFrom org (0x500204 + 0x40 * (l % 4)) v) s

/-- SECTIONS_MESSAGE (R277). -/
def execSectionsMessage (f : XkFrame) (s : State) : Host.Outcome State Fault Refusal := whileRunning (sectionsMessage f) s

/-- UPLINK_PLAN (R280). -/
def execUplinkPlan (f : XkFrame) (s : State) : Host.Outcome State Fault Refusal := whileRunning (uplinkPlan f) s

/-- WEIGHT_UPDATE (R282). -/
def execWeightUpdate (f : XkFrame) (s : State) : Host.Outcome State Fault Refusal := whileRunning (weightUpdate f) s

/-- UL_SECTIONS_SEND (R281). -/
def execUlSectionsSend (c frame slot sym : Nat) (rx : List UlSamples) (s : State) : Host.Outcome State Fault Refusal :=
  whileRunning (ulSectionsSend c frame slot sym rx) s

/-- UL_OVERRUN (R281). -/
def execUlOverrun (f : Nat) (s : State) : Host.Outcome State Fault Refusal := whileRunning (onDev (ulOverrun f)) s

/-- ECHO_REQUEST (R283). -/
def execEchoRequest (f : XkFrame) (turn : Nat) (s : State) : Host.Outcome State Fault Refusal :=
  whileRunning (echoRequest f turn) s

/-- TIME_REPORT (R284). -/
def execTimeReport (s : State) : Host.Outcome State Fault Refusal := whileRunning (onDev timeReport) s

/-- MGMT_READ (R285). -/
def execMgmtRead (f : XkFrame) (waiting : Nat) (s : State) : Host.Outcome State Fault Refusal :=
  whileRunning (mgmtRequest false f waiting) s

/-- MGMT_WRITE (R286). -/
def execMgmtWrite (f : XkFrame) (waiting : Nat) (s : State) : Host.Outcome State Fault Refusal :=
  whileRunning (mgmtRequest true f waiting) s

/-- HEARTBEAT (R288). -/
def execHeartbeat (s : State) : Host.Outcome State Fault Refusal := whileRunning (onDev heartbeat) s

/-- PEER_HEARTBEAT (R289). -/
def execPeerHeartbeat (f : XkFrame) (s : State) : Host.Outcome State Fault Refusal := whileRunning (peerHeartbeat f) s

/-- PEER_SILENT (R289). -/
def execPeerSilent (s : State) : Host.Outcome State Fault Refusal := whileRunning (onDev peerSilent) s

/-- CAPABILITY_OFFER (R290). -/
def execCapabilityOffer (f : XkFrame) (s : State) : Host.Outcome State Fault Refusal := whileRunning (capabilityOffer f) s

/-- CAPS_OFFER_RESEND (R290). -/
def execCapsOfferResend (s : State) : Host.Outcome State Fault Refusal := whileRunning (onDev capsOfferResend) s

/-- CAPS_CHANGED (R293). -/
def execCapsChanged (s : State) : Host.Outcome State Fault Refusal := whileRunning (onDev capsChanged) s

end Sys2Proof.Machine
end

