-- ==== Sys2Proof/Machine/CmdMemory.lean ====
section
/-!
DEFINITION. The commands of memory protection and DMA: one meaning each.
-/
namespace Sys2Proof.Machine

/-- SCRUB_READ (R339). -/
def execScrubRead (w err : Nat) (s : State) : Host.Outcome State Fault Refusal := whileRunning (scrubRead w err) s

/-- SCRUB_LAP_END (R339). -/
def execScrubLapEnd (s : State) : Host.Outcome State Fault Refusal := whileRunning scrubLapEnd s

/-- WRITE_BACK (R335). -/
def execWriteBack (s : State) : Host.Outcome State Fault Refusal := whileUp writeBack s

/-- MERGE_RETIRE (R338). -/
def execMergeRetire (s : State) : Host.Outcome State Fault Refusal := whileUp mergeRetire s

/-- FIRMWARE_MEM_ERR (R337). -/
def execFirmwareMemErr (a : Nat) (s : State) : Host.Outcome State Fault Refusal := whileRunning (firmwareMemErr a) s

/-- SPARE_RECORD_WRITE (R341). -/
def execSpareRecordWrite (s : State) : Host.Outcome State Fault Refusal := whileRunning spareRecordWrite s

/-- INJECT_ARM (R343). -/
def execInjectArm (s : State) : Host.Outcome State Fault Refusal := whileUp (setBitFrom .host MEM_INJECT_arm) s

/-- CHANNEL_START (R347). -/
def execChannelStart (org : Origin) (n : Nat) (s : State) : Host.Outcome State Fault Refusal :=
  whileUp (setBitFrom org (DMA_CH_CTRL_start (n % 32))) s

/-- CHANNEL_STOP (R354). -/
def execChannelStop (org : Origin) (n : Nat) (s : State) : Host.Outcome State Fault Refusal :=
  whileUp (setBitFrom org (DMA_CH_CTRL_stop (n % 32))) s

/-- CLEAR_HALT (R353). -/
def execClearHalt (s : State) : Host.Outcome State Fault Refusal := whileUp (hostWrite 0x700000 1) s

/-- DESCRIPTOR_FETCH (R350). -/
def execDescriptorFetch (n : Nat) (ok : Bool) (host : List Nat) (s : State) : Host.Outcome State Fault Refusal :=
  whileRunning (descriptorFetch n ok host) s

/-- DMA_BURST (R348). -/
def execDmaBurst (n : Nat) (ok : Bool) (host : List Nat) (s : State) : Host.Outcome State Fault Refusal :=
  whileRunning (dmaBurst n ok host) s

/-- DESCRIPTOR_DONE (R348). -/
def execDescriptorDone (n : Nat) (s : State) : Host.Outcome State Fault Refusal := whileRunning (descriptorDone n) s

/-- REQUEST_EDGE (R349). -/
def execRequestEdge (line : Nat) (s : State) : Host.Outcome State Fault Refusal := whileRunning (onDev (requestEdge line)) s

/-- DMA_HALT (R353). -/
def execDmaHalt (space : Nat) (write : Bool) (cause addr : Nat) (s : State) : Host.Outcome State Fault Refusal :=
  whileRunning (onDev (dmaHalt space write cause addr)) s

/-- HOST_WINDOW_READ (R337). -/
def execHostWindowRead (off width err : Nat) (s : State) : Host.Outcome State Fault Refusal :=
  whileUp (windowRead off width err) s

end Sys2Proof.Machine
end

