-- ==== Sys2Proof/Machine/CmdPorts.lean ====
section
/-!
DEFINITION. The commands of the service port, supplies, pins and JTAG: one meaning each.
-/
namespace Sys2Proof.Machine

/-- STATUS (R444). -/
def execStatus (s : State) : Host.Outcome State Fault Refusal := whileUp (onDev (svcTransaction 0x05 [])) s

/-- WRITE_REQ_SINGLE (R445). -/
def execWriteReqSingle (frame : List Nat) (s : State) : Host.Outcome State Fault Refusal := whileUp (onDev (svcTransaction 0x02 frame)) s

/-- WRITE_REQ_QUAD (R445). -/
def execWriteReqQuad (frame : List Nat) (s : State) : Host.Outcome State Fault Refusal := whileUp (onDev (svcTransaction 0x32 frame)) s

/-- READ_RESP_SINGLE (R446). -/
def execReadRespSingle (s : State) : Host.Outcome State Fault Refusal := whileUp (onDev (svcTransaction 0x0B [])) s

/-- READ_RESP_QUAD (R446). -/
def execReadRespQuad (s : State) : Host.Outcome State Fault Refusal := whileUp (onDev (svcTransaction 0x6B [])) s

/-- GET_STATUS (R448). -/
def execGetStatus (s : State) : Host.Outcome State Fault Refusal := whileUp getStatus s

/-- LEDGER_RING (R449). -/
def execLedgerRing (s : State) : Host.Outcome State Fault Refusal := whileUp ledgerRing s

/-- LEDGER_ARCHIVE (R447). -/
def execLedgerArchive (ok : Bool) (s : State) : Host.Outcome State Fault Refusal := whileUp (ledgerArchive ok) s

/-- POWER_ON (R457). -/
def execPowerOn (s : State) : Host.Outcome State Fault Refusal := always (onDev powerOn) s

/-- VAON_LOSS (R457). -/
def execVaonLoss (s : State) : Host.Outcome State Fault Refusal := always (onDev vaonLoss) s

/-- RESET_N (R461). -/
def execResetN (s : State) : Host.Outcome State Fault Refusal := always (onDev resetPin) s

/-- RESET_RELEASE (R296). -/
def execResetRelease (s : State) : Host.Outcome State Fault Refusal := always (onDev resetRelease) s

/-- PWR_OK_FALL (R459). -/
def execPwrOkFall (s : State) : Host.Outcome State Fault Refusal := always (onDev pwrOkFall) s

/-- PWR_OK_RISE (R459). -/
def execPwrOkRise (s : State) : Host.Outcome State Fault Refusal := always (onDev pwrOkRise) s

/-- XTAL_START (R467). -/
def execXtalStart (s : State) : Host.Outcome State Fault Refusal := always (onDev xtalStart) s

/-- CRYSTAL_FAILURE (R467). -/
def execCrystalFailure (s : State) : Host.Outcome State Fault Refusal := always (onDev crystalFailure) s

/-- BYPASS (R470). -/
def execBypass (s : State) : Host.Outcome State Fault Refusal := always (onDev (jtagLoad .bypass)) s

/-- SAMPLE_PRELOAD (R470). -/
def execSamplePreload (s : State) : Host.Outcome State Fault Refusal := always (onDev (jtagLoad .samplePreload)) s

/-- EXTEST (R470). -/
def execExtest (s : State) : Host.Outcome State Fault Refusal := always (onDev (jtagLoad .extest)) s

/-- EXTEST_PULSE (R470). -/
def execExtestPulse (s : State) : Host.Outcome State Fault Refusal := always (onDev (jtagLoad .extestPulse)) s

/-- EXTEST_TRAIN (R470). -/
def execExtestTrain (s : State) : Host.Outcome State Fault Refusal := always (onDev (jtagLoad .extestTrain)) s

/-- TEST_LOGIC_RESET (R470). -/
def execTestLogicReset (s : State) : Host.Outcome State Fault Refusal := always (onDev (jtagLoad .bypass)) s

end Sys2Proof.Machine
end

