-- ==== Sys2Proof/Machine/CmdPower.lean ====
section
/-!
DEFINITION. The commands of power states, the wake and the voltage loop: one meaning each.
-/
namespace Sys2Proof.Machine

/-- ENTER_ACTIVE (R390). -/
def execEnterActive (s : State) : Host.Outcome State Fault Refusal := whileUp (hostWrite 0x900000 0) s

/-- ENTER_READY (R390). -/
def execEnterReady (s : State) : Host.Outcome State Fault Refusal := whileUp (hostWrite 0x900000 1) s

/-- ENTER_REST (R395). -/
def execEnterRest (s : State) : Host.Outcome State Fault Refusal := whileUp (hostWrite 0x900000 2) s

/-- ENTER_DORMANT (R397). -/
def execEnterDormant (s : State) : Host.Outcome State Fault Refusal := whileUp (hostWrite 0x900000 3) s

/-- ENTER_OFF (R403). -/
def execEnterOff (s : State) : Host.Outcome State Fault Refusal := whileUp (hostWrite 0x900000 4) s

/-- ENTRY_COMMIT_POINT (R392). -/
def execEntryCommitPoint (s : State) : Host.Outcome State Fault Refusal := whileRunning entryCommitPoint s

/-- ENTRY_COMPLETE (R392). -/
def execEntryComplete (s : State) : Host.Outcome State Fault Refusal := whileRunning entryComplete s

/-- STARTING_ENTRY_COMPLETE (R389). -/
def execStartingEntryComplete (s : State) : Host.Outcome State Fault Refusal := whileRunning startingComplete s

/-- WAKE_PIN (R399). -/
def execWakePin (s : State) : Host.Outcome State Fault Refusal := always (onDev wakePin) s

/-- WAKE_TIMER (R399). -/
def execWakeTimer (s : State) : Host.Outcome State Fault Refusal := always (onDev wakeTimer) s

/-- WAKE_POWER_UP (R399). -/
def execWakePowerUp (s : State) : Host.Outcome State Fault Refusal := always (onDev wakePowerUp) s

/-- SLEEP_SOURCE_CHANGED (R46). -/
def execSleepSourceChanged (s : State) : Host.Outcome State Fault Refusal := always (onDev sleepSourceChanged) s

/-- AVS_SAMPLE (R405). -/
def execAvsSample (margin measured fail : Nat) (s : State) : Host.Outcome State Fault Refusal :=
  whileRunning (onDev (avsSample margin measured fail)) s

/-- AVS_TARGET_WRITE (R405). -/
def execAvsTargetWrite (org : Origin) (v : Word) (measured fail : Nat) (s : State) : Host.Outcome State Fault Refusal :=
  whileUp (avsTargetWrite org v measured fail) s

end Sys2Proof.Machine
end

