-- ==== Sys2Proof/Machine/CmdSpan.lean ====
section
/-!
DEFINITION. The commands of the span map, formation and seals: one meaning each.
-/
namespace Sys2Proof.Machine

/-- FORM (R68). -/
def execForm (v : Word) (s : State) : Host.Outcome State Fault Refusal := whileUp (hostWrite 0x200000 (v.toNat ||| 1)) s

/-- LOADING_DONE (R66). -/
def execLoadingDone (s : State) : Host.Outcome State Fault Refusal := whileRunning loadingDone s

/-- CHECKING_DONE (R77). -/
def execCheckingDone (s : State) : Host.Outcome State Fault Refusal := whileRunning (onDev checkingDone) s

/-- SHADOW_READY (R66). -/
def execShadowReady (s : State) : Host.Outcome State Fault Refusal := whileRunning (onDev shadowReady) s

/-- FORM_MEM_ERR (R77). -/
def execFormMemErr (s : State) : Host.Outcome State Fault Refusal := whileRunning (onDev formMemErr) s

/-- ABORT (R70). -/
def execAbort (v : Word) (s : State) : Host.Outcome State Fault Refusal := whileUp (hostWrite 0x200000 (v.toNat ||| 2)) s

/-- SPAN_CMD_COMMIT (R78). -/
def execSpanCmdCommit (v : Word) (s : State) : Host.Outcome State Fault Refusal :=
  whileUp (hostWrite 0x200000 (v.toNat ||| 4)) s

/-- SWAP_ACK (R79). -/
def execSwapAck (die : Nat) (s : State) : Host.Outcome State Fault Refusal := whileRunning (onDev (swapAck die)) s

/-- COMMIT_RELEASE (R79). -/
def execCommitRelease (s : State) : Host.Outcome State Fault Refusal := whileRunning commitRelease s

/-- UNFORM (R84). -/
def execUnform (v : Word) (s : State) : Host.Outcome State Fault Refusal := whileUp (hostWrite 0x200000 (v.toNat ||| 8)) s

/-- UNFORM_RELEASE (R84). -/
def execUnformRelease (s : State) : Host.Outcome State Fault Refusal := whileRunning unformRelease s

/-- SEAL_EPOCH_READ (R89). -/
def execSealEpochRead (s : State) : Host.Outcome State Fault Refusal := whileUp (onDev sealRead) s

/-- SEAL_RECOMPUTE (R88). -/
def execSealRecompute (s : State) : Host.Outcome State Fault Refusal := whileRunning (onDev sealRecompute) s

/-- PIER_SEAL_CHECK (R90). -/
def execPierSealCheck (p : Nat) (agree : Bool) (s : State) : Host.Outcome State Fault Refusal :=
  whileRunning (onDev (pierSealCheck p agree)) s

/-- PIER_RELOAD_DONE (R90). -/
def execPierReloadDone (p : Nat) (agree : Bool) (s : State) : Host.Outcome State Fault Refusal :=
  whileRunning (onDev (pierReloadDone p agree)) s

/-- HOSTLEVEL_WRITE (R92). -/
def execHostlevelWrite (org : Origin) (v : Word) (s : State) : Host.Outcome State Fault Refusal :=
  whileUp (wordFrom org 0xC v) s

end Sys2Proof.Machine
end

