-- ==== Sys2Proof/Machine/CmdTime.lean ====
section
/-!
DEFINITION. The commands of the air timeline, the timetable and its actions: one meaning each.
-/
namespace Sys2Proof.Machine

/-- REGISTER_WRITE (R9). -/
def execRegisterWrite (org : Origin) (off width : Nat) (l : List Word) (s : State) : Host.Outcome State Fault Refusal :=
  whileUp (wordsFrom org off width l) s

/-- ADAPT_MODE_WRITE (R24). -/
def execAdaptModeWrite (org : Origin) (v : Word) (s : State) : Host.Outcome State Fault Refusal :=
  whileUp (wordFrom org 0x200020 v) s

/-- CROSSING_TRANSFER (R17). -/
def execCrossingTransfer (p : Nat) (up : Bool) (errBits : Nat) (s : State) : Host.Outcome State Fault Refusal :=
  whileUp (onDev (crossing p up errBits)) s

/-- TL_NT_READ (R33). -/
def execTlNtRead (s : State) : Host.Outcome State Fault Refusal := whileUp (onDev ntRead) s

/-- PTP_MESSAGE (R35). -/
def execPtpMessage (m : PtpMsg) (s : State) : Host.Outcome State Fault Refusal := whileRunning (onDev (ptpMessage m)) s

/-- PPS_EDGE (R63). -/
def execPpsEdge (rate : Int) (s : State) : Host.Outcome State Fault Refusal := whileRunning (onDev (ppsEdge rate)) s

/-- PPS_LOST (R63). -/
def execPpsLost (s : State) : Host.Outcome State Fault Refusal := whileRunning (onDev ppsLost) s

/-- PPS_OUT (R62). -/
def execPpsOut (s : State) : Host.Outcome State Fault Refusal := whileRunning (onDev ppsOut) s

/-- LOSS_TIMEOUT (R42). -/
def execLossTimeout (s : State) : Host.Outcome State Fault Refusal := whileRunning (onDev lossTimeout) s

/-- ERR_EST_RECOMPUTE (R44). -/
def execErrEstRecompute (s : State) : Host.Outcome State Fault Refusal := whileRunning (onDev errEstRecompute) s

/-- TIME_MUTE (R43). -/
def execTimeMute (b : Nat) (s : State) : Host.Outcome State Fault Refusal := whileRunning (onDev (timeMute b)) s

/-- RATE_COMMIT (R32). -/
def execRateCommit (org : Origin) (v : Word) (s : State) : Host.Outcome State Fault Refusal :=
  whileUp (wordFrom org TL_RATE_LO_rate_lo.off v) s

/-- RATE_APPLY (R32). -/
def execRateApply (s : State) : Host.Outcome State Fault Refusal := whileRunning (onDev rateApply) s

/-- FRAME_OFFSET_WRITE (R30). -/
def execFrameOffsetWrite (org : Origin) (v : Word) (s : State) : Host.Outcome State Fault Refusal :=
  whileUp (wordFrom org TL_FRAME_OFFSET_ticks.off v) s

/-- RESTEP (R41). -/
def execRestep (s : State) : Host.Outcome State Fault Refusal := whileUp (hostWrite TL_CMD_restep.off 1) s

/-- ALIGN (R60). -/
def execAlign (s : State) : Host.Outcome State Fault Refusal := whileUp (hostWrite TL_CMD_align.off 2) s

/-- CANCEL_ALL (R56). -/
def execCancelAll (s : State) : Host.Outcome State Fault Refusal := whileUp (hostWrite TL_CMD_cancel_all.off 4) s

/-- ALIGN_FRAME_SEND (R59). -/
def execAlignFrameSend (s : State) : Host.Outcome State Fault Refusal := whileRunning (onDev alignFrameSend) s

/-- ALIGN_FRAME_RECEIVED (R61). -/
def execAlignFrameReceived (payload crc : Nat) (s : State) : Host.Outcome State Fault Refusal :=
  whileRunning (onDev (alignFrameReceived payload crc)) s

/-- ALIGN_FRAME_MISSED (R61). -/
def execAlignFrameMissed (s : State) : Host.Outcome State Fault Refusal := whileRunning (onDev alignFrameMissed) s

/-- LEDGER_EPOCH_WRAP (R414). -/
def execLedgerEpochWrap (s : State) : Host.Outcome State Fault Refusal := whileRunning (onDev ledgerEpochWrap) s

/-- TT_ENTRY_WRITE (R50). -/
def execTtEntryWrite (org : Origin) (i w : Nat) (v : Word) (s : State) : Host.Outcome State Fault Refusal :=
  whileUp (ttWordWrite org i w v.toNat) s

/-- TT_ARM (R51). -/
def execTtArm (org : Origin) (i rep late : Nat) (s : State) : Host.Outcome State Fault Refusal :=
  whileUp (ttWordWrite org i 3 (1 + 2 * (late % 2) + 4 * (rep % 4))) s

/-- TT_CANCEL (R56). -/
def execTtCancel (org : Origin) (i : Nat) (s : State) : Host.Outcome State Fault Refusal :=
  whileUp (ttWordWrite org i 3 0x4000) s

/-- FE_STATE (R99). -/
def execFeState (i : Nat) (s : State) : Host.Outcome State Fault Refusal := whileRunning (ttRun i 1 actFeState) s

/-- BEAM_SWITCH (R182). -/
def execBeamSwitch (i : Nat) (s : State) : Host.Outcome State Fault Refusal := whileRunning (ttRun i 2 actBeamSwitch) s

/-- DPD_APPLY (R148). -/
def execDpdApply (i : Nat) (s : State) : Host.Outcome State Fault Refusal := whileRunning (ttRun i 3 actDpdApply) s

/-- GAIN_SET (R111). -/
def execGainSet (i : Nat) (s : State) : Host.Outcome State Fault Refusal := whileRunning (ttRun i 4 actGainSet) s

/-- RESP_SWAP (R135). -/
def execRespSwap (i : Nat) (s : State) : Host.Outcome State Fault Refusal := whileRunning (ttRun i 5 actRespSwap) s

/-- SYNC (R133). -/
def execSync (i : Nat) (s : State) : Host.Outcome State Fault Refusal := whileRunning (ttRun i 6 actSync) s

/-- COMMIT (R78). -/
def execCommit (i : Nat) (s : State) : Host.Outcome State Fault Refusal := whileRunning (ttCommit i) s

/-- CAL_RUN (R225). -/
def execCalRun (i : Nat) (s : State) : Host.Outcome State Fault Refusal := whileRunning (ttRun i 8 actCalRun) s

/-- CAPTURE (R152). -/
def execCapture (i : Nat) (s : State) : Host.Outcome State Fault Refusal := whileRunning (ttCapture i) s

/-- TRUSS_JOB (R207). -/
def execTrussJob (i : Nat) (s : State) : Host.Outcome State Fault Refusal := whileRunning (ttRun i 17 actTrussJob) s

/-- DMA_START (R347). -/
def execDmaStart (i : Nat) (s : State) : Host.Outcome State Fault Refusal := whileRunning (ttRun i 18 actDmaStart) s

/-- NOTIFY (R438). -/
def execNotify (i : Nat) (s : State) : Host.Outcome State Fault Refusal := whileRunning (ttRun i 19 actNotify) s

/-- SNAPSHOT (R423). -/
def execSnapshot (i : Nat) (s : State) : Host.Outcome State Fault Refusal := whileRunning (fun b => b |> ttRun i 20 actSnapshot |> releaseHeld) s

end Sys2Proof.Machine
end

