-- ==== Sys2Proof/Machine/Dispatch.lean ====
section
/-!
DEFINITION. The dispatch of the commands: one arm a constructor, each one direct call of its meaning.
-/
namespace Sys2Proof.Machine

def exec (i : Instr) (s : State) : Host.Outcome State Fault Refusal :=
  match i with
  | .registerWrite org off width l => Sys2Proof.Machine.execRegisterWrite org off width l s
  | .adaptModeWrite org v => Sys2Proof.Machine.execAdaptModeWrite org v s
  | .crossingTransfer p up errBits => Sys2Proof.Machine.execCrossingTransfer p up errBits s
  | .tlNtRead => Sys2Proof.Machine.execTlNtRead s
  | .ptpMessage m => Sys2Proof.Machine.execPtpMessage m s
  | .ppsEdge rate => Sys2Proof.Machine.execPpsEdge rate s
  | .ppsLost => Sys2Proof.Machine.execPpsLost s
  | .ppsOut => Sys2Proof.Machine.execPpsOut s
  | .lossTimeout => Sys2Proof.Machine.execLossTimeout s
  | .errEstRecompute => Sys2Proof.Machine.execErrEstRecompute s
  | .timeMute b => Sys2Proof.Machine.execTimeMute b s
  | .rateCommit org v => Sys2Proof.Machine.execRateCommit org v s
  | .rateApply => Sys2Proof.Machine.execRateApply s
  | .frameOffsetWrite org v => Sys2Proof.Machine.execFrameOffsetWrite org v s
  | .restep => Sys2Proof.Machine.execRestep s
  | .align => Sys2Proof.Machine.execAlign s
  | .cancelAll => Sys2Proof.Machine.execCancelAll s
  | .alignFrameSend => Sys2Proof.Machine.execAlignFrameSend s
  | .alignFrameReceived payload crc => Sys2Proof.Machine.execAlignFrameReceived payload crc s
  | .alignFrameMissed => Sys2Proof.Machine.execAlignFrameMissed s
  | .ledgerEpochWrap => Sys2Proof.Machine.execLedgerEpochWrap s
  | .ttEntryWrite org idx w v => Sys2Proof.Machine.execTtEntryWrite org idx w v s
  | .ttArm org idx rep late => Sys2Proof.Machine.execTtArm org idx rep late s
  | .ttCancel org idx => Sys2Proof.Machine.execTtCancel org idx s
  | .feState idx => Sys2Proof.Machine.execFeState idx s
  | .beamSwitch idx => Sys2Proof.Machine.execBeamSwitch idx s
  | .dpdApply idx => Sys2Proof.Machine.execDpdApply idx s
  | .gainSet idx => Sys2Proof.Machine.execGainSet idx s
  | .respSwap idx => Sys2Proof.Machine.execRespSwap idx s
  | .sync idx => Sys2Proof.Machine.execSync idx s
  | .commit idx => Sys2Proof.Machine.execCommit idx s
  | .calRun idx => Sys2Proof.Machine.execCalRun idx s
  | .capture idx => Sys2Proof.Machine.execCapture idx s
  | .trussJob idx => Sys2Proof.Machine.execTrussJob idx s
  | .dmaStart idx => Sys2Proof.Machine.execDmaStart idx s
  | .notify idx => Sys2Proof.Machine.execNotify idx s
  | .snapshot idx => Sys2Proof.Machine.execSnapshot idx s
  | .form v => Sys2Proof.Machine.execForm v s
  | .loadingDone => Sys2Proof.Machine.execLoadingDone s
  | .checkingDone => Sys2Proof.Machine.execCheckingDone s
  | .shadowReady => Sys2Proof.Machine.execShadowReady s
  | .formMemErr => Sys2Proof.Machine.execFormMemErr s
  | .abort v => Sys2Proof.Machine.execAbort v s
  | .spanCmdCommit v => Sys2Proof.Machine.execSpanCmdCommit v s
  | .swapAck die => Sys2Proof.Machine.execSwapAck die s
  | .commitRelease => Sys2Proof.Machine.execCommitRelease s
  | .unform v => Sys2Proof.Machine.execUnform v s
  | .unformRelease => Sys2Proof.Machine.execUnformRelease s
  | .sealEpochRead => Sys2Proof.Machine.execSealEpochRead s
  | .sealRecompute => Sys2Proof.Machine.execSealRecompute s
  | .pierSealCheck p agree => Sys2Proof.Machine.execPierSealCheck p agree s
  | .pierReloadDone p agree => Sys2Proof.Machine.execPierReloadDone p agree s
  | .hostlevelWrite org v => Sys2Proof.Machine.execHostlevelWrite org v s
  | .feRequest b st => Sys2Proof.Machine.execFeRequest b st s
  | .feRequestEffect b => Sys2Proof.Machine.execFeRequestEffect b s
  | .transitionComplete b => Sys2Proof.Machine.execTransitionComplete b s
  | .synthLock b band => Sys2Proof.Machine.execSynthLock b band s
  | .phaseAligned b => Sys2Proof.Machine.execPhaseAligned b s
  | .turnaroundComplete b => Sys2Proof.Machine.execTurnaroundComplete b s
  | .synthUnlock b => Sys2Proof.Machine.execSynthUnlock b s
  | .relockSearch b => Sys2Proof.Machine.execRelockSearch b s
  | .synthFail b => Sys2Proof.Machine.execSynthFail b s
  | .gainWrite n tx rx => Sys2Proof.Machine.execGainWrite n tx rx s
  | .deferredWriteEffect => Sys2Proof.Machine.execDeferredWriteEffect s
  | .rxOverload n symbols => Sys2Proof.Machine.execRxOverload n symbols s
  | .pathFault n cause => Sys2Proof.Machine.execPathFault n cause s
  | .shedComplete n us => Sys2Proof.Machine.execShedComplete n us s
  | .renormalise c => Sys2Proof.Machine.execRenormalise c s
  | .hostShed b tx rx => Sys2Proof.Machine.execHostShed b tx rx s
  | .faultShedClear b tx rx => Sys2Proof.Machine.execFaultShedClear b tx rx s
  | .pathRejoin n persists => Sys2Proof.Machine.execPathRejoin n persists s
  | .crossFadeEnd n dir => Sys2Proof.Machine.execCrossFadeEnd n dir s
  | .coefWrite org n set w v => Sys2Proof.Machine.execCoefWrite org n set w v s
  | .expand n set => Sys2Proof.Machine.execExpand n set s
  | .expansionDone b => Sys2Proof.Machine.execExpansionDone b s
  | .clearFb n => Sys2Proof.Machine.execClearFb n s
  | .captureWritten b r => Sys2Proof.Machine.execCaptureWritten b r s
  | .revert n => Sys2Proof.Machine.execRevert n s
  | .verifyTimeout n => Sys2Proof.Machine.execVerifyTimeout n s
  | .obsFail n => Sys2Proof.Machine.execObsFail n s
  | .codebookWrite org e j l => Sys2Proof.Machine.execCodebookWrite org e j l s
  | .dynamicUpdate org off l => Sys2Proof.Machine.execDynamicUpdate org off l s
  | .revalidate e => Sys2Proof.Machine.execRevalidate e s
  | .dlPassStart c frame slot sym => Sys2Proof.Machine.execDlPassStart c frame slot sym s
  | .layersChange c => Sys2Proof.Machine.execLayersChange c s
  | .railWrite org p idx set v => Sys2Proof.Machine.execRailWrite org p idx set v s
  | .railLoadDone => Sys2Proof.Machine.execRailLoadDone s
  | .hostDispatch eng desc => Sys2Proof.Machine.execHostDispatch eng desc s
  | .firmwareDispatch eng desc => Sys2Proof.Machine.execFirmwareDispatch eng desc s
  | .jobDescriptorWrite org j w v => Sys2Proof.Machine.execJobDescriptorWrite org j w v s
  | .jobStart e => Sys2Proof.Machine.execJobStart e s
  | .jobEnd e result fit => Sys2Proof.Machine.execJobEnd e result fit s
  | .jobTimeout e => Sys2Proof.Machine.execJobTimeout e s
  | .mac e acc x y o => Sys2Proof.Machine.execMac e acc x y o s
  | .macc e acc x y o => Sys2Proof.Machine.execMacc e acc x y o s
  | .mack e acc x k o => Sys2Proof.Machine.execMack e acc x k o s
  | .macz e acc x y o => Sys2Proof.Machine.execMacz e acc x y o s
  | .add e dst x y o => Sys2Proof.Machine.execAdd e dst x y o s
  | .sub e dst x y o => Sys2Proof.Machine.execSub e dst x y o s
  | .mul e dst x y o => Sys2Proof.Machine.execMul e dst x y o s
  | .conj e dst x o => Sys2Proof.Machine.execConj e dst x o s
  | .shr e dst x sh o => Sys2Proof.Machine.execShr e dst x sh o s
  | .mag2 e dst x o => Sys2Proof.Machine.execMag2 e dst x o s
  | .min e dst x y o => Sys2Proof.Machine.execMin e dst x y o s
  | .max e dst x y o => Sys2Proof.Machine.execMax e dst x y o s
  | .clracc e acc o => Sys2Proof.Machine.execClracc e acc o s
  | .norm e acc k o => Sys2Proof.Machine.execNorm e acc k o s
  | .exp e sreg acc o => Sys2Proof.Machine.execExp e sreg acc o s
  | .bxd e sreg o => Sys2Proof.Machine.execBxd e sreg o s
  | .bxclr e o => Sys2Proof.Machine.execBxclr e o s
  | .ldx e k o => Sys2Proof.Machine.execLdx e k o s
  | .ldy e k o => Sys2Proof.Machine.execLdy e k o s
  | .ldk e k o => Sys2Proof.Machine.execLdk e k o s
  | .ldkb e k o => Sys2Proof.Machine.execLdkb e k o s
  | .st16 e acc sh bx o => Sys2Proof.Machine.execSt16 e acc sh bx o s
  | .st32 e acc sh bx o => Sys2Proof.Machine.execSt32 e acc sh bx o s
  | .agset e g f v o => Sys2Proof.Machine.execAgset e g f v o s
  | .agadd e g v o => Sys2Proof.Machine.execAgadd e g v o s
  | .loop e n start after o => Sys2Proof.Machine.execLoop e n start after o s
  | .loopR e n start after o => Sys2Proof.Machine.execLoopR e n start after o s
  | .loopm e n stages start after o => Sys2Proof.Machine.execLoopm e n stages start after o s
  | .endl e => Sys2Proof.Machine.execEndl e s
  | .br e target o => Sys2Proof.Machine.execBr e target o s
  | .call e target ret o => Sys2Proof.Machine.execCall e target ret o s
  | .ret e o => Sys2Proof.Machine.execRet e o s
  | .halt e o => Sys2Proof.Machine.execHalt e o s
  | .get e l a n o => Sys2Proof.Machine.execGet e l a n o s
  | .put e l a n o => Sys2Proof.Machine.execPut e l a n o s
  | .wrcoef e n set w l o => Sys2Proof.Machine.execWrcoef e n set w l o s
  | .wrdyn e k carrier frame slot sym l o => Sys2Proof.Machine.execWrdyn e k carrier frame slot sym l o s
  | .waitp e o => Sys2Proof.Machine.execWaitp e o s
  | .trussFault e cause => Sys2Proof.Machine.execTrussFault e cause s
  | .engineHang e => Sys2Proof.Machine.execEngineHang e s
  | .trussMigrated => Sys2Proof.Machine.execTrussMigrated s
  | .reinstate e => Sys2Proof.Machine.execReinstate e s
  | .reinstateDone e pass => Sys2Proof.Machine.execReinstateDone e pass s
  | .ucodeLoad dir major minor => Sys2Proof.Machine.execUcodeLoad dir major minor s
  | .calRunEnd b => Sys2Proof.Machine.execCalRunEnd b s
  | .calResult b ref l => Sys2Proof.Machine.execCalResult b ref l s
  | .correctionInForce b => Sys2Proof.Machine.execCorrectionInForce b s
  | .calApply b k kind => Sys2Proof.Machine.execCalApply b k kind s
  | .calRetry n kind => Sys2Proof.Machine.execCalRetry n kind s
  | .calRecordWrite b => Sys2Proof.Machine.execCalRecordWrite b s
  | .signalDetect l => Sys2Proof.Machine.execSignalDetect l s
  | .lossOfSignal l => Sys2Proof.Machine.execLossOfSignal l s
  | .clockLockLoss l => Sys2Proof.Machine.execClockLockLoss l s
  | .seekTimeout l => Sys2Proof.Machine.execSeekTimeout l s
  | .backoffEnd l => Sys2Proof.Machine.execBackoffEnd l s
  | .acquireTimeout l => Sys2Proof.Machine.execAcquireTimeout l s
  | .meritUpdate l merit eq => Sys2Proof.Machine.execMeritUpdate l merit eq s
  | .laneUp l => Sys2Proof.Machine.execLaneUp l s
  | .portUp p rx tx => Sys2Proof.Machine.execPortUp p rx tx s
  | .aligningExpired p => Sys2Proof.Machine.execAligningExpired p s
  | .fecUncorrected p n corr => Sys2Proof.Machine.execFecUncorrected p n corr s
  | .amLockLoss p => Sys2Proof.Machine.execAmLockLoss p s
  | .failover ns => Sys2Proof.Machine.execFailover ns s
  | .revertHoldExpired => Sys2Proof.Machine.execRevertHoldExpired s
  | .failback => Sys2Proof.Machine.execFailback s
  | .failbackCmd => Sys2Proof.Machine.execFailbackCmd s
  | .reseek p => Sys2Proof.Machine.execReseek p s
  | .linkRestWrite v => Sys2Proof.Machine.execLinkRestWrite v s
  | .txeqWrite org l v => Sys2Proof.Machine.execTxeqWrite org l v s
  | .sectionsMessage f => Sys2Proof.Machine.execSectionsMessage f s
  | .uplinkPlan f => Sys2Proof.Machine.execUplinkPlan f s
  | .weightUpdate f => Sys2Proof.Machine.execWeightUpdate f s
  | .ulSectionsSend c frame slot sym rx => Sys2Proof.Machine.execUlSectionsSend c frame slot sym rx s
  | .ulOverrun f => Sys2Proof.Machine.execUlOverrun f s
  | .echoRequest f turn => Sys2Proof.Machine.execEchoRequest f turn s
  | .timeReport => Sys2Proof.Machine.execTimeReport s
  | .mgmtRead f waiting => Sys2Proof.Machine.execMgmtRead f waiting s
  | .mgmtWrite f waiting => Sys2Proof.Machine.execMgmtWrite f waiting s
  | .heartbeat => Sys2Proof.Machine.execHeartbeat s
  | .peerHeartbeat f => Sys2Proof.Machine.execPeerHeartbeat f s
  | .peerSilent => Sys2Proof.Machine.execPeerSilent s
  | .capabilityOffer f => Sys2Proof.Machine.execCapabilityOffer f s
  | .capsOfferResend => Sys2Proof.Machine.execCapsOfferResend s
  | .capsChanged => Sys2Proof.Machine.execCapsChanged s
  | .offer => Sys2Proof.Machine.execOffer s
  | .fetchDone table images busErr conv => Sys2Proof.Machine.execFetchDone table images busErr conv s
  | .activationDone ok conv => Sys2Proof.Machine.execActivationDone ok conv s
  | .romDone lost => Sys2Proof.Machine.execRomDone lost s
  | .storeDone present => Sys2Proof.Machine.execStoreDone present s
  | .pllSwitch khz => Sys2Proof.Machine.execPllSwitch khz s
  | .stageOpen org => Sys2Proof.Machine.execStageOpen org s
  | .stageWrite org off v => Sys2Proof.Machine.execStageWrite org off v s
  | .stageClose org => Sys2Proof.Machine.execStageClose org s
  | .stageCommitDone ok => Sys2Proof.Machine.execStageCommitDone ok s
  | .stageAbort org => Sys2Proof.Machine.execStageAbort org s
  | .stageClear org => Sys2Proof.Machine.execStageClear org s
  | .stageStatus => Sys2Proof.Machine.execStageStatus s
  | .stageTimeout => Sys2Proof.Machine.execStageTimeout s
  | .progSlot slot => Sys2Proof.Machine.execProgSlot slot s
  | .revoke slot => Sys2Proof.Machine.execRevoke slot s
  | .otpDone words => Sys2Proof.Machine.execOtpDone words s
  | .attestPrepare good => Sys2Proof.Machine.execAttestPrepare good s
  | .attest => Sys2Proof.Machine.execAttest s
  | .reportDone => Sys2Proof.Machine.execReportDone s
  | .scrubRead w err => Sys2Proof.Machine.execScrubRead w err s
  | .scrubLapEnd => Sys2Proof.Machine.execScrubLapEnd s
  | .writeBack => Sys2Proof.Machine.execWriteBack s
  | .mergeRetire => Sys2Proof.Machine.execMergeRetire s
  | .firmwareMemErr a => Sys2Proof.Machine.execFirmwareMemErr a s
  | .spareRecordWrite => Sys2Proof.Machine.execSpareRecordWrite s
  | .injectArm => Sys2Proof.Machine.execInjectArm s
  | .channelStart org n => Sys2Proof.Machine.execChannelStart org n s
  | .channelStop org n => Sys2Proof.Machine.execChannelStop org n s
  | .clearHalt => Sys2Proof.Machine.execClearHalt s
  | .descriptorFetch n ok host => Sys2Proof.Machine.execDescriptorFetch n ok host s
  | .dmaBurst n ok host => Sys2Proof.Machine.execDmaBurst n ok host s
  | .descriptorDone n => Sys2Proof.Machine.execDescriptorDone n s
  | .requestEdge line => Sys2Proof.Machine.execRequestEdge line s
  | .dmaHalt space write cause addr => Sys2Proof.Machine.execDmaHalt space write cause addr s
  | .hkConversion raw => Sys2Proof.Machine.execHkConversion raw s
  | .urgentRequest ch => Sys2Proof.Machine.execUrgentRequest ch s
  | .urgentConversion raw => Sys2Proof.Machine.execUrgentConversion raw s
  | .hkCalZero g => Sys2Proof.Machine.execHkCalZero g s
  | .hkCalFull g fs => Sys2Proof.Machine.execHkCalFull g fs s
  | .hkCalMeasureDone => Sys2Proof.Machine.execHkCalMeasureDone s
  | .hkCalCompute g => Sys2Proof.Machine.execHkCalCompute g s
  | .hkCalAbort g => Sys2Proof.Machine.execHkCalAbort g s
  | .housekeepingRound deckGap => Sys2Proof.Machine.execHousekeepingRound deckGap s
  | .throttleStepEffect => Sys2Proof.Machine.execThrottleStepEffect s
  | .shutdownRampEnd => Sys2Proof.Machine.execShutdownRampEnd s
  | .fixedTrip dies => Sys2Proof.Machine.execFixedTrip dies s
  | .tripRelease dies => Sys2Proof.Machine.execTripRelease dies s
  | .tripHoldEnd => Sys2Proof.Machine.execTripHoldEnd s
  | .readmit idx => Sys2Proof.Machine.execReadmit idx s
  | .stayUpdate => Sys2Proof.Machine.execStayUpdate s
  | .anchOverride k v => Sys2Proof.Machine.execAnchOverride k v s
  | .stayClear => Sys2Proof.Machine.execStayClear s
  | .stayClearRelease => Sys2Proof.Machine.execStayClearRelease s
  | .staySupplyLost => Sys2Proof.Machine.execStaySupplyLost s
  | .staySupplyReturn => Sys2Proof.Machine.execStaySupplyReturn s
  | .checkStart org u alive => Sys2Proof.Machine.execCheckStart org u alive s
  | .checkDone u => Sys2Proof.Machine.execCheckDone u s
  | .enterActive => Sys2Proof.Machine.execEnterActive s
  | .enterReady => Sys2Proof.Machine.execEnterReady s
  | .enterRest => Sys2Proof.Machine.execEnterRest s
  | .enterDormant => Sys2Proof.Machine.execEnterDormant s
  | .enterOff => Sys2Proof.Machine.execEnterOff s
  | .entryCommitPoint => Sys2Proof.Machine.execEntryCommitPoint s
  | .entryComplete => Sys2Proof.Machine.execEntryComplete s
  | .startingEntryComplete => Sys2Proof.Machine.execStartingEntryComplete s
  | .wakePin => Sys2Proof.Machine.execWakePin s
  | .wakeTimer => Sys2Proof.Machine.execWakeTimer s
  | .wakePowerUp => Sys2Proof.Machine.execWakePowerUp s
  | .sleepSourceChanged => Sys2Proof.Machine.execSleepSourceChanged s
  | .avsSample margin measured fail => Sys2Proof.Machine.execAvsSample margin measured fail s
  | .avsTargetWrite org v measured fail => Sys2Proof.Machine.execAvsTargetWrite org v measured fail s
  | .ledgerRecordForm => Sys2Proof.Machine.execLedgerRecordForm s
  | .gapRecord => Sys2Proof.Machine.execGapRecord s
  | .excursionInterval => Sys2Proof.Machine.execExcursionInterval s
  | .archiveBlock => Sys2Proof.Machine.execArchiveBlock s
  | .archiveBlockDone ok => Sys2Proof.Machine.execArchiveBlockDone ok s
  | .archiveRetry => Sys2Proof.Machine.execArchiveRetry s
  | .flush => Sys2Proof.Machine.execFlush s
  | .archiveRead sector => Sys2Proof.Machine.execArchiveRead sector s
  | .archiveReadDone ok => Sys2Proof.Machine.execArchiveReadDone ok s
  | .wrSeqRead => Sys2Proof.Machine.execWrSeqRead s
  | .eventClear w v => Sys2Proof.Machine.execEventClear w v s
  | .msixUnmask cfg => Sys2Proof.Machine.execMsixUnmask cfg s
  | .deviceReset v => Sys2Proof.Machine.execDeviceReset v s
  | .functionLevelReset => Sys2Proof.Machine.execFunctionLevelReset s
  | .hostLinkDown => Sys2Proof.Machine.execHostLinkDown s
  | .status => Sys2Proof.Machine.execStatus s
  | .writeReqSingle frame => Sys2Proof.Machine.execWriteReqSingle frame s
  | .writeReqQuad frame => Sys2Proof.Machine.execWriteReqQuad frame s
  | .readRespSingle => Sys2Proof.Machine.execReadRespSingle s
  | .readRespQuad => Sys2Proof.Machine.execReadRespQuad s
  | .getStatus => Sys2Proof.Machine.execGetStatus s
  | .ledgerRing => Sys2Proof.Machine.execLedgerRing s
  | .ledgerArchive ok => Sys2Proof.Machine.execLedgerArchive ok s
  | .powerOn => Sys2Proof.Machine.execPowerOn s
  | .vaonLoss => Sys2Proof.Machine.execVaonLoss s
  | .resetN => Sys2Proof.Machine.execResetN s
  | .resetRelease => Sys2Proof.Machine.execResetRelease s
  | .pwrOkFall => Sys2Proof.Machine.execPwrOkFall s
  | .xtalStart => Sys2Proof.Machine.execXtalStart s
  | .bypass => Sys2Proof.Machine.execBypass s
  | .samplePreload => Sys2Proof.Machine.execSamplePreload s
  | .extest => Sys2Proof.Machine.execExtest s
  | .extestPulse => Sys2Proof.Machine.execExtestPulse s
  | .extestTrain => Sys2Proof.Machine.execExtestTrain s
  | .hostWindowRead off width err => Sys2Proof.Machine.execHostWindowRead off width err s
  | .pwrOkRise => Sys2Proof.Machine.execPwrOkRise s
  | .crystalFailure => Sys2Proof.Machine.execCrystalFailure s
  | .testLogicReset => Sys2Proof.Machine.execTestLogicReset s

end Sys2Proof.Machine
end

