-- ==== Sys2Proof/Machine/Step.lean ====
section
/-!
DEFINITION. One step of the block: the command at the front of the queue, or an air tick of the idling block (log entry 2).
-/
namespace Sys2Proof.Machine

/-- The idling block: management that waited goes on, a frame leaves each UP port that can take it, samples pass the chains for an air
tick, and the tick passes (DESIGN CHOICE, log entry 2). -/
def idle (s : State) : State := s.act fun b => b |> mgmtResume |> onDev fun d => d |> drainPorts |> sampleUpTo (d.now + 1) |> passTicks 1

/-- One step. -/
def step (s : State) : Host.Outcome State Fault Refusal :=
  match s.pending with
  | [] => .next (idle s)
  | c :: rest => exec c { s with pending := rest }

/-- The state with the command that a word spells at the front of its queue. -/
def State.withFetchWord (s : State) (nbits w : Nat) : State :=
  match decodeTableWord nbits w with
  | some c => { s with pending := c :: s.pending }
  | none => s

end Sys2Proof.Machine
end

