-- ==== Sys2Proof/Safety.lean ====
section
/-!
DEFINITION. What statements about the block speak of: the condition of the device, what a command's answer holds, which register
fields it sets, which parts of the state it leaves, and the invariant of every step.
-/
namespace Sys2Proof

/-- The device of a state. -/
abbrev Machine.State.d (s : Machine.State) : Machine.Dev := s.blk.dev

/-- The deck is powered and out of reset. -/
abbrev Up (s : Machine.State) : Prop := s.d.deckUp = true

/-- Firmware runs on a deck that is up. -/
abbrev Running (s : Machine.State) : Prop := s.d.deckUp = true ∧ s.d.running = true

/-- The command answers a next state, of which P holds. -/
def Does (c : Instr) (s : Machine.State) (P : Machine.State → Prop) : Prop := ∃ t, Machine.exec c s = .next t ∧ P t

/-- The command's next state is s with its device changed by g, and nothing else changed. -/
def DoesDev (c : Instr) (s : Machine.State) (g : Machine.Dev → Machine.Dev) : Prop := Machine.exec c s = .next (s.actDev g)

/-- Of the register fields, those named hold the values named, and every other is unchanged. -/
def Sets (l : List (Machine.Fld × Nat)) (s t : Machine.State) : Prop :=
  (∀ p ∈ l, t.d.f p.1 = p.2) ∧ ∀ x : Machine.Fld, (∀ p ∈ l, x.key ≠ p.1.key) → t.d.f x = s.d.f x

/-- The same, but for the registers that events touch. -/
def SetsEv (l : List (Machine.Fld × Nat)) (s t : Machine.State) : Prop :=
  (∀ p ∈ l, t.d.f p.1 = p.2) ∧ ∀ x : Machine.Fld, Machine.evFree x → (∀ p ∈ l, x.key ≠ p.1.key) → t.d.f x = s.d.f x

/-- Event e is pending. -/
abbrev Raised (e : Nat) (t : Machine.State) : Prop := t.d.evPending e = true

/-- The n code words from address a of deck SRAM hold no error that their next read would meet. -/
abbrev Clean (s : Machine.State) (a n : Nat) : Prop :=
  ∀ i < n, s.blk.mem.poisoned (a + 8 * i) = false ∧ s.blk.mem.flipped (a + 8 * i) = 0

/-- Both components of a sample are native 16-bit words (R167). -/
abbrev Native (v : Int × Int) : Prop := -32768 ≤ v.1 ∧ v.1 ≤ 32767 ∧ -32768 ≤ v.2 ∧ v.2 ≤ 32767

/-- Both components lie within an accumulator's limits (R197). -/
abbrev InAcc (v : Int × Int) : Prop := Machine.accMin ≤ v.1 ∧ v.1 ≤ Machine.accMax ∧ Machine.accMin ≤ v.2 ∧ v.2 ≤ Machine.accMax

/-- Entry i of the timetable is armed for an action, has not repeated or moved, and nothing else falls due with it first. -/
abbrev EntryDue (s : Machine.State) (i code : Nat) : Prop :=
  (s.d.ttE i).armed = true ∧ (s.d.ttE i).action = code ∧ (s.d.ttE i).status = 1 ∧ (s.d.ttE i).rep = 0 ∧
    (s.d.ttE i).due = (s.d.ttE i).req ∧ 0 ≤ (s.d.ttE i).due ∧ s.d.span.freeze = none ∧ s.d.deferred = [] ∧
    s.d.ttTurn i = true ∧ ∀ x ∈ s.d.tt, x.2.action = 7 → x.1 ≠ i → x.2.armed = false

/-- Entry i ended at its air time, DONE or FAILED. -/
abbrev EntryDone (ok : Bool) (i : Nat) (s t : Machine.State) : Prop :=
  t.d.ttE i = { s.d.ttE i with armed := false, status := if ok then 2 else 6, fireCount := ((s.d.ttE i).fireCount + 1) % 4096 } ∧
    t.d.now = max s.d.now (s.d.ttE i).due.toNat

/-- The parts of the state. -/
inductive Part where
  | regs | now | draws | t | tt | ev | ldg | host | seals | span | bays | chains | gainStored | inForce | deferred | obs | dpd | basis | mp | gir | dma | link | xk | otp | key | cal | hk | ps | el | svc | tr | sig
  | sram | poison | flips | store | pending
deriving DecidableEq, Repr

/-- A part is the same in two states. -/
def Part.same (s t : Machine.State) : Part → Prop
  | .regs => t.blk.dev.regs = s.blk.dev.regs
  | .now => t.blk.dev.now = s.blk.dev.now
  | .draws => t.blk.dev.draws = s.blk.dev.draws
  | .t => t.blk.dev.t = s.blk.dev.t
  | .tt => t.blk.dev.tt = s.blk.dev.tt
  | .ev => t.blk.dev.ev = s.blk.dev.ev
  | .ldg => t.blk.dev.ldg = s.blk.dev.ldg
  | .host => t.blk.dev.host = s.blk.dev.host
  | .seals => t.blk.dev.seals = s.blk.dev.seals
  | .span => t.blk.dev.span = s.blk.dev.span
  | .bays => t.blk.dev.bays = s.blk.dev.bays
  | .chains => t.blk.dev.chains = s.blk.dev.chains
  | .gainStored => t.blk.dev.gainStored = s.blk.dev.gainStored
  | .inForce => t.blk.dev.inForce = s.blk.dev.inForce
  | .deferred => t.blk.dev.deferred = s.blk.dev.deferred
  | .obs => t.blk.dev.obs = s.blk.dev.obs
  | .dpd => t.blk.dev.dpd = s.blk.dev.dpd
  | .basis => t.blk.dev.basis = s.blk.dev.basis
  | .mp => t.blk.dev.mp = s.blk.dev.mp
  | .gir => t.blk.dev.gir = s.blk.dev.gir
  | .dma => t.blk.dev.dma = s.blk.dev.dma
  | .link => t.blk.dev.link = s.blk.dev.link
  | .xk => t.blk.dev.xk = s.blk.dev.xk
  | .otp => t.blk.dev.otp = s.blk.dev.otp
  | .key => t.blk.dev.key = s.blk.dev.key
  | .cal => t.blk.dev.cal = s.blk.dev.cal
  | .hk => t.blk.dev.hk = s.blk.dev.hk
  | .ps => t.blk.dev.ps = s.blk.dev.ps
  | .el => t.blk.dev.el = s.blk.dev.el
  | .svc => t.blk.dev.svc = s.blk.dev.svc
  | .tr => t.blk.dev.tr = s.blk.dev.tr
  | .sig => t.blk.dev.sig = s.blk.dev.sig
  | .sram => t.blk.mem.sram = s.blk.mem.sram
  | .poison => t.blk.mem.poison = s.blk.mem.poison
  | .flips => t.blk.mem.flips = s.blk.mem.flips
  | .store => t.blk.mem.store = s.blk.mem.store
  | .pending => t.pending = s.pending

/-- Two states differ in the parts named alone. -/
def Only (l : List Part) (s t : Machine.State) : Prop := ∀ p : Part, p ∉ l → p.same s t

/-- An operation of engine e takes effect, no loaded register is awaited, and where it ends its bundle that bundle leaves nothing else to
its end. -/
abbrev Issues (s : Machine.State) (e : Nat) (o : TBun) : Prop :=
  s.d.acts e o.stg = true ∧ (s.d.eng e).ready = [] ∧
    (o.last = true → (s.d.eng e).ags = [] ∧ (s.d.eng e).loads = [] ∧ (s.d.eng e).trap = false)

/-- An engine after an operation that leaves nothing to the end of its bundle. -/
def closed (o : TBun) (x : Machine.EngSt) : Machine.EngSt := if o.last then { x.nextBundle with ags := [], trap := false } else x

/-! ### Frames -/

/-- The block of a register field: its MiB of BAR0; 48 holds the pier windows. -/
def blockOf (x : Machine.Fld) : Nat := min (x.key / 32 / 0x100000) 48

/-- Every register outside the blocks named is unchanged. -/
def RegsIn (blocks : List Nat) (s t : Machine.State) : Prop := ∀ x : Machine.Fld, blockOf x ∉ blocks → t.d.f x = s.d.f x

/-- What a command may change: parts of the state, and the blocks of its registers. The frames are set out in six families: 1 time and
ledger, 2 span map, bays and girders, 3 link and ports, 4 jobs and engines, 5 keystone, memories and calibration, 6 housekeeping and
power. -/
structure Frame where
  family : Nat
  parts : List Part
  blocks : List Nat

/-- What raising an event touches. -/
abbrev evs : List Part := [.regs, .ev, .host]

/-- What reading a code word of deck SRAM with errors touches. -/
abbrev eccs : List Part := [.mp, .poison, .flips, .gir]

/-- Every part but the queue. -/
abbrev everyPart : List Part :=
  [.regs, .now, .draws, .t, .tt, .ev, .ldg, .host, .seals, .span, .bays, .chains, .gainStored, .inForce, .deferred, .obs, .dpd, .basis,
    .mp, .gir, .dma, .link, .xk, .otp, .key, .cal, .hk, .ps, .el, .svc, .tr, .sig, .sram, .poison, .flips, .store]

/-- Every block of registers. -/
abbrev everyBlock : List Nat := List.range 49

/-- The frame of each command. A register write of any origin, what performs one later, and a reset may reach every block. -/
def Instr.frame : Instr → Frame
  | .registerWrite _ _ _ _ | .snapshot _ | .ledgerRecordForm => ⟨1, everyPart, everyBlock⟩
  | .adaptModeWrite _ _ => ⟨1, evs ++ [.ldg, .seals, .dpd], [0, 2, 8, 48]⟩
  | .crossingTransfer _ _ _ => ⟨1, evs ++ [.sig], [0, 8, 48]⟩
  | .tlNtRead => ⟨1, [.regs, .host], [1]⟩
  | .ptpMessage _ => ⟨1, evs ++ [.t, .tt, .ldg, .bays, .deferred, .xk], [0, 1, 3, 5, 8, 48]⟩
  | .ppsEdge _ => ⟨1, evs ++ [.t, .tt, .ldg, .bays, .deferred, .xk], [0, 1, 3, 8, 48]⟩
  | .ppsLost => ⟨1, evs ++ [.now, .t], [0, 8]⟩
  | .ppsOut | .rateApply | .alignFrameSend => ⟨1, [.now, .t], []⟩
  | .lossTimeout => ⟨1, evs ++ [.now, .t, .ldg, .xk], [0, 1, 8, 48]⟩
  | .errEstRecompute | .alignFrameMissed => ⟨1, evs ++ [.t, .xk], [0, 1, 8, 48]⟩
  | .timeMute _ => ⟨1, [.regs, .now, .t, .ldg, .bays, .obs, .cal], [2, 48]⟩
  | .rateCommit _ _ => ⟨1, evs ++ [.t, .ldg, .seals], [0, 1, 8]⟩
  | .frameOffsetWrite _ _ => ⟨1, evs ++ [.ldg, .seals], [0, 1, 8]⟩
  | .restep => ⟨1, evs ++ [.t, .ldg, .seals, .xk], [0, 1, 3, 8, 48]⟩
  | .align => ⟨1, evs ++ [.t, .ldg], [0, 1, 8]⟩
  | .cancelAll => ⟨1, evs ++ [.tt, .ldg], [0, 1, 8]⟩
  | .alignFrameReceived _ _ => ⟨1, evs ++ [.now, .t, .tt, .ldg, .bays, .deferred, .xk], [0, 1, 3, 8, 48]⟩
  | .ledgerEpochWrap => ⟨1, [.regs, .now, .t], [3]⟩
  | .ttEntryWrite _ _ _ _ | .ttArm _ _ _ _ | .ttCancel _ _ => ⟨1, evs ++ [.tt, .ldg, .cal], [0, 1, 8, 48]⟩
  | .feState _ | .calRun _ => ⟨1, evs ++ eccs ++ [.now, .t, .tt, .ldg, .span, .bays, .chains, .gainStored, .inForce, .deferred, .obs, .dpd, .cal, .sig], [0, 2, 6, 8, 11, 12, 48]⟩
  | .beamSwitch _ | .dpdApply _ | .gainSet _ | .respSwap _ | .sync _ | .commit _ | .capture _ | .notify _
      => ⟨1, evs ++ eccs ++ [.now, .t, .tt, .span, .bays, .chains, .gainStored, .inForce, .deferred, .obs, .dpd, .sig], [0, 2, 6, 8, 11, 12, 48]⟩
  | .trussJob _ => ⟨1, evs ++ eccs ++ [.now, .t, .tt, .span, .bays, .chains, .gainStored, .inForce, .deferred, .obs, .dpd, .tr, .sig], [0, 2, 6, 8, 10, 11, 12, 48]⟩
  | .dmaStart _ => ⟨1, evs ++ eccs ++ [.now, .t, .tt, .span, .bays, .chains, .gainStored, .inForce, .deferred, .obs, .dpd, .dma, .sig], [0, 2, 6, 7, 8, 11, 12, 48]⟩
  | .gapRecord => ⟨1, evs ++ [.ldg, .mp, .sram, .poison, .flips], [0, 3, 6, 8]⟩
  | .excursionInterval => ⟨1, [.now, .t, .ldg], []⟩
  | .archiveBlock | .archiveRetry => ⟨1, [.now, .t, .ldg, .store], []⟩
  | .archiveBlockDone _ => ⟨1, evs ++ eccs ++ [.ldg, .dma, .store], [0, 3, 6, 8, 11]⟩
  | .flush => ⟨1, evs ++ [.ldg, .store], [0, 3, 8]⟩
  | .archiveRead _ => ⟨1, evs ++ [.ldg], [0, 3, 8]⟩
  | .archiveReadDone _ => ⟨1, [.regs, .ldg], [3]⟩
  | .wrSeqRead => ⟨1, [.regs, .host], [3]⟩
  | .eventClear _ _ => ⟨1, evs ++ [.ldg], [0, 8]⟩
  | .msixUnmask _ => ⟨1, [.host], []⟩
  | .deviceReset _
      => ⟨1, evs ++ [.draws, .t, .tt, .ldg, .seals, .span, .bays, .chains, .gainStored, .inForce, .deferred, .obs, .dpd, .basis, .mp, .gir, .dma, .link, .xk, .otp, .key, .cal, .hk, .ps, .el, .svc, .tr, .sig], everyBlock⟩
  | .functionLevelReset | .hostLinkDown => ⟨1, evs ++ [.dma, .key], [0, 4, 7, 8]⟩
  | .form _ | .abort _ | .spanCmdCommit _ | .unform _ => ⟨2, evs ++ [.ldg, .span, .deferred], [0, 2, 8]⟩
  | .loadingDone => ⟨2, evs ++ eccs ++ [.span], [0, 2, 6, 8, 11]⟩
  | .checkingDone | .formMemErr => ⟨2, evs ++ [.span], [0, 2, 8]⟩
  | .shadowReady => ⟨2, evs, [0, 2, 8]⟩
  | .swapAck _ => ⟨2, [.span], []⟩
  | .commitRelease
      => ⟨2, evs ++ eccs ++ [.now, .t, .tt, .ldg, .seals, .span, .bays, .chains, .gainStored, .inForce, .deferred, .obs, .dpd, .dma, .link, .xk, .key, .cal, .hk, .ps, .tr, .sig, .sram, .store], everyBlock⟩
  | .unformRelease => ⟨2, evs ++ eccs ++ [.now, .t, .tt, .ldg, .seals, .span, .bays, .chains, .inForce, .obs, .dpd, .dma, .link, .xk, .cal, .hk, .tr, .sig, .sram], everyBlock⟩
  | .sealEpochRead => ⟨2, [.regs, .host, .seals], [0]⟩
  | .sealRecompute => ⟨2, [.regs, .seals], [0]⟩
  | .pierSealCheck _ _ => ⟨2, evs ++ [.bays, .obs], [0, 8, 48]⟩
  | .pierReloadDone _ _ => ⟨2, evs ++ [.span, .bays, .obs, .dpd], [0, 2, 8, 48]⟩
  | .hostlevelWrite _ _ => ⟨2, evs ++ [.ldg, .seals, .link, .xk], [0, 5, 8]⟩
  | .feRequest _ _ => ⟨2, evs ++ [.now, .t, .ldg, .seals, .bays, .obs, .cal, .sig], [0, 2, 8, 48]⟩
  | .feRequestEffect _ => ⟨2, evs ++ [.now, .t, .ldg, .bays, .obs, .cal, .sig], [0, 2, 8, 48]⟩
  | .transitionComplete _ => ⟨2, [.regs, .ldg, .bays, .obs, .cal], [48]⟩
  | .synthLock _ _ => ⟨2, [.regs, .bays], [48]⟩
  | .phaseAligned _ => ⟨2, [.regs, .now, .t, .ldg, .bays, .obs, .cal, .sig], [48]⟩
  | .turnaroundComplete _ => ⟨2, [.regs, .now, .t, .ldg, .bays, .gainStored, .inForce, .obs, .dpd, .cal], [48]⟩
  | .synthUnlock _ => ⟨2, evs ++ [.bays, .obs], [0, 2, 8, 48]⟩
  | .relockSearch _ => ⟨2, [.now, .t, .bays], []⟩
  | .synthFail _ => ⟨2, evs ++ [.now, .t, .bays], [0, 8, 48]⟩
  | .gainWrite _ _ _ | .hostShed _ _ _ | .faultShedClear _ _ _ => ⟨2, evs ++ [.now, .t, .ldg, .seals, .bays, .deferred, .obs, .cal, .sig], [0, 2, 8, 48]⟩
  | .deferredWriteEffect => ⟨2, evs ++ eccs ++ [.now, .t, .span, .bays, .chains, .gainStored, .inForce, .deferred, .obs, .dpd, .sig], [0, 2, 6, 8, 11, 12, 48]⟩
  | .rxOverload _ _ => ⟨2, evs, [0, 8, 48]⟩
  | .pathFault _ _ => ⟨2, [.regs, .bays, .obs], [48]⟩
  | .shedComplete _ _ => ⟨2, evs ++ [.bays, .hk], [0, 8]⟩
  | .renormalise _ => ⟨2, evs ++ eccs ++ [.now, .t], [0, 6, 8, 11]⟩
  | .pathRejoin _ _ => ⟨2, [.regs, .now, .t, .bays, .chains, .obs, .hk], [8, 48]⟩
  | .crossFadeEnd _ _ => ⟨2, [.regs, .now, .t, .chains], [48]⟩
  | .coefWrite _ _ _ _ _ => ⟨2, [.regs, .ldg, .host, .dpd], [48]⟩
  | .expand _ _ | .clearFb _ => ⟨2, evs ++ [.ldg, .deferred, .obs, .dpd], [0, 2, 8, 48]⟩
  | .expansionDone _ => ⟨2, evs ++ [.tt, .ldg, .obs, .dpd, .cal], [0, 1, 2, 8, 48]⟩
  | .captureWritten _ _ => ⟨2, [.regs, .now, .draws, .t, .chains, .obs, .dpd, .mp, .sig, .sram, .poison, .flips], [2, 6, 12, 48]⟩
  | .revert _ => ⟨2, evs ++ [.now, .t, .deferred, .obs, .dpd], [0, 2, 8, 48]⟩
  | .verifyTimeout _ => ⟨2, [.regs, .now, .t, .dpd], [2, 48]⟩
  | .obsFail _ => ⟨2, evs ++ [.now, .t, .dpd], [0, 8, 48]⟩
  | .codebookWrite _ _ _ _ => ⟨2, evs ++ eccs ++ [.ldg, .sram], [0, 6, 8, 11]⟩
  | .dynamicUpdate _ _ _ => ⟨2, eccs ++ [.regs, .ldg, .host, .sram], [0, 6, 11]⟩
  | .revalidate _ => ⟨2, evs ++ eccs ++ [.ldg], [0, 6, 8, 11]⟩
  | .dlPassStart _ _ _ _ => ⟨2, evs ++ eccs ++ [.now, .draws, .t, .xk, .sig, .sram], [0, 5, 6, 8, 11, 12]⟩
  | .layersChange _ => ⟨2, [.regs, .now, .t], [5, 11]⟩
  | .railWrite _ _ _ _ _ => ⟨2, [.regs, .ldg, .host], [48]⟩
  | .railLoadDone => ⟨2, [.regs, .gir], [48]⟩
  | .signalDetect _ => ⟨3, [.regs, .link], [5]⟩
  | .lossOfSignal _ | .clockLockLoss _ | .fecUncorrected _ _ _ | .amLockLoss _ => ⟨3, evs ++ [.t, .link], [0, 5, 8]⟩
  | .seekTimeout _ | .acquireTimeout _ | .laneUp _ | .aligningExpired _ | .failback => ⟨3, evs ++ [.now, .t, .link], [0, 5, 8]⟩
  | .backoffEnd _ => ⟨3, [.regs, .now, .t, .link], [5]⟩
  | .meritUpdate _ _ _ | .failbackCmd => ⟨3, evs ++ [.ldg, .link], [0, 5, 8]⟩
  | .portUp _ _ _ => ⟨3, evs ++ [.t, .link, .xk], [0, 1, 5, 8]⟩
  | .failover _ => ⟨3, evs ++ [.link], [0, 5, 8]⟩
  | .revertHoldExpired => ⟨3, [.now, .t, .link], []⟩
  | .reseek _ | .linkRestWrite _ => ⟨3, evs ++ [.t, .ldg, .link], [0, 5, 8]⟩
  | .txeqWrite _ _ _ => ⟨3, evs ++ [.ldg, .seals], [0, 5, 8]⟩
  | .sectionsMessage _ => ⟨3, evs ++ eccs ++ [.draws, .link, .xk, .sram], everyBlock⟩
  | .uplinkPlan _ | .peerHeartbeat _ | .capabilityOffer _ => ⟨3, evs ++ [.link, .xk], everyBlock⟩
  | .weightUpdate _ => ⟨3, evs ++ eccs ++ [.link, .xk, .sram], everyBlock⟩
  | .ulSectionsSend _ _ _ _ _ => ⟨3, evs ++ eccs ++ [.now, .draws, .t, .link, .xk, .sram], everyBlock⟩
  | .ulOverrun _ => ⟨3, evs ++ [.now, .t, .link], everyBlock⟩
  | .echoRequest _ _ => ⟨3, evs ++ [.now, .t, .link, .xk], everyBlock⟩
  | .timeReport => ⟨3, [.link, .xk], everyBlock⟩
  | .mgmtRead _ _ | .mgmtWrite _ _
      => ⟨3, evs ++ eccs ++ [.now, .draws, .t, .tt, .ldg, .seals, .span, .bays, .deferred, .obs, .dpd, .dma, .link, .xk, .key, .cal, .hk, .ps, .tr, .sig, .sram, .store], everyBlock⟩
  | .heartbeat => ⟨3, [.now, .t, .link, .xk], []⟩
  | .peerSilent => ⟨3, evs ++ [.now, .t], [0, 5, 8]⟩
  | .capsOfferResend => ⟨3, [.regs, .link, .xk], [5]⟩
  | .capsChanged => ⟨3, evs ++ [.now, .t, .xk], [0, 5, 8]⟩
  | .status | .writeReqSingle _ | .writeReqQuad _ | .readRespSingle | .readRespQuad => ⟨3, evs ++ [.svc], [0, 8]⟩
  | .getStatus | .ledgerArchive _ => ⟨3, [.svc], []⟩
  | .ledgerRing => ⟨3, evs ++ eccs ++ [.svc], [0, 6, 8, 11]⟩
  | .powerOn | .vaonLoss | .resetN | .pwrOkFall
      => ⟨3, evs ++ [.draws, .t, .tt, .ldg, .seals, .span, .bays, .chains, .gainStored, .inForce, .deferred, .obs, .dpd, .basis, .mp, .gir, .dma, .link, .xk, .otp, .key, .cal, .hk, .ps, .el, .svc, .tr, .sig], everyBlock⟩
  | .resetRelease | .pwrOkRise => ⟨3, [.regs, .draws, .t, .key, .hk, .el], [8]⟩
  | .xtalStart | .crystalFailure => ⟨3, [.regs], [1]⟩
  | .bypass | .samplePreload | .extest | .extestPulse | .extestTrain | .testLogicReset => ⟨3, [.el], []⟩
  | .hostDispatch _ _ | .reinstate _ => ⟨4, evs ++ [.ldg, .tr], [0, 8, 10]⟩
  | .firmwareDispatch _ _ => ⟨4, evs ++ [.tr], [0, 8, 10]⟩
  | .jobDescriptorWrite _ _ _ _ => ⟨4, [.regs, .ldg, .host, .tr], [10]⟩
  | .jobStart _ => ⟨4, evs ++ eccs ++ [.dpd, .cal, .tr], [0, 2, 6, 8, 10, 11, 48]⟩
  | .jobEnd _ _ _ => ⟨4, evs ++ [.draws, .ldg, .obs, .dpd, .cal, .tr], [0, 2, 8, 10, 48]⟩
  | .jobTimeout _ => ⟨4, evs ++ [.now, .t, .dpd, .cal, .tr], [0, 2, 8, 10, 48]⟩
  | .mac _ _ _ _ _ | .macc _ _ _ _ _ | .mack _ _ _ _ _ | .macz _ _ _ _ _ | .add _ _ _ _ _ | .sub _ _ _ _ _ | .mul _ _ _ _ _ | .conj _ _ _ _
  | .shr _ _ _ _ _ | .mag2 _ _ _ _ | .min _ _ _ _ _ | .max _ _ _ _ _ | .clracc _ _ _ | .norm _ _ _ _ | .exp _ _ _ _ | .bxd _ _ _ | .bxclr _ _
  | .ldx _ _ _ | .ldy _ _ _ | .ldk _ _ _ | .ldkb _ _ _ | .st16 _ _ _ _ _ | .st32 _ _ _ _ _ | .agset _ _ _ _ _ | .agadd _ _ _ _ | .loop _ _ _ _ _
  | .loopR _ _ _ _ _ | .loopm _ _ _ _ _ _ | .endl _ | .br _ _ _ | .call _ _ _ _ | .ret _ _ | .halt _ _ | .wrcoef _ _ _ _ _ _ | .waitp _ _
      => ⟨4, evs ++ [.draws, .dpd, .cal, .tr], [0, 2, 8, 10, 48]⟩
  | .get _ _ _ _ _ => ⟨4, evs ++ eccs ++ [.draws, .dpd, .cal, .tr], [0, 2, 6, 8, 10, 11, 48]⟩
  | .put _ _ _ _ _ | .wrdyn _ _ _ _ _ _ _ _ => ⟨4, evs ++ eccs ++ [.draws, .dpd, .cal, .tr, .sram], [0, 2, 6, 8, 10, 11, 48]⟩
  | .trussFault _ _ | .engineHang _ => ⟨4, evs ++ [.dpd, .cal, .tr], [0, 2, 8, 10, 48]⟩
  | .trussMigrated => ⟨4, evs ++ [.now, .t, .tr], [0, 8, 10]⟩
  | .reinstateDone _ _ => ⟨4, evs ++ eccs ++ [.draws, .tr], [0, 6, 8, 10, 11]⟩
  | .ucodeLoad _ _ _ => ⟨4, evs ++ eccs ++ [.tr], [0, 6, 8, 10, 11]⟩
  | .calRunEnd _ => ⟨5, [.regs, .now, .t, .ldg, .bays, .obs, .cal], [48]⟩
  | .calResult _ _ _ => ⟨5, evs ++ [.obs, .mp, .cal, .sram, .poison, .flips], [0, 2, 6, 8, 48]⟩
  | .correctionInForce _ => ⟨5, [.regs, .now, .t, .ldg, .cal], [48]⟩
  | .calApply _ _ _ => ⟨5, evs ++ [.ldg, .cal], [0, 8, 48]⟩
  | .calRetry _ _ => ⟨5, evs ++ [.now, .t, .tt, .ldg, .cal], [0, 1, 8, 48]⟩
  | .calRecordWrite _ => ⟨5, [.now, .t, .cal, .store], []⟩
  | .offer => ⟨5, evs ++ [.ldg], [0, 4, 8]⟩
  | .fetchDone _ _ _ _ => ⟨5, evs ++ [.draws, .t, .mp, .link, .otp, .key, .sram, .poison, .flips, .store], [0, 4, 5, 6, 8]⟩
  | .activationDone _ _ => ⟨5, evs ++ [.draws, .t, .ldg, .link, .otp, .key, .store], [0, 4, 5, 8]⟩
  | .romDone _ => ⟨5, evs ++ eccs ++ [.seals, .sram], [0, 4, 6, 8, 9, 11]⟩
  | .storeDone _ => ⟨5, evs ++ [.ldg, .mp, .key, .sram, .poison, .flips, .store], [0, 3, 4, 6, 8]⟩
  | .pllSwitch _ => ⟨5, [.regs], [4]⟩
  | .stageOpen _ | .stageAbort _ => ⟨5, evs ++ [.ldg, .key, .svc], [0, 4, 8]⟩
  | .stageWrite _ _ _ => ⟨5, [.regs, .ldg, .host, .key, .svc], [4]⟩
  | .stageClose _ | .stageCommitDone _ | .stageClear _ => ⟨5, evs ++ [.ldg, .key, .svc, .store], [0, 4, 8]⟩
  | .stageStatus => ⟨5, [.svc], []⟩
  | .stageTimeout => ⟨5, [.regs, .now, .t, .key], [4]⟩
  | .progSlot _ | .revoke _ | .attest => ⟨5, evs ++ [.ldg, .key], [0, 4, 8]⟩
  | .otpDone _ => ⟨5, evs ++ [.draws, .ldg, .otp, .key], [0, 4, 8]⟩
  | .attestPrepare _ => ⟨5, evs ++ [.draws, .ldg, .otp, .key, .store], [0, 4, 8]⟩
  | .reportDone => ⟨5, [.regs, .key], [4]⟩
  | .scrubRead _ _ => ⟨5, evs ++ eccs, [0, 6, 8, 11]⟩
  | .scrubLapEnd => ⟨5, evs ++ eccs ++ [.now, .t], [0, 6, 8, 11]⟩
  | .writeBack => ⟨5, [.mp, .flips], []⟩
  | .mergeRetire => ⟨5, evs ++ eccs ++ [.now, .t, .sram], [0, 6, 8, 11]⟩
  | .firmwareMemErr _ => ⟨5, evs ++ eccs ++ [.key], [0, 6, 8, 11]⟩
  | .spareRecordWrite => ⟨5, [.mp, .store], []⟩
  | .injectArm => ⟨5, evs ++ [.ldg, .seals], [0, 6, 8]⟩
  | .channelStart _ _ | .clearHalt => ⟨5, evs ++ [.ldg, .dma], [0, 7, 8]⟩
  | .channelStop _ _ => ⟨5, evs ++ [.ldg], [0, 7, 8]⟩
  | .descriptorFetch _ _ _ => ⟨5, evs ++ eccs ++ [.dma], [0, 6, 7, 8, 11]⟩
  | .dmaBurst _ _ _ | .descriptorDone _ => ⟨5, evs ++ eccs ++ [.dma, .sram], [0, 6, 7, 8, 11]⟩
  | .requestEdge _ => ⟨5, [.regs, .dma], [7]⟩
  | .dmaHalt _ _ _ _ => ⟨5, evs, [0, 7, 8]⟩
  | .hostWindowRead _ _ _ => ⟨5, evs ++ eccs ++ [.seals], [0, 1, 3, 6, 8, 11]⟩
  | .hkConversion _ => ⟨6, evs ++ [.bays, .obs, .key, .hk], everyBlock⟩
  | .urgentRequest _ | .hkCalZero _ | .hkCalFull _ _ | .hkCalAbort _ | .readmit _ => ⟨6, evs ++ [.ldg, .hk], [0, 8]⟩
  | .urgentConversion _ | .hkCalMeasureDone => ⟨6, [.regs, .hk], [8]⟩
  | .hkCalCompute _ => ⟨6, evs ++ [.ldg, .seals, .hk, .store], [0, 8]⟩
  | .housekeepingRound _ => ⟨6, evs ++ [.tt, .ldg, .key, .cal, .hk], [0, 1, 8, 9, 48]⟩
  | .throttleStepEffect => ⟨6, evs ++ eccs ++ [.now, .t, .bays, .obs, .dpd, .link, .hk], [0, 5, 6, 8, 11, 48]⟩
  | .shutdownRampEnd | .entryCommitPoint | .entryComplete => ⟨6, everyPart, everyBlock⟩
  | .fixedTrip _
      => ⟨6, evs ++ [.draws, .t, .tt, .ldg, .seals, .span, .bays, .chains, .gainStored, .inForce, .deferred, .obs, .dpd, .basis, .mp, .gir, .dma, .link, .xk, .otp, .key, .cal, .hk, .ps, .el, .svc, .tr, .sig], everyBlock⟩
  | .tripRelease _ => ⟨6, [.el], []⟩
  | .tripHoldEnd => ⟨6, [.regs, .now, .draws, .t, .key, .hk, .el], [8]⟩
  | .stayUpdate => ⟨6, [.regs, .draws, .hk], [8]⟩
  | .anchOverride _ _ => ⟨6, evs ++ [.ldg, .seals], [0, 8]⟩
  | .stayClear | .staySupplyLost => ⟨6, evs ++ [.draws, .hk, .el], [0, 8]⟩
  | .stayClearRelease | .staySupplyReturn => ⟨6, [.regs, .draws, .hk, .el], [8]⟩
  | .checkStart _ _ _ => ⟨6, evs ++ [.ldg, .seals, .hk], [0, 8]⟩
  | .checkDone _ => ⟨6, evs ++ eccs ++ [.hk], [0, 6, 8, 11]⟩
  | .enterActive | .enterReady | .enterRest | .enterDormant | .enterOff => ⟨6, evs ++ [.ldg, .bays, .obs, .dpd, .mp, .ps, .sram, .poison, .flips, .store], [0, 2, 3, 6, 8, 9, 48]⟩
  | .startingEntryComplete
      => ⟨6, evs ++ eccs ++ [.draws, .ldg, .bays, .chains, .inForce, .obs, .dpd, .basis, .key, .cal, .ps, .tr, .sig, .sram, .store], [0, 2, 3, 4, 6, 8, 9, 10, 11, 12, 48]⟩
  | .wakePin => ⟨6, evs ++ [.ps], [0, 8]⟩
  | .wakeTimer => ⟨6, [.now, .t, .ps, .el], []⟩
  | .wakePowerUp
      => ⟨6, evs ++ [.now, .draws, .t, .tt, .ldg, .seals, .span, .bays, .chains, .gainStored, .inForce, .deferred, .obs, .dpd, .basis, .mp, .gir, .dma, .link, .xk, .key, .cal, .hk, .ps, .svc, .tr, .sig], everyBlock⟩
  | .sleepSourceChanged => ⟨6, [.regs, .ps], [1]⟩
  | .avsSample _ _ _ => ⟨6, evs ++ [.ldg, .ps], [0, 8, 9]⟩
  | .avsTargetWrite _ _ _ _ => ⟨6, evs ++ [.ldg, .seals, .ps], [0, 8, 9]⟩

/-- Commands that the device takes in any condition: pins, supplies, clocks and the JTAG port. -/
def Instr.always : Instr → Bool
  | .fixedTrip _ | .tripRelease _ | .tripHoldEnd | .stayUpdate | .stayClear | .stayClearRelease | .staySupplyLost | .staySupplyReturn | .wakePin
  | .wakeTimer | .wakePowerUp | .sleepSourceChanged | .powerOn | .vaonLoss | .resetN | .resetRelease | .pwrOkFall | .xtalStart | .bypass
  | .samplePreload | .extest | .extestPulse | .extestTrain | .pwrOkRise | .crystalFailure | .testLogicReset => true
  | _ => false

/-- Commands that the deck takes before firmware runs. -/
def Instr.early : Instr → Bool
  | .registerWrite _ _ _ _ | .adaptModeWrite _ _ | .crossingTransfer _ _ _ | .tlNtRead | .rateCommit _ _ | .frameOffsetWrite _ _ | .restep | .align
  | .cancelAll | .ttEntryWrite _ _ _ _ | .ttArm _ _ _ _ | .ttCancel _ _ | .form _ | .abort _ | .spanCmdCommit _ | .unform _ | .sealEpochRead
  | .hostlevelWrite _ _ | .feRequest _ _ | .gainWrite _ _ _ | .hostShed _ _ _ | .faultShedClear _ _ _ | .coefWrite _ _ _ _ _ | .expand _ _
  | .clearFb _ | .codebookWrite _ _ _ _ | .dynamicUpdate _ _ _ | .revalidate _ | .railWrite _ _ _ _ _ | .hostDispatch _ _
  | .jobDescriptorWrite _ _ _ _ | .reinstate _ | .calApply _ _ _ | .failbackCmd | .reseek _ | .linkRestWrite _ | .txeqWrite _ _ _ | .offer
  | .fetchDone _ _ _ _ | .activationDone _ _ | .romDone _ | .storeDone _ | .stageOpen _ | .stageWrite _ _ _ | .stageClose _ | .stageCommitDone _
  | .stageAbort _ | .stageClear _ | .stageStatus | .stageTimeout | .progSlot _ | .revoke _ | .attest | .writeBack | .mergeRetire | .injectArm
  | .channelStart _ _ | .channelStop _ _ | .clearHalt | .hkConversion _ | .urgentRequest _ | .urgentConversion _ | .hkCalZero _ | .hkCalFull _ _
  | .hkCalMeasureDone | .hkCalCompute _ | .hkCalAbort _ | .housekeepingRound _ | .readmit _ | .anchOverride _ _ | .checkStart _ _ _ | .enterActive
  | .enterReady | .enterRest | .enterDormant | .enterOff | .avsTargetWrite _ _ _ _ | .ledgerRecordForm | .gapRecord | .flush | .archiveRead _
  | .wrSeqRead | .eventClear _ _ | .msixUnmask _ | .deviceReset _ | .functionLevelReset | .hostLinkDown | .status | .writeReqSingle _
  | .writeReqQuad _ | .readRespSingle | .readRespQuad | .getStatus | .ledgerRing | .ledgerArchive _ | .hostWindowRead _ _ _ => true
  | _ => false

/-- The engine that a microcode operation runs on. -/
def Instr.engineOf : Instr → Option Nat
  | .mac e _ _ _ _ | .macc e _ _ _ _ | .mack e _ _ _ _ | .macz e _ _ _ _ | .add e _ _ _ _ | .sub e _ _ _ _ | .mul e _ _ _ _ | .conj e _ _ _
  | .shr e _ _ _ _ | .mag2 e _ _ _ | .min e _ _ _ _ | .max e _ _ _ _ | .clracc e _ _ | .norm e _ _ _ | .exp e _ _ _ | .bxd e _ _ | .bxclr e _
  | .ldx e _ _ | .ldy e _ _ | .ldk e _ _ | .ldkb e _ _ | .st16 e _ _ _ _ | .st32 e _ _ _ _ | .agset e _ _ _ _ | .agadd e _ _ _ | .loop e _ _ _ _
  | .loopR e _ _ _ _ | .loopm e _ _ _ _ _ | .endl e | .br e _ _ | .call e _ _ _ | .ret e _ | .halt e _ | .get e _ _ _ _ | .put e _ _ _ _
  | .wrcoef e _ _ _ _ _ | .wrdyn e _ _ _ _ _ _ _ | .waitp e _ => some e
  | _ => none

/-- The invariant of every step: the four memories are canonical. -/
abbrev Safe (s : Machine.State) : Prop := s.blk.mem.wf = true

end Sys2Proof
end

