-- ==== Sys2Proof/WellFormed.lean ====
section
/-!
DEFINITION. Well-formed commands: every index names a unit that the spec gives the device (R3, R20, R25 and the tables).
-/
namespace Sys2Proof

/-- A bay. -/
def isBay (x : Nat) : Bool := decide (x < 8)

/-- A path. -/
def isPath (x : Nat) : Bool := decide (x < 64)

/-- A pier. -/
def isPier (x : Nat) : Bool := decide (x < 4)

/-- A die that acknowledges a swap (R80): piers 0 to 3, deck halves 4 and 5. -/
def isDie (x : Nat) : Bool := decide (x ≤ 5)

/-- A carrier. -/
def isCarrier (x : Nat) : Bool := decide (x < 6)

/-- A fronthaul port. -/
def isPort (x : Nat) : Bool := decide (x < 2)

/-- A lane. -/
def isLane (x : Nat) : Bool := decide (x < 4)

/-- A truss engine. -/
def isEngine (x : Nat) : Bool := decide (x < 16)

/-- A job descriptor. -/
def isDesc (x : Nat) : Bool := decide (x < 256)

/-- A word of a job descriptor. -/
def isDescWord (x : Nat) : Bool := decide (x < 16)

/-- A timetable entry. -/
def isEntry (x : Nat) : Bool := decide (x < 2048)

/-- A word of a timetable entry. -/
def isEntryWord (x : Nat) : Bool := decide (x < 4)

/-- A coefficient set or a weight buffer. -/
def isSet (x : Nat) : Bool := decide (x < 2)

/-- A coefficient word. -/
def isCoef (x : Nat) : Bool := decide (x < 128)

/-- A direction: 0 TX, 1 RX. -/
def isDir (x : Nat) : Bool := decide (x < 2)

/-- A codebook entry. -/
def isEntryCb (x : Nat) : Bool := decide (x < 4096)

/-- A word of a weight vector. -/
def isWeight (x : Nat) : Bool := decide (x < 64)

/-- A path of a pier. -/
def isRail (x : Nat) : Bool := decide (x < 16)

/-- A flow. -/
def isFlow (x : Nat) : Bool := decide (x < 320)

/-- A measured latency in 1/16 ns: 20 ns to 250 ns (R36). -/
def isLatency (x : Nat) : Bool := decide (x ≥ 320 ∧ x ≤ 4000)

/-- A dynamic identifier. -/
def isDyn (x : Nat) : Bool := decide (x < 1024)

/-- An accumulator. -/
def isAcc (x : Nat) : Bool := decide (x < 4)

/-- A vector register. -/
def isVec (x : Nat) : Bool := decide (x < 64)

/-- A scalar register. -/
def isScalar (x : Nat) : Bool := decide (x < 32)

/-- A store's shift. -/
def isShift (x : Nat) : Bool := decide (x ≤ 39)

/-- An address generator. -/
def isAg (x : Nat) : Bool := decide (x < 4)

/-- A key slot. -/
def isKeySlot (x : Nat) : Bool := decide (x < 4)

/-- A DMA channel. -/
def isChannel (x : Nat) : Bool := decide (x < 32)

/-- A request line. -/
def isLine (x : Nat) : Bool := decide (x < 34)

/-- A code word of deck SRAM. -/
def isSramWord (x : Nat) : Bool := decide (x < 8388608)

/-- A housekeeping channel. -/
def isHkChannel (x : Nat) : Bool := decide (x < 160)

/-- A calibration group. -/
def isGroup (x : Nat) : Bool := decide (x < 12)

/-- A sensor. -/
def isSensor (x : Nat) : Bool := decide (x < 56)

/-- An anchorage output. -/
def isAnch (x : Nat) : Bool := decide (x < 8)

/-- A check unit. -/
def isUnit (x : Nat) : Bool := decide (x < 4)

/-- A mask of dies. -/
def isDies (x : Nat) : Bool := decide (x < 32)

/-- An archive sector. -/
def isSector (x : Nat) : Bool := decide (x < 2048)

/-- A word of the pending bits. -/
def isPendWord (x : Nat) : Bool := decide (x < 5)

/-- The indexes of a source. -/
def TSrc.wf : TSrc → Bool
  | .v k => isVec k
  | .a k => isAcc k
  | .kBus => true
  | .kBroadcast => true

/-- The indexes of a destination. -/
def TDst.wf : TDst → Bool
  | .v k => isVec k
  | .a k => isAcc k

/-- Every index of a command names a unit. -/
def Instr.wf : Instr → Bool
  | .registerWrite _ _ _ _ => true
  | .adaptModeWrite _ _ => true
  | .crossingTransfer p _ _ => isPier p
  | .tlNtRead => true
  | .ptpMessage _ => true
  | .ppsEdge _ => true
  | .ppsLost => true
  | .ppsOut => true
  | .lossTimeout => true
  | .errEstRecompute => true
  | .timeMute b => isBay b
  | .rateCommit _ _ => true
  | .rateApply => true
  | .frameOffsetWrite _ _ => true
  | .restep => true
  | .align => true
  | .cancelAll => true
  | .alignFrameSend => true
  | .alignFrameReceived _ _ => true
  | .alignFrameMissed => true
  | .ledgerEpochWrap => true
  | .ttEntryWrite _ i w _ => isEntry i && isEntryWord w
  | .ttArm _ i _ _ => isEntry i
  | .ttCancel _ i => isEntry i
  | .feState i => isEntry i
  | .beamSwitch i => isEntry i
  | .dpdApply i => isEntry i
  | .gainSet i => isEntry i
  | .respSwap i => isEntry i
  | .sync i => isEntry i
  | .commit i => isEntry i
  | .calRun i => isEntry i
  | .capture i => isEntry i
  | .trussJob i => isEntry i
  | .dmaStart i => isEntry i
  | .notify i => isEntry i
  | .snapshot i => isEntry i
  | .form _ => true
  | .loadingDone => true
  | .checkingDone => true
  | .shadowReady => true
  | .formMemErr => true
  | .abort _ => true
  | .spanCmdCommit _ => true
  | .swapAck die => isDie die
  | .commitRelease => true
  | .unform _ => true
  | .unformRelease => true
  | .sealEpochRead => true
  | .sealRecompute => true
  | .pierSealCheck p _ => isPier p
  | .pierReloadDone p _ => isPier p
  | .hostlevelWrite _ _ => true
  | .feRequest b _ => isBay b
  | .feRequestEffect b => isBay b
  | .transitionComplete b => isBay b
  | .synthLock b _ => isBay b
  | .phaseAligned b => isBay b
  | .turnaroundComplete b => isBay b
  | .synthUnlock b => isBay b
  | .relockSearch b => isBay b
  | .synthFail b => isBay b
  | .gainWrite n _ _ => isPath n
  | .deferredWriteEffect => true
  | .rxOverload n _ => isPath n
  | .pathFault n _ => isPath n
  | .shedComplete n _ => isPath n
  | .renormalise c => isCarrier c
  | .hostShed b _ _ => isBay b
  | .faultShedClear b _ _ => isBay b
  | .pathRejoin n _ => isPath n
  | .crossFadeEnd n dir => isPath n && isDir dir
  | .coefWrite _ n set w _ => isPath n && isSet set && isCoef w
  | .expand n set => isPath n && isSet set
  | .expansionDone b => isBay b
  | .clearFb n => isPath n
  | .captureWritten b _ => isBay b
  | .revert n => isPath n
  | .verifyTimeout n => isPath n
  | .obsFail n => isPath n
  | .codebookWrite _ e j _ => isEntryCb e && isWeight j
  | .dynamicUpdate _ _ _ => true
  | .revalidate e => isEntryCb e
  | .dlPassStart c _ _ _ => isCarrier c
  | .layersChange c => isCarrier c
  | .railWrite _ p i set _ => isPier p && isRail i && isSet set
  | .railLoadDone => true
  | .hostDispatch eng desc => isEngine eng && isDesc desc
  | .firmwareDispatch eng desc => isEngine eng && isDesc desc
  | .jobDescriptorWrite _ j w _ => isDesc j && isDescWord w
  | .jobStart e => isEngine e
  | .jobEnd e _ _ => isEngine e
  | .jobTimeout e => isEngine e
  | .mac e acc x y _ => isEngine e && isAcc acc && x.wf && y.wf
  | .macc e acc x y _ => isEngine e && isAcc acc && x.wf && y.wf
  | .mack e acc x k _ => isEngine e && isAcc acc && x.wf && k.wf
  | .macz e acc x y _ => isEngine e && isAcc acc && x.wf && y.wf
  | .add e dst x y _ => isEngine e && dst.wf && x.wf && y.wf
  | .sub e dst x y _ => isEngine e && dst.wf && x.wf && y.wf
  | .mul e dst x y _ => isEngine e && dst.wf && x.wf && y.wf
  | .conj e dst x _ => isEngine e && dst.wf && x.wf
  | .shr e dst x sh _ => isEngine e && dst.wf && x.wf && isShift sh
  | .mag2 e dst x _ => isEngine e && dst.wf && x.wf
  | .min e dst x y _ => isEngine e && dst.wf && x.wf && y.wf
  | .max e dst x y _ => isEngine e && dst.wf && x.wf && y.wf
  | .clracc e acc _ => isEngine e && isAcc acc
  | .norm e acc k _ => isEngine e && isAcc acc && isVec k
  | .exp e sreg acc _ => isEngine e && isScalar sreg && isAcc acc
  | .bxd e sreg _ => isEngine e && isScalar sreg
  | .bxclr e _ => isEngine e
  | .ldx e k _ => isEngine e && isVec k
  | .ldy e k _ => isEngine e && isVec k
  | .ldk e k _ => isEngine e && isVec k
  | .ldkb e k _ => isEngine e && isVec k
  | .st16 e acc sh _ _ => isEngine e && isAcc acc && isShift sh
  | .st32 e acc sh _ _ => isEngine e && isAcc acc && isShift sh
  | .agset e g _ _ _ => isEngine e && isAg g
  | .agadd e g _ _ => isEngine e && isAg g
  | .loop e _ _ _ _ => isEngine e
  | .loopR e _ _ _ _ => isEngine e
  | .loopm e _ _ _ _ _ => isEngine e
  | .endl e => isEngine e
  | .br e _ _ => isEngine e
  | .call e _ _ _ => isEngine e
  | .ret e _ => isEngine e
  | .halt e _ => isEngine e
  | .get e _ _ _ _ => isEngine e
  | .put e _ _ _ _ => isEngine e
  | .wrcoef e n set w _ _ => isEngine e && isPath n && isSet set && isCoef w
  | .wrdyn e k carrier _ _ _ _ _ => isEngine e && isDyn k && isCarrier carrier
  | .waitp e _ => isEngine e
  | .trussFault e _ => isEngine e
  | .engineHang e => isEngine e
  | .trussMigrated => true
  | .reinstate e => isEngine e
  | .reinstateDone e _ => isEngine e
  | .ucodeLoad _ _ _ => true
  | .calRunEnd b => isBay b
  | .calResult b _ _ => isBay b
  | .correctionInForce b => isBay b
  | .calApply b _ _ => isBay b
  | .calRetry n _ => isPath n
  | .calRecordWrite b => isBay b
  | .signalDetect l => isLane l
  | .lossOfSignal l => isLane l
  | .clockLockLoss l => isLane l
  | .seekTimeout l => isLane l
  | .backoffEnd l => isLane l
  | .acquireTimeout l => isLane l
  | .meritUpdate l _ _ => isLane l
  | .laneUp l => isLane l
  | .portUp p rx tx => isPort p && isLatency rx && isLatency tx
  | .aligningExpired p => isPort p
  | .fecUncorrected p _ _ => isPort p
  | .amLockLoss p => isPort p
  | .failover _ => true
  | .revertHoldExpired => true
  | .failback => true
  | .failbackCmd => true
  | .reseek p => isPort p
  | .linkRestWrite _ => true
  | .txeqWrite _ l _ => isLane l
  | .sectionsMessage _ => true
  | .uplinkPlan _ => true
  | .weightUpdate _ => true
  | .ulSectionsSend c _ _ _ _ => isCarrier c
  | .ulOverrun f => isFlow f
  | .echoRequest _ _ => true
  | .timeReport => true
  | .mgmtRead _ _ => true
  | .mgmtWrite _ _ => true
  | .heartbeat => true
  | .peerHeartbeat _ => true
  | .peerSilent => true
  | .capabilityOffer _ => true
  | .capsOfferResend => true
  | .capsChanged => true
  | .offer => true
  | .fetchDone _ _ _ _ => true
  | .activationDone _ _ => true
  | .romDone _ => true
  | .storeDone _ => true
  | .pllSwitch _ => true
  | .stageOpen _ => true
  | .stageWrite _ _ _ => true
  | .stageClose _ => true
  | .stageCommitDone _ => true
  | .stageAbort _ => true
  | .stageClear _ => true
  | .stageStatus => true
  | .stageTimeout => true
  | .progSlot slot => isKeySlot slot
  | .revoke slot => isKeySlot slot
  | .otpDone _ => true
  | .attestPrepare _ => true
  | .attest => true
  | .reportDone => true
  | .scrubRead w _ => isSramWord w
  | .scrubLapEnd => true
  | .writeBack => true
  | .mergeRetire => true
  | .firmwareMemErr _ => true
  | .spareRecordWrite => true
  | .injectArm => true
  | .channelStart _ n => isChannel n
  | .channelStop _ n => isChannel n
  | .clearHalt => true
  | .descriptorFetch n _ _ => isChannel n
  | .dmaBurst n _ _ => isChannel n
  | .descriptorDone n => isChannel n
  | .requestEdge line => isLine line
  | .dmaHalt _ _ _ _ => true
  | .hkConversion _ => true
  | .urgentRequest ch => isHkChannel ch
  | .urgentConversion _ => true
  | .hkCalZero g => isGroup g
  | .hkCalFull g _ => isGroup g
  | .hkCalMeasureDone => true
  | .hkCalCompute g => isGroup g
  | .hkCalAbort g => isGroup g
  | .housekeepingRound _ => true
  | .throttleStepEffect => true
  | .shutdownRampEnd => true
  | .fixedTrip dies => isDies dies
  | .tripRelease dies => isDies dies
  | .tripHoldEnd => true
  | .readmit i => isSensor i
  | .stayUpdate => true
  | .anchOverride k _ => isAnch k
  | .stayClear => true
  | .stayClearRelease => true
  | .staySupplyLost => true
  | .staySupplyReturn => true
  | .checkStart _ u _ => isUnit u
  | .checkDone u => isUnit u
  | .enterActive => true
  | .enterReady => true
  | .enterRest => true
  | .enterDormant => true
  | .enterOff => true
  | .entryCommitPoint => true
  | .entryComplete => true
  | .startingEntryComplete => true
  | .wakePin => true
  | .wakeTimer => true
  | .wakePowerUp => true
  | .sleepSourceChanged => true
  | .avsSample _ _ fail => decide (fail < 4)
  | .avsTargetWrite _ _ _ fail => decide (fail < 4)
  | .ledgerRecordForm => true
  | .gapRecord => true
  | .excursionInterval => true
  | .archiveBlock => true
  | .archiveBlockDone _ => true
  | .archiveRetry => true
  | .flush => true
  | .archiveRead sector => isSector sector
  | .archiveReadDone _ => true
  | .wrSeqRead => true
  | .eventClear w _ => isPendWord w
  | .msixUnmask _ => true
  | .deviceReset _ => true
  | .functionLevelReset => true
  | .hostLinkDown => true
  | .status => true
  | .writeReqSingle _ => true
  | .writeReqQuad _ => true
  | .readRespSingle => true
  | .readRespQuad => true
  | .getStatus => true
  | .ledgerRing => true
  | .ledgerArchive _ => true
  | .powerOn => true
  | .vaonLoss => true
  | .resetN => true
  | .resetRelease => true
  | .pwrOkFall => true
  | .xtalStart => true
  | .bypass => true
  | .samplePreload => true
  | .extest => true
  | .extestPulse => true
  | .extestTrain => true
  | .hostWindowRead _ _ _ => true
  | .pwrOkRise => true
  | .crystalFailure => true
  | .testLogicReset => true

end Sys2Proof
end

