-- ==== Sys2Proof/Certificates/Slice0/Obligations.lean ====
section
/-!
DEFINITION. The statements for the provers: what the commands of each family do, what they leave alone, and what every step keeps.
-/
open Sys2Proof Sys2Proof.Machine

/-- A step with a command at the front of the queue is that command's effect on the state with the queue's rest. -/
def Obligations.FrontCommandRuns : Prop :=
  ∀ (s : State) (c : Instr) (q : List Instr), s.pending = c :: q → step s = exec c { s with pending := q }

/-- With no command waiting one air tick passes (the model's choice, log entry 2). -/
def Obligations.EmptyQueueLetsATickPass : Prop :=
  (∀ s : State, s.pending = [] → (s.d.xk.mgmt = [] ∨ (s.d.ldg.held.any fun w => w.org == .link) = true) → ∃ t, step s = .next t ∧ t.d.now = s.d.now + 1 ∧
    Only [.now, .t, .link, .sig, .regs, .ev, .host] s t ∧ RegsIn [0, 5, 12, 48] s t ∧
    ((∀ p, s.d.portUp p = true → s.d.txq p = []) → Only [.now, .t, .sig, .regs] s t ∧ RegsIn [12, 48] s t) ∧
    (s.d.sampling = false → RegsIn [0, 5] s t ∧ t.d.sig.lost = [] ∧ t.d.sig.dl = s.d.sig.dl) ∧
    (s.d.t.stopped = true → t.d.t = s.d.t) ∧ (s.d.t.stopped = false → t.d.t.ntU = s.d.t.ntU + 3125 ∧ t.d.t.tick = (s.d.t.tick + 1) % 9830400)) ∧
  (∀ (s : State) (q : MgmtReq) (rest : List MgmtReq), s.pending = [] → s.d.xk.mgmt = q :: rest → q.items = [] →
    (s.d.ldg.held.any fun w => w.org == .link) = false → ∃ t, step s = .next t ∧ t.d.now = s.d.now + 1 ∧ t.d.xk.mgmt = rest) ∧
  ∀ (s : State) (p : Nat) (x : TxFrame) (rest : List TxFrame), s.pending = [] → s.d.xk.mgmt = [] → p < 2 → s.d.portUp p = true → s.d.txq p = x :: rest →
    (s.d.expb (2 * p + 1)).till ≤ s.d.now → ∃ t, step s = .next t ∧ t.d.txq p = rest ∧
    (expbPasses (2 * p + 1) (frameSpan x.tci x.payload.length) s.d.now 128 = true → 6 ≤ x.payload.length →
      (t.d.expb (2 * p + 1)).frame = (if x.stamp then x.payload.take (x.payload.length - 6) ++ s.d.stamp else x.payload))

/-- The state after reset has canonical memories, no command waiting, and a deck that starts its boot. The model's choices: that the attached
store lists nothing (log entry 8), and that the deck is powered and out of reset (log entry 9). -/
def Obligations.ResetIsSafe : Prop :=
  Safe State.reset ∧ State.reset.blk.mem = {} ∧ State.reset.pending = [] ∧ State.reset.d.deckUp = true ∧ State.reset.d.stage = 0 ∧
    State.reset.d.pwr = 4 ∧ State.reset.d.on PWR_STAT_in_entry = true

/-- Every step from a state with canonical memories leads to one with canonical memories. -/
def Obligations.EveryStepKeepsTheMemoriesCanonical : Prop :=
  ∀ s t : State, Safe s → step s = .next t → Safe t

/-- Every command answers a next state in every state, and leaves the queue alone. That a command whose condition does not hold, and one that is
not well-formed, answers too is the model's choice (log entry 1). -/
def Obligations.EveryCommandAnswers : Prop :=
  ∀ (c : Instr) (s : State), Does c s fun t => t.pending = s.pending

/-- Without a powered deck out of reset, before RUNNING, and before an entry's turn at its air time, a command does nothing. That a command
without its condition does nothing is the model's choice of log entry 1, and the waiting for an entry's turn that of log entry 6. -/
def Obligations.CommandsWaitForTheirCondition : Prop :=
  ∀ (c : Instr) (s : State), c.always = false →
    (s.d.deckUp = false → exec c s = .next s) ∧ (s.d.running = false → c.early = false → exec c s = .next s) ∧
    ∀ i j : Nat, c ∈ [.feState i, .beamSwitch i, .dpdApply i, .gainSet i, .respSwap i, .sync i, .calRun i, .trussJob i, .dmaStart i,
        .notify i, .snapshot i] → j < i → (s.d.ttE j).armed = true → (s.d.ttE j).action ≠ 7 → (s.d.ttE j).due = (s.d.ttE i).due →
      s.d.span.freeze = none → exec c s = .next s

/-- After power-on, a pin reset and DECK_RESET the registers hold their reset column, live fields of the stay outputs apart. The model's
choices: the reset value 0 of live fields (log entry 3), what a low RESET_N keeps (log entry 17), and the anchorage reverts counted after a
reset (log entry 19). -/
def Obligations.ResetLeavesTheResetColumn : Prop :=
  ∀ s : State, 
    (s.d.key.otpOp = none → Does .powerOn s fun t => (∀ x : Fld, x.key / 32 ∉ [HK_STAY_DRV_LO_drv.off, HK_STAY_DRV_HI_drv.off, HK_STAY_STAT_clr_pin.off] → t.d.f x = x.rst % x.size)) ∧
    (s.d.key.otpOp = none → Does .resetN s fun t => ((∀ x : Fld, x.key / 32 ∉ [HK_STAY_DRV_LO_drv.off, HK_STAY_DRV_HI_drv.off, HK_STAY_STAT_clr_pin.off, HK_PAR_TRIP_dies.off, TL_SLEEP_xtal_ok.off] → (x.key / 32 < 0x110 ∨ 0x680 ≤ x.key / 32 ∨ ∀ k < 8, s.d.on (HK_ANCH_override k) = false) → t.d.f x = x.rst % x.size) ∧ ((∃ k < 8, s.d.on (HK_ANCH_override k) = true) → Raised 58 t) ∧ t.d.f HK_STAY_STAT_anch_reverts = ((List.range 8).filter fun k => s.d.on (HK_ANCH_override k)).length ∧ (∀ x ∈ [HK_PAR_TRIP_dies, HK_PAR_TRIP_tripped, TL_SLEEP_xtal_ok], t.d.f x = s.d.f x))) ∧
    (∀ (v : Word), s.d.hostWaits = false → s.d.deckUp = true ∧ s.d.running = true ∧ v.toNat % 2 = 1 ∧ bits v.toNat 15 8 = 0xC3 ∧ s.d.key.otpOp = none → Does (.deviceReset v) s fun t => ((∀ x : Fld, x.key / 32 ∉ [HK_STAY_DRV_LO_drv.off, HK_STAY_DRV_HI_drv.off, HK_STAY_STAT_clr_pin.off, HK_PAR_TRIP_dies.off, TL_SLEEP_xtal_ok.off] → (x.key / 32 < 0x110 ∨ 0x680 ≤ x.key / 32 ∨ ∀ k < 8, s.d.on (HK_ANCH_override k) = false) → t.d.f x = x.rst % x.size) ∧ ((∃ k < 8, s.d.on (HK_ANCH_override k) = true) → Raised 58 t) ∧ t.d.f HK_STAY_STAT_anch_reverts = ((List.range 8).filter fun k => s.d.on (HK_ANCH_override k)).length ∧ (∀ x ∈ [HK_PAR_TRIP_dies, HK_PAR_TRIP_tripped, TL_SLEEP_xtal_ok], t.d.f x = s.d.f x)))

/-- A write answers by the access rules: misaligned, unassigned, before RUNNING, and of origins that write no register. -/
def Obligations.WritesKeepTheAccessRules : Prop :=
  ∀ s : State, 
    (∀ (off width : Nat) (l : List Word), s.d.deckUp = true ∧ off < 0x1000000 ∧ ¬(width = 4 ∧ off % 4 = 0) → Does (.registerWrite .host off width l) s fun t => t = s.actDev (hostErr true off) ∧ t.d.host.resp = .unsupported ∧ Sets [(DECK_HOST_ERR_count, min (s.d.f DECK_HOST_ERR_count + 1) (DECK_HOST_ERR_count.size - 1)), (DECK_HOST_ERR_write, 1), (DECK_HOST_ERR_sticky, 1), (DECK_HOST_ERR_offset, off / 4)] s t) ∧
    (∀ (off : Nat) (v : Word), s.d.hostWaits = false → s.d.deckUp = true ∧ 0x1100140 ≤ off ∧ off < 0x2000000 → DoesDev (.registerWrite .host off 4 [v]) s (fun d => { d with host := { d.host with resp := .none } })) ∧
    (∀ (off : Nat) (v : Word), s.d.hostWaits = false → s.d.deckUp = true ∧ s.d.running = true ∧ off % 4 = 0 ∧ findBank off = none ∧ (0x10 < off ∧ off < 0x1000 ∨ 0x110000 ≤ off ∧ off < 0x200000 ∨ 0x500000 ≤ off ∧ off < 0x900000 ∨ 0xA08000 ≤ off ∧ off < 0x1000000) → DoesDev (.registerWrite .host off 4 [v]) s (fun d => { d with host := { d.host with resp := .none } })) ∧
    (∀ (off : Nat) (v : Word), s.d.deckUp = true ∧ s.d.running = false ∧ off % 4 = 0 ∧ off < 0x4000000 ∧ answersEarly off = false → DoesDev (.registerWrite .host off 4 [v]) s (fun d => { d with host := { d.host with resp := .none } })) ∧
    (∀ (off width : Nat) (l : List Word), Does (.registerWrite .service off width l) s fun t => t = s)

/-- Under a committed map a write leaves RWL fields as they are, with one E149 if it would change one, and writes the other fields. -/
def Obligations.LockedRegistersAreJudgedFieldByField : Prop :=
  ∀ s : State, 
    ∀ (org : Origin) (off : Nat) (v : Word) (r : RegDef), ((org = .host → s.d.hostWaits = false) ∧ (org = .firmware → s.d.key.fwStopped = false)) → (s.d.deckUp = true ∧ s.d.running = true ∧ (org = .host ∨ org = .firmware) ∧ s.d.formed = true ∧ s.d.ledgerHolds = false ∧ off ∈ [0x100040, 0x500000, 0xC00F00, 0xC00F04, 0xC00F08, 0xC00F0C, 0xC00F10, 0xC00F14] ∧ findBank off = some r ∧ (off = 0x100040 → v.toNat % 4 ≠ 3)) → Does (.registerWrite org off 4 [v]) s fun t => (∀ x ∈ r.fields, (x.acc = .rwl → t.d.f (x.at off) = s.d.f (x.at off)) ∧ (x.acc = .rwg → t.d.f (x.at off) = bits v.toNat x.hi x.lo)) ∧ (if (∃ x ∈ r.fields, x.acc = .rwl ∧ s.d.f (x.at off) ≠ bits v.toNat x.hi x.lo) then Raised 149 t ∧ t.d.f (DECK_EVT_CFG_count 149) = min (s.d.f (DECK_EVT_CFG_count 149) + 1) ((DECK_EVT_CFG_count 149).size - 1) else t.d.evPending 149 = s.d.evPending 149 ∧ t.d.f (DECK_EVT_CFG_count 149) = s.d.f (DECK_EVT_CFG_count 149)) ∧ ((off ≠ 0x100040 → t.d.ldg.queue.length = s.d.ldg.queue.length + 1))

/-- A cancel with at least 1,967 air ticks of lead ends an armed entry as CANCELLED; a later one is refused with E014. -/
def Obligations.CancelsKeepTheLead : Prop :=
  ∀ s : State, Running s →
    (∀ (org : Origin) (i : Nat), ((org = .host → s.d.hostWaits = false) ∧ (org = .firmware → s.d.key.fwStopped = false)) → (org = .host ∨ org = .firmware) ∧ i < 2048 ∧ (s.d.ttE i).isArmed = true ∧ (s.d.now : Int) + 1967 ≤ (s.d.ttE i).due → Does (.ttCancel org i) s fun t => (t.d.ttE i).status = 5 ∧ (t.d.ttE i).armed = false ∧ t.d.evPending 14 = s.d.evPending 14) ∧
    (∀ (org : Origin) (i : Nat), ((org = .host → s.d.hostWaits = false) ∧ (org = .firmware → s.d.key.fwStopped = false)) → (org = .host ∨ org = .firmware) ∧ i < 2048 ∧ (s.d.ttE i).isArmed = true ∧ (s.d.ttE i).due < (s.d.now : Int) + 1967 → Does (.ttCancel org i) s fun t => t.d.tt = s.d.tt ∧ t.d.on TL_STATUS_cancel_late = true ∧ Raised 14 t) ∧
    (s.d.hostWaits = false → Does .cancelAll s fun t => (∀ i, (s.d.ttE i).isArmed = true → ((s.d.now : Int) + 1967 ≤ (s.d.ttE i).due → (t.d.ttE i).status = 5 ∧ (t.d.ttE i).armed = false) ∧ ((s.d.ttE i).due < (s.d.now : Int) + 1967 → t.d.ttE i = s.d.ttE i ∧ t.d.on TL_STATUS_cancel_late = true ∧ Raised 14 t)))

/-- The service port takes one request at a time, discards one while busy, and returns each response once. -/
def Obligations.OneRequestAtATime : Prop :=
  ∀ s : State, Up s →
    (2 ≤ s.d.stage → Does .status s fun t => t.d.svc.sent.map (fun x => (x % 2 = 1, x / 2 % 2 = 1)) = [(s.d.svc.resp.isSome = true, s.d.svc.req.isSome = true)]) ∧
    (∀ (frame : List Nat), 2 ≤ s.d.stage ∧ s.d.svc.req.isSome = true ∧ (svcParse frame).isSome = true → DoesDev (.writeReqSingle frame) s (modSvc fun v => { v with err := true })) ∧
    (∀ (frame : List Nat), 2 ≤ s.d.stage ∧ svcParse frame = none → Does (.writeReqSingle frame) s fun t => t.d.svc = { s.d.svc with err := true } ∧ SetsEv [] s t ∧ Only [.regs, .ev, .host, .svc] s t) ∧
    (∀ (frame : List Nat), 2 ≤ s.d.stage ∧ s.d.svc.req.isSome = true ∧ (svcParse frame).isSome = true → DoesDev (.writeReqQuad frame) s (modSvc fun v => { v with err := true })) ∧
    (∀ (frame : List Nat), 2 ≤ s.d.stage ∧ svcParse frame = none → Does (.writeReqQuad frame) s fun t => t.d.svc = { s.d.svc with err := true } ∧ SetsEv [] s t ∧ Only [.regs, .ev, .host, .svc] s t) ∧
    (∀ (frame : List Nat) (r : SvcReq), 2 ≤ s.d.stage ∧ s.d.svc.req = none ∧ svcParse frame = some r ∧ svcTypes.contains r.ty = true ∧ svcPayloadGood r = true → Does (.writeReqSingle frame) s fun t => t.d.svc.resp = none ∧ t.d.svc.req = some r) ∧
    (∀ (frame : List Nat) (r : SvcReq), 2 ≤ s.d.stage ∧ s.d.svc.req = none ∧ svcParse frame = some r ∧ svcTypes.contains r.ty = true ∧ svcPayloadGood r = true → Does (.writeReqQuad frame) s fun t => t.d.svc.resp = none ∧ t.d.svc.req = some r) ∧
    (∀ (r : SvcReq), 2 ≤ s.d.stage ∧ s.d.svc.req = some r ∧ r.ty = 1 → Does .getStatus s fun t => t.d.svc.req = none ∧ t.d.svc.resp = some (svcFrame 1 0 r.tag s.d.statusBytes)) ∧
    (Does .readRespSingle s fun t => t.d.svc.sent = s.d.svc.resp.getD [0] ∧ t.d.svc.resp = none) ∧
    (Does .readRespQuad s fun t => t.d.svc.sent = s.d.svc.resp.getD [0] ∧ t.d.svc.resp = none)

/-- A completed time measurement is accepted, refused or discarded as the jump limit says. -/
def Obligations.ServoUpdatesFollowTheJumpLimit : Prop :=
  ∀ s : State, Running s →
    (∀ (m : PtpMsg), ptpSupported s.d m = false → DoesDev (.ptpMessage m) s (incF (if m.port = 0 then LINK_DISCARD_ptp_a else LINK_DISCARD_ptp_b))) ∧
    (∀ (m : PtpMsg) (u : Update), ptpSupported s.d m = true → m.update = some u → s.d.f LINK_STAT_timing_port = m.port → s.d.f TL_ALIGN_CFG_role = 0 ∧ s.d.t.skip = 0 ∧ s.d.quality = 2 ∧ s.d.on TL_QUALITY_stepped = true → (u.offset16 * 192).natAbs ≤ max 20 (s.d.f TL_JUMP_MAX_ns) * 3072 → -rateLimit ≤ u.rate ∧ u.rate ≤ rateLimit → Does (.ptpMessage m) s fun t => Sets [(TL_STATUS_refused_run, 0), (TL_RATE_LO_rate_lo, (u.rate % 0x1000000000).toNat % 0x100000000), (TL_RATE_HI_rate_hi, (u.rate % 0x1000000000).toNat / 0x100000000)] s t ∧ t.d.t.r = u.rate ∧ t.d.t.lastAccepted = s.d.now ∧ t.d.now = s.d.now) ∧
    (∀ (m : PtpMsg) (u : Update), ptpSupported s.d m = true → m.update = some u → s.d.f LINK_STAT_timing_port = m.port → s.d.f TL_ALIGN_CFG_role = 0 ∧ s.d.t.skip = 0 ∧ s.d.quality = 2 ∧ s.d.on TL_QUALITY_stepped = true ∧ s.d.f TL_STATUS_refused_run < 7 → max 20 (s.d.f TL_JUMP_MAX_ns) * 3072 < (u.offset16 * 192).natAbs → Does (.ptpMessage m) s fun t => SetsEv [(TL_STATUS_jump_refused, 1), (TL_STATUS_refused_run, s.d.f TL_STATUS_refused_run + 1)] s t ∧ Raised 6 t ∧ t.d.t.r = s.d.t.r ∧ t.d.t.lastAccepted = s.d.t.lastAccepted) ∧
    (∀ (rate : Int), s.d.f TL_REF_CFG_ref_sel = 1 → Does (.ppsEdge rate) s fun t => t.d.t.lastPps = s.d.now ∧ t.d.t.ppsLost = false) ∧
    (s.d.f TL_REF_CFG_ref_sel = 1 ∧ s.d.t.ppsLost = false → Does .ppsLost s fun t => SetsEv [] s t ∧ Raised 7 t ∧ t.d.t.ppsLost = true ∧ t.d.now = max s.d.now (s.d.t.lastPps + 2 * secTicks))

/-- Holdover, the estimated error, the 1PPS output, the muting of transmit and the restep move the time quality as the chapter says. -/
def Obligations.TimeQualityMoves : Prop :=
  ∀ s : State, Running s →
    (s.d.quality = 2 ∧ s.d.on TL_QUALITY_follower = false → Does .lossTimeout s fun t => t.d.quality = 3 ∧ t.d.txPermit = true ∧ Raised 1 t ∧ t.d.now = max s.d.now (s.d.t.lastAccepted + usTicks (1000 * s.d.f TL_HO_CFG_loss_timeout))) ∧
    (s.d.quality = 0 → DoesDev .errEstRecompute s (setF TL_ERR_EST_err_ns 0xFFFFFFFF)) ∧
    (∀ (e : Nat), s.d.quality = 3 ∧ s.d.errNow = some e ∧ 1100 * fineNs < e ∧ s.d.on TL_QUALITY_follower = false → Does .errEstRecompute s fun t => t.d.quality = 0 ∧ t.d.txPermit = false ∧ t.d.on TL_QUALITY_stepped = false ∧ t.d.f TL_ERR_EST_err_ns = 0xFFFFFFFF ∧ Raised 2 t) ∧
    (s.d.on TL_REF_CFG_pps_out_en = true ∧ (s.d.quality = 2 ∨ s.d.quality = 3) ∧ s.d.t.stopped = false → Does .ppsOut s fun t => Sets [] s t ∧ t.d.t.ppsOutAt = some t.d.now ∧ t.d.ppsHigh = true ∧ t.d.t.ntU % 3072000000000 < 3125) ∧
    (∀ (b : Nat), (b < 8 ∧ (s.d.fe b = 4 ∨ s.d.fe b = 5) ∧ s.d.inTransition b = false ∧ s.d.txPermit = false ∧ (s.d.bay b).cal = none ∧ (∀ i < 8, (s.d.calPath (8 * b + i)).pend = 0)) → Does (.timeMute b) s fun t => Sets [(BAY_FE_STAT_muted b, 1), (BAY_FE_STAT_mute_cause b, 2), (BAY_FE_STAT_in_transition b, 1), (BAY_FE_STAT_target b, 2)] s t ∧ (t.d.bay b).turnEnd = t.d.now + 1573 ∧ (t.d.bay b).dest = 2 ∧ t.d.now = s.d.nextSymbol (s.d.bayGrid15 b) 0) ∧
    (s.d.hostWaits = false → s.d.inReady = true ∧ s.d.ledgerHolds = false → Does .restep s fun t => t.d.quality = 0 ∧ t.d.txPermit = false ∧ t.d.on TL_QUALITY_stepped = false ∧ t.d.f LEDGER_EPOCH_valid = 0 ∧ t.d.f TL_ERR_EST_err_ns = 0xFFFFFFFF ∧ t.d.t.restepArmed = true ∧ t.d.seals.epoch = (s.d.seals.epoch + 1) % 0x100000000) ∧
    (s.d.hostWaits = false → s.d.inReady = false ∧ s.d.ledgerHolds = false → Does .restep s fun t => Sets [(TL_STATUS_restep_refused, 1)] s t)

/-- The rate correction and the ALIGN frames take effect as the chapter says. The model's choice of log entry 57: a frame's edge arrives at the
instant of the command and is captured at the first base-clock edge from then on, and the follower's own boundary is compared with that. -/
def Obligations.RateAndAlignment : Prop :=
  ∀ s : State, Running s →
    (∀ (org : Origin) (v : Word), ((org = .host → s.d.hostWaits = false) ∧ (org = .firmware → s.d.key.fwStopped = false)) → (org = .host ∨ org = .firmware) ∧ s.d.ledgerHolds = false ∧ s.d.f TL_ALIGN_CFG_role = 0 → Does (.rateCommit org v) s fun t => t.d.f TL_RATE_LO_rate_lo = ((max (-rateLimit) (min rateLimit (signed 36 (s.d.f TL_RATE_HI_rate_hi * 0x100000000 + v.toNat)))) % 0x1000000000).toNat % 0x100000000 ∧ t.d.t.r = max (-rateLimit) (min rateLimit (signed 36 (s.d.f TL_RATE_HI_rate_hi * 0x100000000 + v.toNat))) ∧ t.d.t.rPend = none) ∧
    (∀ (v : Int) (at_ : Nat), s.d.t.rCarried = some (v, at_) → DoesDev .rateApply s (fun d => let d := passTo at_ d; { d with t := { d.t with r := v, rCarried := none } })) ∧
    (∀ (org : Origin) (v : Word), ((org = .host → s.d.hostWaits = false) ∧ (org = .firmware → s.d.key.fwStopped = false)) → (org = .host ∨ org = .firmware) ∧ s.d.ledgerHolds = false ∧ v.toNat ≤ 9830399 → Does (.frameOffsetWrite org v) s fun t => Sets [(TL_FRAME_OFFSET_ticks, v.toNat), (DECK_SEAL_STAT_busy, 1)] s t ∧ t.d.seals.epoch = (s.d.seals.epoch + 1) % 0x100000000) ∧
    (∀ (org : Origin) (v : Word), ((org = .host → s.d.hostWaits = false) ∧ (org = .firmware → s.d.key.fwStopped = false)) → (org = .host ∨ org = .firmware) ∧ s.d.ledgerHolds = false ∧ 9830399 < v.toNat ∧ v.toNat < 0x1000000 → Does (.frameOffsetWrite org v) s fun t => Sets [(TL_STATUS_param_refused, 1)] s t) ∧
    (s.d.hostWaits = false → s.d.inReady = true ∧ s.d.f TL_ALIGN_CFG_role = 2 → Does .align s fun t => t.d.t.alignArmed = true ∧ Sets [(TL_ALIGN_STAT_aligned, 0)] s t) ∧
    (s.d.hostWaits = false → s.d.inReady = false ∨ s.d.f TL_ALIGN_CFG_role ≠ 2 → Does .align s fun t => Sets [(TL_STATUS_align_refused, 1)] s t) ∧
    (s.d.f TL_ALIGN_CFG_role = 1 → Does .alignFrameSend s fun t => t.d.t.alignSeq = (s.d.t.alignSeq + 1) % 256 ∧ t.d.t.alignOut % 65536 = alignCrc (t.d.t.alignOut / 65536) ∧ Sets [] s t) ∧
    (∀ (payload crc : Nat), s.d.f TL_ALIGN_CFG_role = 2 ∧ alignCrc payload ≠ crc ∧ s.d.t.alignRun < 2 → Does (.alignFrameReceived payload crc) s fun t => Sets [(TL_ALIGN_STAT_crc_err, min (s.d.f TL_ALIGN_STAT_crc_err + 1) 255)] s t ∧ t.d.t.alignRun = s.d.t.alignRun + 1) ∧
    (∀ (payload crc : Nat) (u : Dev), s.d.f TL_ALIGN_CFG_role = 2 ∧ alignCrc payload = crc ∧ u = passTo s.d.baseEdge s.d ∧ s.d.t.alignArmed = false ∧ s.d.on TL_ALIGN_STAT_aligned = true ∧ u.alignSlip = 0 ∧ bits payload 48 46 = s.d.quality → Does (.alignFrameReceived payload crc) s fun t => SetsEv [(TL_RATE_LO_rate_lo, payload % 0x100000000), (TL_RATE_HI_rate_hi, bits payload 35 32), (TL_QUALITY_follower, 1)] s t ∧ t.d.now = s.d.baseEdge ∧ t.d.t.rCarried = some (signed 36 (bits payload 35 0), ((u.now : Int) - u.fromBoundary).toNat + frameTicks) ∧ t.d.t.alignRun = 0 ∧ t.d.t.alignLive = true ∧ (t.d.t.tick = u.t.tick ∧ (0 ≤ u.fromBoundary → t.d.t.frame = bits payload 45 36 % 1024 ∧ t.d.t.fis = bits payload 55 49 % 100))) ∧
    (∀ (payload crc : Nat) (u : Dev), s.d.f TL_ALIGN_CFG_role = 2 ∧ alignCrc payload = crc ∧ u = passTo s.d.baseEdge s.d ∧ s.d.t.alignArmed = false ∧ s.d.on TL_ALIGN_STAT_aligned = true ∧ u.alignSlip ≠ 0 ∧ -8 ≤ u.alignSlip ∧ u.alignSlip ≤ 7 → Does (.alignFrameReceived payload crc) s fun t => signed 4 (t.d.f TL_ALIGN_STAT_last_dev) = u.alignSlip ∧ Raised 10 t ∧ t.d.t.tick = u.t.tick) ∧
    (∀ (payload crc : Nat), s.d.f TL_ALIGN_CFG_role = 2 ∧ alignCrc payload = crc ∧ s.d.t.alignArmed = true ∧ s.d.alignComp ≤ 0 → Does (.alignFrameReceived payload crc) s fun t => t.d.t.alignArmed = false ∧ t.d.on TL_ALIGN_STAT_aligned = true ∧ (t.d.t.tick : Int) = -8 * s.d.alignComp ∧ t.d.t.frame = bits payload 45 36 % 1024 ∧ t.d.t.fis = bits payload 55 49 % 100 ∧ t.d.quality = bits payload 48 46 ∧ t.d.t.r = (rateDue (passTo s.d.baseEdge s.d)).t.r ∧ t.d.now = s.d.baseEdge) ∧
    (s.d.f TL_ALIGN_CFG_role = 2 ∧ s.d.t.alignRun < 2 → Does .alignFrameMissed s fun t => Sets [(TL_ALIGN_STAT_missing, min (s.d.f TL_ALIGN_STAT_missing + 1) 255)] s t ∧ t.d.t.alignRun = s.d.t.alignRun + 1) ∧
    (s.d.t.stopped = false ∧ s.d.t.wraps = s.d.t.ntU / (2 ^ 32 * 3072) → Does .ledgerEpochWrap s fun t => t.d.f LEDGER_EPOCH_epoch = (s.d.f LEDGER_EPOCH_epoch + 1) % LEDGER_EPOCH_epoch.size ∧ t.d.nt < 4 ∧ t.d.t.ntU / (2 ^ 32 * 3072) = s.d.t.ntU / (2 ^ 32 * 3072) + 1 ∧ t.d.t.wraps = t.d.t.ntU / (2 ^ 32 * 3072))

/-- Reads that latch give one consistent picture. -/
def Obligations.LatchedReads : Prop :=
  ∀ s : State, Running s →
    (Does .tlNtRead s fun t => Sets [(TL_SNAP_TICK_tick_in_frame, s.d.t.tick % 0x1000000), (TL_SNAP_FRAME_frame_in_second, s.d.t.fis % 128), (TL_SNAP_FRAME_frame, s.d.t.frame % 1024)] s t ∧ t.d.host.resp = .data (s.d.t.ntU / 3072 % 0x100000000)) ∧
    (Does .sealEpochRead s fun t => t.d.seals.latched = s.d.seals.pubSeal ∧ t.d.host.resp = .data (s.d.f DECK_SEAL_EPOCH_epoch) ∧ (∀ i < 8, t.d.f (DECK_SEAL_seal i) = ofLe ((s.d.seals.pubSeal.drop (4 * i)).take 4) % 0x100000000)) ∧
    (Does .wrSeqRead s fun t => t.d.host.resp = .data (t.d.f LEDGER_WR_SEQ_seq) ∧ t.d.ldg = s.d.ldg)

/-- Timetable entries are written, armed and cancelled by the rules of their words. That a moved entry reads LATE while it waits, and a late
repeating one's next time, are the model's reading (log entry 32). -/
def Obligations.TimetableWords : Prop :=
  ∀ s : State, Running s →
    (∀ (org : Origin) (i : Nat) (v : Word), ((org = .host → s.d.hostWaits = false) ∧ (org = .firmware → s.d.key.fwStopped = false)) → (org = .host ∨ org = .firmware) ∧ i < 2048 ∧ (s.d.ttE i).isArmed = false → Does (.ttEntryWrite org i 0 v) s fun t => (t.d.ttE i).w0 = v.toNat % 0x8000000 ∧ (t.d.ttE i).status = 0 ∧ (t.d.ttE i).armed = false ∧ (t.d.ttE i).fireCount = 0 ∧ ((∀ j, j ≠ i → t.d.ttE j = s.d.ttE j) ∧ Sets [] s t)) ∧
    (∀ (org : Origin) (i w : Nat) (v : Word), ((org = .host → s.d.hostWaits = false) ∧ (org = .firmware → s.d.key.fwStopped = false)) → (org = .host ∨ org = .firmware) ∧ i < 2048 ∧ w < 3 ∧ (s.d.ttE i).isArmed = true → Does (.ttEntryWrite org i w v) s fun t => t.d.tt = s.d.tt ∧ Sets [(TL_STATUS_armed_wr, 1)] s t) ∧
    (∀ (org : Origin) (i rep late : Nat) (e : TtEntry), ((org = .host → s.d.hostWaits = false) ∧ (org = .firmware → s.d.key.fwStopped = false)) → (org = .host ∨ org = .firmware) ∧ i < 2048 ∧ rep < 4 ∧ late < 2 ∧ (s.d.ttE i).isArmed = false → e = { s.d.ttE i with rep := rep, latePolicy := late, fireCount := 0, moved := false, armed := false, origin := org } → s.d.wellFormed org e = true ∧ s.d.armedAt (s.d.requested e) < 32 ∧ (org = .firmware ∨ e.action ≠ 8) ∧ (s.d.now : Int) + leadTicks ≤ s.d.requested e → Does (.ttArm org i rep late) s fun t => t.d.ttE i = { e with armed := true, status := 1, req := s.d.requested e, due := s.d.requested e } ∧ ((∀ j, j ≠ i → t.d.ttE j = s.d.ttE j) ∧ Sets [] s t)) ∧
    (∀ (org : Origin) (i rep late : Nat) (e : TtEntry), ((org = .host → s.d.hostWaits = false) ∧ (org = .firmware → s.d.key.fwStopped = false)) → (org = .host ∨ org = .firmware) ∧ i < 2048 ∧ rep < 4 ∧ late < 2 ∧ (s.d.ttE i).isArmed = false → e = { s.d.ttE i with rep := rep, latePolicy := late, fireCount := 0, moved := false, armed := false, origin := org } → s.d.wellFormed org e = false → Does (.ttArm org i rep late) s fun t => (t.d.ttE i).status = 4 ∧ (t.d.ttE i).armed = false ∧ Raised 5 t ∧ SetsEv [(TL_TT_COUNT_refused, min (s.d.f TL_TT_COUNT_refused + 1) 65535)] s t) ∧
    (∀ (org : Origin) (i rep late : Nat) (e : TtEntry) (at_ : Int), ((org = .host → s.d.hostWaits = false) ∧ (org = .firmware → s.d.key.fwStopped = false)) → (org = .host ∨ org = .firmware) ∧ i < 2048 ∧ rep < 4 ∧ late < 2 ∧ (s.d.ttE i).isArmed = false ∧ s.d.ledgerHolds = false → e = { s.d.ttE i with rep := rep, latePolicy := late, fireCount := 0, moved := false, armed := false, origin := org } → s.d.wellFormed org e = true ∧ s.d.armedAt (s.d.requested e) < 32 ∧ (org = .firmware ∨ e.action ≠ 8) ∧ s.d.requested e < (s.d.now : Int) + leadTicks → at_ = s.d.nextSymbol (s.d.grid15 e.carrier) leadTicks ∧ rep = 0 ∧ (late = 0 ∨ isRf e.action = true ∨ s.d.requested e + slotTicks (s.d.grid15 e.carrier) < at_ ∨ 32 ≤ s.d.armedAt at_) → Does (.ttArm org i rep late) s fun t => t.d.ttE i = { e with status := 3 } ∧ ((∀ j, j ≠ i → t.d.ttE j = s.d.ttE j) ∧ SetsEv [(TL_TT_COUNT_late, min (s.d.f TL_TT_COUNT_late + 1) (TL_TT_COUNT_late.size - 1))] s t ∧ Raised 4 t) ∧ (t.d.ldg.queue.drop s.d.ldg.queue.length).map (fun r => (r.kind, r.aux, r.origin)) = [(4, i, org)]) ∧
    (∀ (org : Origin) (i rep late : Nat) (e : TtEntry) (at_ : Int), ((org = .host → s.d.hostWaits = false) ∧ (org = .firmware → s.d.key.fwStopped = false)) → (org = .host ∨ org = .firmware) ∧ i < 2048 ∧ rep < 4 ∧ late < 2 ∧ (s.d.ttE i).isArmed = false ∧ s.d.ledgerHolds = false → e = { s.d.ttE i with rep := rep, latePolicy := late, fireCount := 0, moved := false, armed := false, origin := org } → s.d.wellFormed org e = true ∧ s.d.armedAt (s.d.requested e) < 32 ∧ (org = .firmware ∨ e.action ≠ 8) ∧ s.d.requested e < (s.d.now : Int) + leadTicks → at_ = s.d.nextSymbol (s.d.grid15 e.carrier) leadTicks ∧ rep = 0 ∧ late = 1 ∧ isRf e.action = false ∧ at_ ≤ s.d.requested e + slotTicks (s.d.grid15 e.carrier) ∧ s.d.armedAt at_ < 32 → Does (.ttArm org i rep late) s fun t => t.d.ttE i = { e with armed := true, status := 3, req := s.d.requested e, due := at_ } ∧ ((∀ j, j ≠ i → t.d.ttE j = s.d.ttE j) ∧ SetsEv [(TL_TT_COUNT_late, min (s.d.f TL_TT_COUNT_late + 1) (TL_TT_COUNT_late.size - 1))] s t ∧ Raised 4 t) ∧ (t.d.ldg.queue.drop s.d.ldg.queue.length).map (fun r => (r.kind, r.aux, r.origin)) = [(4, i, org)]) ∧
    (∀ (org : Origin) (i rep late : Nat) (e : TtEntry) (at_ : Int), ((org = .host → s.d.hostWaits = false) ∧ (org = .firmware → s.d.key.fwStopped = false)) → (org = .host ∨ org = .firmware) ∧ i < 2048 ∧ rep < 4 ∧ late < 2 ∧ (s.d.ttE i).isArmed = false ∧ s.d.ledgerHolds = false → e = { s.d.ttE i with rep := rep, latePolicy := late, fireCount := 0, moved := false, armed := false, origin := org } → s.d.wellFormed org e = true ∧ s.d.armedAt (s.d.requested e) < 32 ∧ (org = .firmware ∨ e.action ≠ 8) ∧ s.d.requested e < (s.d.now : Int) + leadTicks → at_ = s.d.nextSymbol (s.d.grid15 e.carrier) leadTicks ∧ rep ≠ 0 ∧ (late = 0 ∨ isRf e.action = true) → Does (.ttArm org i rep late) s fun t => t.d.ttE i = { e with armed := true, status := 1, req := s.d.nextOnGrid (s.d.requested e) (s.d.ttPeriod e), due := s.d.nextOnGrid (s.d.requested e) (s.d.ttPeriod e) } ∧ ((∀ j, j ≠ i → t.d.ttE j = s.d.ttE j) ∧ SetsEv [(TL_TT_COUNT_late, min (s.d.f TL_TT_COUNT_late + 1) (TL_TT_COUNT_late.size - 1))] s t ∧ Raised 4 t) ∧ (t.d.ldg.queue.drop s.d.ldg.queue.length).map (fun r => (r.kind, r.aux, r.origin)) = [(4, i, org)]) ∧
    (∀ (org : Origin) (i : Nat), ((org = .host → s.d.hostWaits = false) ∧ (org = .firmware → s.d.key.fwStopped = false)) → (org = .host ∨ org = .firmware) ∧ i < 2048 ∧ (s.d.ttE i).isArmed = true ∧ (s.d.now : Int) + leadTicks ≤ (s.d.ttE i).due → Does (.ttCancel org i) s fun t => t.d.ttE i = { s.d.ttE i with armed := false, status := 5 } ∧ Sets [] s t) ∧
    (∀ (org : Origin) (i : Nat), ((org = .host → s.d.hostWaits = false) ∧ (org = .firmware → s.d.key.fwStopped = false)) → (org = .host ∨ org = .firmware) ∧ i < 2048 ∧ (s.d.ttE i).isArmed = true ∧ (s.d.ttE i).due < (s.d.now : Int) + leadTicks → Does (.ttCancel org i) s fun t => t.d.ttE i = s.d.ttE i ∧ SetsEv [(TL_STATUS_cancel_late, 1)] s t ∧ Raised 14 t) ∧
    (s.d.hostWaits = false → (∀ x ∈ s.d.tt, x.2.armed = true → (s.d.now : Int) + leadTicks ≤ x.2.due) → Does .cancelAll s fun t => (Sets [] s t ∧ ∀ x ∈ t.d.tt, x.2.armed = false))

/-- The RF actions of the timetable have their effect at their air time and end DONE, and the commands that follow a calibration run complete. -/
def Obligations.RfActionsExecute : Prop :=
  ∀ s : State, Running s →
    (∀ (i b : Nat), EntryDue s i 1 ∧ (s.d.ttE i).w2 = 4 ∧ (s.d.ttE i).index = b ∧ b < 8 → s.d.bayFormed b = true ∧ (s.d.bay b).cal = none ∧ s.d.fe b = 3 ∧ s.d.inTransition b = false ∧ s.d.pierHeld (b / 2) = false → s.d.inActive = true ∧ s.d.piersUp = true ∧ s.d.txPermit = true ∧ s.d.on (BAY_FE_STAT_lo_ready b) = true → Does (.feState i) s fun t => EntryDone true i s t ∧ t.d.inTransition b = true ∧ t.d.feTarget b = 4 ∧ t.d.fe b = 3 ∧ (t.d.bay b).turnEnd = t.d.now + 1573 ∧ t.d.f (BAY_FE_STAT_muted b) = 0) ∧
    (∀ (i b : Nat), EntryDue s i 1 ∧ (s.d.ttE i).w2 = 4 ∧ (s.d.ttE i).index = b ∧ b < 8 → s.d.bayFormed b = true ∧ (s.d.bay b).cal = none ∧ s.d.fe b = 3 ∧ s.d.inTransition b = false ∧ s.d.pierHeld (b / 2) = false → s.d.inActive = true ∧ s.d.piersUp = true ∧ s.d.txPermit = true ∧ s.d.on (BAY_FE_STAT_lo_ready b) = false → (s.d.phaseWaits b = true → (max s.d.now (s.d.ttE i).due.toNat) < (s.d.bay b).alignAt) → Does (.feState i) s fun t => EntryDone false i s t ∧ Raised (71 + 8 * (b / 2)) t ∧ t.d.inTransition b = false ∧ t.d.fe b = 3 ∧ t.d.f (BAY_FE_STAT_last_refuse b) = 1) ∧
    (∀ (i n : Nat), EntryDue s i 2 ∧ (s.d.ttE i).kind = 4 ∧ (s.d.ttE i).index = n ∧ n < 64 ∧ (s.d.ttE i).w2 = 1 → s.d.map.txActive n = true ∧ s.d.piersUp = true ∧ s.d.railBusy n 1 = false → Does (.beamSwitch i) s fun t => EntryDone true i s t ∧ t.d.railOf n = 1 ∧ t.d.f (PIER_RAIL_STAT_switches (pierOf n)) = min (s.d.f (PIER_RAIL_STAT_switches (pierOf n)) + 1) ((PIER_RAIL_STAT_switches (pierOf n)).size - 1)) ∧
    (∀ (i n x : Nat), EntryDue s i 3 ∧ (s.d.ttE i).kind = 4 ∧ (s.d.ttE i).index = n ∧ n < 64 ∧ (s.d.ttE i).w2 = x ∧ x < 2 → s.d.piersUp = true ∧ s.d.map.modelled n = true ∧ s.d.dpdState n ≠ 5 ∧ (s.d.dpdLinear n = true ∨ s.d.dpdForce n ≠ x) → s.d.on (readyFld n x) = true ∧ (s.d.dpdSt n).held ≠ some x → Does (.dpdApply i) s fun t => EntryDone true i s t ∧ t.d.dpdLinear n = false ∧ t.d.dpdForce n = x ∧ t.d.on (BAY_DPD_verify (bayOf n) (posOf n)) = true ∧ (t.d.dpdSt n).held = some (if s.d.dpdLinear n then 2 else s.d.dpdForce n) ∧ (t.d.dpdSt n).appliedAt = t.d.now) ∧
    (∀ (i n v : Nat), EntryDue s i 4 ∧ (s.d.ttE i).kind = 4 ∧ (s.d.ttE i).index = n ∧ n < 64 ∧ (s.d.ttE i).w2 = 0x10000 + 0x100 * v ∧ v < 64 → s.d.piersUp = true ∧ s.d.map.txActive n = true ∧ s.d.txOn (bayOf n) = true → Does (.gainSet i) s fun t => EntryDone true i s t ∧ t.d.f (BAY_GAIN_tx_att (bayOf n) (posOf n)) = v ∧ t.d.forced (BAY_GAIN_tx_att (bayOf n) (posOf n)) = v ∧ t.d.f (BAY_GAIN_rx_att (bayOf n) (posOf n)) = s.d.f (BAY_GAIN_rx_att (bayOf n) (posOf n))) ∧
    (∀ (i n : Nat), EntryDue s i 5 ∧ (s.d.ttE i).kind = 4 ∧ (s.d.ttE i).index = n ∧ n < 64 ∧ (s.d.ttE i).w2 = 1 → s.d.piersUp = true ∧ s.d.map.txActive n = true ∧ (s.d.chain n 0).fade = none ∧ s.d.f (respFld n 0 0) ≠ 1 → (passTo (s.d.ttE i).due.toNat s.d).chainValid n 0 0 = true → Does (.respSwap i) s fun t => EntryDone true i s t ∧ t.d.f (respFld n 0 0) = 1 ∧ t.d.f (fadingFld n 0) = 1 ∧ t.d.chain n 0 = { s.d.chain n 0 with fade := some (0, s.d.f (respFld n 0 0)), queued := none, fadeAt := 12 * t.d.now, swaps := ⟨0, s.d.f (respFld n 0 0), 1, 12 * t.d.now, true⟩ :: (s.d.chain n 0).swaps.take 7 }) ∧
    (∀ (i n : Nat), EntryDue s i 5 ∧ (s.d.ttE i).kind = 4 ∧ (s.d.ttE i).index = n ∧ n < 64 ∧ (s.d.ttE i).w2 = 1 → s.d.piersUp = true ∧ s.d.map.txActive n = true ∧ (s.d.chain n 0).fade = none → (passTo (s.d.ttE i).due.toNat s.d).chainValid n 0 0 = false → Does (.respSwap i) s fun t => EntryDone true i s t ∧ t.d.f (respFld n 0 0) = 1 ∧ t.d.f (fadingFld n 0) = s.d.f (fadingFld n 0) ∧ (t.d.chain n 0).fade = none) ∧
    (∀ (i : Nat), EntryDue s i 6 ∧ (s.d.ttE i).kind = 1 ∧ (s.d.ttE i).index = 0 ∧ s.d.piersUp = true → Does (.sync i) s fun t => EntryDone true i s t ∧ t.d.f ARCH_CC_STAT_sync0 = min (s.d.f ARCH_CC_STAT_sync0 + 1) (ARCH_CC_STAT_sync0.size - 1) ∧ (∀ n, n < 32 → t.d.chain n 0 = { begun := t.d.now } ∧ t.d.chain n 1 = { begun := t.d.now })) ∧
    (∀ (i b : Nat), EntryDue s i 8 ∧ (s.d.ttE i).kind = 3 ∧ (s.d.ttE i).index = b ∧ b < 8 ∧ (s.d.ttE i).w2 = 2 → s.d.pierHeld (b / 2) = false ∧ s.d.inActive = true ∧ s.d.piersUp = true ∧ (s.d.bay b).cal = none ∧ s.d.inTransition b = false ∧ s.d.fe b = 2 → s.d.txPermit = true ∧ s.d.on (BAY_FE_STAT_lo_ready b) = true ∧ s.d.runPairs b 2 none ≠ [] → Does (.calRun i) s fun t => EntryDone true i s t ∧ t.d.inTransition b = true ∧ t.d.feTarget b = 5 ∧ t.d.f (BAY_CAL_STAT_kind b) = 2 ∧ (t.d.bay b).cal.map CalRun.until_ = some (t.d.now + 1573 + usTicks 20)) ∧
    (∀ (b : Nat), (b < 8 ∧ (s.d.bay b).cal.isSome = true ∧ (∀ x ∈ s.d.tt, x.2.feOf b = false)) → Does (.calRunEnd b) s fun t => (t.d.bay b).cal = none ∧ (t.d.calBay b).awaits.length = (s.d.calBay b).awaits.length + 1) ∧
    (∀ (b : Nat) (ref : CalMeas) (l : List CalOutcome), b < 8 ∧ (s.d.calBay b).awaits ≠ [] → Does (.calResult b ref l) s fun t => (t.d.calBay b).awaits = (s.d.calBay b).awaits.tail) ∧
    (∀ (b : Nat), (b < 8 ∧ s.d.inGuard b = true ∧ ∃ i < 8, (s.d.calPath (8 * b + i)).pend ≠ 0) → Does (.correctionInForce b) s fun t => ((∀ i, i < 8 → (t.d.calPath (8 * b + i)).pend = 0) ∧ (t.d.calBay b).recDue = true)) ∧
    (∀ (b k kind : Nat), s.d.hostWaits = false → b < 8 ∧ k < 8 ∧ 2 ≤ kind ∧ kind ≤ 8 ∧ s.d.calHost = true ∧ s.d.piersUp = true → Does (.calApply b k kind) s fun t => t.d.calStatus (8 * b + k) kind = 5 ∨ t.d.calStatus (8 * b + k) kind = 3) ∧
    (∀ (n kind at_ : Nat), n < 64 ∧ 1 ≤ kind ∧ kind ≤ 8 ∧ smGet 0 kind (s.d.calPath n).failAt = at_ + 1 → Does (.calRetry n kind) s fun t => smGet 0 kind (t.d.calPath n).failAt = 0 ∧ t.d.now = max s.d.now (at_ + max 1 (s.d.f (BAY_CAL_CFG_retry (n / 8))) * 98304000)) ∧
    (∀ (b : Nat), b < 8 ∧ (s.d.calBay b).recDue = true ∧ (s.d.calBay b).recAt = 0 ∧ s.d.key.fwStopped = false ∧ s.d.key.storeAbsent = false ∧ s.d.bayFormed b = true → Does (.calRecordWrite b) s fun t => (t.d.calBay b).recDue = false ∧ (t.d.calBay b).recAt = s.d.now + 1)

/-- COMMIT, CAPTURE, TRUSS_JOB, DMA_START, NOTIFY and SNAPSHOT have their effect at their air time. -/
def Obligations.DispatchingActionsExecute : Prop :=
  ∀ s : State, Running s →
    (∀ (i : Nat), EntryDue s i 7 ∧ s.d.formState = 4 ∧ s.d.span.formPartial = false ∧ s.d.inReady = true → Does (.commit i) s fun t => EntryDone true i s t ∧ t.d.formState = 5 ∧ t.d.span.freeze = some { unform := false, org := (s.d.ttE i).origin, start := t.d.now, acks := 0, entry := some i, deferred := [], failed := 0 }) ∧
    (∀ (i n x : Nat), EntryDue s i 16 ∧ (s.d.ttE i).kind = 4 ∧ (s.d.ttE i).index = n ∧ n < 64 ∧ (s.d.ttE i).w2 = x ∧ x < 8 → s.d.fe (bayOf n) = 4 ∧ s.d.inTransition (bayOf n) = false ∧ s.d.txLive n = true ∧ s.d.map.modelled n = true → s.d.on (BAY_OBS_STAT_busy (bayOf n)) = false ∧ (s.d.obsSt (bayOf n)).byCal = false ∧ s.d.fb (BAY_OBS_STAT_slot_full (bayOf n)) (s.d.f (BAY_CAPD_slot (bayOf n) x)) = false ∧ (s.d.obsSt (bayOf n)).pre = none → s.d.f (BAY_OBS_CFG_settle (bayOf n)) ≠ 0 ∧ (s.d.now : Int) + 8 * s.d.f (BAY_OBS_CFG_settle (bayOf n)) ≤ (s.d.ttE i).due → Does (.capture i) s fun t => t.d.ttE i = s.d.ttE i ∧ (t.d.now : Int) = (s.d.ttE i).due - 8 * s.d.f (BAY_OBS_CFG_settle (bayOf n)) ∧ t.d.obsSt (bayOf n) = { s.d.obsSt (bayOf n) with pre := some (i, (s.d.ttE i).due.toNat, true), sel := s.d.map.coupler n }) ∧
    (∀ (i n x : Nat), EntryDue s i 16 ∧ (s.d.ttE i).kind = 4 ∧ (s.d.ttE i).index = n ∧ n < 64 ∧ (s.d.ttE i).w2 = x ∧ x < 8 → s.d.fe (bayOf n) ≠ 4 ∧ (s.d.obsSt (bayOf n)).pre = none → s.d.f (BAY_OBS_CFG_settle (bayOf n)) ≠ 0 ∧ (s.d.now : Int) + 8 * s.d.f (BAY_OBS_CFG_settle (bayOf n)) ≤ (s.d.ttE i).due → Does (.capture i) s fun t => (t.d.ttE i).status = 6 ∧ (t.d.ttE i).armed = false ∧ t.d.obs = s.d.obs ∧ t.d.f (BAY_OBS_STAT_cap_failed (bayOf n)) = min (s.d.f (BAY_OBS_STAT_cap_failed (bayOf n)) + 1) ((BAY_OBS_STAT_cap_failed (bayOf n)).size - 1)) ∧
    (∀ (i n x : Nat), EntryDue s i 16 ∧ (s.d.ttE i).kind = 4 ∧ (s.d.ttE i).index = n ∧ n < 64 ∧ (s.d.ttE i).w2 = x ∧ x < 8 → (s.d.obsSt (bayOf n)).pre = some (i, (s.d.ttE i).due.toNat, true) → Does (.capture i) s fun t => EntryDone true i s t ∧ t.d.on (BAY_OBS_STAT_busy (bayOf n)) = true ∧ (t.d.obsSt (bayOf n)).cap.map (fun c => (c.path, c.desc)) = some (n, x) ∧ (t.d.obsSt (bayOf n)).pre = none) ∧
    (∀ (i n x : Nat), EntryDue s i 16 ∧ (s.d.ttE i).kind = 4 ∧ (s.d.ttE i).index = n ∧ n < 64 ∧ (s.d.ttE i).w2 = x ∧ x < 8 → s.d.fe (bayOf n) = 4 ∧ s.d.inTransition (bayOf n) = false ∧ s.d.txLive n = true ∧ s.d.map.modelled n = true → s.d.on (BAY_OBS_STAT_busy (bayOf n)) = false ∧ (s.d.obsSt (bayOf n)).byCal = false ∧ s.d.fb (BAY_OBS_STAT_slot_full (bayOf n)) (s.d.f (BAY_CAPD_slot (bayOf n) x)) = false ∧ (s.d.obsSt (bayOf n)).pre = none → s.d.f (BAY_OBS_CFG_settle (bayOf n)) = 0 ∨ (s.d.ttE i).due < s.d.now + 8 * s.d.f (BAY_OBS_CFG_settle (bayOf n)) → Does (.capture i) s fun t => EntryDone true i s t ∧ t.d.on (BAY_OBS_STAT_busy (bayOf n)) = true ∧ (t.d.obsSt (bayOf n)).cap.map (fun c => (c.path, c.desc)) = some (n, x)) ∧
    (∀ (i l j : Nat), EntryDue s i 17 ∧ (s.d.ttE i).index = l ∧ l < 16 ∧ (s.d.ttE i).w2 = j ∧ j < 256 → s.d.jobCheck (s.d.ttE i).origin l j = 0 ∧ s.d.tr.mig = [] → Does (.trussJob i) s fun t => EntryDone true i s t ∧ (t.d.eng (s.d.phys l)).queue = (s.d.eng (s.d.phys l)).queue ++ [j] ∧ t.d.descWord j 15 = 0) ∧
    (∀ (i n a : Nat), EntryDue s i 18 ∧ (s.d.ttE i).index = n ∧ n < 32 ∧ (s.d.ttE i).w2 = a ∧ a % 64 = 0 ∧ a < 0x100000000 → s.d.chMayStart n = true → Does (.dmaStart i) s fun t => EntryDone true i s t ∧ t.d.chState n = 1 ∧ t.d.chPos n = a ∧ t.d.chPosSpace n = 0 ∧ t.d.f (DMA_CH_COUNT_hops n) = 0) ∧
    (∀ (i : Nat), EntryDue s i 19 → Does (.notify i) s fun t => EntryDone true i s t ∧ Raised 158 t) ∧
    (∀ (i : Nat), EntryDue s i 20 ∧ s.d.ldg.closed = false ∧ s.d.ldg.queue = [] ∧ s.d.on LEDGER_STAT_gap_pending = false → Does (.snapshot i) s fun t => EntryDone true i s t ∧ Raised 155 t ∧ t.d.f LEDGER_SNAP_SEQ_seq = s.d.f LEDGER_WR_SEQ_seq % 0x100000000 ∧ t.d.f LEDGER_WR_SEQ_seq = (s.d.f LEDGER_WR_SEQ_seq + 1) % 0x100000000)

/-- A span map is formed stage by stage: LOADING, CHECKING, FORMING, SHADOW_READY. The model's choice of log entry 24: SPAN_REFUSE reads NONE at
SHADOW_READY, and the image's address and length are those of the write of form. -/
def Obligations.FormationMovesToItsShadow : Prop :=
  ∀ s : State, Running s →
    (∀ (v : Word), s.d.hostWaits = false → v.toNat % 16 ≤ 1 ∧ s.d.formState = 0 ∧ s.d.inReady = true → Does (.form v) s fun t => t.d.formState = 1 ∧ t.d.f SPAN_STATUS_image = bits v.toNat 5 4 ∧ t.d.span.formImage = bits v.toNat 5 4 ∧ t.d.span.formPartial = false ∧ t.d.span.formAddr = 64 * s.d.f SPAN_SRC_ADDR_addr ∧ t.d.span.formLen = s.d.f SPAN_SRC_LEN_len ∧ t.d.span.committed = s.d.span.committed) ∧
    (∀ (a n : Nat), s.d.formState = 1 ∧ a = s.d.span.formAddr ∧ n = s.d.span.formLen ∧ a + n ≤ 0x4000000 ∧ Clean s a ((n + 7) / 8) → s.d.imageHash s.d.span.formImage = some (sha256 ((s.blk.read8 a ((n + 7) / 8)).take n)) → Does .loadingDone s fun t => t.d.formState = 2 ∧ t.d.span.loaded = (s.blk.read8 a ((n + 7) / 8)).take n) ∧
    (∀ (m : SpanImg), s.d.formState = 2 ∧ s.d.span.formPartial = false → (checkImage s.d.span.loaded s.d.span.formImage s.d.span.loaded.length s.d.effLevel s.d.otp.fused none).toOption = some m → Does .checkingDone s fun t => t.d.formState = 3 ∧ t.d.span.shadow = some m ∧ t.d.span.committed = s.d.span.committed) ∧
    (s.d.formState = 3 → Does .shadowReady s fun t => t.d.formState = 4 ∧ t.d.f SPAN_REFUSE_reason = 0 ∧ t.d.f SPAN_REFUSE_offset = 0 ∧ Raised 145 t ∧ t.d.span = s.d.span) ∧
    (s.d.formState = 3 → Does .formMemErr s fun t => t.d.formState = 0 ∧ t.d.f SPAN_REFUSE_reason = 12 ∧ t.d.span.shadow = none ∧ Raised 144 t ∧ t.d.span.committed = s.d.span.committed) ∧
    (s.d.on DECK_SEAL_STAT_busy = true → Does .sealRecompute s fun t => t.d.seals.pubSeal = sealOf s.d.leaves ∧ t.d.seals.pubEpoch = s.d.seals.epoch ∧ Sets [(DECK_SEAL_EPOCH_epoch, s.d.seals.epoch % 0x100000000), (DECK_SEAL_STAT_busy, 0)] s t)

/-- An abort from LOADING to SHADOW_READY discards the shadow and returns form_state to IDLE; later it is ignored. -/
def Obligations.AbortDiscardsTheShadow : Prop :=
  ∀ s : State, Running s →
    (∀ (v : Word), s.d.hostWaits = false → (v.toNat % 16 = 0 ∨ v.toNat % 16 = 2) ∧ 1 ≤ s.d.formState ∧ s.d.formState ≤ 4 → Does (.abort v) s fun t => t.d.formState = 0 ∧ t.d.span.shadow = none ∧ t.d.now = s.d.now ∧ t.d.f SPAN_REFUSE_reason = 11 ∧ t.d.f SPAN_REFUSE_offset = 0 ∧ Raised 144 t ∧ t.d.span.committed = s.d.span.committed) ∧
    (∀ (v : Word), s.d.hostWaits = false → (v.toNat % 16 = 0 ∨ v.toNat % 16 = 2) ∧ s.d.formState = 5 → Does (.abort v) s fun t => Only [.host] s t)

/-- A write of SPAN_CMD with more than one command is refused as a whole, and image acts only with form. -/
def Obligations.SpanCommandsAreTakenOneByOne : Prop :=
  ∀ s : State, Running s →
    (∀ (v : Word), s.d.hostWaits = false → v.toNat % 16 ∉ [0, 1, 2, 4, 8] → Does (.registerWrite .host 0x200000 4 [v]) s fun t => Only [.regs, .host] s t ∧ Sets [(SPAN_STATUS_cmd_refused, 1)] s t) ∧
    (∀ (v : Word), s.d.hostWaits = false → v.toNat % 2 = 0 → Does (.registerWrite .host 0x200000 4 [v]) s fun t => Machine.exec (.registerWrite .host 0x200000 4 [v &&& 0xFFFFFFCF#32]) s = .next t)

/-- Commit and unform come due at a boundary, the dies acknowledge, and the release changes the structure in force or leaves it. That an
unform's release asks for no acknowledgement is the model's choice (log entry 58). -/
def Obligations.CommitAndUnformAreReleased : Prop :=
  ∀ s : State, Running s →
    (∀ (v : Word), s.d.hostWaits = false → v.toNat % 16 = 0 ∨ v.toNat % 16 = 4 → ∃ t, Sys2Proof.Machine.exec (.spanCmdCommit v) s = .next t ∧ t.d.deferred = s.d.deferred ++ [⟨.commit .host, s.d.refBoundary⟩] ∧ Only [.deferred, .host] s t) ∧
    (∀ (v : Word), s.d.hostWaits = false → (v.toNat % 16 = 0 ∨ v.toNat % 16 = 8) ∧ s.d.inReady = true ∧ s.d.formState = 0 → ∃ t, Sys2Proof.Machine.exec (.unform v) s = .next t ∧ t.d.deferred = s.d.deferred ++ [⟨.unform .host, s.d.refBoundary⟩] ∧ Only [.deferred, .host] s t) ∧
    (∀ (die : Nat) (z : Freeze), die < 6 ∧ s.d.span.freeze = some z → Sys2Proof.Machine.exec (.swapAck die) s = .next (s.actDev (modSpan fun x => { x with freeze := some { z with acks := z.acks ||| 1 <<< die } }))) ∧
    (∀ (z : Freeze) (m : SpanImg) (want : Nat), s.d.span.freeze = some z ∧ z.unform = false ∧ want = (if s.d.span.formPartial then 0x30 else 0x3F) ∧ z.acks &&& want = want ∧ z.deferred = [] → s.d.span.shadow = some m ∧ m.initPairs s.d.span.formPartial = [] → ∃ t, Sys2Proof.Machine.exec .commitRelease s = .next t ∧ t.d.span.committed = some m ∧ t.d.span.freeze = none ∧ t.d.span.shadow = none ∧ t.d.formState = 0 ∧ t.d.on SPAN_STATUS_partial = s.d.span.formPartial ∧ Raised 150 t ∧ t.d.now = max s.d.now (z.start + leadTicks)) ∧
    (∀ (z : Freeze) (m : SpanImg) (want v : Nat), s.d.span.freeze = some z ∧ z.unform = false ∧ want = (if s.d.span.formPartial then 0x30 else 0x3F) ∧ z.acks &&& want = want ∧ z.deferred = [] → s.d.span.shadow = some m ∧ m.initPairs s.d.span.formPartial = [(0x10001C, v)] ∧ 20 ≤ v ∧ v < 2 ^ 32 ∧ s.d.ldg.closed = false ∧ s.d.ledgerFull = false → ∃ t, Sys2Proof.Machine.exec .commitRelease s = .next t ∧ t.d.span.committed = some m ∧ t.d.span.freeze = none ∧ t.d.span.shadow = none ∧ Raised 150 t ∧ t.d.f TL_JUMP_MAX_ns = v ∧ (∃ x ∈ t.d.ldg.queue, x.kind = 1 ∧ x.origin = .firmware ∧ x.addr = 0x10001C ∧ x.old = s.d.f TL_JUMP_MAX_ns ∧ x.new = v)) ∧
    (∀ (z : Freeze) (m : SpanImg) (want : Nat), s.d.span.freeze = some z ∧ z.unform = false ∧ want = (if s.d.span.formPartial then 0x30 else 0x3F) ∧ z.acks &&& want ≠ want ∧ z.deferred = [] → s.d.span.shadow = some m → ∃ t, Sys2Proof.Machine.exec .commitRelease s = .next t ∧ t.d.span.committed = s.d.span.committed ∧ t.d.span.freeze = none ∧ t.d.span.shadow = none ∧ t.d.formState = 0 ∧ Raised 144 t ∧ (t.d.f SPAN_REFUSE_reason = 14 ∧ (∀ i < 6, (t.d.f SPAN_REFUSE_offset).testBit i = (want.testBit i && !z.acks.testBit i)))) ∧
    (∀ (z : Freeze), s.d.span.freeze = some z ∧ z.unform = true ∧ z.deferred = [] → ∃ t, Sys2Proof.Machine.exec .unformRelease s = .next t ∧ t.d.span.committed = none ∧ t.d.span.freeze = none ∧ Raised 150 t ∧ t.d.now = max s.d.now (z.start + leadTicks))

/-- Pier seals, the interface level, the adaptation modes and the crossings act as the chapters say. That a lost transfer is that of its
direction's next air tick in which samples cross is the model's choice (log entry 61). -/
def Obligations.PierSealsAndLevel : Prop :=
  ∀ s : State, Running s →
    (∀ (p : Nat) (agree : Bool), p < 4 ∧ s.d.piersUp = true ∧ agree = false ∧ s.d.on DECK_SEAL_STAT_busy = false ∧ s.d.fb DECK_SEAL_STAT_diverged p = false → Does (.pierSealCheck p agree) s fun t => t.d.fb DECK_SEAL_STAT_diverged p = true ∧ Raised 146 t ∧ (∀ n ∈ pierPaths p, s.d.fb (BAY_ACTIVE_tx_active (bayOf n)) (posOf n) = true → t.d.txLive n = false)) ∧
    (∀ (p : Nat) (agree : Bool), p < 4 ∧ agree = true ∧ s.d.fb DECK_SEAL_STAT_diverged p = true ∧ s.d.pierHeld p = false → Does (.pierReloadDone p agree) s fun t => t.d.fb DECK_SEAL_STAT_diverged p = false ∧ Raised 147 t) ∧
    (∀ (p : Nat) (agree : Bool), p < 4 ∧ agree = false ∧ s.d.fb DECK_SEAL_STAT_diverged p = true ∧ s.d.pierHeld p = false → Does (.pierReloadDone p agree) s fun t => t.d.pierHeld p = true ∧ t.d.on DECK_SEAL_STAT_held = true ∧ t.d.fe (2 * p) = 0 ∧ t.d.fe (2 * p + 1) = 0 ∧ Raised 148 t) ∧
    (∀ (org : Origin) (v : Word) (x : Nat), ((org = .host → s.d.hostWaits = false) ∧ (org = .firmware → s.d.key.fwStopped = false)) → (org = .host ∨ org = .firmware) ∧ s.d.inReady = true ∧ s.d.ledgerHolds = false ∧ x = v.toNat % 0x10000 ∧ (x = 0 ∨ 0x100 ≤ x) ∧ s.d.map.level ≤ levelOfDecl x → Does (.hostlevelWrite org v) s fun t => 256 * t.d.f DECK_HOSTLEVEL_host_major + t.d.f DECK_HOSTLEVEL_host_minor = x ∧ 256 * t.d.f DECK_HOSTLEVEL_eff_major + t.d.f DECK_HOSTLEVEL_eff_minor = levelOfDecl x) ∧
    (∀ (org : Origin) (v : Word), ((org = .host → s.d.hostWaits = false) ∧ (org = .firmware → s.d.key.fwStopped = false)) → (org = .host ∨ org = .firmware) ∧ s.d.inReady = true ∧ s.d.ledgerHolds = false → Does (.adaptModeWrite org v) s fun t => (∀ i, i < 6 → t.d.on (modeFld i) = v.toNat.testBit i) ∧ t.d.seals.epoch = (s.d.seals.epoch + 1) % 0x100000000) ∧
    (∀ (org : Origin) (v : Word) (x : Nat), ((org = .host → s.d.hostWaits = false) ∧ (org = .firmware → s.d.key.fwStopped = false)) → (org = .host ∨ org = .firmware) ∧ s.d.ledgerHolds = false ∧ x = v.toNat % 0x10000 ∧ (s.d.inReady = false ∨ (0 < x ∧ x < 0x100) ∨ levelOfDecl x < s.d.map.level) → Does (.hostlevelWrite org v) s fun t => SetsEv [] s t ∧ Raised 152 t) ∧
    (∀ (org : Origin) (v : Word), ((org = .host → s.d.hostWaits = false) ∧ (org = .firmware → s.d.key.fwStopped = false)) → (org = .host ∨ org = .firmware) ∧ s.d.inReady = false ∧ s.d.ledgerHolds = false → Does (.adaptModeWrite org v) s fun t => Sets [(SPAN_ADAPT_MODE_refused, 1)] s t ∧ t.d.seals = s.d.seals ∧ t.d.ldg = s.d.ldg) ∧
    (∀ (p : Nat) (up : Bool) (errBits : Nat), p < 4 ∧ s.d.piersUp = true ∧ errBits = 1 → DoesDev (.crossingTransfer p up errBits) s (incF (PIER_XING_corrected p))) ∧
    (∀ (p : Nat) (up : Bool) (errBits : Nat), p < 4 ∧ s.d.piersUp = true ∧ 1 < errBits → Does (.crossingTransfer p up errBits) s fun t => SetsEv [(PIER_XING_uncorrected p, min (s.d.f (PIER_XING_uncorrected p) + 1) 0xFFFF)] s t ∧ Raised (70 + 8 * p) t ∧ (t.d.xingLost p (ofBool up) = (s.d.xingLost p (ofBool up) || s.d.sampling && !s.d.map.pierIdle p) ∧ ∀ q u, q < 4 → u < 2 → (q, u) ≠ (p, ofBool up) → t.d.xingLost q u = s.d.xingLost q u))

/-- Front-end requests, transitions and turnarounds move a bay through its states. -/
def Obligations.FrontEndRequestsTakeEffect : Prop :=
  ∀ s : State, Running s →
    (∀ (b st : Nat), s.d.hostWaits = false → b < 8 ∧ st = 3 ∧ s.d.piersUp = true ∧ s.d.bayFormed b = true → Does (.feRequest b st) s fun t => (t.d.bay b).req = some (3, s.d.refBoundary) ∧ t.d.f (BAY_FE_STAT_held b) = 1 ∧ t.d.fe b = s.d.fe b) ∧
    (∀ (b st : Nat), s.d.hostWaits = false → b < 8 ∧ st = 1 ∧ s.d.piersUp = true ∧ s.d.bayFormed b = true ∧ s.d.fe b = 0 ∧ s.d.inTransition b = false ∧ (s.d.bay b).cal = none ∧ s.d.pierHeld (b / 2) = false → Does (.feRequest b st) s fun t => t.d.inTransition b = true ∧ t.d.feTarget b = 1 ∧ (t.d.bay b).dest = 1 ∧ t.d.now = s.d.now) ∧
    (∀ (b at_ : Nat), b < 8 ∧ (s.d.bay b).req = some (3, at_) ∧ s.d.bayFormed b = true ∧ s.d.fe b = 2 ∧ s.d.inTransition b = false ∧ (s.d.bay b).cal = none → s.d.inActive = true ∧ s.d.piersUp = true ∧ s.d.on (BAY_FE_STAT_lo_ready b) = true ∧ s.d.pierHeld (b / 2) = false → Does (.feRequestEffect b) s fun t => t.d.now = max s.d.now at_ ∧ t.d.inTransition b = true ∧ t.d.feTarget b = 3 ∧ (t.d.bay b).turnEnd = t.d.now + 1573 ∧ (t.d.bay b).req = none ∧ t.d.f (BAY_FE_STAT_held b) = 0) ∧
    (∀ (b : Nat), b < 8 ∧ s.d.fe b = 0 ∧ s.d.feTarget b = 1 ∧ s.d.inTransition b = true ∧ (s.d.bay b).dest = 1 → Does (.transitionComplete b) s fun t => Sets [(BAY_FE_STAT_state b, 1), (BAY_FE_STAT_in_transition b, 0)] s t ∧ Only [.regs] s t) ∧
    (∀ (b : Nat), b < 8 ∧ s.d.inTransition b = true ∧ s.d.feTarget b = 4 ∧ (s.d.bay b).dest = 4 → Does (.turnaroundComplete b) s fun t => t.d.fe b = 4 ∧ t.d.inTransition b = false ∧ t.d.now = max s.d.now (s.d.bay b).turnEnd)

/-- A synthesiser's lock, alignment, loss of lock and failure move its bay as the chapter says. -/
def Obligations.SynthesiserLocksAndFails : Prop :=
  ∀ s : State, Running s →
    (∀ (b band : Nat), b < 8 ∧ band < 256 ∧ s.d.inLockWait b = true ∧ s.d.on (BAY_SYNTH_STAT_locked b) = false → Does (.synthLock b band) s fun t => Sets [(BAY_SYNTH_STAT_locked b, 1), (BAY_SYNTH_STAT_aligned b, 0), (BAY_SYNTH_STAT_band b, band)] s t ∧ (t.d.bay b).alignAt = s.d.nextSubframe 1) ∧
    (∀ (b : Nat), b < 8 ∧ s.d.inLockWait b = true ∧ (s.d.bay b).dest = 2 ∧ s.d.on (BAY_SYNTH_STAT_locked b) = true ∧ s.d.on (BAY_SYNTH_STAT_aligned b) = false → s.d.on (BAY_SYNTH_STAT_cal_busy b) = false ∧ s.d.f (BAY_FE_STAT_mute_cause b) ≠ 1 → Does (.phaseAligned b) s fun t => Sets [(BAY_SYNTH_STAT_aligned b, 1), (BAY_FE_STAT_lo_ready b, 1), (BAY_FE_STAT_state b, 2), (BAY_FE_STAT_in_transition b, 0)] s t ∧ t.d.now = max s.d.now (s.d.bay b).alignAt) ∧
    (∀ (b : Nat), b < 8 ∧ s.d.on (BAY_SYNTH_STAT_locked b) = true ∧ 3 ≤ s.d.fe b → Does (.synthUnlock b) s fun t => t.d.fe b = 2 ∧ t.d.inTransition b = false ∧ t.d.f (BAY_FE_STAT_muted b) = 1 ∧ t.d.f (BAY_FE_STAT_mute_cause b) = 1 ∧ Raised (64 + 8 * (b / 2)) t ∧ t.d.on (BAY_SYNTH_STAT_locked b) = false ∧ t.d.on (BAY_FE_STAT_lo_ready b) = false ∧ (t.d.bay b).unlockAt = some s.d.now) ∧
    (∀ (b at_ : Nat), (s.d.bay b).unlockAt = some at_ → Does (.relockSearch b) s fun t => (t.d.bay b).searching = true ∧ t.d.now = max s.d.now (at_ + usTicks 100) ∧ Sets [] s t) ∧
    (∀ (b at_ : Nat), b < 8 ∧ (s.d.bay b).unlockAt = some at_ → Does (.synthFail b) s fun t => t.d.fe b = 1 ∧ t.d.inTransition b = false ∧ t.d.on (BAY_SYNTH_STAT_failed b) = true ∧ t.d.on (BAY_SYNTH_STAT_locked b) = false ∧ Raised (65 + 8 * (b / 2)) t ∧ (t.d.bay b).unlockAt = none ∧ t.d.now = max s.d.now (at_ + usTicks 1000))

/-- Gains, overloads, sheds and rejoins act on their paths as the chapter says. -/
def Obligations.GainsAndSheds : Prop :=
  ∀ s : State, Running s →
    (∀ (n tx rx : Nat), s.d.hostWaits = false → n < 64 ∧ tx < 64 ∧ rx < 64 ∧ s.d.piersUp = true ∧ s.d.ledgerHolds = false → Does (.gainWrite n tx rx) s fun t => t.d.f (BAY_GAIN_tx_att (bayOf n) (posOf n)) = tx ∧ t.d.f (BAY_GAIN_rx_att (bayOf n) (posOf n)) = rx ∧ t.d.deferred = s.d.deferred ++ [⟨.gain n tx rx, s.d.refBoundary⟩] ∧ t.d.inForce = s.d.inForce) ∧
    (∀ (n tx rx due : Nat), n < 64 ∧ tx < 64 ∧ rx < 64 ∧ s.d.deferred = [⟨.gain n tx rx, due⟩] ∧ s.d.txOn (bayOf n) = true → Does .deferredWriteEffect s fun t => t.d.forced (BAY_GAIN_tx_att (bayOf n) (posOf n)) = tx ∧ t.d.deferred = [] ∧ t.d.now = max s.d.now due) ∧
    (∀ (n : Nat) (symbols : List (List (Int × Int))), n < 64 ∧ s.d.rxOn (bayOf n) = true ∧ s.d.rxLive n = true → (∃ l ∈ symbols, max 1 (s.d.f (BAY_RX_CFG_ovl_cnt (bayOf n))) ≤ (l.filter fun x => overThr (s.d.f (BAY_RX_CFG_ovl_thr (bayOf n))) (codeMag x)).length) → Does (.rxOverload n symbols) s fun t => t.d.f (BAY_RX_PEAK_peak (bayOf n) (posOf n)) = min (symbols.flatten.foldl (fun a x => max a (codeMag x)) (s.d.f (BAY_RX_PEAK_peak (bayOf n) (posOf n)))) 0x3FFF ∧ t.d.f (BAY_RX_PEAK_ovl_slots (bayOf n) (posOf n)) = min (s.d.f (BAY_RX_PEAK_ovl_slots (bayOf n) (posOf n)) + 1) 0xFFFF) ∧
    (∀ (n cause : Nat), n < 64 ∧ cause = 2 ∧ s.d.fb (BAY_ACTIVE_tx_active (bayOf n)) (posOf n) = true → Does (.pathFault n cause) s fun t => t.d.fb (BAY_SHED_tx_fault (bayOf n)) (posOf n) = true ∧ t.d.txLive n = false ∧ bits (t.d.f (BAY_FAULT_CAUSE_cause (bayOf n))) (4 * posOf n + 3) (4 * posOf n) = 2) ∧
    (∀ (n us : Nat), (n < 64 ∧ us ≤ 20 ∧ (∃ c ∈ s.d.faultsOf n, c ≠ 5)) → Does (.shedComplete n us) s fun t => (t.d.faultsOf n = [] ∧ (∀ m, m < 64 → m ≠ n → t.d.faultsOf m = s.d.faultsOf m) ∧ Raised (66 + 8 * (n / 16)) t ∧ SetsEv [] s t) ∧ t.d.f (DECK_EVT_CFG_count (66 + 8 * (n / 16))) = min (s.d.f (DECK_EVT_CFG_count (66 + 8 * (n / 16))) + ((s.d.faultsOf n).filter (· ≠ 5)).length) ((DECK_EVT_CFG_count (66 + 8 * (n / 16))).size - 1)) ∧
    (∀ (n us : Nat), n < 64 ∧ us ≤ 20 ∧ s.d.faultsOf n = [5] → Does (.shedComplete n us) s fun t => t.d.faultsOf n = [] ∧ Sets [] s t) ∧
    (∀ (n us : Nat), n < 64 ∧ 20 < us ∧ s.d.faultsOf n = [5] → (∀ b < 8, ∀ x ∈ (s.d.bay b).faults, x.2.1 = 5 → b = bayOf n ∧ x.1 = posOf n) → Does (.shedComplete n us) s fun t => t.d.faultsOf n = [] ∧ SetsEv [] s t ∧ Raised 154 t) ∧
    (∀ (n us c k u v : Nat), n < 64 ∧ 20 < us ∧ (s.d.bay (bayOf n)).faults = [(posOf n, c, u), (posOf n, k, v)] ∧ c ≠ 5 ∧ k ≠ 5 ∧ u ≤ v ∧ us - (v - u) * 1000000 / secTicks ≤ 20 → Does (.shedComplete n us) s fun t => t.d.faultsOf n = [] ∧ SetsEv [] s t ∧ Raised 154 t ∧ t.d.f (DECK_EVT_CFG_count 154) = min (s.d.f (DECK_EVT_CFG_count 154) + 1) ((DECK_EVT_CFG_count 154).size - 1)) ∧
    (∀ (c : Nat), Does (.renormalise c) s fun t => (smGet (0, 0) c t.d.gir.use = (s.d.liveMask 0, s.d.liveMask 1) ∧ (∀ x, x ≠ c → smGet (0, 0) x t.d.gir.use = smGet (0, 0) x s.d.gir.use) ∧ t.d.now = s.d.nextSymbol (s.d.grid15 c) 0)) ∧
    (∀ (b tx rx : Nat), s.d.hostWaits = false → b < 8 ∧ tx < 256 ∧ rx < 256 ∧ s.d.piersUp = true ∧ s.d.ledgerHolds = false → Does (.hostShed b tx rx) s fun t => t.d.f (BAY_SHED_tx_host b) = (tx &&& s.d.f (BAY_ACTIVE_tx_active b)) ∧ t.d.f (BAY_SHED_rx_host b) = (rx &&& s.d.f (BAY_ACTIVE_rx_active b)) ∧ t.d.deferred = s.d.deferred ++ [⟨.hostShed b (tx &&& s.d.f (BAY_ACTIVE_tx_active b)) (rx &&& s.d.f (BAY_ACTIVE_rx_active b)), s.d.nextSymbol (s.d.bayGrid15 b) leadTicks⟩]) ∧
    (∀ (b tx rx : Nat), s.d.hostWaits = false → b < 8 ∧ tx < 256 ∧ rx < 256 ∧ s.d.piersUp = true ∧ s.d.ledgerHolds = false → Does (.faultShedClear b tx rx) s fun t => (∀ i, i < 8 → t.d.fb (BAY_SHED_tx_fault b) i = (s.d.fb (BAY_SHED_tx_fault b) i && !tx.testBit i)) ∧ (∀ i, i < 8 → t.d.fb (BAY_SHED_rx_fault b) i = (s.d.fb (BAY_SHED_rx_fault b) i && !rx.testBit i))) ∧
    (∀ (n persists : Nat), n < 64 ∧ persists = 0 ∧ s.d.inGuard (bayOf n) = true ∧ s.d.fb DECK_SEAL_STAT_diverged (pierOf n) = false ∧ s.d.pierHeld (pierOf n) = false → s.d.txShedCause n = false ∧ s.d.fb (BAY_ACTIVE_tx_active (bayOf n)) (posOf n) = true → Does (.pathRejoin n persists) s fun t => t.d.txLive n = true ∧ t.d.now = s.d.nextSymbol (s.d.bayGrid15 (bayOf n)) 0 ∧ (((s.d.bay (bayOf n)).shedTx.testBit (posOf n) = true ∧ s.d.f (HK_LIM_action n) = 2 → t.d.on (HK_CH_lim_hi n) = false ∧ t.d.on (HK_CH_lim_lo n) = false))) ∧
    (∀ (n dir : Nat) (x : Nat × Nat), n < 64 ∧ dir < 2 ∧ (s.d.chain n dir).fade = some x ∧ (s.d.chain n dir).queued = none → Does (.crossFadeEnd n dir) s fun t => t.d.chain n dir = { s.d.chain n dir with fade := none, queued := none } ∧ t.d.now = max s.d.now ((s.d.fadeEnd n dir x.1 + 11) / 12) ∧ Sets [(fadingFld n dir, 0), (queuedFld n dir, 0), (BAY_CH_STAT_swap_done (bayOf n), min (s.d.f (BAY_CH_STAT_swap_done (bayOf n)) + 1) ((BAY_CH_STAT_swap_done (bayOf n)).size - 1))] s t)

/-- Coefficients, expansion, fits, captures, reverts and fallbacks of predistortion act on their paths. How R158's step and error are rounded is
the model's choice (log entry 62). -/
def Obligations.PredistortionActsOnItsPaths : Prop :=
  ∀ s : State, Running s →
    (∀ (org : Origin) (n set w : Nat) (v : Word), ((org = .host → s.d.hostWaits = false) ∧ (org = .firmware → s.d.key.fwStopped = false)) → org = .host ∧ n < 64 ∧ set < 2 ∧ w < 128 ∧ s.d.piersUp = true ∧ s.d.map.modelled n = true ∧ s.d.setBusy n set = false ∧ s.d.dpdHw = false → Does (.coefWrite org n set w v) s fun t => t.d.coef n set w = v.toNat ∧ t.d.f (readyFld n set) = 0 ∧ t.d.f (badFld n set) = 0) ∧
    (∀ (n set : Nat), s.d.hostWaits = false → n < 64 ∧ set < 2 ∧ s.d.piersUp = true ∧ s.d.map.modelled n = true ∧ s.d.on (BAY_OBS_STAT_exp_busy (bayOf n)) = false → Does (.expand n set) s fun t => t.d.on (BAY_OBS_STAT_exp_busy (bayOf n)) = true ∧ (t.d.obsSt (bayOf n)).exp = some (posOf n, set)) ∧
    (∀ (b k set : Nat), b < 8 ∧ k < 8 ∧ set < 2 ∧ (s.d.obsSt b).exp = some (k, set) ∧ s.d.loopExpansion b (8 * b + k) = none → Does (.expansionDone b) s fun t => t.d.on (readyFld (8 * b + k) set) = s.d.expandsGood (8 * b + k) set ∧ t.d.on (badFld (8 * b + k) set) = !s.d.expandsGood (8 * b + k) set ∧ t.d.on (BAY_OBS_STAT_exp_busy b) = false ∧ (t.d.obsSt b).exp = none) ∧
    (∀ (n : Nat), s.d.hostWaits = false → n < 64 ∧ s.d.piersUp = true ∧ s.d.dpdState n = 5 ∧ s.d.map.modelled n = true ∧ s.d.on (BAY_DPD_dpd_en (bayOf n) (posOf n)) = true ∧ s.d.dpdHw = true ∧ s.d.fb SPAN_ADAPT_MODE_pending 0 = false → Does (.clearFb n) s fun t => t.d.dpdState n = 1 ∧ (t.d.dpdSt n).fbAdded = 0 ∧ (t.d.dpdSt n).revertRun = 0 ∧ t.d.f (BAY_GAIN_tx_att (bayOf n) (posOf n)) = (s.d.f (BAY_GAIN_tx_att (bayOf n) (posOf n)) - (s.d.dpdSt n).fbAdded) % 64) ∧
    (∀ (b : Nat) (r : CapResult) (c : CapRun), b < 8 ∧ (s.d.obsSt b).cap = some c ∧ c.slot < 4 ∧ captureStatus c ((captureEnd b s.d).capSamples b c r) = 0 → Does (.captureWritten b r) s fun t => t.d.on (BAY_OBS_STAT_busy b) = false ∧ t.d.fb (BAY_OBS_STAT_slot_full b) c.slot = true ∧ (t.d.obsSt b).cap = none ∧ (t.d.obsSt b).seq = seqNext (s.d.obsSt b).seq ∧ t.d.f (BAY_OBS_STAT_cap_ok b) = min (s.d.f (BAY_OBS_STAT_cap_ok b) + 1) ((BAY_OBS_STAT_cap_ok b).size - 1) ∧ t.d.now = max s.d.now (c.start + (c.len + c.lag + 2) / 3)) ∧
    (∀ (b : Nat) (r : CapResult) (c : CapRun), b < 8 ∧ (s.d.obsSt b).cap = some c ∧ c.slot < 4 ∧ captureStatus c ((captureEnd b s.d).capSamples b c r) ≠ 0 → Does (.captureWritten b r) s fun t => t.d.on (BAY_OBS_STAT_busy b) = false ∧ t.d.fb (BAY_OBS_STAT_slot_full b) c.slot = true ∧ (t.d.obsSt b).cap = none ∧ (t.d.obsSt b).seq = seqNext (s.d.obsSt b).seq ∧ t.d.f (BAY_OBS_STAT_cap_spoiled b) = min (s.d.f (BAY_OBS_STAT_cap_spoiled b) + 1) ((BAY_OBS_STAT_cap_spoiled b).size - 1) ∧ t.d.f (BAY_OBS_STAT_cap_ok b) = s.d.f (BAY_OBS_STAT_cap_ok b)) ∧
    (∀ (e result j at_ l n set : Nat) (r : FitResult) (trap : Bool), e < 16 ∧ (s.d.eng e).run = some ⟨j, at_, trap, some 1⟩ ∧ s.d.descByte j 2 = 0 ∧ s.d.serves e = some l ∧ (s.d.assigned l 6).testBit (bayOf n) = true ∧ r.path = n ∧ n < 64 ∧ set = s.d.dpdSpare n → s.d.dpdHw = true ∧ s.d.fb SPAN_ADAPT_MODE_pending 0 = false ∧ s.d.dpdState n ≠ 5 ∧ s.d.setBusy n set = false ∧ (s.d.map.neighbours n).length ≤ 4 ∧ r.da ≠ [] ∧ r.g ≠ (0, 0) ∧ r.errPow ≠ 0 ∧ r.sigPow ≠ 0 → Does (.jobEnd e result (some r)) s fun t => (t.d.coef n set 0 = coefDefault 0 ∧ (∀ w, 0 < w ∧ w < 8 * (12 + (s.d.map.neighbours n).length) → t.d.coef n set w = s.d.fitWord r w) ∧ (∀ w, 8 * (12 + (s.d.map.neighbours n).length) ≤ w ∧ w < 128 → t.d.coef n set w = coefDefault w)) ∧ t.d.f (readyFld n set) = 0 ∧ t.d.f (badFld n set) = 0 ∧ (t.d.dpdSt n).step = 3 ∧ t.d.f (BAY_DPD_MET_eps (bayOf n) (posOf n)) = (ratioDb r.errPow r.sigPow 0 % 65536).toNat) ∧
    (∀ (n at_ x : Nat), n < 64 ∧ (s.d.dpdSt n).revertAt = some at_ ∧ (s.d.dpdSt n).held = some x ∧ x < 2 ∧ (s.d.dpdSt n).revertRun < 2 → Does (.revert n) s fun t => t.d.dpdLinear n = false ∧ t.d.dpdForce n = x ∧ t.d.on (BAY_DPD_verify (bayOf n) (posOf n)) = false ∧ (t.d.dpdSt n).held = none ∧ (t.d.dpdSt n).revertRun = (s.d.dpdSt n).revertRun + 1 ∧ Raised (69 + 8 * (n / 16)) t ∧ t.d.now = max s.d.now at_) ∧
    (∀ (n : Nat), n < 64 ∧ s.d.on (BAY_DPD_verify (bayOf n) (posOf n)) = true ∧ (s.d.dpdSt n).revertAt = none → Does (.verifyTimeout n) s fun t => t.d.on (BAY_DPD_verify (bayOf n) (posOf n)) = false ∧ (t.d.dpdSt n).held = none ∧ t.d.now = max s.d.now ((s.d.dpdSt n).appliedAt + usTicks (10000 * max 1 (s.d.f (BAY_DPD_CFG_verify_to (bayOf n)))))) ∧
    (∀ (n : Nat), n < 64 ∧ s.d.dpdHw = true ∧ s.d.dpdState n = 3 ∧ s.d.fe (bayOf n) = 4 ∧ s.d.inTransition (bayOf n) = false → Does (.obsFail n) s fun t => t.d.now = s.d.now + (usTicks 500000 - (s.d.txTime (bayOf n) - (s.d.dpdSt n).okTx)) ∧ t.d.dpdState n = 4 ∧ (t.d.dpdSt n).stateLeft = 3 ∧ t.d.f (BAY_DPD_cause (bayOf n) (posOf n)) = 4 ∧ Raised (69 + 8 * (n / 16)) t)

/-- Codebook, dynamic entries, girders and rail weights act as their commands say. That a pass due in a freeze window is dropped is the model's
choice (log entry 58). -/
def Obligations.BeamCommandsActOnTheGirders : Prop :=
  ∀ s : State, Running s →
    (∀ (org : Origin) (e j : Nat) (v : Word), ((org = .host → s.d.hostWaits = false) ∧ (org = .firmware → s.d.key.fwStopped = false)) → org = .host ∧ e < 4096 ∧ j < 63 ∧ s.d.gir.stageEntry = some e → Does (.codebookWrite org e j [v]) s fun t => smGet (2 ^ 32) j t.d.gir.stage = v.toNat ∧ t.d.gir.stageEntry = some e ∧ t.d.f GIRDER_CB_STAT_torn = s.d.f GIRDER_CB_STAT_torn ∧ t.blk.mem = s.blk.mem) ∧
    (∀ (org : Origin) (e j u : Nat) (v : Word), ((org = .host → s.d.hostWaits = false) ∧ (org = .firmware → s.d.key.fwStopped = false)) → org = .host ∧ e < 4096 ∧ j = 63 ∧ u < 2 ^ 32 ∧ s.d.gir.stageEntry = some e ∧ s.d.gir.stage = [(62, u)] → Does (.codebookWrite org e j [v]) s fun t => t.blk.mem.bytes (cbAddr e 62) 8 = leBytes 4 u ++ leBytes 4 v.toNat ∧ t.d.gir.stageEntry = none ∧ t.d.gir.stage = [] ∧ (∀ a, (a < cbAddr e 62 ∨ cbAddr e 64 ≤ a) → t.blk.mem.byte a = s.blk.mem.byte a)) ∧
    (∀ (org : Origin) (off : Nat) (v : Word), ((org = .host → s.d.hostWaits = false) ∧ (org = .firmware → s.d.key.fwStopped = false)) → org = .host ∧ off < 0x13C ∧ off % 4 = 0 → Does (.dynamicUpdate org off [v]) s fun t => t.d.gir = { s.d.gir with port := smPut 0 (off / 4) v.toNat s.d.gir.port } ∧ Only [.gir, .host] s t) ∧
    (∀ (org : Origin) (off k : Nat) (v : Word), ((org = .host → s.d.hostWaits = false) ∧ (org = .firmware → s.d.key.fwStopped = false)) → org = .host ∧ off = 0x13C ∧ k = smGet 0 0 s.d.gir.port % 65536 ∧ k < 1024 → Does (.dynamicUpdate org off [v]) s fun t => t.d.gir.port = [] ∧ (t.d.dynE k).pend.isSome = true) ∧
    (∀ (e : Nat), s.d.hostWaits = false → e < 4096 ∧ Clean s (cbAddr e 0) 32 → Does (.revalidate e) s fun t => t.d.cbInvalid e = false ∧ t.d.on GIRDER_CB_STAT_reval_ok = true ∧ t.blk.mem = s.blk.mem) ∧
    (∀ (c frame slot sym : Nat) (at_ : Int), (s.d.map.carrier c).isSome = true ∧ at_ = s.d.symInstant (s.d.grid15 c) frame slot sym ∧ s.d.span.freeze = none → Does (.dlPassStart c frame slot sym) s fun t => t.d.gir.lastPass = some (match s.d.gir.lastPass with | some p => max p at_ | none => at_) ∧ t.d.now = max s.d.now (at_ - threeS (s.d.grid15 c)).toNat ∧ (∀ x ∈ t.d.xk.sections, ¬(x.carrier = c ∧ x.frame = frame ∧ x.slot = slot ∧ x.sym = sym))) ∧
    (∀ (c frame slot sym : Nat), (s.d.map.carrier c).isSome = true ∧ s.d.span.freeze.isSome = true → Does (.dlPassStart c frame slot sym) s fun t => (t.d.gir = s.d.gir ∧ (∀ x ∈ t.d.xk.sections, ¬(x.carrier = c ∧ x.frame = frame ∧ x.slot = slot ∧ x.sym = sym)) ∧ Sets [] s t)) ∧
    (∀ (c : Nat), c < 6 → Does (.layersChange c) s fun t => t.d.enabled c 0 = s.d.layersWanted c 0 % (GIRDER_LAYERS_dl_enabled c).size ∧ t.d.enabled c 1 = s.d.layersWanted c 1 % (GIRDER_LAYERS_ul_enabled c).size ∧ t.d.now = s.d.nextSymbol (s.d.grid15 c) 0) ∧
    (∀ (org : Origin) (p i set : Nat) (v : Word), ((org = .host → s.d.hostWaits = false) ∧ (org = .firmware → s.d.key.fwStopped = false)) → org = .host ∧ p < 4 ∧ i < 16 ∧ set < 2 ∧ s.d.piersUp = true ∧ ofBool (s.d.fb (PIER_RAIL_SEL_in_force p) i) ≠ set ∧ s.d.fb (PIER_RAIL_SEL_loading p) i = false → Does (.railWrite org p i set v) s fun t => Sets [(PIER_RAIL_q p i set, v.toNat / 65536), (PIER_RAIL_i p i set, v.toNat % 65536)] s t ∧ Only [.regs, .host] s t) ∧
    (∀ (n w at_ x : Nat), n < 64 ∧ w < 2 ^ 32 ∧ x < 2 ∧ s.d.gir.loads = [⟨at_, x, [(n, w)]⟩] → Does .railLoadDone s fun t => t.d.f (PIER_RAIL_q (pierOf n) (n % 16) x) = w / 65536 ∧ t.d.f (PIER_RAIL_i (pierOf n) (n % 16) x) = w % 65536 ∧ t.d.fb (PIER_RAIL_SEL_loading (pierOf n)) (n % 16) = false ∧ t.d.gir.loads = [])

/-- A lane's signal, timers, merit and taps move it through its states. -/
def Obligations.LanesMoveThroughTheirStates : Prop :=
  ∀ s : State, Running s →
    (∀ (l : Nat), l < 4 ∧ s.d.lane l = 1 ∧ s.d.rxRest l = false → Does (.signalDetect l) s fun t => Sets [(LINK_LANE_STAT_sig_det l, 1), (LINK_LANE_STAT_state l, 3)] s t ∧ (t.d.laneSt l).acqAt = s.d.now ∧ t.d.now = s.d.now) ∧
    (∀ (l : Nat), l < 4 ∧ s.d.lane l = 3 ∧ s.d.rxRest l = false ∧ s.d.on (LINK_LANE_STAT_sig_det l) = true → Does (.lossOfSignal l) s fun t => Sets [(LINK_LANE_STAT_sig_det l, 0), (LINK_LANE_STAT_state l, 1), (LINK_LANE_STAT_cdr_lock l, 0), (LINK_LANE_COUNT_los l, min (s.d.f (LINK_LANE_COUNT_los l) + 1) ((LINK_LANE_COUNT_los l).size - 1))] s t) ∧
    (∀ (l : Nat), l < 4 ∧ s.d.lane l = 5 ∧ s.d.rxRest l = false → Does (.clockLockLoss l) s fun t => t.d.lane l = 1 ∧ t.d.on (LINK_LANE_STAT_cdr_lock l) = false ∧ t.d.portUp (l / 2) = false ∧ Raised 17 t) ∧
    (∀ (l : Nat), l < 4 ∧ s.d.lane l = 1 ∧ s.d.rxRest l = false ∧ s.d.on (LINK_LANE_STAT_sig_det l) = false → Does (.seekTimeout l) s fun t => t.d.lane l = 2 ∧ t.d.now = max s.d.now ((s.d.laneSt l).at_ + usTicks 100000) ∧ t.d.f (LINK_LANE_COUNT_waits l) = min (s.d.f (LINK_LANE_COUNT_waits l) + 1) ((LINK_LANE_COUNT_waits l).size - 1)) ∧
    (∀ (l : Nat), l < 4 ∧ s.d.lane l = 2 ∧ s.d.rxRest l = false → Does (.backoffEnd l) s fun t => Sets [(LINK_LANE_STAT_state l, 1), (LINK_LANE_STAT_cdr_lock l, 0), (LINK_LANE_STAT_backoff l, (s.d.f (LINK_LANE_STAT_backoff l) + 1) % 3)] s t ∧ t.d.now = max s.d.now ((s.d.laneSt l).at_ + usTicks (100000 * 2 ^ s.d.f (LINK_LANE_STAT_backoff l)))) ∧
    (∀ (l : Nat), l < 4 ∧ s.d.lane l = 3 ∧ s.d.rxRest l = false → Does (.acquireTimeout l) s fun t => t.d.lane l = 2 ∧ t.d.on (LINK_LANE_STAT_cdr_lock l) = false ∧ t.d.now = max s.d.now ((s.d.laneSt l).acqAt + usTicks 50000)) ∧
    (∀ (l : Nat) (merit : Int) (eq : Nat), l < 4 ∧ s.d.lane l = 3 ∧ s.d.rxRest l = false ∧ s.d.meritMin ≤ merit ∧ merit < 32768 ∧ s.d.on SPAN_ADAPT_MODE_lane_mode = false → Does (.meritUpdate l merit eq) s fun t => t.d.lane l = 4 ∧ t.d.f (LINK_LANE_STAT_merit l) = merit.toNat ∧ t.d.on (LINK_LANE_STAT_cdr_lock l) = true ∧ (t.d.laneSt l).verAt = s.d.now ∧ t.d.f (LINK_LANE_RXEQ_ctle l) = eq % 32 ∧ t.d.f (LINK_LANE_RXEQ_dfe1 l) = eq / 2 ^ 24 % 256) ∧
    (∀ (l : Nat), l < 4 ∧ s.d.lane l = 4 ∧ s.d.rxRest l = false → Does (.laneUp l) s fun t => t.d.lane l = 5 ∧ t.d.f (LINK_LANE_STAT_backoff l) = 0 ∧ Raised 16 t ∧ t.d.now = max s.d.now ((s.d.laneSt l).verAt + usTicks 1000) ∧ t.d.f (LINK_LANE_COUNT_ups l) = min (s.d.f (LINK_LANE_COUNT_ups l) + 1) ((LINK_LANE_COUNT_ups l).size - 1)) ∧
    (∀ (org : Origin) (l : Nat) (v : Word), ((org = .host → s.d.hostWaits = false) ∧ (org = .firmware → s.d.key.fwStopped = false)) → org = .host ∧ l < 4 ∧ txeqGood v.toNat = true ∧ s.d.ledgerHolds = false → Does (.txeqWrite org l v) s fun t => t.d.f (LINK_LANE_TXEQ_post1 l) = v.toNat / 2 ^ 24 ∧ t.d.f (LINK_LANE_TXEQ_main l) = v.toNat / 2 ^ 16 % 256 ∧ t.d.f (LINK_LANE_TXEQ_pre1 l) = v.toNat / 2 ^ 8 % 256 ∧ t.d.f (LINK_LANE_TXEQ_pre2 l) = v.toNat % 256 ∧ t.d.f LINK_STAT_param_refused = s.d.f LINK_STAT_param_refused)

/-- Ports align, fault, fail over, return, re-seek and rest as their commands say. Which port is the timing port after the return in the paired
mode is the model's reading (log entry 63, DEDUCED). -/
def Obligations.PortsAlignFailOverAndReturn : Prop :=
  ∀ s : State, Running s →
    (∀ (p rx tx : Nat), p < 2 ∧ 320 ≤ rx ∧ rx ≤ 4000 ∧ 320 ≤ tx ∧ tx ≤ 4000 ∧ s.d.port p = 2 → Does (.portUp p rx tx) s fun t => t.d.port p = 3 ∧ t.d.f (LINK_PORT_STAT_attempts p) = 0 ∧ Raised 19 t ∧ t.d.f (if p = 0 then TL_TS_LAT_A_ingress else TL_TS_LAT_B_ingress) = rx ∧ t.d.f (if p = 0 then TL_TS_LAT_A_egress else TL_TS_LAT_B_egress) = tx) ∧
    (∀ (p : Nat), p < 2 ∧ s.d.port p = 2 ∧ s.d.f (LINK_PORT_STAT_attempts p) < 2 ∧ s.d.lane (2 * p) = 5 ∧ s.d.lane (2 * p + 1) = 5 ∧ s.d.portRest p = false → Does (.aligningExpired p) s fun t => t.d.port p = 1 ∧ t.d.lane (2 * p) = 1 ∧ t.d.lane (2 * p + 1) = 1 ∧ t.d.f (LINK_PORT_STAT_attempts p) = s.d.f (LINK_PORT_STAT_attempts p) + 1 ∧ t.d.now = max s.d.now (smGet 0 p s.d.link.portAt + usTicks 1000)) ∧
    (∀ (p n corr : Nat), p < 2 ∧ s.d.portUp p = true ∧ 8 ≤ n → Does (.fecUncorrected p n corr) s fun t => t.d.port p = 1 ∧ t.d.f (LINK_PORT_FEC_uncorrected p) = min (s.d.f (LINK_PORT_FEC_uncorrected p) + n) 65535 ∧ t.d.f (LINK_PORT_FEC_corrected p) = min corr 65535) ∧
    (∀ (p : Nat), p < 2 ∧ s.d.portUp p = true → Does (.amLockLoss p) s fun t => t.d.port p = 1 ∧ t.d.f (LINK_PORT_STAT_attempts p) = 0) ∧
    (∀ (ns o : Nat), o < 2 ∧ s.d.link.moveTo = some o ∧ s.d.portUp o = true → Does (.failover ns) s fun t => t.d.link.carry = some (2 ^ o) ∧ t.d.on LINK_STAT_fallback = true ∧ Raised 20 t ∧ t.d.f LINK_FAILOVER_last_ns = min ns 65535 ∧ t.d.link.moveTo = none ∧ t.d.f LINK_FAILOVER_count = min (s.d.f LINK_FAILOVER_count + 1) ((LINK_FAILOVER_count).size - 1)) ∧
    (∀ (at_ : Nat), s.d.link.holdAt = some at_ ∧ s.d.now ≤ at_ + usTicks (100000 * s.d.map.hold) → Does .revertHoldExpired s fun t => t.d.link.failbackAt = some t.d.frameLead ∧ t.d.link.holdAt = none ∧ t.d.now = at_ + usTicks (100000 * s.d.map.hold) ∧ Sets [] s t) ∧
    (∀ (at_ : Nat), s.d.link.failbackAt = some at_ ∧ s.d.moved = true ∧ s.d.arrangementUp = true → Does .failback s fun t => t.d.link.carry = some s.d.map.arrangement ∧ t.d.on LINK_STAT_fallback = false ∧ Raised 21 t ∧ t.d.now = max s.d.now at_ ∧ t.d.link.failbackAt = none ∧ t.d.f LINK_STAT_timing_port = s.d.map.timingPort) ∧
    (s.d.hostWaits = false → s.d.portUp 0 = true ∧ s.d.portUp 1 = true ∧ s.d.moved = true ∧ s.d.link.failbackAt = none ∧ s.d.map.revert = false → Does .failbackCmd s fun t => t.d.link.failbackAt = some s.d.frameLead ∧ Sets [] s t) ∧
    (∀ (p : Nat), s.d.hostWaits = false → p < 2 ∧ s.d.carries p = false ∧ s.d.lane (2 * p) = 5 ∧ s.d.lane (2 * p + 1) = 5 ∧ s.d.portRest p = false → Does (.reseek p) s fun t => t.d.lane (2 * p) = 1 ∧ t.d.lane (2 * p + 1) = 1 ∧ t.d.portUp p = false) ∧
    (∀ (v : Word), s.d.hostWaits = false → s.d.carries 0 = false ∧ s.d.carries 1 = false → Does (.linkRestWrite v) s fun t => t.d.f LINK_REST_rx_rest = v.toNat / 256 % 16 ∧ t.d.f LINK_REST_tx_rest = v.toNat % 16 ∧ (∀ l < 4, t.d.rxRest l = v.toNat.testBit (8 + l)))

/-- Sections, plans, weights, echoes and register requests complete, act and are answered under the conditions named. A plan's beams are taken
modulo 8,192 (log entry 63, DEDUCED), and a section goes in a frame of its own (log entry 35, DEDUCED). -/
def Obligations.LinkMessagesTakeEffect : Prop :=
  ∀ s : State, Running s →
    (∀ (f : XkFrame) (m : XkMsg) (g : Nat) (l : List Nat) (at_ : Int), s.d.xkOpen 0x40 [1] f = .message m ∧ be m.body 0 4 % 8192 = 1 ∧ bits (be m.body 0 4) 21 17 ≤ 19 ∧ bits (be m.body 0 4) 16 13 ≤ 13 → l = m.body.drop 4 ∧ l.getD 1 0 = 0 ∧ l.length = 12 + be l 10 2 ∧ g < 320 ∧ s.d.flowOf 0 m.stream = some g ∧ 2 ≤ s.d.flowState g ∧ s.d.sectionGood g (l.take 12) = true ∧ s.d.slotGood g (bits (be m.body 0 4) 21 17) = true → at_ = s.d.symInstant (s.d.grid15 (match s.d.map.get 7 g with | some r => r.b 1 | none => 0)) (bits (be m.body 0 4) 31 22) (bits (be m.body 0 4) 21 17) (bits (be m.body 0 4) 16 13) → 245760 ≤ at_ - s.d.now ∧ at_ - s.d.now ≤ 491520 → Does (.sectionsMessage f) s fun t => t.d.f (LINK_FLOW_W1_sections g) = (s.d.f (LINK_FLOW_W1_sections g) + 1) % (LINK_FLOW_W1_sections g).size ∧ t.d.xk.sections.dropLast = s.d.xk.sections ∧ (t.d.xk.sections.getLast?.map fun x => [x.flow, x.frame, x.slot, x.sym, x.layer, x.start, x.n, x.beam]) = some [g, bits (be m.body 0 4) 31 22, bits (be m.body 0 4) 21 17, bits (be m.body 0 4) 16 13, l.getD 0 0, be l 2 2, be l 4 2, be l 6 2] ∧ (t.d.xk.sections.getLast?.map fun x => x.data) = some (l.drop 12)) ∧
    (∀ (f : XkFrame) (m : XkMsg) (g : Nat) (r : SpanRec) (at_ : Int), s.d.xkOpen 0x41 [1] f = .message m ∧ s.d.flowOf 1 (be m.body 0 2) = some g ∧ s.d.flowState g = 2 ∧ s.d.map.get 7 g = some r → m.body.length = 12 + 2 * r.b 3 ∧ be m.body 2 2 ≤ 1023 ∧ m.body.getD 4 0 < s.d.slotsOf (r.b 1) ∧ m.body.getD 5 0 ≤ 13 ∧ 1 ≤ m.body.getD 6 0 ∧ m.body.getD 6 0 ≤ 14 - m.body.getD 5 0 ∧ m.body.getD 7 0 = 0 → be m.body 8 2 < s.d.map.nRb (r.b 1) ∧ 1 ≤ be m.body 10 2 ∧ be m.body 10 2 ≤ s.d.map.nRb (r.b 1) - be m.body 8 2 → at_ = s.d.symInstant (s.d.grid15 (r.b 1)) (be m.body 2 2) (m.body.getD 4 0) (m.body.getD 5 0) ∧ 245760 ≤ at_ - s.d.now ∧ at_ - s.d.now ≤ 9830400 ∧ s.d.xk.plans.length < 2048 → Does (.uplinkPlan f) s fun t => (t.d.xk.plans.getLast?.map fun x => [x.flow, x.frame, x.slot, x.sym, x.syms, x.start, x.n]) = some [g, be m.body 2 2, m.body.getD 4 0, m.body.getD 5 0, m.body.getD 6 0, be m.body 8 2, be m.body 10 2] ∧ (t.d.xk.plans.getLast?.map fun x => x.beams) = some ((List.range (r.b 3)).map fun i => be m.body (12 + 2 * i) 2 % 8192)) ∧
    (∀ (f : XkFrame) (m : XkMsg), (s.d.xkOpen 0x41 [2] f = .message m ∧ m.body.length = 320 ∧ m.body.getD 2 0 ≤ 5 ∧ m.body.getD 3 0 = 0 ∧ (∀ x ∈ (m.body.drop 8).take 56, x = 0) ∧ be m.body 0 2 < 1024 ∧ s.d.on (modeFld 2) = true) → Does (.weightUpdate f) s fun t => (t.d.dynE (be m.body 0 2)).pend.isSome = true) ∧
    (∀ (c frame slot sym : Nat) (rx : List UlSamples) (at_ : Int), c < 6 ∧ s.d.span.freeze = none ∧ (s.d.map.carrier c).isSome = true ∧ at_ = s.d.symInstant (s.d.grid15 c) frame slot sym → Does (.ulSectionsSend c frame slot sym rx) s fun t => t.d.f (ARCH_EXP_ul_emax c) = (s.d.ulStreams c slot sym at_ rx).foldl (fun a x => max a x.exp) 0 ∧ t.d.f (ARCH_EXP_ul_emin c) = min ((s.d.ulStreams c slot sym at_ rx).foldl (fun a x => max a x.exp) 0) ((s.d.ulStreams c slot sym at_ rx).foldl (fun a x => min a x.exp) 15) ∧ t.d.now = max s.d.now (s.d.symInstant (s.d.grid15 c) frame slot (sym + 1)).toNat) ∧
    (∀ (c frame slot sym f port : Nat) (rx : List UlSamples) (at_ ends : Int) (r : SpanRec), c < 6 ∧ s.d.span.freeze = none ∧ (s.d.map.carrier c).isSome = true ∧ at_ = s.d.symInstant (s.d.grid15 c) frame slot sym ∧ ends = s.d.symInstant (s.d.grid15 c) frame slot (sym + 1) → ((List.range 320).filter fun g => match s.d.map.get 7 g with | some x => x.b 0 == 1 && x.b 1 == c | none => false) = [f] ∧ s.d.map.get 7 f = some r ∧ s.d.ulWay f r = some (true, port) ∧ port < 2 → Does (.ulSectionsSend c frame slot sym rx) s fun t => (t.d.txq port).take (s.d.txq port).length = s.d.txq port ∧ ((t.d.txq port).drop (s.d.txq port).length).map (fun x => (x.flow, (x.due : Int), x.dst, x.tci, (x.payload.drop 12).take 12)) = (s.d.ulRuns c f frame slot sym r).map (fun x => (some f, max 0 (ends + threeS (s.d.grid15 c)), ofBe ((r.raw.drop 16).take 6), r.le 14 2, beBytes 4 (frame <<< 22 ||| slot <<< 17 ||| sym <<< 13 ||| 1) ++ [x.1, 0] ++ beBytes 2 x.2.1 ++ beBytes 2 x.2.2.1 ++ beBytes 2 x.2.2.2)) ∧ t.d.txq (1 - port) = s.d.txq (1 - port)) ∧
    (∀ (f : Nat) (x : TxFrame), f < 320 ∧ s.d.link.txqA = [x] ∧ x.flow = some f ∧ s.d.link.txqB = [] ∧ s.d.lastSig 31 = 0 → Does (.ulOverrun f) s fun t => t.d.link.txqA = [] ∧ t.d.link.txqB = [] ∧ Raised 31 t ∧ t.d.f (LINK_FLOW_W2_too_late f) = min (s.d.f (LINK_FLOW_W2_too_late f) + 1) ((LINK_FLOW_W2_too_late f).size - 1) ∧ t.d.now = max s.d.now x.due) ∧
    (∀ (f : XkFrame) (turn : Nat) (m : XkMsg), s.d.xkOpen 0x42 [1] f = .message m ∧ f.port < 2 ∧ turn ≤ 98304 ∧ m.body.length = 8 → Does (.echoRequest f turn) s fun t => t.d.now = s.d.now + turn ∧ (t.d.txq f.port).dropLast = s.d.txq f.port ∧ ((t.d.txq f.port).getLast?.map fun x => (x.payload.drop 12, x.stamp)) = some (m.body ++ s.d.stamp ++ List.replicate 6 0, true)) ∧
    (∀ (f : XkFrame) (waiting : Nat) (m : XkMsg) (off : Nat), s.d.xkOpen 0x43 [1] f = .message m ∧ f.port < 2 ∧ waiting < 8 ∧ s.d.xk.mgmt = [] ∧ m.body.getD 2 0 = 1 ∧ m.body.getD 3 0 = 0 ∧ m.body.length = 12 ∧ off = be m.body 4 4 ∧ be m.body 8 4 = 0 ∧ s.d.mgmtStatus false off = 0 → ((∀ a, sramOf off = some a → s.blk.mem.bad a = false ∧ s.blk.mem.flipped a = 0)) → Does (.mgmtRead f waiting) s fun t => ((t.d.txq f.port).getLast?.map fun x => x.payload.drop 12) = some (m.body.take 2 ++ [1, 0] ++ beBytes 4 (s.blk.mgmtValue off) ++ [0, 0, 0, 0]) ∧ Sets [] s t ∧ ((t.d.txq f.port).getLast?.map fun x => (x.dst, x.tci)) = some (f.src, f.tci)) ∧
    (∀ (f : XkFrame) (waiting : Nat) (m : XkMsg) (off a : Nat), s.d.xkOpen 0x43 [1] f = .message m ∧ f.port < 2 ∧ waiting < 8 ∧ s.d.xk.mgmt = [] ∧ m.body.getD 2 0 = 1 ∧ m.body.getD 3 0 = 0 ∧ m.body.length = 12 ∧ off = be m.body 4 4 ∧ be m.body 8 4 = 0 ∧ s.d.mgmtStatus false off = 0 → sramOf off = some a ∧ s.blk.mem.poisoned a = true ∧ s.d.holdsUsed a = false → Does (.mgmtRead f waiting) s fun t => ((t.d.txq f.port).getLast?.map fun x => x.payload.drop 12) = some (m.body.take 2 ++ [1, 0] ++ beBytes 4 (Config.freeValue s.d.draws) ++ [1 + Config.freeValue (s.d.draws + 1) % 255, 0, 0, 0]) ∧ t.d.f MEM_POISON_USE_error_resp = min (s.d.f MEM_POISON_USE_error_resp + 1) (MEM_POISON_USE_error_resp.size - 1)) ∧
    (∀ (f : XkFrame) (waiting : Nat) (m : XkMsg) (off : Nat), s.d.xkOpen 0x43 [2] f = .message m ∧ f.port < 2 ∧ waiting < 8 ∧ s.d.xk.mgmt = [] ∧ m.body.getD 2 0 = 1 ∧ m.body.getD 3 0 = 0 ∧ m.body.length = 12 ∧ off = be m.body 4 4 ∧ s.d.mgmtStatus true off = 0 ∧ s.d.ledgerHolds = false → Does (.mgmtWrite f waiting) s fun t => ((t.d.txq f.port).getLast?.map fun x => x.payload.drop 12) = some (m.body.take 2 ++ [1, 0] ++ beBytes 4 (t.blk.mgmtValue off) ++ [0, 0, 0, 0]) ∧ t.d.f LINK_XK_MGMT_writes = (s.d.f LINK_XK_MGMT_writes + 1) % (LINK_XK_MGMT_writes).size) ∧
    (∀ (f : XkFrame) (waiting : Nat) (m : XkMsg) (off : Nat), s.d.xkOpen 0x43 [2] f = .message m ∧ f.port < 2 ∧ waiting < 8 ∧ s.d.xk.mgmt = [] ∧ m.body.getD 2 0 = 1 ∧ m.body.getD 3 0 = 0 ∧ m.body.length = 12 ∧ off = be m.body 4 4 ∧ s.d.mgmtStatus true off = 0 ∧ governedOff off = true ∧ s.d.ledgerHolds = true → Does (.mgmtWrite f waiting) s fun t => t.d.xk.mgmt = [⟨f.port, f.src, f.tci, m.body.take 2, 1, true, [], some off, []⟩] ∧ t.d.txq f.port = s.d.txq f.port ∧ t.d.ldg.held.length = s.d.ldg.held.length + 1)

/-- Reports, heartbeats and the capability exchange keep the link up. That a heartbeat with a good header and a malformed body is a sign of life
and counts both as received and as discarded is the model's choice (log entry 35). -/
def Obligations.LinkUpkeepTakesEffect : Prop :=
  ∀ s : State, Running s →
    (s.d.famVer 0x42 ≠ 0 ∧ s.d.upPorts = [0] ∧ s.d.xk.owed ≠ 0 → Does .timeReport s fun t => t.d.xk.owed = s.d.xk.owed - 1 ∧ (t.d.txq 0).dropLast = s.d.txq 0 ∧ Sets [] s t ∧ ((t.d.txq 0).getLast?.map fun x => x.payload.drop 12) = some ([s.d.quality + 128 * ofBool s.d.txPermit, 0, 0, 0] ++ beBytes 4 (s.d.f TL_ERR_EST_err_ns) ++ beBytes 4 s.d.nt ++ beBytes 2 s.d.t.frame ++ beBytes 4 s.d.t.tick)) ∧
    (s.d.famVer 0x42 ≠ 0 ∧ s.d.upPorts = [0, 1] ∧ s.d.xk.owed ≠ 0 → Does .timeReport s fun t => (t.d.xk.owed = s.d.xk.owed - 1 ∧ Sets [] s t ∧ ∀ p < 2, (t.d.txq p).dropLast = s.d.txq p ∧ ((t.d.txq p).getLast?.map fun x => x.payload.drop 12) = some ([s.d.quality + 128 * ofBool s.d.txPermit, 0, 0, 0] ++ beBytes 4 (s.d.f TL_ERR_EST_err_ns) ++ beBytes 4 s.d.nt ++ beBytes 2 s.d.t.frame ++ beBytes 4 s.d.t.tick))) ∧
    (s.d.xk.owed = 0 → Does .timeReport s fun t => t = s) ∧
    (∀ (u : Dev), s.d.pwr ≠ 3 ∧ s.d.upPorts = [0] ∧ u = (if s.d.t.tick = 0 then s.d else passTo s.d.nextFrame s.d) → Does .heartbeat s fun t => t.d.now = u.now ∧ t.d.t = u.t ∧ (t.d.txq 0).dropLast = s.d.txq 0 ∧ t.d.xk.hbCount = (s.d.xk.hbCount + 1) % 65536 ∧ ((t.d.txq 0).getLast?.map fun x => x.payload.drop 12) = some u.heartbeatBody) ∧
    (∀ (f : XkFrame) (m : XkMsg), s.d.xkOpen 0x44 [1, 3] f = .message m ∧ peerBodyGood m = true → Does (.peerHeartbeat f) s fun t => t.d.xk.lifeAt = s.d.now ∧ smGet (broadcast, 0) f.port t.d.xk.peer = (f.src, f.tci) ∧ Sets [(LINK_XK_STAT_hb_rx, (s.d.f LINK_XK_STAT_hb_rx + 1) % (LINK_XK_STAT_hb_rx).size), (LINK_XK_STAT_peer_silent, 0)] s t) ∧
    (∀ (f : XkFrame) (m : XkMsg), s.d.xkOpen 0x44 [1, 3] f = .message m ∧ peerBodyGood m = false → Does (.peerHeartbeat f) s fun t => t.d.xk.lifeAt = s.d.now ∧ t.d.xk.peer = s.d.xk.peer ∧ SetsEv [(LINK_XK_STAT_hb_rx, (s.d.f LINK_XK_STAT_hb_rx + 1) % (LINK_XK_STAT_hb_rx).size), (LINK_XK_STAT_peer_silent, 0), (LINK_XK_DISC_format, min (s.d.f LINK_XK_DISC_format + 1) (LINK_XK_DISC_format.size - 1))] s t) ∧
    (s.d.f LINK_XK_CFG_peer_to ≠ 0 ∧ s.d.portUp 0 = true ∧ s.d.on LINK_XK_STAT_peer_silent = false → Does .peerSilent s fun t => t.d.on LINK_XK_STAT_peer_silent = true ∧ Raised 28 t ∧ t.d.now = max s.d.now (s.d.xk.lifeAt + usTicks (10000 * s.d.f LINK_XK_CFG_peer_to))) ∧
    (∀ (f : XkFrame) (m : XkMsg) (n : Nat), (s.d.xkOpen 0x44 [2] f = .message m ∧ n = m.body.getD 0 0 ∧ 1 ≤ n ∧ n ≤ 16 ∧ m.body.length = 1 + 4 * n ∧ (∀ i < n, m.body.getD (4 + 4 * i) 0 = 0 ∧ 0x40 ≤ m.body.getD (1 + 4 * i) 0 ∧ m.body.getD (1 + 4 * i) 0 ≤ 0x44)) → Does (.capabilityOffer f) s fun t => t.d.xk.offer = some ((List.range n).map fun i => (m.body.getD (1 + 4 * i) 0, m.body.getD (2 + 4 * i) 0, m.body.getD (3 + 4 * i) 0)) ∧ t.d.xk.result.isSome = true ∧ t.d.xk.lifeAt = s.d.now ∧ t.d.on LINK_XK_STAT_peer_silent = false) ∧
    (s.d.f LINK_XK_STAT_caps = 1 ∧ s.d.upPorts = [0] → Does .capsOfferResend s fun t => (t.d.txq 0).dropLast = s.d.txq 0 ∧ Sets [(LINK_XK_STAT_caps, 1)] s t ∧ ((t.d.txq 0).getLast?.map fun x => x.payload.drop 12) = some ([5] ++ s.d.ownOffer.flatMap fun x => [x.1, x.2.1, x.2.2, 0])) ∧
    (∀ (r : CapsResult), s.d.xk.result = some r → Does .capsChanged s fun t => t.d.xk.result = none ∧ t.d.now = max s.d.now r.at_ ∧ t.d.f LINK_XK_VER_HI_frame = r.frame % (LINK_XK_VER_HI_frame).size ∧ (∀ i < 5, t.d.famVer (0x40 + i) = (16 * (r.vers.getD i (0, 0)).1 + (r.vers.getD i (0, 0)).2) % 256))

/-- Jobs are described, dispatched, started and ended, and failed engines are replaced, as the chapter says. -/
def Obligations.JobsRunThroughTheEngines : Prop :=
  ∀ s : State, Running s →
    (∀ (eng desc : Nat), s.d.hostWaits = false → eng < 16 ∧ desc < 256 ∧ s.d.jobCheck .host eng desc = 0 ∧ s.d.tr.mig = [] → Does (.hostDispatch eng desc) s fun t => (t.d.eng (s.d.phys eng)).queue = (s.d.eng (s.d.phys eng)).queue ++ [desc] ∧ t.d.descWord desc 15 = 0) ∧
    (∀ (eng desc : Nat), eng < 16 ∧ desc < 256 ∧ s.d.jobCheck .firmware eng desc = 0 ∧ s.d.tr.mig = [] ∧ s.d.key.fwStopped = false → Does (.firmwareDispatch eng desc) s fun t => (t.d.eng (s.d.phys eng)).queue = (s.d.eng (s.d.phys eng)).queue ++ [desc] ∧ t.d.descWord desc 15 = 0 ∧ t.d.now = s.d.now) ∧
    (∀ (org : Origin) (j w : Nat) (v : Word), ((org = .host → s.d.hostWaits = false) ∧ (org = .firmware → s.d.key.fwStopped = false)) → org = .host ∧ 128 ≤ j ∧ j < 256 ∧ w < 16 ∧ s.d.descBusy j = false → Does (.jobDescriptorWrite org j w v) s fun t => t.d.descWord j w = v.toNat ∧ t.d.tr = { s.d.tr with desc := t.d.tr.desc } ∧ Only [.tr, .host] s t) ∧
    (∀ (e j a n : Nat) (q : List Nat), e < 16 ∧ (s.d.eng e).run = none ∧ (s.d.eng e).queue = j :: q ∧ s.d.engState e = 1 ∧ a = s.d.descWord j 2 ∧ n = s.d.descWord j 3 / 4 ∧ n ≤ 65536 → Clean s (a / 8 * 8) ((a + 4 * n + 7) / 8 - a / 8) → Does (.jobStart e) s fun t => ((t.d.eng e).run.map fun r => (r.desc, r.start, r.ended)) = some (j, s.d.now, none) ∧ (t.d.eng e).queue = q ∧ t.d.engState e = 2 ∧ (∀ i < n, smGet 0 i (t.d.eng e).lm = s.blk.rd32 (a + 4 * i))) ∧
    (∀ (e result : Nat) (fit : Option FitResult) (j at_ st : Nat) (trap : Bool), e < 16 ∧ (s.d.eng e).run = some ⟨j, at_, trap, some st⟩ ∧ st < 16 → Does (.jobEnd e result fit) s fun t => t.d.descWord j 14 = result % 2 ^ 32 ∧ t.d.descWord j 15 = st + 256 * e + 65536 * (((s.d.eng e).seq + 1) % 65536) ∧ (t.d.eng e).run = none ∧ t.d.f (TRUSS_ENG_STAT_last_status e) = st ∧ (t.d.eng e).seq = (s.d.eng e).seq + 1) ∧
    (∀ (e : Nat) (r : RunJob), e < 16 ∧ (s.d.eng e).run = some r → Does (.jobTimeout e) s fun t => (t.d.eng e).run = none ∧ t.d.descWord r.desc 15 % 16 = 3 ∧ Raised 104 t ∧ t.d.now = max s.d.now (r.start + usTicks (s.d.descWord r.desc 1 % 65536))) ∧
    (∀ (e cause : Nat), e < 16 ∧ s.d.engState e ≠ 0 ∧ s.d.engState e ≠ 4 → Does (.trussFault e cause) s fun t => t.d.engState e = 4 ∧ t.d.f (TRUSS_ENG_STAT_fault_cause e) = cause % 16 ∧ Raised 102 t ∧ (t.d.eng e).run = none ∧ (t.d.eng e).queue = []) ∧
    (∀ (e : Nat), e < 16 ∧ s.d.engState e = 2 → Does (.engineHang e) s fun t => t.d.engState e = 4 ∧ t.d.f (TRUSS_ENG_STAT_fault_cause e) = 4 ∧ Raised 102 t ∧ (t.d.eng e).run = none ∧ (t.d.eng e).queue = []) ∧
    (∀ (m : Mig) (r : List Mig), s.d.tr.mig = m :: r ∧ m.logical < 16 ∧ m.spare < 16 → Does .trussMigrated s fun t => t.d.phys m.logical = m.spare ∧ t.d.tr.mig = r ∧ t.d.now = max s.d.now m.due ∧ (t.d.eng m.spare).queue = m.jobs ∧ Raised 103 t) ∧
    (∀ (e : Nat), s.d.hostWaits = false → e < 16 ∧ s.d.inReady = true ∧ s.d.engState e = 4 → Does (.reinstate e) s fun t => t.d.tr.reinst.testBit e = true ∧ Only [.tr, .host] s t) ∧
    (∀ (e : Nat) (pass : Bool), e < 16 ∧ s.d.tr.reinst.testBit e = true ∧ pass = true → Does (.reinstateDone e pass) s fun t => t.d.engState e = (if s.d.inRest then 5 else 3) ∧ t.d.f (TRUSS_ENG_STAT_fault_cause e) = 0 ∧ t.d.tr.reinst.testBit e = false) ∧
    (∀ (dir : List TrussProg) (major minor : Nat) (dst : Nat × Nat), dst = s.d.key.matched.getD 2 (0, 0) ∧ Clean s dst.1 (dst.2 / 8) ∧ major < 256 ∧ minor < 256 → sha256 (s.blk.read8 dst.1 (dst.2 / 8)) = (match (s.d.key.active.getD {}).parts.find? fun p => p.ty == 3 with | some p => p.hash | none => []) → Does (.ucodeLoad dir major minor) s fun t => t.d.tr.dir = dir ∧ t.d.on TRUSS_UCODE_VER_loaded = true ∧ t.d.on TRUSS_UCODE_VER_hash_fail = false ∧ t.d.f TRUSS_UCODE_VER_major = major ∧ t.d.f TRUSS_UCODE_VER_minor = minor)

/-- MAC, MACC, MACK, MACZ, CLRACC and the stores act lane by lane on accumulator and local memory. that ST32 writes two words a lane is log
entry 41's (DEDUCED); the exponent ST32.bx takes is a free value (log entry 4) -/
def Obligations.MultiplyAccumulateOperations : Prop :=
  ∀ s : State, Running s →
    (∀ (e i x y : Nat) (o : TBun), (Issues s e o ∧ (s.d.eng e).limit = [] ∧ (∀ k < 32, InAcc (cadd ((s.d.eng e).acc i k) (cmul (comps ((s.d.eng e).vec x k)) (comps ((s.d.eng e).vec y k)))))) → Does (.mac e i (.v x) (.v y) o) s fun t => ((∀ k < 32, (t.d.eng e).acc i k = cadd ((s.d.eng e).acc i k) (cmul (comps ((s.d.eng e).vec x k)) (comps ((s.d.eng e).vec y k)))) ∧ Only [.tr] s t)) ∧
    (∀ (e i x y : Nat) (o : TBun), Issues s e o ∧ e < 16 ∧ i < 4 ∧ (s.d.eng e).limit = [] ∧ (s.d.eng e).run.map (·.trap) = some false → Does (.mac e i (.v x) (.v y) o) s fun t => (∀ k < 32, (t.d.eng e).acc i k = (max accMin (min accMax (cadd ((s.d.eng e).acc i k) (cmul (comps ((s.d.eng e).vec x k)) (comps ((s.d.eng e).vec y k)))).1), max accMin (min accMax (cadd ((s.d.eng e).acc i k) (cmul (comps ((s.d.eng e).vec x k)) (comps ((s.d.eng e).vec y k)))).2)) ∧ (¬ InAcc (cadd ((s.d.eng e).acc i k) (cmul (comps ((s.d.eng e).vec x k)) (comps ((s.d.eng e).vec y k)))) → t.d.fb (TRUSS_ENG_OVF_acc_ovf e) i = true) ∧ ((cadd ((s.d.eng e).acc i k) (cmul (comps ((s.d.eng e).vec x k)) (comps ((s.d.eng e).vec y k)))).1 < accMin ∨ accMax < (cadd ((s.d.eng e).acc i k) (cmul (comps ((s.d.eng e).vec x k)) (comps ((s.d.eng e).vec y k)))).1 → 64 * i + 2 * k ∈ (t.d.eng e).limit) ∧ ((cadd ((s.d.eng e).acc i k) (cmul (comps ((s.d.eng e).vec x k)) (comps ((s.d.eng e).vec y k)))).2 < accMin ∨ accMax < (cadd ((s.d.eng e).acc i k) (cmul (comps ((s.d.eng e).vec x k)) (comps ((s.d.eng e).vec y k)))).2 → 64 * i + 2 * k + 1 ∈ (t.d.eng e).limit))) ∧
    (∀ (e i x y k : Nat) (o : TBun), Issues s e o ∧ i < 4 ∧ k < 32 ∧ (s.d.eng e).run.map (·.trap) = some false ∧ 64 * i + 2 * k ∈ (s.d.eng e).limit ∧ 64 * i + 2 * k + 1 ∉ (s.d.eng e).limit → accMin ≤ (cadd ((s.d.eng e).acc i k) (cmul (comps ((s.d.eng e).vec x k)) (comps ((s.d.eng e).vec y k)))).2 ∧ (cadd ((s.d.eng e).acc i k) (cmul (comps ((s.d.eng e).vec x k)) (comps ((s.d.eng e).vec y k)))).2 ≤ accMax → Does (.mac e i (.v x) (.v y) o) s fun t => ((t.d.eng e).acc i k).1 = ((s.d.eng e).acc i k).1 ∧ ((t.d.eng e).acc i k).2 = (cadd ((s.d.eng e).acc i k) (cmul (comps ((s.d.eng e).vec x k)) (comps ((s.d.eng e).vec y k)))).2 ∧ 64 * i + 2 * k ∈ (t.d.eng e).limit) ∧
    (∀ (e i x y k : Nat) (o : TBun), Issues s e o ∧ o.last = true ∧ k < 32 ∧ (s.d.eng e).limit = [] ∧ (s.d.eng e).run.map (·.trap) = some true ∧ s.d.lastSig 98 = 0 → ¬ InAcc (cadd ((s.d.eng e).acc i k) (cmul (comps ((s.d.eng e).vec x k)) (comps ((s.d.eng e).vec y k)))) → Does (.mac e i (.v x) (.v y) o) s fun t => (t.d.eng e).run = none ∧ t.d.f (TRUSS_ENG_STAT_last_status e) = 2 ∧ Raised 98 t) ∧
    (∀ (e i x y : Nat) (o : TBun), (Issues s e o ∧ (s.d.eng e).limit = [] ∧ (∀ k < 32, InAcc (cadd ((s.d.eng e).acc i k) (cmulConj (comps ((s.d.eng e).vec x k)) (comps ((s.d.eng e).vec y k)))))) → Does (.macc e i (.v x) (.v y) o) s fun t => ((∀ k < 32, (t.d.eng e).acc i k = cadd ((s.d.eng e).acc i k) (cmulConj (comps ((s.d.eng e).vec x k)) (comps ((s.d.eng e).vec y k)))) ∧ Only [.tr] s t)) ∧
    (∀ (e i x w : Nat) (o : TBun), (Issues s e o ∧ (s.d.eng e).limit = [] ∧ w = smGet 0 (((s.d.eng e).agOf 2).fold.1.addr 0) (s.d.eng e).lm ∧ (∀ k < 32, InAcc (cadd ((s.d.eng e).acc i k) (cmul (comps ((s.d.eng e).vec x k)) (comps w))))) → Does (.mack e i (.v x) .kBroadcast o) s fun t => ((∀ k < 32, (t.d.eng e).acc i k = cadd ((s.d.eng e).acc i k) (cmul (comps ((s.d.eng e).vec x k)) (comps w))) ∧ (t.d.eng e).agOf 2 = ((s.d.eng e).agOf 2).fold.1.move ((s.d.eng e).agOf 2).off)) ∧
    (∀ (e i x y : Nat) (o : TBun), Issues s e o → Does (.macz e i (.v x) (.v y) o) s fun t => ((∀ k < 32, (t.d.eng e).acc i k = cmul (comps ((s.d.eng e).vec x k)) (comps ((s.d.eng e).vec y k))) ∧ Only [.tr] s t)) ∧
    (∀ (e i : Nat) (o : TBun), Issues s e o → Does (.clracc e i o) s fun t => ((∀ k < 32, (t.d.eng e).acc i k = (0, 0)) ∧ (∀ k ∈ (t.d.eng e).limit, k / 64 ≠ i) ∧ (t.d.eng e).sat.testBit i = false ∧ Only [.tr] s t)) ∧
    (∀ (e i sh : Nat) (bx : Bool) (o : TBun), Issues s e o ∧ sh < 40 ∧ ((s.d.eng e).agOf 3).circ = false → Does (.st16 e i sh bx o) s fun t => (∀ k < 32, smGet 0 ((((s.d.eng e).agOf 3).ptr + k) % 65536) (t.d.eng e).lm = ofComps (satS 16 (shrRound sh ((s.d.eng e).acc i k).1), satS 16 (shrRound sh ((s.d.eng e).acc i k).2)))) ∧
    (∀ (e i sh : Nat) (bx : Bool) (o : TBun), Issues s e o ∧ sh < 40 → Does (.st16 e i sh bx o) s fun t => ((bx = false → (t.d.eng e).bx = (s.d.eng e).bx)) ∧ ((bx = true → (t.d.eng e).bx ≤ (s.d.eng e).bx ∧ (∀ k < 32, (t.d.eng e).bx ≤ expW 16 (satS 16 (shrRound sh ((s.d.eng e).acc i k).1)) ∧ (t.d.eng e).bx ≤ expW 16 (satS 16 (shrRound sh ((s.d.eng e).acc i k).2))) ∧ ((t.d.eng e).bx = (s.d.eng e).bx ∨ ∃ k < 32, (t.d.eng e).bx = expW 16 (satS 16 (shrRound sh ((s.d.eng e).acc i k).1)) ∨ (t.d.eng e).bx = expW 16 (satS 16 (shrRound sh ((s.d.eng e).acc i k).2)))))) ∧
    (∀ (e i sh : Nat) (bx : Bool) (o : TBun), Issues s e o ∧ sh < 40 ∧ ((s.d.eng e).agOf 3).circ = false → Does (.st32 e i sh bx o) s fun t => ((∀ k < 32, smGet 0 ((((s.d.eng e).agOf 3).ptr + 2 * k) % 65536) (t.d.eng e).lm = toTwos32 (satS 32 (shrRound sh ((s.d.eng e).acc i k).1)))) ∧ ((∀ k < 32, smGet 0 ((((s.d.eng e).agOf 3).ptr + (2 * k + 1)) % 65536) (t.d.eng e).lm = toTwos32 (satS 32 (shrRound sh ((s.d.eng e).acc i k).2))))) ∧
    (∀ (e i sh : Nat) (bx : Bool) (o : TBun), Issues s e o ∧ sh < 40 → Does (.st32 e i sh bx o) s fun t => (if bx then (t.d.eng e).bx ≤ (s.d.eng e).bx else (t.d.eng e).bx = (s.d.eng e).bx))

/-- Vector arithmetic, exponents and loads give each lane its result. SHR's rounding, MIN and MAX by component and MAG2 as (re² + im², 0) are
log entry 41's (DEDUCED), the count of cycles and stalls log entry 49's (DESIGN CHOICE) -/
def Obligations.VectorAndScalarOperations : Prop :=
  ∀ s : State, Running s →
    (∀ (e r x y : Nat) (o : TBun), (Issues s e o ∧ (∀ k < 32, Native (cadd (comps ((s.d.eng e).vec x k)) (comps ((s.d.eng e).vec y k))))) → Does (.add e (.v r) (.v x) (.v y) o) s fun t => ((∀ k < 32, (t.d.eng e).vec r k = ofComps (cadd (comps ((s.d.eng e).vec x k)) (comps ((s.d.eng e).vec y k)))) ∧ Only [.tr, .draws] s t)) ∧
    (∀ (e r x y : Nat) (o : TBun), (Issues s e o ∧ (∀ k < 32, Native (vSub (comps ((s.d.eng e).vec x k)) (comps ((s.d.eng e).vec y k))))) → Does (.sub e (.v r) (.v x) (.v y) o) s fun t => ((∀ k < 32, (t.d.eng e).vec r k = ofComps (vSub (comps ((s.d.eng e).vec x k)) (comps ((s.d.eng e).vec y k)))) ∧ Only [.tr, .draws] s t)) ∧
    (∀ (e i x y : Nat) (o : TBun), Issues s e o ∧ (s.d.eng e).limit = [] → Does (.mul e (.a i) (.v x) (.v y) o) s fun t => ((∀ k < 32, (t.d.eng e).acc i k = cmul (comps ((s.d.eng e).vec x k)) (comps ((s.d.eng e).vec y k))) ∧ Only [.tr] s t)) ∧
    (∀ (e r x : Nat) (o : TBun), (Issues s e o ∧ (∀ k < 32, Native (conj (comps ((s.d.eng e).vec x k))))) → Does (.conj e (.v r) (.v x) o) s fun t => ((∀ k < 32, (t.d.eng e).vec r k = ofComps (conj (comps ((s.d.eng e).vec x k)))) ∧ Only [.tr, .draws] s t)) ∧
    (∀ (e r x sh : Nat) (o : TBun), Issues s e o → Does (.shr e (.v r) (.v x) sh o) s fun t => ((∀ k < 32, (t.d.eng e).vec r k = ofComps (vShr sh (comps ((s.d.eng e).vec x k)))) ∧ Only [.tr, .draws] s t)) ∧
    (∀ (e i x : Nat) (o : TBun), Issues s e o ∧ (s.d.eng e).limit = [] → Does (.mag2 e (.a i) (.v x) o) s fun t => ((∀ k < 32, (t.d.eng e).acc i k = vMag2 (comps ((s.d.eng e).vec x k))) ∧ Only [.tr] s t)) ∧
    (∀ (e r x y : Nat) (o : TBun), Issues s e o → Does (.min e (.v r) (.v x) (.v y) o) s fun t => ((∀ k < 32, (t.d.eng e).vec r k = ofComps (vMin (comps ((s.d.eng e).vec x k)) (comps ((s.d.eng e).vec y k)))) ∧ Only [.tr, .draws] s t)) ∧
    (∀ (e r x y : Nat) (o : TBun), Issues s e o → Does (.max e (.v r) (.v x) (.v y) o) s fun t => ((∀ k < 32, (t.d.eng e).vec r k = ofComps (vMax (comps ((s.d.eng e).vec x k)) (comps ((s.d.eng e).vec y k)))) ∧ Only [.tr, .draws] s t)) ∧
    (∀ (e i r : Nat) (o : TBun), Issues s e o → Does (.norm e i r o) s fun t => (∀ k < 32, (t.d.eng e).vec r k = exp40 ((s.d.eng e).acc i k) ∧ (t.d.eng e).acc i k = (((s.d.eng e).acc i k).1 * (2 ^ exp40 ((s.d.eng e).acc i k) : Nat), ((s.d.eng e).acc i k).2 * (2 ^ exp40 ((s.d.eng e).acc i k) : Nat)))) ∧
    (∀ (e r i : Nat) (o : TBun), (Issues s e o ∧ (∀ k < 32, InAcc ((s.d.eng e).acc i k))) → Does (.exp e r i o) s fun t => ((∀ k < 32, smGet 0 r (t.d.eng e).s ≤ exp40 ((s.d.eng e).acc i k)) ∧ (∃ k < 32, smGet 0 r (t.d.eng e).s = exp40 ((s.d.eng e).acc i k)) ∧ Only [.tr] s t)) ∧
    (∀ (e r : Nat) (o : TBun), Issues s e o → Does (.bxd e r o) s fun t => smGet 0 r (t.d.eng e).s = (s.d.eng e).bx ∧ (t.d.eng e).bx = (s.d.eng e).bx ∧ Only [.tr] s t) ∧
    (∀ (e : Nat) (o : TBun), Issues s e o → Does (.bxclr e o) s fun t => t.d.eng e = closed o { s.d.eng e with bx := 15 } ∧ Only [.tr] s t) ∧
    (∀ (e r : Nat) (o : TBun), Issues s e o ∧ o.last = true → Does (.ldx e r o) s fun t => smGet 0 ((s.d.eng e).reg r) (t.d.eng e).ready = (s.d.eng e).cyc + 3 ∧ (t.d.eng e).cyc = (s.d.eng e).cyc + 1) ∧
    (∀ (e r x : Nat) (o : TBun), s.d.acts e o.stg = true ∧ o.last = false ∧ (s.d.eng e).cyc < smGet 0 ((s.d.eng e).reg x) (s.d.eng e).ready → Does (.conj e (.v r) (.v x) o) s fun t => (t.d.eng e).cyc = smGet 0 ((s.d.eng e).reg x) (s.d.eng e).ready ∧ t.d.f (TRUSS_ENG_STALL_interlock e) = min (s.d.f (TRUSS_ENG_STALL_interlock e) + (smGet 0 ((s.d.eng e).reg x) (s.d.eng e).ready - (s.d.eng e).cyc)) ((TRUSS_ENG_STALL_interlock e).size - 1)) ∧
    (∀ (e r : Nat) (o : TBun), Issues s e o → Does (.ldx e r o) s fun t => ((o.last = true → ∀ k < 32, (t.d.eng e).vec r k = smGet 0 (((s.d.eng e).agOf 0).fold.1.addr k) (s.d.eng e).lm)) ∧ ((o.last = false → (t.d.eng e).v = (s.d.eng e).v ∧ (t.d.eng e).loads = (s.d.eng e).loads ++ [((s.d.eng e).reg r, lanes.map fun k => smGet 0 (((s.d.eng e).agOf 0).fold.1.addr k) (s.d.eng e).lm)])) ∧ (t.d.eng e).agOf 0 = ((s.d.eng e).agOf 0).fold.1.move ((s.d.eng e).agOf 0).off) ∧
    (∀ (e r : Nat) (o : TBun), Issues s e o → Does (.ldy e r o) s fun t => ((o.last = true → ∀ k < 32, (t.d.eng e).vec r k = smGet 0 (((s.d.eng e).agOf 1).fold.1.addr k) (s.d.eng e).lm)) ∧ ((o.last = false → (t.d.eng e).v = (s.d.eng e).v ∧ (t.d.eng e).loads = (s.d.eng e).loads ++ [((s.d.eng e).reg r, lanes.map fun k => smGet 0 (((s.d.eng e).agOf 1).fold.1.addr k) (s.d.eng e).lm)])) ∧ (t.d.eng e).agOf 1 = ((s.d.eng e).agOf 1).fold.1.move ((s.d.eng e).agOf 1).off) ∧
    (∀ (e r : Nat) (o : TBun), Issues s e o → Does (.ldk e r o) s fun t => ((o.last = true → ∀ k < 32, (t.d.eng e).vec r k = smGet 0 (((s.d.eng e).agOf 2).fold.1.addr k) (s.d.eng e).lm)) ∧ ((o.last = false → (t.d.eng e).v = (s.d.eng e).v ∧ (t.d.eng e).loads = (s.d.eng e).loads ++ [((s.d.eng e).reg r, lanes.map fun k => smGet 0 (((s.d.eng e).agOf 2).fold.1.addr k) (s.d.eng e).lm)])) ∧ (t.d.eng e).agOf 2 = ((s.d.eng e).agOf 2).fold.1.move ((s.d.eng e).agOf 2).off) ∧
    (∀ (e r : Nat) (o : TBun), Issues s e o → Does (.ldkb e r o) s fun t => ((o.last = true → ∀ k < 32, (t.d.eng e).vec r k = smGet 0 (((s.d.eng e).agOf 2).fold.1.addr 0) (s.d.eng e).lm)) ∧ ((o.last = false → (t.d.eng e).v = (s.d.eng e).v ∧ (t.d.eng e).loads = (s.d.eng e).loads ++ [((s.d.eng e).reg r, lanes.map fun _ => smGet 0 (((s.d.eng e).agOf 2).fold.1.addr 0) (s.d.eng e).lm)])) ∧ (t.d.eng e).agOf 2 = ((s.d.eng e).agOf 2).fold.1.move ((s.d.eng e).agOf 2).off)

/-- Generators, loops, branches and the engine's port act as their operations say. that WAITP only advances and that ENDL carries no stage are
log entry 41's (DEDUCED) -/
def Obligations.ControlAndPortOperations : Prop :=
  ∀ s : State, Running s →
    (∀ (e g : Nat) (f : AgField) (v : Int) (o : TBun), Issues s e o ∧ 0 ≤ v ∧ v < 65536 ∧ f ≠ .rrsize → Does (.agset e g f v o) s fun t => ((o.last = false → t.d.eng e = { s.d.eng e with ags := (s.d.eng e).ags ++ [.set g f v] })) ∧ ((o.last = true → (t.d.eng e).ags = [] ∧ (t.d.eng e).agOf g = (match f with | .base => { (s.d.eng e).agOf g with base := v.toNat } | .length => { (s.d.eng e).agOf g with len := v.toNat } | .pointer => { (s.d.eng e).agOf g with ptr := v.toNat } | .offset => { (s.d.eng e).agOf g with off := v } | .mode => { (s.d.eng e).agOf g with circ := v.toNat % 2 == 1 } | .rrsize => (s.d.eng e).agOf g))) ∧ Only [.tr] s t) ∧
    (∀ (e g : Nat) (f : AgField) (v : Int) (o : TBun), Issues s e o ∧ f = .offset ∧ -65536 ≤ v ∧ v < 65536 → Does (.agset e g f v o) s fun t => ((o.last = false → t.d.eng e = { s.d.eng e with ags := (s.d.eng e).ags ++ [.set g f v] }) ∧ (o.last = true → (t.d.eng e).ags = [] ∧ (t.d.eng e).agOf g = { (s.d.eng e).agOf g with off := v }) ∧ Only [.tr] s t)) ∧
    (∀ (e g : Nat) (f : AgField) (v : Int) (o : TBun), Issues s e o ∧ o.last = true ∧ f = .rrsize ∧ 8 ≤ v ∧ v ≤ 64 ∧ v % 8 = 0 → Does (.agset e g f v o) s fun t => t.d.eng e = closed o { s.d.eng e with rrsize := v.toNat } ∧ Only [.tr] s t) ∧
    (∀ (e g : Nat) (v : Int) (o : TBun), Issues s e o → Does (.agadd e g v o) s fun t => ((o.last = false → t.d.eng e = { s.d.eng e with ags := (s.d.eng e).ags ++ [.add g v] })) ∧ ((o.last = true → (t.d.eng e).agOf g = ((s.d.eng e).agOf g).fold.1.move v))) ∧
    (∀ (e n start after : Nat) (o : TBun), Issues s e o ∧ 0 < n ∧ (s.d.eng e).loops.length < 4 → Does (.loop e n start after o) s fun t => t.d.eng e = closed o { s.d.eng e with loops := ⟨0, n, 1, 0, start, after⟩ :: (s.d.eng e).loops, pc := start } ∧ Only [.tr] s t) ∧
    (∀ (e n start after : Nat) (o : TBun), Issues s e o ∧ 0 < n ∧ (s.d.eng e).loops.length < 4 → Does (.loopR e n start after o) s fun t => t.d.eng e = closed o { s.d.eng e with loops := ⟨1, n, 1, 0, start, after⟩ :: (s.d.eng e).loops, pc := start } ∧ Only [.tr] s t) ∧
    (∀ (e n stages start after : Nat) (o : TBun), Issues s e o ∧ 0 < n ∧ (s.d.eng e).loops.length < 4 → Does (.loopm e n stages start after o) s fun t => t.d.eng e = closed o { s.d.eng e with loops := ⟨2, n, stages, 0, start, after⟩ :: (s.d.eng e).loops, pc := start } ∧ Only [.tr] s t) ∧
    (∀ (e : Nat) (f : LoopFr) (r : List LoopFr), s.d.runsJob e = true ∧ (s.d.eng e).ags = [] ∧ (s.d.eng e).trap = false ∧ (s.d.eng e).loops = f :: r ∧ f.pass + 1 < (if f.kind = 2 then f.n + f.stages - 1 else f.n) → Does (.endl e) s fun t => (t.d.eng e).loops = { f with pass := f.pass + 1 } :: r ∧ (t.d.eng e).pc = f.start ∧ (t.d.eng e).rrb = (if f.kind = 0 then (s.d.eng e).rrb else ((s.d.eng e).rrb + (s.d.eng e).rrsize - 1) % (s.d.eng e).rrsize) ∧ Only [.tr] s t) ∧
    (∀ (e target : Nat) (o : TBun), Issues s e o → Does (.br e target o) s fun t => t.d.eng e = closed o { s.d.eng e with pc := target } ∧ Only [.tr] s t) ∧
    (∀ (e target ret : Nat) (o : TBun), Issues s e o → Does (.call e target ret o) s fun t => t.d.eng e = closed o { s.d.eng e with pc := target, calls := ret :: (s.d.eng e).calls } ∧ Only [.tr] s t) ∧
    (∀ (e r : Nat) (c : List Nat) (o : TBun), Issues s e o ∧ (s.d.eng e).calls = r :: c → Does (.ret e o) s fun t => t.d.eng e = closed o { s.d.eng e with pc := r, calls := c } ∧ Only [.tr] s t) ∧
    (∀ (e : Nat) (o : TBun), Issues s e o → Does (.halt e o) s fun t => ((t.d.eng e).run.map fun r => r.ended) = some (some 1) ∧ Only [.tr] s t) ∧
    (∀ (e l a n : Nat) (o : TBun), Issues s e o ∧ a % 4 = 0 ∧ n ≤ 65536 ∧ Clean s (a / 8 * 8) ((a + 4 * n + 7) / 8 - a / 8) → Does (.get e l a n o) s fun t => ((∀ i < n, smGet 0 ((l + i) % 65536) (t.d.eng e).lm = s.blk.rd32 (a + 4 * i)) ∧ Only [.tr] s t)) ∧
    (∀ (e l a n : Nat) (o : TBun), Issues s e o ∧ n = 1 ∧ a % 4 = 0 ∧ a < 0x4000000 ∧ s.d.protects a 4 = false ∧ s.d.mp.merge = [] → Does (.put e l a n o) s fun t => t.d.mp.merge = [(⟨a / 8, 0, List.replicate 8 0, s.d.now⟩ : MergeEnt).put (a % 8) (leBytes 4 (smGet 0 (l % 65536) (s.d.eng e).lm))] ∧ t.blk.mem = s.blk.mem) ∧
    (∀ (e n set w l : Nat) (o : TBun), Issues s e o ∧ n < 64 ∧ set < 2 ∧ w < 128 ∧ s.d.piersUp = true ∧ s.d.map.modelled n = true ∧ s.d.setBusy n set = false ∧ s.d.dpdHw = true ∧ s.d.dpdState n ≠ 5 ∧ 0 < w ∧ w < 8 * (12 + (s.d.map.neighbours n).length) → Does (.wrcoef e n set w l o) s fun t => t.d.coef n set w = w32 (smGet 0 (l % 65536) (s.d.eng e).lm) ∧ t.d.f (readyFld n set) = 0) ∧
    (∀ (e k carrier frame slot sym l x base n : Nat) (o : TBun), Issues s e o ∧ s.d.serves e = some x ∧ (s.d.assigned x 0).testBit 2 = true ∧ base = s.d.assigned x 2 + 256 * s.d.assigned x 3 ∧ n = s.d.assigned x 4 + 256 * s.d.assigned x 5 ∧ base ≤ k ∧ k < base + n → Does (.wrdyn e k carrier frame slot sym l o) s fun t => (t.d.dynE k).pend.isSome = true ∧ t.d.f TRUSS_REFUSE_count = s.d.f TRUSS_REFUSE_count) ∧
    (∀ (e : Nat) (o : TBun), Issues s e o → Does (.waitp e o) s fun t => (t.d.eng e = closed o (s.d.eng e) ∧ Only [.tr] s t ∧ (o.last = false → t = s)))

/-- CAL_RUN_END, CAL_RESULT, CORRECTION_IN_FORCE, CAL_APPLY, CAL_RETRY and CAL_RECORD_WRITE each complete, and do what chapter 09 says, under
the conditions named. The place of the record is the model's reading (log entry 36); that results wait in the order of their runs is the
model's (log entry 60). -/
def Obligations.CalibrationRunsAndResults : Prop :=
  ∀ s : State, Running s →
    (∀ (b : Nat) (r : CalRun), (b < 8 ∧ (s.d.bay b).cal = some r ∧ r.kind ≠ 1 ∧ (∀ p ∈ r.pairs, s.d.kindLive p.1 p.2 = true) ∧ (∀ x ∈ s.d.tt, x.2.feOf b = true → x.2.due ≠ r.until_)) → ∃ t, Sys2Proof.Machine.exec (.calRunEnd b) s = .next t ∧ (t.d.bay b).cal = none ∧ t.d.now = max s.d.now r.until_ ∧ (t.d.calBay b).awaits.dropLast = (s.d.calBay b).awaits ∧ ((t.d.calBay b).awaits.getLast?.map fun a => { a with bad := r.gap }) = some ⟨r.kind, r.pairs, r.host, r.lead, r.temp, r.gap, r.frame, r.tick, t.d.now, none⟩ ∧ t.d.inTransition b = true ∧ t.d.feTarget b = 2 ∧ (t.d.bay b).turnEnd = t.d.now + 1573) ∧
    (∀ (b n k : Nat) (r : CalRun), (b < 8 ∧ (s.d.bay b).cal = some r ∧ r.pairs = [(n, k)] ∧ n < 64 ∧ 1 ≤ k ∧ k ≤ 8 ∧ s.d.kindLive n k = false ∧ (s.d.calPath n).pend.testBit (k - 1) = false ∧ (∀ x ∈ s.d.tt, x.2.feOf b = true → x.2.due ≠ r.until_)) → ∃ t, Sys2Proof.Machine.exec (.calRunEnd b) s = .next t ∧ t.d.calStatus n k = 4 ∧ ((t.d.calBay b).awaits.getLast?.map fun a => a.pairs) = some []) ∧
    (∀ (b : Nat) (r : CalRun), (b < 8 ∧ (s.d.bay b).cal = some r ∧ r.kind = 1 ∧ (∀ x ∈ s.d.tt, x.2.feOf b = true → x.2.due ≠ r.until_)) → ∃ t, Sys2Proof.Machine.exec (.calRunEnd b) s = .next t ∧ (t.d.bay b).cal = none ∧ (t.d.calBay b).awaits.length = (s.d.calBay b).awaits.length + 1 ∧ t.d.on (BAY_CAL_STAT_running b) = false ∧ t.d.on (BAY_SYNTH_STAT_cal_busy b) = false ∧ t.d.fe b = s.d.fe b ∧ t.d.on (BAY_FE_STAT_lo_ready b) = (s.d.on (BAY_SYNTH_STAT_locked b) && s.d.on (BAY_SYNTH_STAT_aligned b))) ∧
    (∀ (b n : Nat) (ref : CalMeas) (o : CalOutcome) (a : CalAwait) (l : List CalAwait), b < 8 ∧ n / 8 = b ∧ s.d.classServed 1 = true ∧ (s.d.calBay b).awaits = a :: l ∧ a.host = false ∧ a.bad = false ∧ a.pairs = [(n, o.kind)] ∧ 2 ≤ o.kind ∧ o.kind ≤ 6 ∧ o.path = n → precondMet o.kind o.pre = true ∧ levelsMet o.kind o.pre o.post = true ∧ s.d.trimGood n o.kind o.trim o.band (5 * signed 16 a.temp) = true → ∃ t, Sys2Proof.Machine.exec (.calResult b ref [o]) s = .next t ∧ t.d.calStatus n o.kind = 5 ∧ (t.d.calPath n).pend.testBit (o.kind - 1) = true ∧ smGet 0 o.kind (t.d.calPath n).pvals = o.trim ∧ (t.d.calBay b).awaits = l ∧ t.d.trim false n (kindWord o.kind) = s.d.trim false n (kindWord o.kind)) ∧
    (∀ (b n v : Nat) (ref : CalMeas) (o : CalOutcome) (a : CalAwait) (l : List CalAwait), b < 8 ∧ n / 8 = b ∧ s.d.classServed 1 = true ∧ (s.d.calBay b).awaits = a :: l ∧ a.host = false ∧ a.bad = false ∧ a.pairs = [(n, o.kind)] ∧ (o.kind = 7 ∨ o.kind = 8) ∧ o.path = n → precondMet o.kind o.pre = true ∧ levelsMet o.kind o.pre o.post = true ∧ arrayTrim (s.d.trim false n (kindWord o.kind)) (relResp o.meas ref) (s.d.gainTarget b o.kind [(n, (relResp o.meas ref).mag)]) = some v ∧ s.d.trimGood n o.kind v o.band (5 * signed 16 a.temp) = true → ∃ t, Sys2Proof.Machine.exec (.calResult b ref [o]) s = .next t ∧ t.d.calStatus n o.kind = 5 ∧ (t.d.calPath n).pend.testBit (o.kind - 1) = true ∧ smGet 0 o.kind (t.d.calPath n).pvals = v ∧ smGet none o.kind (t.d.calPath n).mags = some (relResp o.meas ref).mag ∧ (t.d.calBay b).awaits = l) ∧
    (∀ (b n : Nat) (ref : CalMeas) (o : CalOutcome) (a : CalAwait) (l : List CalAwait), b < 8 ∧ n / 8 = b ∧ s.d.classServed 1 = true ∧ (s.d.calBay b).awaits = a :: l ∧ a.pairs = [(n, o.kind)] ∧ 2 ≤ o.kind ∧ o.kind ≤ 8 ∧ o.path = n ∧ (a.bad = true ∨ precondMet o.kind o.pre = false) → ∃ t, Sys2Proof.Machine.exec (.calResult b ref [o]) s = .next t ∧ t.d.calStatus n o.kind = 2 ∧ (t.d.calBay b).awaits = l ∧ t.d.trim true n (kindWord o.kind) = s.d.trim true n (kindWord o.kind) ∧ smGet 0 o.kind (t.d.calPath n).failAt = s.d.now + 1) ∧
    (∀ (b n k : Nat), (b < 8 ∧ n / 8 = b ∧ 2 ≤ k ∧ k ≤ 8 ∧ s.d.inGuard b = true ∧ (s.d.calPath n).pend = kindBit k ∧ s.d.trim true n (kindWord k) = smGet 0 k (s.d.calPath n).pvals ∧ (s.d.calBay b).syn = none ∧ (∀ i < 8, 8 * b + i ≠ n → (s.d.calPath (8 * b + i)).pend = 0)) → ∃ t, Sys2Proof.Machine.exec (.correctionInForce b) s = .next t ∧ t.d.trim false n (kindWord k) = s.d.trim true n (kindWord k) ∧ (t.d.calPath n).pend = 0 ∧ t.d.calStatus n k = 1 ∧ (t.d.calBay b).recDue = true ∧ t.d.now = s.d.nextSlot false 0) ∧
    (∀ (b k kind : Nat), s.d.hostWaits = false → b < 8 ∧ k < 8 ∧ 2 ≤ kind ∧ kind ≤ 8 ∧ s.d.calHost = true ∧ s.d.piersUp = true ∧ trimRange kind (s.d.trim true (8 * b + k) (kindWord kind)) = true → s.d.trimChange (8 * b + k) kind (s.d.trim true (8 * b + k) (kindWord kind)) 0 ((smGet none kind (s.d.calPath (8 * b + k)).ptemps).getD (s.d.bayTemp b)) = true → ∃ t, Sys2Proof.Machine.exec (.calApply b k kind) s = .next t ∧ t.d.calStatus (8 * b + k) kind = 5 ∧ (t.d.calPath (8 * b + k)).pend.testBit (kind - 1) = true ∧ smGet 0 kind (t.d.calPath (8 * b + k)).pvals = s.d.trim true (8 * b + k) (kindWord kind)) ∧
    (∀ (b k kind : Nat), s.d.hostWaits = false → b < 8 ∧ k < 8 ∧ 2 ≤ kind ∧ kind ≤ 8 ∧ s.d.calHost = true ∧ s.d.piersUp = true ∧ trimRange kind (s.d.trim true (8 * b + k) (kindWord kind)) = false → ∃ t, Sys2Proof.Machine.exec (.calApply b k kind) s = .next t ∧ t.d.calStatus (8 * b + k) kind = 3 ∧ (t.d.calPath (8 * b + k)).pend = (s.d.calPath (8 * b + k)).pend) ∧
    (∀ (n kind at_ : Nat), n < 64 ∧ 1 ≤ kind ∧ kind ≤ 8 ∧ smGet 0 kind (s.d.calPath n).failAt = at_ + 1 → ∃ t, Sys2Proof.Machine.exec (.calRetry n kind) s = .next t ∧ (t.d.calPath n).due.testBit (kind - 1) = true ∧ smGet 0 kind (t.d.calPath n).failAt = 0 ∧ t.d.now = max s.d.now (at_ + max 1 (s.d.f (BAY_CAL_CFG_retry (n / 8))) * 98304000)) ∧
    (∀ (b base : Nat) (k : Nat × Nat), b < 8 ∧ (s.d.calBay b).recDue = true ∧ (s.d.calBay b).recAt = 0 ∧ s.d.key.fwStopped = false ∧ s.d.key.storeAbsent = false ∧ s.d.bayFormed b = true → base = calRecBase b (s.blk.calCombo b) ∧ k = (s.blk.calMem b).recNext 2 base 0x1000 2 → ∃ t, Sys2Proof.Machine.exec (.calRecordWrite b) s = .next t ∧ (t.d.calBay b).recDue = false ∧ (t.d.calBay b).recAt = s.d.now + 1 ∧ t.blk.mem.sbytes (base + 0x1000 * k.1) (lamnik 2 k.2 (s.d.calPayload b)).length = lamnik 2 k.2 (s.d.calPayload b) ∧ t.blk.mem.sram = s.blk.mem.sram ∧ (∀ a, (a < base + 0x1000 * k.1 ∨ base + 0x1000 * k.1 + 0x1000 ≤ a) → t.blk.mem.sbyte a = (s.blk.calMem b).sbyte a) ∧ (∀ a, (a < base ∨ base + 0x2000 ≤ a) → t.blk.mem.sbyte a = s.blk.mem.sbyte a))

/-- The boot stages follow one another as the keystone's commands end them. -/
def Obligations.TheKeystoneBoots : Prop :=
  ∀ s : State, Up s →
    (∀ (lost : Nat), s.d.stage = 0 ∧ s.d.on MEM_STAT_init_done = false ∧ s.d.key.cause ≠ 1 → Does (.romDone lost) s fun t => t.d.stage = 1 ∧ t.d.on MEM_STAT_init_done = true ∧ t.blk.mem.store = s.blk.mem.store ∧ (∀ a < 0x4000000, t.blk.mem.byte a = 0 ∧ t.blk.mem.poisoned a = false)) ∧
    (∀ (present : Bool), s.d.stage = 1 → Does (.storeDone present) s fun t => t.d.stage = 2 ∧ t.d.key.storeAbsent = !present) ∧
    (s.d.hostWaits = false → s.d.stage = 2 → Does .offer s fun t => t.d.stage = 3 ∧ Only [.regs, .host] s t) ∧
    (∀ (table : List Nat) (images : List (List Nat)) (busErr : Option Nat) (conv : List (List Nat)) (m : ManInfo), s.d.stage = 3 ∧ s.d.host.d3hot = false ∧ s.d.host.busMaster = true ∧ busErr = none ∧ offerForm table = none ∧ table.getD 5 0 = 1 ∧ s.d.key.active = some m → offerFails m ((List.range (table.getD 4 0)).map (offerEnt table)) images = none → Does (.fetchDone table images busErr conv) s fun t => t.d.running = true ∧ t.d.key.active = some m ∧ Raised 112 t ∧ t.d.f KEY_BOOT_TIME_ms = (s.d.now - s.d.key.bootAt) / 983040 % (KEY_BOOT_TIME_ms).size) ∧
    (∀ (ok : Bool) (conv : List (List Nat)) (p : ManInfo) (k seq : Nat), s.d.stage = 4 ∧ ok = true ∧ s.d.key.pending = some p ∧ k = (if s.d.on KEY_STATUS_active_valid then 1 - s.d.f KEY_STATUS_active_slot else 0) ∧ s.blk.mem.sle (slotBase 2 + 8) 4 ≤ 0xFFF8 → seq = max ((s.blk.mem.slotSeq 0).getD 0) ((s.blk.mem.slotSeq 1).getD 0) + 1 ∧ seq < 0xFFFFFFFF ∧ s.blk.mem.sbytes (slotBase k + 0xFFF8) 8 = List.replicate 8 255 → Does (.activationDone ok conv) s fun t => t.d.running = true ∧ t.d.key.active = some { p with seq := seq } ∧ t.d.key.pending = none ∧ t.d.on KEY_STATUS_active_valid = true ∧ t.d.f KEY_STATUS_active_slot = k ∧ Raised 115 t ∧ t.blk.mem.slotSeq k = some seq) ∧
    (∀ (khz : Nat), s.d.running = true ∧ 95 * 122880 ≤ 100 * khz ∧ 100 * khz ≤ 105 * 122880 → DoesDev (.pllSwitch khz) s (setF KEY_STATUS_refclk_wait 0))

/-- Staging, OTP programming and attestation act as their commands say. that KEY_ATT_STAT.cause reads REBUILDING first and that the next
ATTEST_PREPARE is the rebuilding's end is log entry 63's (DEDUCED) -/
def Obligations.StagingOtpAndAttestation : Prop :=
  ∀ s : State, Up s →
    (∀ (org : Origin), ((org = .host → s.d.hostWaits = false) ∧ (org = .firmware → s.d.key.fwStopped = false)) → org = .host ∧ s.d.stagingBusy 1 = false → Does (.stageOpen org) s fun t => t.d.f KEY_STAGE_session = 1 ∧ t.d.f KEY_STAGE_owner = 1 ∧ t.d.key.buf = [] ∧ t.d.key.opAt = s.d.now) ∧
    (∀ (org : Origin) (off : Nat) (v : Word), ((org = .host → s.d.hostWaits = false) ∧ (org = .firmware → s.d.key.fwStopped = false)) → org = .host ∧ off < 65528 ∧ off % 4 = 0 ∧ s.d.stagingBusy 1 = false ∧ s.d.f KEY_STAGE_session = 1 ∧ s.d.f KEY_STAGE_owner = 1 → Does (.stageWrite org off v) s fun t => ((∀ i < 4, smGet 0 (off + i) t.d.key.buf = (leBytes 4 v.toNat).getD i 0) ∧ t.d.key.opAt = s.d.now ∧ t.d.f KEY_STAGE_session = 1)) ∧
    (∀ (org : Origin), ((org = .host → s.d.hostWaits = false) ∧ (org = .firmware → s.d.key.fwStopped = false)) → org = .host ∧ s.d.stagingBusy 1 = false ∧ s.d.f KEY_STAGE_session = 1 → Does (.stageClose org) s fun t => match s.d.verify (s.d.stageBuf 65528) 1 with | .ok i => t.d.f KEY_STAGE_session = 2 ∧ t.d.key.committing = some i ∧ t.d.key.pending = none | .error e => t.d.f KEY_STAGE_session = 0 ∧ t.d.f KEY_STAGE_owner = 0 ∧ t.d.f KEY_REFUSE_reason = e.1 % 256 ∧ Raised 117 t) ∧
    (∀ (ok : Bool) (i : ManInfo), ok = true ∧ s.d.key.committing = some i ∧ ofLe ((List.range 4).map fun j => smGet 0 (8 + j) s.d.key.buf) ≤ 65528 ∧ s.blk.mem.sbytes (slotBase 2 + 0xFFF8) 8 = List.replicate 8 255 → Does (.stageCommitDone ok) s fun t => t.d.key.pending = some i ∧ t.d.f KEY_STATUS_staging = 1 ∧ t.d.f KEY_STAGE_session = 0 ∧ t.d.f KEY_STAGE_owner = 0 ∧ t.d.key.committing = none ∧ t.blk.mem.slotSeq 2 = some 1) ∧
    (∀ (org : Origin), ((org = .host → s.d.hostWaits = false) ∧ (org = .firmware → s.d.key.fwStopped = false)) → org = .host ∧ s.d.stagingBusy 1 = false ∧ s.d.f KEY_STAGE_session = 1 → Does (.stageAbort org) s fun t => t.d.f KEY_STAGE_session = 0 ∧ t.d.f KEY_STAGE_owner = 0 ∧ t.d.key.buf = []) ∧
    (∀ (org : Origin), ((org = .host → s.d.hostWaits = false) ∧ (org = .firmware → s.d.key.fwStopped = false)) → org = .host ∧ s.d.stagingBusy 1 = false ∧ s.d.f KEY_STAGE_session = 0 → Does (.stageClear org) s fun t => t.d.f KEY_STATUS_staging = 0 ∧ t.d.key.pending = none ∧ t.blk.mem.sbytes (slotBase 2 + 0xFFF8) 8 = List.replicate 8 0) ∧
    (∀ (r : SvcReq), 2 ≤ s.d.stage ∧ s.d.svc.req = some r ∧ r.ty = 0x15 → Does .stageStatus s fun t => t.d.svc.resp = some (svcFrame 0x15 0 r.tag (leBytes 4 (s.d.regValue KEY_STAGE_session.off) ++ leBytes 4 (s.d.regValue KEY_REFUSE_reason.off) ++ leBytes 4 (s.d.regValue KEY_SVN_staged.off))) ∧ t.d.svc.req = none ∧ Only [.svc] s t) ∧
    (s.d.f KEY_STAGE_session = 1 → Does .stageTimeout s fun t => t.d.f KEY_STAGE_session = 0 ∧ t.d.f KEY_STAGE_owner = 0 ∧ t.d.key.buf = [] ∧ t.d.now = max s.d.now (s.d.key.opAt + 600 * secTicks) ∧ t.d.f KEY_STAGE_timeouts = min (s.d.f KEY_STAGE_timeouts + 1) ((KEY_STAGE_timeouts).size - 1)) ∧
    (∀ (k : Nat), s.d.hostWaits = false → k < 4 ∧ 2 ≤ k ∧ (s.d.slot k).state = 0 ∧ s.d.running = true ∧ s.d.inReady = true ∧ s.d.on KEY_OTP_CMD_busy = false ∧ s.d.otpWindow = 0 → Does (.progSlot k) s fun t => t.d.on KEY_OTP_CMD_busy = true ∧ t.d.key.otpOp = some (1, k) ∧ t.d.otp = s.d.otp) ∧
    (∀ (k o : Nat), s.d.hostWaits = false → (k < 4 ∧ o = k / 2 * 2 + (1 - k % 2) ∧ (s.d.slot o).state = 1 ∧ (∃ a, s.d.key.active = some a ∧ (a.vendorBy / 2 = k / 2 → a.vendorBy = o) ∧ (a.manifestBy / 2 = k / 2 → a.manifestBy = o)) ∧ s.d.running = true ∧ s.d.inReady = true ∧ s.d.on KEY_OTP_CMD_busy = false ∧ s.d.otpWindow = 0) → Does (.revoke k) s fun t => t.d.on KEY_OTP_CMD_busy = true ∧ t.d.key.otpOp = some (2, k) ∧ t.d.otp = s.d.otp) ∧
    (∀ (words k : Nat), s.d.running = true ∧ s.d.key.otpOp = some (1, k) ∧ 9 ≤ words → Does (.otpDone words) s fun t => t.d.slot k = ⟨8, true, false, (List.range 8).flatMap fun i => leBytes 4 (s.d.f (KEY_OTP_DATA_data i))⟩ ∧ t.d.on KEY_OTP_CMD_busy = false ∧ t.d.on KEY_OTP_CMD_done = true ∧ t.d.key.otpOp = none) ∧
    (∀ (good : Bool), good = true ∧ s.d.running = true ∧ s.d.on KEY_STATUS_attest_ready = false ∧ s.d.f KEY_ATT_STAT_cause = 0 ∧ s.d.f KEY_ATT_STAT_used = 0 ∧ s.d.otp.blocks < 128 ∧ s.d.key.storeAbsent = false ∧ s.blk.mem.recNewest 4 attBase 0x1000 12 = none ∧ nodesGood s.d.otp.hssKey [] = false ∧ s.d.otpWindow = 0 → Does (.attestPrepare good) s fun t => t.d.on KEY_STATUS_attest_ready = false ∧ t.d.f KEY_ATT_STAT_cause = 4 ∧ t.d.f KEY_ATT_LEAF_leaf = s.d.otp.blocks * 256 % (KEY_ATT_LEAF_leaf).size ∧ t.d.otp.blocks = s.d.otp.blocks + 1) ∧
    (∀ (good : Bool), s.d.running = true ∧ s.d.f KEY_ATT_STAT_cause = 4 → Does (.attestPrepare good) s fun t => t.d.on KEY_STATUS_attest_ready = true ∧ t.d.f KEY_ATT_STAT_cause = 0 ∧ t.d.otp = s.d.otp) ∧
    (s.d.hostWaits = false → s.d.on KEY_STATUS_attest_ready = true ∧ s.d.key.building = none → Does .attest s fun t => t.d.key.building.isSome = true ∧ t.d.f KEY_ATT_STAT_used = (s.d.f KEY_ATT_STAT_used + 1) % (KEY_ATT_STAT_used).size) ∧
    (∀ (l : List Nat), s.d.running = true ∧ s.d.key.building = some l → Does .reportDone s fun t => ((∀ i < l.length, smGet 0 i t.d.key.report = l.getD i 0) ∧ t.d.key.building = none ∧ Sets [(KEY_ATT_STAT_done, 1)] s t))

/-- Scrubbing, write-backs, merges, lost firmware words, spare records and injections act as their commands say. The places and the payload of
the soft-spare record are the model's (log entries 29 and 36). -/
def Obligations.DeckSramIsProtected : Prop :=
  ∀ s : State, Running s →
    (∀ (w err : Nat), (s.d.scrubs = true ∧ s.d.mp.ptr ≤ w ∧ w < 8388608 ∧ err = 1 ∧ Clean s (8 * w) 1 ∧ (∀ x < w, s.d.mp.ptr ≤ x → s.blk.mem.flipped (8 * x) = 0)) → ∃ t, Sys2Proof.Machine.exec (.scrubRead w err) s = .next t ∧ t.d.f MEM_ERR_COUNT_ce = min (s.d.f MEM_ERR_COUNT_ce + 1) ((MEM_ERR_COUNT_ce).size - 1) ∧ t.d.f MEM_LAST_CE_addr = w ∧ t.d.f MEM_LAST_CE_region = regionOf (8 * w) ∧ t.d.mp.ptr = w + 1 ∧ w ∈ t.d.mp.wb ∧ t.blk.mem.flipped (8 * w) = 1 ∧ t.blk.mem.sram = s.blk.mem.sram) ∧
    (∀ (w err : Nat), (s.d.scrubs = true ∧ s.d.mp.ptr ≤ w ∧ w < 8388608 ∧ err = 2 ∧ Clean s (8 * w) 1 ∧ (∀ x < w, s.d.mp.ptr ≤ x → s.blk.mem.flipped (8 * x) = 0)) → ∃ t, Sys2Proof.Machine.exec (.scrubRead w err) s = .next t ∧ t.blk.mem.poisoned (8 * w) = true ∧ t.blk.mem.flipped (8 * w) = 0 ∧ t.blk.mem.sram = s.blk.mem.sram ∧ t.d.mp.ptr = w + 1 ∧ w ∉ t.d.mp.wb ∧ t.d.f MEM_ERR_COUNT_ue = min (s.d.f MEM_ERR_COUNT_ue + 1) ((MEM_ERR_COUNT_ue).size - 1) ∧ t.d.f MEM_LAST_UE_addr = w ∧ t.d.f MEM_LAST_UE_region = regionOf (8 * w) ∧ Raised 34 t ∧ ((∀ x ≠ w, t.blk.mem.poisoned (8 * x) = s.blk.mem.poisoned (8 * x)))) ∧
    (∀ (w err : Nat), (s.d.scrubs = true ∧ s.d.mp.ptr ≤ w ∧ w < 8388608 ∧ s.blk.mem.poisoned (8 * w) = true ∧ (∀ x < w, s.d.mp.ptr ≤ x → s.blk.mem.flipped (8 * x) = 0)) → ∃ t, Sys2Proof.Machine.exec (.scrubRead w err) s = .next t ∧ t.d.f MEM_ERR_COUNT_ue = s.d.f MEM_ERR_COUNT_ue ∧ t.d.evPending 34 = s.d.evPending 34 ∧ t.blk.mem.poisoned (8 * w) = true ∧ t.blk.mem.sram = s.blk.mem.sram ∧ t.d.mp.ptr = w + 1) ∧
    (s.d.scrubs = true → ∃ t, Sys2Proof.Machine.exec .scrubLapEnd s = .next t ∧ t.d.f MEM_SCRUB_laps = (s.d.f MEM_SCRUB_laps + 1) % (MEM_SCRUB_laps).size ∧ t.d.mp.ptr = 0 ∧ t.d.mp.lapAt = t.d.now ∧ t.d.now = max s.d.now (s.d.mp.lapAt + 6710887)) ∧
    (∀ (w : Nat) (r : List Nat), s.d.mp.wb = w :: r → ∃ t, Sys2Proof.Machine.exec .writeBack s = .next t ∧ (t.blk.mem.flipped (8 * w) = 0 ∧ t.d.mp.wb = r ∧ Only [.flips, .mp] s t ∧ (∀ x, x ≠ w → t.blk.mem.flipped (8 * x) = s.blk.mem.flipped (8 * x)))) ∧
    (∀ (e : MergeEnt), (s.d.mp.stalest = some e ∧ e.mask ≠ 0xFF ∧ (∀ x ∈ e.data, x < 256) ∧ Clean s (8 * e.word) 1) → ∃ t, Sys2Proof.Machine.exec .mergeRetire s = .next t ∧ (t.blk.mem.bytes (8 * e.word) 8 = overlay (some e) (s.blk.mem.bytes (8 * e.word) 8) ∧ (∀ x ∈ t.d.mp.merge, x.word ≠ e.word) ∧ t.d.now = max s.d.now (e.at_ + 205))) ∧
    (∀ (a : Nat), s.d.key.fwStopped = false ∧ a < 0x4000000 ∧ s.blk.mem.bad (a / 8 * 8) = true → ∃ t, Sys2Proof.Machine.exec (.firmwareMemErr a) s = .next t ∧ t.d.key.fwStopped = true ∧ Raised 36 t ∧ t.d.f MEM_POISON_USE_error_resp = min (s.d.f MEM_POISON_USE_error_resp + 1) ((MEM_POISON_USE_error_resp).size - 1)) ∧
    (∀ (a seq : Nat), s.d.sparing = false ∧ s.d.key.fwStopped = false ∧ s.d.key.storeAbsent = false ∧ s.d.mp.unwritten ≠ [] ∧ s.d.mp.spares.length ≤ 1024 → a = 0x30000 + 0x2000 * (s.blk.mem.recNext 3 0x30000 0x2000 2).1 ∧ seq = (s.blk.mem.recNext 3 0x30000 0x2000 2).2 → ∃ t, Sys2Proof.Machine.exec .spareRecordWrite s = .next t ∧ (t.d.mp.unwritten = [] ∧ (a = 0x30000 ∨ a = 0x32000) ∧ t.blk.mem.sram = s.blk.mem.sram) ∧ t.blk.mem.sbytes a (lamnik 3 seq (s.d.otp.devId.take 8 ++ s.d.mp.spares.flatMap fun x => [x.1] ++ leBytes 2 x.2.1 ++ [x.2.2])).length = (lamnik 3 seq (s.d.otp.devId.take 8 ++ s.d.mp.spares.flatMap fun x => [x.1] ++ leBytes 2 x.2.1 ++ [x.2.2])).map (· % 256) ∧ ((∀ x, t.blk.mem.sbyte x = if a + (lamnik 3 seq (s.d.otp.devId.take 8 ++ s.d.mp.spares.flatMap fun x => [x.1] ++ leBytes 2 x.2.1 ++ [x.2.2])).length ≤ x ∧ x < a + 0x2000 then 255 else if a ≤ x ∧ x < a + 0x2000 then t.blk.mem.sbyte x else s.blk.mem.sbyte x))) ∧
    (s.d.hostWaits = false → s.d.inReady = true ∧ s.d.ledgerHolds = false → ∃ t, Sys2Proof.Machine.exec .injectArm s = .next t ∧ t.d.on MEM_INJECT_armed = true ∧ t.d.f MEM_INJECT_addr = s.d.f MEM_INJECT_addr ∧ t.d.f MEM_INJECT_double = s.d.f MEM_INJECT_double) ∧
    (∀ (off width err : Nat), 0x2000000 ≤ off ∧ off < 0x3000000 ∧ off % 4 = 0 ∧ width = 4 ∧ err = 0 ∧ Clean s (off / 8 * 8) 1 → ∃ t, Sys2Proof.Machine.exec (.hostWindowRead off width err) s = .next t ∧ t.d.host.resp = .data (ofLe (((s.blk.read8 (off / 8 * 8) 1).drop (off % 8)).take 4)) ∧ t.blk.mem.sram = s.blk.mem.sram ∧ Only [.host, .flips] s t)

/-- DMA channels start, fetch, move, finish, wait, stop and halt as their commands say. that a burst out of its channel's turn does nothing, and
which channel's turn it is, are the model's (log entries 1 and 48) -/
def Obligations.DmaMovesItsDescriptors : Prop :=
  ∀ s : State, Running s →
    (∀ (org : Origin) (n : Nat), ((org = .host → s.d.hostWaits = false) ∧ (org = .firmware → s.d.key.fwStopped = false)) → org = .host ∧ 16 ≤ n ∧ n < 32 ∧ s.d.chMayStart n = true → Does (.channelStart org n) s fun t => t.d.chState n = 1 ∧ t.d.chPos n = s.d.f (DMA_CH_DESC_HI_addr n) * 0x100000000 + s.d.f (DMA_CH_DESC_LO_addr n) * 64 ∧ t.d.chPosSpace n = s.d.f (DMA_CH_DESC_LO_space n) ∧ t.d.f (DMA_CH_COUNT_hops n) = 0 ∧ t.d.f (DMA_CH_DONE_bytes n) = 0) ∧
    (∀ (org : Origin) (n : Nat), ((org = .host → s.d.hostWaits = false) ∧ (org = .firmware → s.d.key.fwStopped = false)) → org = .host ∧ 16 ≤ n ∧ n < 32 ∧ s.d.chState n ≠ 0 → Does (.channelStop org n) s fun t => Sets [(DMA_CH_STAT_stop_pending n, 1)] s t ∧ Only [.regs, .host] s t) ∧
    (s.d.hostWaits = false → s.d.on DMA_HALT_CAUSE_halted = true → Does .clearHalt s fun t => (t.d.on DMA_HALT_CAUSE_halted = false ∧ (∀ n < 32, s.d.chState n = 4 → t.d.chState n = 0 ∧ t.d.f (DMA_CH_STAT_last_status n) = 7))) ∧
    (∀ (n : Nat) (ok : Bool) (host : List Nat) (c : ChanSt), n < 32 ∧ s.d.chState n = 1 ∧ s.d.on (DMA_CH_STAT_stop_pending n) = false ∧ s.d.f (DMA_CH_COUNT_hops n) < max 1 (s.d.f (DMA_CH_HOPMAX_hopmax n)) ∧ s.d.chPosSpace n = 0 ∧ s.d.chPos n < 0x4000000 ∧ Clean s (s.d.chPos n) 8 → (s.d.chan n).edge = false ∧ c = descOf (s.blk.read8 (s.d.chPos n) 8) ∧ s.d.descError c (((s.blk.read8 (s.d.chPos n) 8).drop 40).all fun x => x == 0) = 0 → Does (.descriptorFetch n ok host) s fun t => t.d.chan n = c ∧ t.d.chState n = (if bits c.ctrl 13 8 = 0 then 2 else 3) ∧ t.d.f (DMA_CH_COUNT_hops n) = (s.d.f (DMA_CH_COUNT_hops n) + 1) % (DMA_CH_COUNT_hops n).size) ∧
    (∀ (n : Nat) (ok : Bool) (host : List Nat) (c : ChanSt) (done : Nat), n < 32 ∧ s.d.chState n = 2 ∧ s.d.chTurn n = true ∧ c = s.d.chan n ∧ done = s.d.f (DMA_CH_DONE_bytes n) ∧ done % 64 = 0 ∧ done < c.len ∧ c.len ≤ 16777216 ∧ c.dst % 64 = 0 ∧ bits c.ctrl 3 0 = 0 ∧ bits c.ctrl 13 8 = 0 ∧ s.d.mp.merge = [] ∧ Clean s (c.src + done) 8 → Does (.dmaBurst n ok host) s fun t => t.blk.mem.bytes (c.dst + done) 64 = s.blk.read8 (c.src + done) 8 ∧ t.d.f (DMA_CH_DONE_bytes n) = done + 64 ∧ t.d.chState n = 2 ∧ (∀ a, (a < c.dst + done ∨ c.dst + done + 64 ≤ a) → t.blk.mem.byte a = s.blk.mem.byte a)) ∧
    (∀ (n : Nat) (ok : Bool) (host : List Nat), n < 32 ∧ s.d.chTurn n = false → Does (.dmaBurst n ok host) s fun t => t = s) ∧
    (∀ (n : Nat) (c : ChanSt), n < 32 ∧ s.d.chState n = 2 ∧ c = s.d.chan n ∧ c.len ≠ 0 ∧ c.len ≤ s.d.f (DMA_CH_DONE_bytes n) ∧ c.ctrl.testBit 6 = false ∧ c.ctrl.testBit 4 = true ∧ c.tag < 65536 → Does (.descriptorDone n) s fun t => t.d.chState n = 0 ∧ t.d.f (DMA_CH_STAT_last_status n) = 1 ∧ t.d.f (DMA_CH_STAT_tag n) = c.tag % (DMA_CH_STAT_tag n).size ∧ t.blk.mem = s.blk.mem) ∧
    (∀ (n : Nat) (c : ChanSt), n < 32 ∧ s.d.chState n = 2 ∧ c = s.d.chan n ∧ c.len ≠ 0 ∧ c.len ≤ s.d.f (DMA_CH_DONE_bytes n) ∧ c.ctrl.testBit 6 = false ∧ c.ctrl.testBit 4 = false ∧ c.next < 2 ^ 64 ∧ s.d.on (DMA_CH_STAT_stop_pending n) = false → Does (.descriptorDone n) s fun t => t.d.chState n = 1 ∧ t.d.chPos n = c.next / 64 * 64 ∧ t.d.chPosSpace n = c.next % 4 ∧ t.d.f (DMA_CH_DONE_bytes n) = 0) ∧
    (∀ (line n : Nat) (c : ChanSt), n < 32 ∧ c = s.d.chan n ∧ s.d.chState n = 3 ∧ s.d.lineHigh line = true ∧ s.d.dma.seen.contains line = false ∧ bits c.ctrl 13 8 = line → Does (.requestEdge line) s fun t => t.d.chState n = 2 ∧ (t.d.chan n).grant = min (64 * bits c.ctrl 31 16) (c.len - s.d.f (DMA_CH_DONE_bytes n))) ∧
    (∀ (line : Nat), s.d.lineHigh line = true ∧ s.d.dma.seen.contains line = true → Does (.requestEdge line) s fun t => t = s) ∧
    (∀ (space : Nat) (write : Bool) (cause addr : Nat), s.d.f DMA_STAT_busy ≠ 0 ∧ s.d.on DMA_HALT_CAUSE_halted = false → Does (.dmaHalt space write cause addr) s fun t => (t.d.on DMA_HALT_CAUSE_halted = true ∧ (∀ n < 32, s.d.chState n ≠ 0 → t.d.chState n = 4) ∧ Raised 42 t ∧ t.d.f DMA_HALT_CAUSE_cause = cause % (DMA_HALT_CAUSE_cause).size ∧ t.d.f DMA_HALT_ADDR_LO_addr = addr % 0x100000000))

/-- Conversions, urgent requests and the steps of a system calibration complete and act as their commands say under the conditions named. -/
def Obligations.TheAdcConvertsAndCalibrates : Prop :=
  ∀ s : State, Running s →
    (∀ (raw c : Nat), c = s.d.hk.next ∧ c < 160 → ∃ t, Sys2Proof.Machine.exec (.hkConversion raw) s = .next t ∧ t.d.f (HK_CH_value c) = s.d.hkValue c raw ∧ t.d.hk.next = (c + 1) % 160 ∧ t.d.hk.acc = (s.d.hk.take c (min raw 4095)).acc) ∧
    (∀ (ch : Nat), s.d.hostWaits = false → ch < 160 ∧ s.d.hk.urgent = none → ∃ t, Sys2Proof.Machine.exec (.urgentRequest ch) s = .next t ∧ t.d.hk = { s.d.hk with urgent := some ch } ∧ Only [.hk, .host] s t) ∧
    (∀ (raw c : Nat), s.d.hk.urgent = some c ∧ c < 160 → ∃ t, Sys2Proof.Machine.exec (.urgentConversion raw) s = .next t ∧ Sets [(HK_URG_RES_ch, c), (HK_URG_RES_value, s.d.hkValue c raw), (HK_URG_RES_done, 1)] s t ∧ t.d.hk = { s.d.hk with urgent := none }) ∧
    (∀ (g : Nat), s.d.hostWaits = false → g < 12 → ∃ t, Sys2Proof.Machine.exec (.hkCalZero g) s = .next t ∧ (t.d.hk.measuring = 1 ∧ t.d.hk.calGroup = some g ∧ t.d.f HK_CAL_STAT_group = g ∧ t.d.f HK_CAL_STAT_status = 1 ∧ (∀ i < 8, t.d.on (HK_CH_cal (8 * g + i)) = true))) ∧
    (∀ (g fs : Nat), s.d.hostWaits = false → g < 12 ∧ fs < 4096 ∧ s.d.hk.calGroup = some g → ∃ t, Sys2Proof.Machine.exec (.hkCalFull g fs) s = .next t ∧ t.d.hk = { s.d.hk with measuring := 2, fs := fs, acc := s.d.hk.acc.filter fun x => 96 ≤ x.1 } ∧ Sets [(HK_CAL_STAT_group, g), (HK_CAL_STAT_status, 1)] s t) ∧
    (∀ (g : Nat) (sums : List Nat), (s.d.hk.measuring = 1 ∧ s.d.hk.calGroup = some g ∧ (∀ i < 8, (smGet (0, 0) (8 * g + i) s.d.hk.acc).2 = 64)) → sums = ((List.range 8).map fun i => (smGet (0, 0) (8 * g + i) s.d.hk.acc).1) → ∃ t, Sys2Proof.Machine.exec .hkCalMeasureDone s = .next t ∧ t.d.hk = { s.d.hk with measuring := 0, zero := some sums } ∧ Sets [(HK_CAL_STAT_status, 2), (HK_CAL_STAT_zero_mean, min ((total sums + 256) / 512) 4095)] s t) ∧
    (∀ (g : Nat) (sums : List Nat), (s.d.hk.measuring = 2 ∧ s.d.hk.calGroup = some g ∧ (∀ i < 8, (smGet (0, 0) (8 * g + i) s.d.hk.acc).2 = 64)) → sums = ((List.range 8).map fun i => (smGet (0, 0) (8 * g + i) s.d.hk.acc).1) → ∃ t, Sys2Proof.Machine.exec .hkCalMeasureDone s = .next t ∧ t.d.hk = { s.d.hk with measuring := 0, full := some sums } ∧ Sets [(HK_CAL_STAT_status, 3), (HK_CAL_STAT_full_mean, min ((total sums + 256) / 512) 4095)] s t) ∧
    (∀ (g off gain : Nat), s.d.hostWaits = false → g < 12 ∧ s.d.hkComputed g = some (off, gain) → ∃ t, Sys2Proof.Machine.exec (.hkCalCompute g) s = .next t ∧ t.d.f (HK_GRP_CAL_offset g) = off ∧ t.d.f (HK_GRP_CAL_gain g) = gain ∧ t.d.f HK_CAL_STAT_status = 4 ∧ t.d.hk.calGroup = none ∧ t.d.hk.zero = none ∧ t.d.hk.full = none ∧ t.blk.mem.sram = s.blk.mem.sram) ∧
    (∀ (g : Nat), s.d.hostWaits = false → g < 12 → ∃ t, Sys2Proof.Machine.exec (.hkCalAbort g) s = .next t ∧ t.d.f HK_CAL_STAT_status = 6 ∧ t.d.f HK_CAL_STAT_group = g ∧ t.d.hk.calGroup = none ∧ t.d.hk.measuring = 0 ∧ t.d.hk.zero = none)

/-- Rounds, throttle steps, the shutdown ramp, trips and readmissions act as their commands say, and the converter's commands complete. that
piers without power keep their band-gap judgement is log entry 60's, the sensors' readings are log entry 45's, and that the move into Rest
shows as an entry is log entry 44's -/
def Obligations.TheParapetActs : Prop :=
  ∀ s : State, Running s →
    (∀ (gap : Nat), Does (.housekeepingRound gap) s fun t => ((∀ i < 56, t.d.f (HK_PAR_SENS_temp i) = (s.d.sensTemps.getD i 0 % 65536).toNat) ∧ t.d.cal.gap = (if s.d.piersUp then s.d.gapPiers gap else s.d.cal.gap) ∧ t.d.hk.acc = s.d.hk.acc.filter fun x => x.1 < 96)) ∧
    (∀ (gap : Nat), s.d.sensTemps = List.replicate 56 950 ∧ s.d.on HK_PAR_STAT_shutdown = false ∧ s.d.pwr ≤ 1 ∧ s.d.piersUp = true → Does (.housekeepingRound gap) s fun t => t.d.on HK_PAR_STAT_shutdown = true ∧ t.d.hk.ramp = some (s.d.now + s.d.rampTicks) ∧ t.d.on PWR_STAT_in_entry = true ∧ t.d.f PWR_STAT_target = 2 ∧ t.d.evPending 53 = s.d.evPending 53) ∧
    (∀ (gap : Nat), s.d.sensTemps = List.replicate 56 950 ∧ s.d.on HK_PAR_STAT_shutdown = false → 2 ≤ s.d.pwr ∨ s.d.piersUp = false → Does (.housekeepingRound gap) s fun t => t.d.on HK_PAR_STAT_shutdown = true ∧ t.d.hk.ramp = s.d.hk.ramp ∧ Raised 53 t) ∧
    (∀ (x : ThrStep), s.d.hk.firstStep = some x ∧ x.kind = 1 ∧ x.apply = true ∧ s.d.hk.waiting.filter x.joins = [x] ∧ smGet 0 x.unit s.d.hk.att ≤ 6 → Does .throttleStepEffect s fun t => smGet 0 x.unit t.d.hk.att = min 6 (smGet 0 x.unit s.d.hk.att + 1) ∧ t.d.now = max s.d.now x.due ∧ Sets [] s t) ∧
    (∀ (at_ : Nat), s.d.hk.ramp = some at_ ∧ s.d.on PWR_STAT_held = false → Does .shutdownRampEnd s fun t => t.d.pwr = 2 ∧ t.d.on PWR_STAT_in_entry = false ∧ t.d.ps.piersOff = true ∧ t.d.hk.safeOut = true ∧ t.d.hk.ramp = none ∧ t.d.ldg.closed = false ∧ t.d.now = max s.d.now at_ ∧ Raised 128 t ∧ Raised 53 t) ∧
    (∀ (dies : Nat), dies % 32 ≠ 0 ∧ s.d.pwr ≠ 3 → Does (.fixedTrip dies) s fun t => t.d.el.trips = s.d.el.trips ||| dies % 32 ∧ t.d.on HK_PAR_TRIP_tripped = true ∧ t.d.f HK_PAR_TRIP_dies = (s.d.f HK_PAR_TRIP_dies ||| dies % 32) ∧ t.d.stage = 0 ∧ t.d.key.cause = 2 ∧ t.d.deckUp = false) ∧
    (∀ (i : Nat), s.d.hostWaits = false → i < 56 → Does (.readmit i) s fun t => t.d.on (HK_PAR_SENS_excluded i) = false ∧ smGet 0 i t.d.hk.devRun = 0) ∧
    (∀ (raw : Nat), Does (.hkConversion raw) s fun t => t.d.hk.next = (s.d.hk.next + 1) % 160) ∧
    (∀ (ch : Nat), s.d.hostWaits = false → ch < 160 ∧ s.d.hk.urgent = none → Does (.urgentRequest ch) s fun t => t.d.hk.urgent = some ch) ∧
    (∀ (raw c : Nat), s.d.hk.urgent = some c ∧ c < 160 → Does (.urgentConversion raw) s fun t => t.d.hk.urgent = none ∧ t.d.f HK_URG_RES_value = s.d.hkValue c raw ∧ t.d.on HK_URG_RES_done = true) ∧
    (∀ (g : Nat), s.d.hostWaits = false → g < 12 → Does (.hkCalZero g) s fun t => t.d.hk.measuring = 1 ∧ t.d.hk.calGroup = some g) ∧
    (∀ (g fs : Nat), s.d.hostWaits = false → g < 12 ∧ fs < 4096 → Does (.hkCalFull g fs) s fun t => t.d.hk.measuring = 2 ∧ t.d.hk.calGroup = some g ∧ t.d.hk.fs = fs) ∧
    (∀ (g : Nat), (s.d.hk.measuring ≠ 0 ∧ s.d.hk.calGroup = some g ∧ (∀ i < 8, (smGet (0, 0) (8 * g + i) s.d.hk.acc).2 = 64)) → Does .hkCalMeasureDone s fun t => t.d.hk.measuring = 0) ∧
    (∀ (g : Nat), s.d.hostWaits = false → g < 12 → Does (.hkCalCompute g) s fun t => t.d.hk.calGroup = none ∧ t.d.f HK_CAL_STAT_status = (if (s.d.hkComputed g).isSome then 4 else 5)) ∧
    (∀ (g : Nat), s.d.hostWaits = false → g < 12 → Does (.hkCalAbort g) s fun t => t.d.hk.calGroup = none ∧ t.d.f HK_CAL_STAT_status = 6)

/-- Trips end, stay outputs follow their pins and supply, and their commands complete, in every condition of the deck. -/
def Obligations.TripsAndOutputsInAnyCondition : Prop :=
  ∀ s : State, 
    (∀ (dies : Nat), s.d.el.trips ≠ 0 ∧ s.d.el.trips &&& dies = s.d.el.trips → DoesDev (.tripRelease dies) s (modEl fun e => { e with trips := 0, tripHold := some (s.d.now + 9830400) })) ∧
    (∀ (at_ : Nat), s.d.el.tripHold = some at_ → Does .tripHoldEnd s fun t => t.d.el.tripHold = none ∧ t.d.now = max s.d.now at_) ∧
    (Does .stayUpdate s fun t => ((∀ n < 64, smGet .highZ n t.d.hk.drive = (s.d.stayLevel n).1) ∧ t.d.on HK_STAY_STAT_vdda_ok = s.d.el.vdda ∧ t.d.on HK_STAY_STAT_clr_pin = !s.d.el.clrN)) ∧
    (s.d.el.clrN = true ∧ s.d.stayPowered = true ∧ s.d.staySettled = true ∧ s.d.hk.zeroOut = false → Does .stayClear s fun t => (t.d.el.clrN = false ∧ (∀ n < 64, smGet .highZ n t.d.hk.drive = .word (s.d.clearWord n)) ∧ t.d.on HK_STAY_STAT_clr_pin = true)) ∧
    (s.d.el.clrN = false → Does .stayClearRelease s fun t => t.d.el.clrN = true ∧ t.d.on HK_STAY_STAT_clr_pin = false) ∧
    (s.d.el.vdda = true → Does .staySupplyLost s fun t => (t.d.el.vdda = false ∧ (∀ n < 72, smGet .highZ n t.d.hk.drive = .highZ) ∧ t.d.on HK_STAY_STAT_vdda_ok = false)) ∧
    (s.d.el.vdda = false → Does .staySupplyReturn s fun t => t.d.el.vdda = true ∧ t.d.el.stayAt = s.d.now ∧ t.d.hk.written = 0 ∧ t.d.on HK_STAY_STAT_vdda_ok = true) ∧
    (∀ (k : Nat) (v : Word), s.d.hostWaits = false → s.d.deckUp = true ∧ s.d.running = true ∧ k < 8 ∧ s.d.inReady = true ∧ s.d.ledgerHolds = false → Does (.anchOverride k v) s fun t => t.d.on (HK_ANCH_override k) = true ∧ t.d.anchWord k = v.toNat % 131072)

/-- A check unit takes a good job and ends it with the value of R383. -/
def Obligations.CheckUnitsAnswer : Prop :=
  ∀ s : State, Running s →
    (∀ (org : Origin) (u alive : Nat), ((org = .host → s.d.hostWaits = false) ∧ (org = .firmware → s.d.key.fwStopped = false)) → org = .host ∧ 2 ≤ u ∧ u < 4 ∧ s.d.on (HK_CK_CFG_busy u) = false ∧ s.d.on (HK_CK_CFG_alive_en u) = false ∧ 8 ≤ s.d.f (HK_CK_CFG_width u) ∧ s.d.f (HK_CK_CFG_width u) ≤ 64 ∧ 0 < s.d.f (HK_CK_LEN_value u) ∧ s.d.f (HK_CK_LEN_value u) ≤ 0x1000000 ∧ s.d.f (HK_CK_SRC_value u) + s.d.f (HK_CK_LEN_value u) ≤ 0x4000000 → Does (.checkStart org u alive) s fun t => t.d.on (HK_CK_CFG_busy u) = true ∧ ((t.d.hk.jobs.find? fun x => x.1 == u).map fun x => (x.2.src, x.2.len, x.2.width)) = some (s.d.f (HK_CK_SRC_value u), s.d.f (HK_CK_LEN_value u), s.d.f (HK_CK_CFG_width u))) ∧
    (∀ (u x : Nat) (j : CkJob), u < 4 ∧ (s.d.hk.jobs.find? fun x => x.1 == u) = some (x, j) ∧ Clean s (j.src / 8 * 8) ((j.src + j.len + 7) / 8 - j.src / 8) ∧ j.width ≤ 64 → Does (.checkDone u) s fun t => t.d.f (HK_CK_RES_LO_value u) + 2 ^ 32 * t.d.f (HK_CK_RES_HI_value u) = checkValue j (((s.blk.read8 (j.src / 8 * 8) ((j.src + j.len + 7) / 8 - j.src / 8)).drop (j.src % 8)).take j.len) ∧ t.d.f (HK_CK_STAT_status u) = 1 ∧ t.d.on (HK_CK_CFG_busy u) = false ∧ (t.d.hk.jobs.find? fun x => x.1 == u) = none)

/-- Requests that no refuser stops begin their entries, entries commit and complete, and the voltage loop sends its targets. that the commit
point shows Ready is log entry 15's (DEDUCED), the AVSBus exchange in one command log entry 31's, the waiting behind a held write log entry
64's -/
def Obligations.PowerRequestsAndEntries : Prop :=
  ∀ s : State, Running s →
    (s.d.hostWaits = false → s.d.pwr = 1 ∧ s.d.on PWR_STAT_in_entry = false ∧ s.d.firstRefuser 1 0 false = none → Does .enterActive s fun t => t.d.on PWR_STAT_in_entry = true ∧ t.d.f PWR_STAT_target = 0 ∧ t.d.ps.entry = some ⟨0, 1, s.d.refBoundary, false⟩ ∧ t.d.pwr = 1) ∧
    (s.d.hostWaits = false → s.d.pwr = 0 ∧ s.d.on PWR_STAT_in_entry = false → Does .enterReady s fun t => t.d.on PWR_STAT_in_entry = true ∧ t.d.f PWR_STAT_target = 1 ∧ t.d.ps.entry = some ⟨1, 0, s.d.refBoundary, false⟩ ∧ t.d.pwr = 0) ∧
    (s.d.hostWaits = false → s.d.pwr = 2 ∧ s.d.on PWR_STAT_in_entry = false ∧ s.d.firstRefuser 2 1 false = none → Does .enterReady s fun t => t.d.on PWR_STAT_in_entry = true ∧ t.d.f PWR_STAT_target = 1 ∧ t.d.ps.entry = some ⟨1, 2, s.d.refBoundary, false⟩ ∧ t.d.pwr = 2) ∧
    (s.d.hostWaits = false → s.d.pwr = 1 ∧ s.d.on PWR_STAT_in_entry = false ∧ s.d.firstRefuser 1 2 false = none → Does .enterRest s fun t => (t.d.on PWR_STAT_in_entry = true ∧ t.d.f PWR_STAT_target = 2 ∧ t.d.ps.entry = some ⟨2, 1, s.d.refBoundary, false⟩ ∧ (∀ b < 8, t.d.fe b = 0))) ∧
    (s.d.hostWaits = false → s.d.pwr = 2 ∧ s.d.on PWR_STAT_in_entry = false ∧ s.d.firstRefuser 2 3 false = none → Does .enterDormant s fun t => t.d.on PWR_STAT_in_entry = true ∧ t.d.f PWR_STAT_target = 3 ∧ t.d.ps.entry = some ⟨3, 2, s.d.refBoundary, false⟩ ∧ t.d.ldg.closed = true) ∧
    (s.d.hostWaits = false → s.d.pwr = 1 ∧ s.d.on PWR_STAT_in_entry = false ∧ s.d.firstRefuser 1 4 false = none → Does .enterOff s fun t => (t.d.on PWR_STAT_in_entry = true ∧ t.d.f PWR_STAT_target = 4 ∧ t.d.ps.entry = some ⟨4, 1, s.d.refBoundary, false⟩ ∧ t.d.ldg.closed = true ∧ (∀ b < 8, t.d.fe b = 0))) ∧
    (∀ (e : PwrEntry), s.d.ps.entry = some e ∧ e.committed = false ∧ e.target = 1 ∧ e.from_ = 0 ∧ s.d.hk.ramp = none → Does .entryCommitPoint s fun t => t.d.pwr = 1 ∧ t.d.ps.entry = some { e with committed := true } ∧ t.d.now = max s.d.now e.at_) ∧
    (∀ (e : PwrEntry), s.d.ps.entry = some e ∧ e.committed = false ∧ e.target = 1 ∧ e.from_ = 2 ∧ s.d.hk.ramp = none ∧ s.d.firstRefuser 2 1 true = none → Does .entryCommitPoint s fun t => t.d.pwr = 1 ∧ t.d.ps.entry = some { e with committed := true } ∧ t.d.piersUp = true ∧ t.d.on PWR_STAT_in_entry = s.d.on PWR_STAT_in_entry) ∧
    (∀ (e : PwrEntry), s.d.ps.entry = some e ∧ e.committed = false ∧ e.target = 2 ∧ e.from_ = 1 ∧ s.d.hk.ramp = none ∧ s.d.firstRefuser 1 2 true = none → Does .entryCommitPoint s fun t => t.d.ps.entry = some { e with committed := true } ∧ t.d.ps.piersOff = true ∧ t.d.mp.merge = [] ∧ t.d.pwr = s.d.pwr ∧ ((∀ b < 8, t.d.fe b = 0)) ∧ ((∀ i < 16, t.d.engState i = if s.d.engState i = 0 ∨ s.d.engState i = 4 ∨ s.d.engState i = 6 then s.d.engState i else 5))) ∧
    (∀ (e : PwrEntry), s.d.ps.entry = some e ∧ e.committed = false ∧ e.target = 3 ∧ e.from_ = 2 ∧ s.d.hk.ramp = none ∧ s.d.firstRefuser 2 3 true = none → Does .entryCommitPoint s fun t => t.d.ps.entry = some { e with committed := true } ∧ t.d.mp.merge = [] ∧ t.d.hk.zeroOut = true ∧ t.d.pwr = s.d.pwr ∧ t.d.t.stopped = s.d.t.stopped ∧ ((∀ p < 2, t.d.f (LINK_PORT_STAT_state p) = 0)) ∧ ((∀ k < 8, t.d.on (HK_ANCH_override k) = false))) ∧
    (∀ (e : PwrEntry), s.d.ps.entry = some e ∧ e.committed = false ∧ e.target = 4 ∧ s.d.hk.ramp = none ∧ s.d.firstRefuser e.from_ 4 true = none → e.from_ = 1 ∨ e.from_ = 2 → Does .entryCommitPoint s fun t => t.d.ps.entry = some { e with committed := true } ∧ t.d.mp.merge = [] ∧ t.d.hk.zeroOut = true ∧ ((∀ p < 2, t.d.f (LINK_PORT_STAT_state p) = 0)) ∧ ((e.from_ = 1 → t.d.ps.piersOff = true ∧ ∀ b < 8, t.d.fe b = 0))) ∧
    (∀ (e : PwrEntry), s.d.ps.entry = some e ∧ e.committed = true ∧ e.target = 1 ∧ s.d.hk.ramp = none ∧ s.d.on PWR_STAT_held = false → Does .entryComplete s fun t => t.d.pwr = 1 ∧ t.d.on PWR_STAT_in_entry = false ∧ t.d.f PWR_STAT_last_result = 1 ∧ t.d.ps.entry = none ∧ Raised 128 t ∧ t.d.now = (if e.from_ = 0 then max s.d.now (e.at_ + 1573) else s.d.now)) ∧
    (∀ (e : PwrEntry), s.d.ps.entry = some e ∧ e.committed = true ∧ e.target = 2 ∧ s.d.hk.ramp = none ∧ s.d.on PWR_STAT_held = false → Does .entryComplete s fun t => t.d.pwr = 2 ∧ t.d.on PWR_STAT_in_entry = false ∧ t.d.f PWR_STAT_last_result = 1 ∧ t.d.ps.entry = none ∧ Raised 128 t) ∧
    (∀ (e : PwrEntry), s.d.ps.entry = some e ∧ e.committed = true ∧ e.target = 4 ∧ s.d.hk.ramp = none → Does .entryComplete s fun t => t.d.el.offHeld = true ∧ t.d.deckUp = false ∧ t.d.pwr = 4 ∧ t.d.on TL_SLEEP_xtal_ok = false ∧ t.d.quality = 0 ∧ t.d.ldg.held = []) ∧
    (∀ (e : PwrEntry), s.d.ps.entry = some e ∧ e.committed = true ∧ e.target = 0 ∧ s.d.hk.ramp = none ∧ s.d.on PWR_STAT_held = false → Does .entryComplete s fun t => t.d.pwr = 0 ∧ t.d.on PWR_STAT_in_entry = false ∧ t.d.f PWR_STAT_last_result = 1 ∧ t.d.ps.entry = none ∧ Raised 128 t) ∧
    (∀ (e : PwrEntry), s.d.ps.entry = some e ∧ e.committed = true ∧ e.target = 3 ∧ s.d.hk.ramp = none ∧ s.d.on PWR_STAT_held = false → Does .entryComplete s fun t => t.d.pwr = 3 ∧ t.d.t.stopped = true ∧ t.d.ps.sleepAt = t.d.now ∧ t.d.ldg.held = [] ∧ t.d.deckUp = false) ∧
    (∀ (i : Nat), s.d.pwr = 4 ∧ s.d.on PWR_STAT_in_entry = true ∧ s.d.f PWR_STAT_target = 2 ∧ s.d.key.fwStopped = false ∧ s.d.on KEY_STATUS_refclk_wait = false ∧ i < 16 ∧ s.d.engState i ≠ 0 ∧ s.d.on PWR_STAT_held = false → Does .startingEntryComplete s fun t => t.d.pwr = 2 ∧ t.d.on PWR_STAT_in_entry = false ∧ t.d.ps.piersOff = true ∧ Raised 128 t) ∧
    (∀ (margin measured fail : Nat), s.d.avsRuns = true ∧ 10 ≤ margin ∧ margin < 25 ∧ fail = 0 ∧ s.d.hostMode 4 = false ∧ s.d.avsClamp (s.d.ps.sent + 5) ≠ s.d.ps.sent → Does (.avsSample margin measured fail) s fun t => t.d.f PWR_AVS_TARGET_target = s.d.avsClamp (s.d.ps.sent + 5) % 1024 ∧ t.d.ps.sent = s.d.avsClamp (s.d.ps.sent + 5) ∧ t.d.f PWR_AVS_STAT_margin = margin ∧ t.d.f PWR_AVS_TARGET_floor = s.d.f PWR_AVS_TARGET_floor ∧ t.d.ps.bus = [.target (s.d.f PWR_AVS_CFG_rail) t.d.ps.sent, .voltage (s.d.f PWR_AVS_CFG_rail), .status (s.d.f PWR_AVS_CFG_rail)] ∧ t.d.f PWR_AVS_STAT_measured = min measured 1023) ∧
    (∀ (margin measured fail : Nat), s.d.avsRuns = true ∧ 10 ≤ margin ∧ margin < 25 ∧ fail = 1 ∧ s.d.hostMode 4 = false ∧ s.d.avsClamp (s.d.ps.sent + 5) ≠ s.d.ps.sent → Does (.avsSample margin measured fail) s fun t => t.d.ps.sent = s.d.ps.sent ∧ t.d.f PWR_AVS_TARGET_target = s.d.f PWR_AVS_TARGET_target ∧ Raised 133 t ∧ t.d.f PWR_AVS_STAT_bus_err = min (s.d.f PWR_AVS_STAT_bus_err + 1) (PWR_AVS_STAT_bus_err.size - 1)) ∧
    (∀ (org : Origin) (v : Word) (measured fail : Nat), org = .host ∧ s.d.avsRuns = true ∧ fail = 0 ∧ s.d.hostMode 4 = true ∧ s.d.ledgerHolds = false ∧ s.d.hostWaits = false → Does (.avsTargetWrite org v measured fail) s fun t => t.d.f PWR_AVS_TARGET_target = s.d.avsClamp (v.toNat % 1024) % 1024 ∧ t.d.ps.sent = t.d.f PWR_AVS_TARGET_target ∧ t.d.ps.unsent = false ∧ t.d.f PWR_AVS_STAT_measured = min measured 1023) ∧
    (∀ (org : Origin) (v : Word) (measured fail : Nat), org = .host ∧ s.d.hostWaits = true → DoesDev (.avsTargetWrite org v measured fail) s (fun d => { d with host := { d.host with resp := .none }, ldg := { d.ldg with held := d.ldg.held ++ [⟨.host, PWR_AVS_TARGET_target.off, v.toNat⟩] } }))

/-- In Dormant a pin or the timer wakes the device, and the power-up restarts it with its counters moved on. -/
def Obligations.SleepAndWake : Prop :=
  ∀ s : State, 
    (s.d.pwr = 3 ∧ s.d.ps.waking = 0 ∧ s.d.el.resetN = true ∧ s.d.el.vaon = true → DoesDev .wakePin s (modPs fun p => { p with waking := 1 })) ∧
    (s.d.pwr = 3 ∧ s.d.ps.waking = 0 ∧ s.d.wakeTimer ≠ 0 → Does .wakeTimer s fun t => t.d.ps.waking = 2 ∧ t.d.el.wakeDriven = some t.d.now ∧ t.d.now = max s.d.now (s.d.ps.sleepAt + 30000 * s.d.wakeTimer) ∧ Sets [] s t) ∧
    (s.d.pwr = 3 ∧ s.d.ps.rcSlept = false → Does .sleepSourceChanged s fun t => Sets [(TL_SLEEP_xtal_ok, 0), (TL_QUALITY_source_changed, 1)] s t ∧ t.d.ps = { s.d.ps with rcSlept := true }) ∧
    (∀ (n : Nat), s.d.pwr = 3 ∧ (s.d.ps.waking = 1 ∨ s.d.ps.waking = 2) ∧ s.d.el.pwrOk = true ∧ s.d.el.resetN = true ∧ s.d.el.vaon = true ∧ n = (s.d.now - s.d.ps.sleepAt + 29999) / 30000 ∧ n < 2 ^ 40 - 1 → Does .wakePowerUp s fun t => t.d.stage = 0 ∧ t.d.key.cause = 1 ∧ t.d.f PWR_STAT_wake_src = s.d.ps.waking ∧ t.d.f PWR_COUNT_wakes = min (s.d.f PWR_COUNT_wakes + 1) ((PWR_COUNT_wakes).size - 1) ∧ t.d.now = max s.d.now (s.d.ps.sleepAt + 30000 * n) ∧ t.d.quality = 4 ∧ Raised 8 t ∧ t.d.f TL_SLEEP_CNT_LO_count_lo + 2 ^ 32 * t.d.f TL_SLEEP_CNT_HI_count_hi = n)

/-- Records, gaps, excursions and archive blocks change ring, chain and pointers as the rules say. that the host's later writes wait behind a
held one is log entry 64's (DEDUCED), the flush made up after a block log entry 36's (DEDUCED) -/
def Obligations.TheLedgerRecordsAndArchives : Prop :=
  ∀ s : State, Running s →
    (∀ (r : LedgerReq) (q : List LedgerReq), s.d.ldg.queue = r :: q ∧ s.d.f LEDGER_STAT_fill < 8192 ∧ s.d.on LEDGER_STAT_gap_pending = false ∧ s.d.ldg.held = [] ∧ r.kind < 32 → Does .ledgerRecordForm s fun t => t.d.ldg.queue = q ∧ t.d.ldg.head = sha256 (s.d.ldg.head ++ recordBytes r s.d.quality) ∧ t.blk.mem.bytes (ringAddr (s.d.f LEDGER_WR_SLOT_slot)) 32 = recordBytes r s.d.quality ++ t.d.ldg.head.take 4 ∧ t.d.f LEDGER_WR_SEQ_seq = (s.d.f LEDGER_WR_SEQ_seq + 1) % 2 ^ 32 ∧ t.d.f LEDGER_WR_SLOT_slot = (s.d.f LEDGER_WR_SLOT_slot + 1) % 8192 ∧ t.d.f LEDGER_STAT_fill = s.d.f LEDGER_STAT_fill + 1) ∧
    (s.d.on LEDGER_STAT_gap_pending = true ∧ s.d.f LEDGER_STAT_fill < 8192 ∧ s.d.ldg.closed = false → Does .gapRecord s fun t => t.d.on LEDGER_STAT_gap_pending = false ∧ t.d.ldg.gapCount = 0 ∧ t.d.f LEDGER_WR_SEQ_seq = (s.d.f LEDGER_WR_SEQ_seq + 1) % 2 ^ 32 ∧ t.d.f LEDGER_STAT_fill = s.d.f LEDGER_STAT_fill + 1 ∧ t.d.ldg.queue = s.d.ldg.queue) ∧
    (s.d.ldg.closed = true → Does .gapRecord s fun t => t = s) ∧
    (∀ (a : LoopAcc), s.d.ldg.loops = [a] ∧ s.d.ldg.closed = false → Does .excursionInterval s fun t => t.d.ldg.loops = [] ∧ t.d.now = max s.d.now s.d.ldg.loopsEnd ∧ t.d.ldg.queue.take s.d.ldg.queue.length = s.d.ldg.queue ∧ (t.d.ldg.queue.drop s.d.ldg.queue.length).map (fun r => (r.kind, r.origin, r.aux, r.old, r.new, r.sealEpoch)) = [(2, .loop, a.code, toTwos32 a.min, toTwos32 a.max, toTwos32 a.last)] ∧ ((s.d.now ≤ s.d.ldg.loopsEnd → (t.d.ldg.queue.drop s.d.ldg.queue.length).map (·.ns) = [t.d.nt]))) ∧
    (s.d.ldg.loops = [] ∧ s.d.t.stopped = false ∧ s.d.t.tick < 9830400 → Does .excursionInterval s fun t => t.d.now = s.d.now + ((10 - s.d.t.fis % 10) * 9830400 - s.d.t.tick) ∧ t.d.t.tick = 0 ∧ t.d.ldg = s.d.ldg) ∧
    (s.d.ldg.arc = none ∧ s.d.key.fwStopped = false ∧ s.d.on LEDGER_STAT_arc_fail = false ∧ s.d.key.storeAbsent = false ∧ max 1 (s.d.f LEDGER_CFG_drain_thr) ≤ s.d.f LEDGER_STAT_fill → Does .archiveBlock s fun t => (t.d.ldg.arc = some ⟨s.d.f LEDGER_RD_SEQ_seq, min 126 (s.d.f LEDGER_STAT_fill), s.d.arcNext⟩ ∧ t.d.now = s.d.now ∧ (∀ i < 4096, t.blk.mem.sbyte (arcAddr s.d.arcNext + i) = 255))) ∧
    (s.d.ldg.arc = none ∧ s.d.key.fwStopped = false ∧ s.d.on LEDGER_STAT_arc_fail = false ∧ s.d.f LEDGER_STAT_fill ≠ 0 ∧ s.d.f LEDGER_STAT_fill < max 1 (s.d.f LEDGER_CFG_drain_thr) → Does .archiveBlock s fun t => t.d.ldg.arc = some ⟨s.d.f LEDGER_RD_SEQ_seq, min 126 (s.d.f LEDGER_STAT_fill), s.d.arcNext⟩ ∧ t.d.now = max s.d.now ((s.d.ringRec (s.d.f LEDGER_RD_SLOT_slot)).at_ + 98304000 * 10)) ∧
    (s.d.on LEDGER_STAT_arc_fail = true → Does .archiveBlock s fun t => t = s) ∧
    (∀ (ok : Bool) (j : ArcJob), ok = true ∧ s.d.ldg.arc = some j ∧ j.count ≤ s.d.f LEDGER_STAT_fill ∧ s.d.ldg.want = false ∧ s.d.key.fwStopped = false ∧ s.d.key.storeAbsent = false → Does (.archiveBlockDone ok) s fun t => t.d.ldg.arc = none ∧ t.d.ldg.newest = some j.sector ∧ t.d.f LEDGER_STAT_fill = s.d.f LEDGER_STAT_fill - j.count ∧ t.d.f LEDGER_RD_SLOT_slot = (s.d.f LEDGER_RD_SLOT_slot + j.count) % 8192 ∧ t.d.on LEDGER_STAT_full = false ∧ t.d.f LEDGER_WR_SEQ_seq = s.d.f LEDGER_WR_SEQ_seq) ∧
    (∀ (ok : Bool) (j : ArcJob) (i slot : Nat), ok = true ∧ s.d.ldg.arc = some j ∧ i < j.count ∧ j.count ≤ 126 ∧ s.d.ldg.want = false ∧ s.d.key.fwStopped = false ∧ s.d.key.storeAbsent = false ∧ s.d.ldg.arcHead.length = 32 → slot = (s.d.f LEDGER_RD_SLOT_slot + i) % 8192 ∧ s.blk.readable (ringAddr slot) 4 = false ∧ s.blk.mem.sbytes (arcAddr j.sector) (60 + 32 * j.count) = List.replicate (60 + 32 * j.count) 255 → Does (.archiveBlockDone ok) s fun t => t.blk.mem.sbytes (arcAddr j.sector + 56 + 32 * i) 28 = recordBytes { ns := s.d.nt, epoch := s.d.ledgerEpoch, origin := .none, kind := 3, aux := 1, addr := 0, old := (s.d.ringRec slot).seq, new := 1, sealEpoch := s.d.seals.epoch } s.d.quality) ∧
    (∀ (ok : Bool) (j : ArcJob), ok = false ∧ s.d.ldg.arc = some j ∧ s.d.ldg.arcFails = 2 ∧ s.d.key.fwStopped = false → Does (.archiveBlockDone ok) s fun t => t.d.ldg.arc = none ∧ t.d.on LEDGER_STAT_arc_fail = true ∧ Raised 125 t ∧ t.d.f LEDGER_STAT_fill = s.d.f LEDGER_STAT_fill ∧ t.blk.mem = s.blk.mem) ∧
    (∀ (ok : Bool), s.d.key.fwStopped = true → Does (.archiveBlockDone ok) s fun t => t = s) ∧
    (s.d.on LEDGER_STAT_arc_fail = true ∧ s.d.ldg.arc = none ∧ s.d.key.fwStopped = false ∧ s.d.f LEDGER_STAT_fill ≠ 0 → Does .archiveRetry s fun t => t.d.now = max s.d.now (s.d.ldg.arcFailAt + 983040000) ∧ t.d.ldg.arc.isSome = true) ∧
    (s.d.hostWaits = false → s.d.ldg.arc = none ∧ s.d.key.fwStopped = false ∧ s.d.f LEDGER_STAT_fill ≠ 0 ∧ s.d.on LEDGER_STAT_arc_fail = false → Does .flush s fun t => t.d.ldg.arc = some ⟨s.d.f LEDGER_RD_SEQ_seq, min 126 (s.d.f LEDGER_STAT_fill), s.d.arcNext⟩ ∧ t.d.f LEDGER_STAT_fill = s.d.f LEDGER_STAT_fill) ∧
    (s.d.hostWaits = false → s.d.ldg.arc.isSome = true ∨ s.d.on LEDGER_STAT_arc_fail = true → Does .flush s fun t => t.d.ldg = { s.d.ldg with want := true } ∧ t.blk.mem = s.blk.mem) ∧
    (∀ (org : Origin) (off : Nat) (v : Word), org = .host ∧ s.d.hostWaits = false ∧ s.d.ledgerHolds = true ∧ off < 0x1000000 ∧ off % 4 = 0 ∧ governedOff off = true → DoesDev (.registerWrite org off 4 [v]) s (fun d => { d with host := { d.host with resp := .none }, ldg := { d.ldg with held := d.ldg.held ++ [⟨.host, off, v.toNat⟩] } })) ∧
    (∀ (org : Origin) (off : Nat) (v : Word), org = .host ∧ s.d.hostWaits = true ∧ off < 0x1000000 ∧ off % 4 = 0 ∧ (off < 0x410000 ∨ 0x41FFF8 ≤ off ∨ s.d.stagingTakes = true) → DoesDev (.registerWrite org off 4 [v]) s (fun d => { d with host := { d.host with resp := .none }, ldg := { d.ldg with held := d.ldg.held ++ [⟨.host, off, v.toNat⟩] } })) ∧
    (∀ (sector : Nat), s.d.hostWaits = false → s.d.ldg.reading = none ∧ sector < 2048 → Does (.archiveRead sector) s fun t => Sets [(LEDGER_ARC_STAT_busy, 1), (LEDGER_ARC_STAT_done, 0), (LEDGER_ARC_STAT_err, 0)] s t ∧ t.d.ldg = { s.d.ldg with reading := some sector }) ∧
    (∀ (ok : Bool) (n : Nat), ok = true ∧ s.d.ldg.reading = some n → Does (.archiveReadDone ok) s fun t => (Sets [(LEDGER_ARC_STAT_busy, 0), (LEDGER_ARC_STAT_done, 1)] s t ∧ t.d.ldg.reading = none ∧ (∀ i < 4096, smGet 0 i t.d.ldg.window = s.blk.mem.sbyte (arcAddr n + i)))) ∧
    (Does .wrSeqRead s fun t => (t.d.host.resp = .data (s.d.f LEDGER_WR_SEQ_seq) ∧ (∀ i < 8, t.d.f (LEDGER_HEAD_head i) = ofLe ((s.d.ldg.head.drop (4 * i)).take 4) % 2 ^ 32) ∧ Only [.regs, .host] s t))

/-- Clearing events, MSI-X configuration and the host's resets act as their commands say. the host's configuration in one command is log entry
12's (DESIGN CHOICE), that a function-level reset leaves the link up and a configuration write shows it up log entry 20's (DEDUCED), the
link already down log entry 1's -/
def Obligations.EventsVectorsAndResetsOfTheHost : Prop :=
  ∀ s : State, Running s →
    (∀ (w : Nat) (v : Word), s.d.hostWaits = false → w < 5 → Does (.eventClear w v) s fun t => ((∀ i < 32, t.d.evPending (32 * w + i) = (s.d.evPending (32 * w + i) && !v.toNat.testBit i)) ∧ (∀ k < 5, k ≠ w → ∀ i < 32, t.d.evPending (32 * k + i) = s.d.evPending (32 * k + i)))) ∧
    (∀ (cfg : HostCfg), Does (.msixUnmask cfg) s fun t => t.d.host.linkUp = true ∧ t.d.host.d3hot = cfg.d3hot ∧ t.d.host.busMaster = cfg.busMaster ∧ t.d.host.msixEnable = cfg.enable ∧ t.d.host.msixFuncMask = cfg.funcMask ∧ t.d.host.msixMask = cfg.mask % 2 ^ 32 ∧ t.d.host.bar0 = cfg.bar0 % 2 ^ 64 / 2 ^ 26 * 2 ^ 26 ∧ t.d.host.bar2 = cfg.bar2 % 2 ^ 64 / 2 ^ 13 * 2 ^ 13 ∧ t.d.host.payload256 = cfg.payload256 ∧ t.d.host.aerUr = (s.d.host.aerUr && !cfg.aerClear) ∧ Only [.host] s t) ∧
    (∀ (v : Word), s.d.hostWaits = false → v.toNat % 2 = 1 ∧ bits v.toNat 15 8 = 0xC3 ∧ s.d.key.otpOp = none → Does (.deviceReset v) s fun t => t.d.stage = 0 ∧ t.d.running = false ∧ t.d.deckUp = true ∧ t.d.key.cause = 0 ∧ t.d.tt = [] ∧ t.d.span.committed = none ∧ t.d.otp = s.d.otp ∧ t.d.ev.haltCount = s.d.ev.haltCount ∧ t.blk.mem = s.blk.mem ∧ t.d.now = s.d.now) ∧
    (Does .functionLevelReset s fun t => (t.d.host.busMaster = false ∧ t.d.host.d3hot = false ∧ t.d.host.msixEnable = false ∧ t.d.host.msixMask = 0xFFFFFFFF ∧ t.d.host.linkUp = true ∧ (∀ k < 16, t.d.chState (16 + k) = 0) ∧ t.d.span.committed = s.d.span.committed)) ∧
    (s.d.host.linkUp = true ∧ s.d.key.fwStopped = false → Does .hostLinkDown s fun t => (t.d.host.linkUp = false ∧ t.d.host.busMaster = false ∧ (∀ k < 16, t.d.chState (16 + k) = 0) ∧ Raised 156 t)) ∧
    (s.d.host.linkUp = false → Does .hostLinkDown s fun t => t = s)

/-- The service port takes frames, answers requests and sends responses as its commands say. -/
def Obligations.TheServicePortAnswers : Prop :=
  ∀ s : State, Up s →
    (2 ≤ s.d.stage → DoesDev .status s (modSvc fun v => { v with sent := [ofBool v.resp.isSome + 2 * ofBool v.req.isSome + 4 * ofBool v.err + 128], err := false })) ∧
    (∀ (frame : List Nat) (r : SvcReq), 2 ≤ s.d.stage ∧ s.d.svc.req = none ∧ svcParse frame = some r ∧ svcTypes.contains r.ty = true ∧ svcPayloadGood r = true → DoesDev (.writeReqSingle frame) s (modSvc fun v => { v with req := some r, resp := none })) ∧
    (∀ (frame : List Nat) (r : SvcReq), 2 ≤ s.d.stage ∧ s.d.svc.req = none ∧ svcParse frame = some r ∧ svcTypes.contains r.ty = true ∧ svcPayloadGood r = true → DoesDev (.writeReqQuad frame) s (modSvc fun v => { v with req := some r, resp := none })) ∧
    (∀ (l : List Nat), s.d.svc.resp = some l → DoesDev .readRespSingle s (modSvc fun v => { v with sent := l, resp := none })) ∧
    (∀ (l : List Nat), s.d.svc.resp = some l → DoesDev .readRespQuad s (modSvc fun v => { v with sent := l, resp := none })) ∧
    (∀ (r : SvcReq), 2 ≤ s.d.stage ∧ s.d.svc.req = some r ∧ r.ty = 1 → DoesDev .getStatus s (fun d => modSvc (fun v => { v with req := none, resp := some (svcFrame 1 0 r.tag d.statusBytes) }) d)) ∧
    (∀ (r : SvcReq), 2 ≤ s.d.stage ∧ s.d.svc.req = some r ∧ r.ty = 0x20 → Does .ledgerRing s fun t => t.d.svc.req = none ∧ ((t.d.svc.resp.getD []).drop 8).take 8 = leBytes 4 (s.d.f LEDGER_WR_SEQ_seq) ++ leBytes 4 (s.d.f LEDGER_RD_SEQ_seq) ∧ (t.d.svc.resp.getD []).take 6 = [0x53, 0x56, 0x20, 0] ++ leBytes 2 r.tag) ∧
    (∀ (ok : Bool) (r : SvcReq), ok = true ∧ 2 ≤ s.d.stage ∧ s.d.svc.req = some r ∧ r.ty = 0x21 ∧ s.d.key.storeAbsent = false → Does (.ledgerArchive ok) s fun t => t.d.svc = { s.d.svc with req := none, resp := some (svcFrame 0x21 0 r.tag (s.blk.mem.sbytes (arcAddr (leAt r.payload 0 2)) 4096)) } ∧ Only [.svc] s t)

/-- Supplies, RESET_N, PWR_OK and the crystal put the device into reset and out of it. that PWR_OK is low after POWER_ON, and what the crystal's
readiness and halt_count keep or lose, are log entry 17's (DEDUCED) -/
def Obligations.SuppliesAndResets : Prop :=
  ∀ s : State, 
    (s.d.key.otpOp = none → Does .powerOn s fun t => t.d.stage = 0 ∧ t.d.deckUp = false ∧ t.d.key.cause = 0 ∧ t.d.el.vaon = true ∧ t.d.el.pwrOk = false ∧ t.d.ev.haltCount = 0 ∧ t.d.on HK_PAR_TRIP_tripped = false ∧ t.d.otp = s.d.otp ∧ t.d.pwr = 4) ∧
    (s.d.key.otpOp = none → Does .vaonLoss s fun t => t.d.stage = 0 ∧ t.d.deckUp = false ∧ t.d.el.vaon = false ∧ t.d.ev.haltCount = 0 ∧ t.d.on HK_PAR_TRIP_tripped = false ∧ t.d.on TL_SLEEP_xtal_ok = false ∧ t.d.otp = s.d.otp) ∧
    (s.d.key.otpOp = none → Does .resetN s fun t => t.d.el.resetN = false ∧ t.d.deckUp = false ∧ t.d.stage = 0 ∧ t.d.key.cause = 0 ∧ t.d.ev.haltCount = s.d.ev.haltCount ∧ t.d.f HK_PAR_TRIP_dies = s.d.f HK_PAR_TRIP_dies ∧ t.d.otp = s.d.otp ∧ t.d.tt = [] ∧ t.blk.mem = s.blk.mem) ∧
    (s.d.el.resetN = false ∧ s.d.el.vaon = true ∧ s.d.el.pwrOk = true ∧ s.d.el.trips = 0 ∧ s.d.el.tripHold = none ∧ s.d.el.offHeld = false ∧ s.d.pwr = 4 → Does .resetRelease s fun t => t.d.el.resetN = true ∧ t.d.deckUp = true ∧ t.d.stage = s.d.stage ∧ t.d.key.bootAt = s.d.now ∧ t.d.t.stopped = false) ∧
    (s.d.el.pwrOk = true ∧ s.d.pwr ≠ 3 ∧ s.d.el.offHeld = false ∧ s.d.key.otpOp = none → Does .pwrOkFall s fun t => t.d.el.pwrOk = false ∧ t.d.deckUp = false ∧ t.d.stage = 0 ∧ t.d.key.cause = 0 ∧ t.d.otp = s.d.otp) ∧
    (s.d.el.pwrOk = false ∧ s.d.pwr = 4 ∧ s.d.el.resetN = true ∧ s.d.el.vaon = true ∧ s.d.el.trips = 0 ∧ s.d.el.tripHold = none ∧ s.d.el.offHeld = false → Does .pwrOkRise s fun t => t.d.el.pwrOk = true ∧ t.d.deckUp = true ∧ t.d.key.bootAt = s.d.now) ∧
    (s.d.el.vaon = true ∧ s.d.el.offHeld = false → DoesDev .xtalStart s (setF TL_SLEEP_xtal_ok 1)) ∧
    (s.d.pwr ≠ 3 → DoesDev .crystalFailure s (setF TL_SLEEP_xtal_ok 0))

/-- A JTAG instruction loads; SAMPLE/PRELOAD captures the pins; one that drives pins does so from the chain while RESET_N is low, else acts as
BYPASS. that what SAMPLE/PRELOAD took is what EXTEST drives, no row shifting the chain, is log entry 55's (DESIGN CHOICE) -/
def Obligations.JtagInstructionsLoad : Prop :=
  ∀ s : State, 
    (DoesDev .bypass s (modEl fun e => { e with jtag := .bypass, bypassBit := false })) ∧
    (DoesDev .testLogicReset s (modEl fun e => { e with jtag := .bypass, bypassBit := false })) ∧
    (DoesDev .samplePreload s (fun d => modEl (fun e => { e with jtag := .samplePreload, scan := scanPins.map fun p => (p, d.pinLevel p) }) d)) ∧
    (s.d.el.resetN = true → Does .extest s fun t => t = s.actDev (modEl fun e => { e with jtag := .extest, bypassBit := false }) ∧ t.d.jtagActs = .bypass) ∧
    (∀ (p : Pin) (l : PinLevel), s.d.el.resetN = false ∧ s.d.el.scan.find? (fun x => x.1 == p) = some (p, l) → Does .extest s fun t => t = s.actDev (modEl fun e => { e with jtag := .extest }) ∧ t.d.pinLevel p = l) ∧
    (s.d.el.resetN = true → Does .extestPulse s fun t => t = s.actDev (modEl fun e => { e with jtag := .extestPulse, bypassBit := false }) ∧ t.d.jtagActs = .bypass) ∧
    (∀ (p : Pin) (l : PinLevel), s.d.el.resetN = false ∧ s.d.el.scan.find? (fun x => x.1 == p) = some (p, l) → Does .extestPulse s fun t => t = s.actDev (modEl fun e => { e with jtag := .extestPulse }) ∧ t.d.pinLevel p = l) ∧
    (s.d.el.resetN = true → Does .extestTrain s fun t => t = s.actDev (modEl fun e => { e with jtag := .extestTrain, bypassBit := false }) ∧ t.d.jtagActs = .bypass) ∧
    (∀ (p : Pin) (l : PinLevel), s.d.el.resetN = false ∧ s.d.el.scan.find? (fun x => x.1 == p) = some (p, l) → Does .extestTrain s fun t => t = s.actDev (modEl fun e => { e with jtag := .extestTrain }) ∧ t.d.pinLevel p = l)

/-- Commands of the timeline, the timetable, the ledger, events and the endpoint change only what their frames name. -/
def Obligations.TimeAndLedgerCommandsKeepTheirFrame : Prop :=
  ∀ (c : Instr) (s t : State), c.frame.family = 1 → c.wf = true → exec c s = .next t → Only c.frame.parts s t ∧ RegsIn c.frame.blocks s t

/-- Commands of the span map, bays, chains, predistortion and girders change only what their frames name. -/
def Obligations.SpanAndBayCommandsKeepTheirFrame : Prop :=
  ∀ (c : Instr) (s t : State), c.frame.family = 2 → c.wf = true → exec c s = .next t → Only c.frame.parts s t ∧ RegsIn c.frame.blocks s t

/-- Commands of lanes, ports, Xantaka, the service port, pins and JTAG change only what their frames name. -/
def Obligations.LinkAndPortCommandsKeepTheirFrame : Prop :=
  ∀ (c : Instr) (s t : State), c.frame.family = 3 → c.wf = true → exec c s = .next t → Only c.frame.parts s t ∧ RegsIn c.frame.blocks s t

/-- Commands of jobs and engines change only what their frames name. -/
def Obligations.JobAndEngineCommandsKeepTheirFrame : Prop :=
  ∀ (c : Instr) (s t : State), c.frame.family = 4 → c.wf = true → exec c s = .next t → Only c.frame.parts s t ∧ RegsIn c.frame.blocks s t

/-- Commands of the keystone, calibration, memory and DMA change only what their frames name. -/
def Obligations.KeystoneAndMemoryCommandsKeepTheirFrame : Prop :=
  ∀ (c : Instr) (s t : State), c.frame.family = 5 → c.wf = true → exec c s = .next t → Only c.frame.parts s t ∧ RegsIn c.frame.blocks s t

/-- Commands of housekeeping and power change only what their frames name. -/
def Obligations.HousekeepingAndPowerCommandsKeepTheirFrame : Prop :=
  ∀ (c : Instr) (s t : State), c.frame.family = 6 → c.wf = true → exec c s = .next t → Only c.frame.parts s t ∧ RegsIn c.frame.blocks s t

/-- A microcode operation leaves every other engine's registers, accumulators, memory and sequencer as they are. -/
def Obligations.EngineOperationsStayOnTheirEngine : Prop :=
  ∀ (c : Instr) (s t : State) (e k : Nat), c.engineOf = some e → k ≠ e → exec c s = .next t → t.d.eng k = s.d.eng k

/-- Each command named here that stores to deck SRAM or to the attached store changes no byte of either outside the places it computes. The
places of records within their regions are the model's (log entries 29 and 36). -/
def Obligations.StoresChangeOnlyTheirBytes : Prop :=
  ∀ s : State, 
    (∀ (b : Nat) (r : CapResult) (c : CapRun), b < 8 ∧ (s.d.obsSt b).cap = some c → Does (.captureWritten b r) s fun t => ((∀ a : Nat, (a < captureSlot b c.slot ∨ captureSlot b c.slot + 72 + 4 * c.len * (2 + c.nb.length) ≤ a) → t.blk.mem.byte a = s.blk.mem.byte a)) ∧ ((∀ a : Nat, t.blk.mem.sbyte a = s.blk.mem.sbyte a))) ∧
    (∀ (r : LedgerReq) (q : List LedgerReq), s.d.ldg.queue = r :: q ∧ s.d.on LEDGER_STAT_gap_pending = false ∧ s.d.ldg.held = [] → Does .ledgerRecordForm s fun t => ((∀ a : Nat, (a < ringAddr (s.d.f LEDGER_WR_SLOT_slot) ∨ ringAddr (s.d.f LEDGER_WR_SLOT_slot) + 32 ≤ a) → t.blk.mem.byte a = s.blk.mem.byte a)) ∧ ((∀ a : Nat, t.blk.mem.sbyte a = s.blk.mem.sbyte a))) ∧
    (Does .gapRecord s fun t => ((∀ a : Nat, (a < ringAddr (s.d.f LEDGER_WR_SLOT_slot) ∨ ringAddr (s.d.f LEDGER_WR_SLOT_slot) + 32 ≤ a) → t.blk.mem.byte a = s.blk.mem.byte a)) ∧ ((∀ a : Nat, t.blk.mem.sbyte a = s.blk.mem.sbyte a))) ∧
    (∀ (e : MergeEnt), s.d.mp.stalest = some e → Does .mergeRetire s fun t => ((∀ a : Nat, (a < 8 * e.word ∨ 8 * e.word + 8 ≤ a) → t.blk.mem.byte a = s.blk.mem.byte a)) ∧ ((∀ a : Nat, t.blk.mem.sbyte a = s.blk.mem.sbyte a))) ∧
    (∀ (n : Nat) (ok : Bool) (host : List Nat), n < 32 ∧ bits (s.d.chan n).ctrl 3 2 = 0 ∧ ((s.d.chan n).dst + s.d.f (DMA_CH_DONE_bytes n)) % 8 = 0 → Does (.dmaBurst n ok host) s fun t => ((∀ a : Nat, (a < (s.d.chan n).dst + s.d.f (DMA_CH_DONE_bytes n) ∨ (s.d.chan n).dst + s.d.f (DMA_CH_DONE_bytes n) + 64 ≤ a) → t.blk.mem.byte a = s.blk.mem.byte a)) ∧ ((∀ a : Nat, t.blk.mem.sbyte a = s.blk.mem.sbyte a))) ∧
    (∀ (n : Nat), n < 32 → Does (.descriptorDone n) s fun t => ((∀ a : Nat, (∀ e ∈ s.d.mp.merge, a / 8 ≠ e.word) → t.blk.mem.byte a = s.blk.mem.byte a)) ∧ ((∀ a : Nat, t.blk.mem.sbyte a = s.blk.mem.sbyte a))) ∧
    (∀ (e j : Nat) (v : Word), e < 4096 ∧ j < 64 → Does (.codebookWrite .host e j [v]) s fun t => ((∀ a : Nat, (a < cbAddr e 0 ∨ cbAddr e 0 + 256 ≤ a) → (∀ e ∈ s.d.mp.merge, a / 8 ≠ e.word) → t.blk.mem.byte a = s.blk.mem.byte a)) ∧ ((∀ a : Nat, t.blk.mem.sbyte a = s.blk.mem.sbyte a))) ∧
    (∀ (e l p n : Nat) (o : TBun), e < 16 → Does (.put e l p n o) s fun t => ((∀ a : Nat, (a < p / 8 * 8 ∨ (p + 4 * n + 7) / 8 * 8 ≤ a) → (∀ x ∈ s.d.mp.merge, a / 8 ≠ x.word) → t.blk.mem.byte a = s.blk.mem.byte a)) ∧ ((∀ a : Nat, t.blk.mem.sbyte a = s.blk.mem.sbyte a))) ∧
    (∀ (e k carrier frame slot sym l : Nat) (o : TBun), e < 16 ∧ k < 1024 → Does (.wrdyn e k carrier frame slot sym l o) s fun t => ((∀ a : Nat, (a < dynAddr k 1 0 ∨ dynAddr k 1 0 + 256 ≤ a) → t.blk.mem.byte a = s.blk.mem.byte a)) ∧ ((∀ a : Nat, t.blk.mem.sbyte a = s.blk.mem.sbyte a))) ∧
    (∀ (lost : Nat), Does (.romDone lost) s fun t => (∀ a : Nat, t.blk.mem.sbyte a = s.blk.mem.sbyte a)) ∧
    (∀ (present : Bool), Does (.storeDone present) s fun t => ((∀ a : Nat, (a < ringAddr 0 ∨ ringAddr 8192 ≤ a) → t.blk.mem.byte a = s.blk.mem.byte a)) ∧ ((∀ a : Nat, (a < slotBase 2 + 0xFFF8 ∨ slotBase 3 ≤ a) → t.blk.mem.sbyte a = s.blk.mem.sbyte a))) ∧
    (∀ (table : List Nat) (images : List (List Nat)) (busErr : Option Nat) (conv : List (List Nat)) (k : Nat), k = (if s.d.on KEY_STATUS_active_valid then 1 - s.d.f KEY_STATUS_active_slot else 0) → Does (.fetchDone table images busErr conv) s fun t => ((∀ a : Nat, (∀ i < table.getD 4 0, a < (offerEnt table i).dst ∨ (offerEnt table i).dst + ((images.getD i []).length + 7) / 8 * 8 ≤ a) → t.blk.mem.byte a = s.blk.mem.byte a)) ∧ ((∀ a : Nat, (a < slotBase k ∨ slotBase k + 0x10000 ≤ a) → (a < setAddr 0 ∨ setAddr 256 ≤ a) → t.blk.mem.sbyte a = s.blk.mem.sbyte a))) ∧
    (∀ (ok : Bool) (conv : List (List Nat)) (k : Nat), k = (if s.d.on KEY_STATUS_active_valid then 1 - s.d.f KEY_STATUS_active_slot else 0) ∧ s.blk.mem.sle (slotBase 2 + 8) 4 ≤ 0xFFF8 → Does (.activationDone ok conv) s fun t => ((∀ a : Nat, t.blk.mem.byte a = s.blk.mem.byte a)) ∧ ((∀ a : Nat, (a < slotBase k ∨ slotBase k + 0x10000 ≤ a) → (a < slotBase 2 + 0xFFF8 ∨ slotBase 3 ≤ a) → (a < setAddr 0 ∨ setAddr 256 ≤ a) → t.blk.mem.sbyte a = s.blk.mem.sbyte a))) ∧
    (∀ (ok : Bool), Does (.stageCommitDone ok) s fun t => ((∀ a : Nat, t.blk.mem.byte a = s.blk.mem.byte a)) ∧ ((∀ a : Nat, (a < slotBase 2 ∨ slotBase 3 ≤ a) → t.blk.mem.sbyte a = s.blk.mem.sbyte a))) ∧
    (∀ (org : Origin), Does (.stageClear org) s fun t => ((∀ a : Nat, t.blk.mem.byte a = s.blk.mem.byte a)) ∧ ((∀ a : Nat, (a < slotBase 2 + 0xFFF8 ∨ slotBase 3 ≤ a) → t.blk.mem.sbyte a = s.blk.mem.sbyte a))) ∧
    (∀ (good : Bool) (p : Nat), p = attBase + 0x1000 * (s.blk.mem.recNext 4 attBase 0x1000 12).1 → Does (.attestPrepare good) s fun t => ((∀ a : Nat, t.blk.mem.byte a = s.blk.mem.byte a)) ∧ ((∀ a : Nat, (a < p ∨ p + 0x1000 ≤ a) → t.blk.mem.sbyte a = s.blk.mem.sbyte a))) ∧
    (∀ (b base : Nat), b < 8 ∧ base = calRecBase b (s.blk.calCombo b) → Does (.calRecordWrite b) s fun t => ((∀ a : Nat, t.blk.mem.byte a = s.blk.mem.byte a)) ∧ ((∀ a : Nat, (a < base ∨ base + 0x2000 ≤ a) → t.blk.mem.sbyte a = s.blk.mem.sbyte a))) ∧
    (∀ (p : Nat), p = 0x30000 + 0x2000 * (s.blk.mem.recNext 3 0x30000 0x2000 2).1 ∧ s.d.mp.spares.length ≤ 1024 → Does .spareRecordWrite s fun t => ((∀ a : Nat, t.blk.mem.byte a = s.blk.mem.byte a)) ∧ ((∀ a : Nat, (a < p ∨ p + 0x2000 ≤ a) → t.blk.mem.sbyte a = s.blk.mem.sbyte a))) ∧
    (∀ (g : Nat), Does (.hkCalCompute g) s fun t => ((∀ a : Nat, t.blk.mem.byte a = s.blk.mem.byte a)) ∧ ((∀ a : Nat, (a < setAddr 0 ∨ setAddr 256 ≤ a) → t.blk.mem.sbyte a = s.blk.mem.sbyte a))) ∧
    (Does .archiveBlock s fun t => ((∀ a : Nat, t.blk.mem.byte a = s.blk.mem.byte a)) ∧ ((∀ a : Nat, (a < arcAddr s.d.arcNext ∨ arcAddr s.d.arcNext + 4096 ≤ a) → t.blk.mem.sbyte a = s.blk.mem.sbyte a))) ∧
    (Does .archiveRetry s fun t => ((∀ a : Nat, t.blk.mem.byte a = s.blk.mem.byte a)) ∧ ((∀ a : Nat, (a < arcAddr s.d.arcNext ∨ arcAddr s.d.arcNext + 4096 ≤ a) → t.blk.mem.sbyte a = s.blk.mem.sbyte a))) ∧
    (Does .flush s fun t => ((∀ a : Nat, t.blk.mem.byte a = s.blk.mem.byte a)) ∧ ((∀ a : Nat, (a < arcAddr s.d.arcNext ∨ arcAddr s.d.arcNext + 4096 ≤ a) → t.blk.mem.sbyte a = s.blk.mem.sbyte a))) ∧
    (∀ (ok : Bool) (j : ArcJob) (k : Nat), s.d.ldg.arc = some j ∧ j.count ≤ 126 ∧ k = (j.sector + 1) % 2048 ∧ (s.d.ldg.want = true ∨ ok = false ∨ s.d.key.storeAbsent = true) → Does (.archiveBlockDone ok) s fun t => ((∀ a : Nat, t.blk.mem.byte a = s.blk.mem.byte a)) ∧ ((∀ a : Nat, (a < arcAddr j.sector ∨ arcAddr j.sector + 4096 ≤ a) → (a < arcAddr k ∨ arcAddr k + 4096 ≤ a) → t.blk.mem.sbyte a = s.blk.mem.sbyte a))) ∧
    (∀ (ok : Bool) (j : ArcJob), s.d.ldg.arc = some j ∧ j.count ≤ 126 ∧ s.d.ldg.want = false ∧ ok = true ∧ s.d.key.storeAbsent = false → Does (.archiveBlockDone ok) s fun t => ((∀ a : Nat, t.blk.mem.byte a = s.blk.mem.byte a)) ∧ ((∀ a : Nat, (a < arcAddr j.sector ∨ arcAddr j.sector + 4096 ≤ a) → t.blk.mem.sbyte a = s.blk.mem.sbyte a)))
end

