-- ==== Sys2Proof/Laws/SMap.lean ====
section
/-!
SUPPORT. Sparse maps: a read after a write, at the same key and at another, and the canonical form that writes keep.
-/
namespace Sys2Proof.Machine
variable {α : Type}
theorem smGet_smIns_same (d : α) (k : Nat) (v : α) (m : List (Nat × α)) : smGet d k (smIns k v m) = v := by
  induction m with
  | nil => simp [smIns, smGet]
  | cons x r ih =>
    obtain ⟨a, w⟩ := x
    simp only [smIns]
    split
    · simp [smGet]
    · split
      · simp [smGet]
      · simp_all [smGet]
theorem smGet_smIns_other (d : α) {k j : Nat} (h : j ≠ k) (v : α) (m : List (Nat × α)) : smGet d j (smIns k v m) = smGet d j m := by
  induction m with
  | nil => simp [smIns, smGet, h.symm]
  | cons x r ih =>
    obtain ⟨a, w⟩ := x
    simp only [smIns]
    split
    · subst_vars; simp [smGet, h.symm]
    · split
      · simp [smGet, h.symm]
      · simp_all [smGet]
theorem smGet_drop_same (d : α) (k : Nat) (m : List (Nat × α)) : smGet d k (m.filter fun x => x.1 ≠ k) = d := by
  induction m with
  | nil => rfl
  | cons x r ih =>
    obtain ⟨a, w⟩ := x
    by_cases h : a = k <;> simp_all [smGet]
theorem smGet_drop_other (d : α) {k j : Nat} (h : j ≠ k) (m : List (Nat × α)) :
    smGet d j (m.filter fun x => x.1 ≠ k) = smGet d j m := by
  induction m with
  | nil => rfl
  | cons x r ih =>
    obtain ⟨a, w⟩ := x
    by_cases h : a = k <;> simp_all [smGet, Ne.symm]
theorem smGet_smPut_same [DecidableEq α] (d : α) (k : Nat) (v : α) (m : List (Nat × α)) : smGet d k (smPut d k v m) = v := by
  unfold smPut
  split
  · subst_vars; exact smGet_drop_same _ k m
  · exact smGet_smIns_same d k v m
theorem smGet_smPut_other [DecidableEq α] (d e : α) {k j : Nat} (h : j ≠ k) (v : α) (m : List (Nat × α)) :
    smGet e j (smPut d k v m) = smGet e j m := by
  unfold smPut
  split
  · exact smGet_drop_other e h m
  · exact smGet_smIns_other e h v m

/-! ### The canonical form -/

theorem smWfFrom_cons [DecidableEq α] (d : α) (lo : Option Nat) (a : Nat) (v : α) (r : List (Nat × α)) :
    smWfFrom d lo ((a, v) :: r) = true ↔ (∀ l, lo = some l → l < a) ∧ v ≠ d ∧ smWfFrom d (some a) r = true := by
  cases lo <;> simp [smWfFrom, and_assoc]

/-- A lower bound may be dropped. -/
theorem smWfFrom_weaken [DecidableEq α] (d : α) {lo : Nat} {lo' : Option Nat} (h : ∀ l, lo' = some l → l ≤ lo) (m : List (Nat × α))
    (hm : smWfFrom d (some lo) m = true) : smWfFrom d lo' m = true := by
  cases m with
  | nil => rfl
  | cons x r =>
    obtain ⟨a, v⟩ := x
    rw [smWfFrom_cons] at hm ⊢
    exact ⟨fun l e => lt_of_le_of_lt (h l e) (hm.1 lo rfl), hm.2⟩

theorem smWfFrom_smIns [DecidableEq α] (d : α) (k : Nat) (v : α) (hv : v ≠ d) (m : List (Nat × α)) :
    ∀ lo : Option Nat, (∀ l, lo = some l → l < k) → smWfFrom d lo m = true → smWfFrom d lo (smIns k v m) = true := by
  induction m with
  | nil => intro lo hk _; rw [smIns, smWfFrom_cons]; exact ⟨hk, hv, rfl⟩
  | cons x r ih =>
    obtain ⟨a, w⟩ := x
    intro lo hk hm
    rw [smWfFrom_cons] at hm
    simp only [smIns]
    split
    · subst_vars; rw [smWfFrom_cons]; exact ⟨hk, hv, hm.2.2⟩
    · split
      · rename_i h
        rw [smWfFrom_cons, smWfFrom_cons]
        exact ⟨hk, hv, fun l e => by injection e with e; omega, hm.2.1, hm.2.2⟩
      · rw [smWfFrom_cons]
        exact ⟨hm.1, hm.2.1, ih (some a) (fun l e => by injection e with e; omega) hm.2.2⟩

theorem smWfFrom_filter [DecidableEq α] (d : α) (p : Nat × α → Bool) (m : List (Nat × α)) :
    ∀ lo : Option Nat, smWfFrom d lo m = true → smWfFrom d lo (m.filter p) = true := by
  induction m with
  | nil => intro lo _; rfl
  | cons x r ih =>
    obtain ⟨a, w⟩ := x
    intro lo hm
    rw [smWfFrom_cons] at hm
    rw [List.filter_cons]
    split
    · rw [smWfFrom_cons]; exact ⟨hm.1, hm.2.1, ih _ hm.2.2⟩
    · exact ih lo (smWfFrom_weaken d (fun l e => (hm.1 l e).le) r hm.2.2)

/-- Dropping entries keeps the canonical form. -/
theorem smWf_filter [DecidableEq α] (d : α) (p : Nat × α → Bool) (m : List (Nat × α)) (hm : smWf d m = true) :
    smWf d (m.filter p) = true := smWfFrom_filter d p m none hm

/-- A write keeps the canonical form. -/
theorem smWf_smPut [DecidableEq α] (d : α) (k : Nat) (v : α) (m : List (Nat × α)) (hm : smWf d m = true) :
    smWf d (smPut d k v m) = true := by
  unfold smPut
  split
  · exact smWf_filter d _ m hm
  · rename_i h; exact smWfFrom_smIns d k v h m none (fun l e => by cases e) hm

end Sys2Proof.Machine
end

