-- ==== Sys2Proof/Laws/State.lean ====
section
/-!
SUPPORT. One lemma per field per update of the state, and the laws of the register file.
-/
namespace Sys2Proof.Machine

/-! ### Acting on parts of the machine -/

@[simp] theorem State.act_blk (g : Blk → Blk) (s : State) : (s.act g).blk = g s.blk := rfl
@[simp] theorem State.act_pending (g : Blk → Blk) (s : State) : (s.act g).pending = s.pending := rfl
@[simp] theorem State.actDev_dev (g : Dev → Dev) (s : State) : (s.actDev g).blk.dev = g s.blk.dev := rfl
@[simp] theorem State.actDev_mem (g : Dev → Dev) (s : State) : (s.actDev g).blk.mem = s.blk.mem := rfl
@[simp] theorem State.actDev_pending (g : Dev → Dev) (s : State) : (s.actDev g).pending = s.pending := rfl
@[simp] theorem onDev_dev (g : Dev → Dev) (b : Blk) : (onDev g b).dev = g b.dev := rfl
@[simp] theorem onDev_mem (g : Dev → Dev) (b : Blk) : (onDev g b).mem = b.mem := rfl
@[simp] theorem onMem_dev (g : Mem → Mem) (b : Blk) : (onMem g b).dev = b.dev := rfl
@[simp] theorem onMem_mem (g : Mem → Mem) (b : Blk) : (onMem g b).mem = g b.mem := rfl

/-! ### Every field but the registers under a register write -/

@[simp] theorem setF_now (x : Fld) (v : Nat) (d : Dev) : (setF x v d).now = d.now := rfl
@[simp] theorem setF_draws (x : Fld) (v : Nat) (d : Dev) : (setF x v d).draws = d.draws := rfl
@[simp] theorem setF_t (x : Fld) (v : Nat) (d : Dev) : (setF x v d).t = d.t := rfl
@[simp] theorem setF_tt (x : Fld) (v : Nat) (d : Dev) : (setF x v d).tt = d.tt := rfl
@[simp] theorem setF_ev (x : Fld) (v : Nat) (d : Dev) : (setF x v d).ev = d.ev := rfl
@[simp] theorem setF_ldg (x : Fld) (v : Nat) (d : Dev) : (setF x v d).ldg = d.ldg := rfl
@[simp] theorem setF_host (x : Fld) (v : Nat) (d : Dev) : (setF x v d).host = d.host := rfl
@[simp] theorem setF_seals (x : Fld) (v : Nat) (d : Dev) : (setF x v d).seals = d.seals := rfl
@[simp] theorem setF_span (x : Fld) (v : Nat) (d : Dev) : (setF x v d).span = d.span := rfl
@[simp] theorem setF_bays (x : Fld) (v : Nat) (d : Dev) : (setF x v d).bays = d.bays := rfl
@[simp] theorem setF_chains (x : Fld) (v : Nat) (d : Dev) : (setF x v d).chains = d.chains := rfl
@[simp] theorem setF_gainStored (x : Fld) (v : Nat) (d : Dev) : (setF x v d).gainStored = d.gainStored := rfl
@[simp] theorem setF_inForce (x : Fld) (v : Nat) (d : Dev) : (setF x v d).inForce = d.inForce := rfl
@[simp] theorem setF_deferred (x : Fld) (v : Nat) (d : Dev) : (setF x v d).deferred = d.deferred := rfl
@[simp] theorem setF_obs (x : Fld) (v : Nat) (d : Dev) : (setF x v d).obs = d.obs := rfl
@[simp] theorem setF_dpd (x : Fld) (v : Nat) (d : Dev) : (setF x v d).dpd = d.dpd := rfl
@[simp] theorem setF_basis (x : Fld) (v : Nat) (d : Dev) : (setF x v d).basis = d.basis := rfl
@[simp] theorem setF_mp (x : Fld) (v : Nat) (d : Dev) : (setF x v d).mp = d.mp := rfl
@[simp] theorem setF_gir (x : Fld) (v : Nat) (d : Dev) : (setF x v d).gir = d.gir := rfl
@[simp] theorem setF_dma (x : Fld) (v : Nat) (d : Dev) : (setF x v d).dma = d.dma := rfl
@[simp] theorem setF_link (x : Fld) (v : Nat) (d : Dev) : (setF x v d).link = d.link := rfl
@[simp] theorem setF_xk (x : Fld) (v : Nat) (d : Dev) : (setF x v d).xk = d.xk := rfl
@[simp] theorem setF_otp (x : Fld) (v : Nat) (d : Dev) : (setF x v d).otp = d.otp := rfl
@[simp] theorem setF_key (x : Fld) (v : Nat) (d : Dev) : (setF x v d).key = d.key := rfl
@[simp] theorem setF_cal (x : Fld) (v : Nat) (d : Dev) : (setF x v d).cal = d.cal := rfl
@[simp] theorem setF_hk (x : Fld) (v : Nat) (d : Dev) : (setF x v d).hk = d.hk := rfl
@[simp] theorem setF_ps (x : Fld) (v : Nat) (d : Dev) : (setF x v d).ps = d.ps := rfl
@[simp] theorem setF_el (x : Fld) (v : Nat) (d : Dev) : (setF x v d).el = d.el := rfl
@[simp] theorem setF_svc (x : Fld) (v : Nat) (d : Dev) : (setF x v d).svc = d.svc := rfl
@[simp] theorem setF_tr (x : Fld) (v : Nat) (d : Dev) : (setF x v d).tr = d.tr := rfl
@[simp] theorem setF_sig (x : Fld) (v : Nat) (d : Dev) : (setF x v d).sig = d.sig := rfl

theorem setF_regs (x : Fld) (v : Nat) (d : Dev) : (setF x v d).regs = smPut x.rst x.key (v % x.size) d.regs := rfl

/-! ### The register file -/

/-- A field reads what was written, cut to its width. -/
@[simp] theorem f_setF_same (x : Fld) (v : Nat) (d : Dev) : (setF x v d).f x = v % x.size := by
  unfold Dev.f; rw [setF_regs, smGet_smPut_same, Nat.mod_mod]

/-- A field at another place keeps its value. -/
theorem f_setF_other {x y : Fld} (h : y.key ≠ x.key) (v : Nat) (d : Dev) : (setF x v d).f y = d.f y := by
  unfold Dev.f; rw [setF_regs, smGet_smPut_other _ _ h]

/-- A field depends on the register file alone. -/
theorem f_congr {d e : Dev} (h : d.regs = e.regs) (x : Fld) : d.f x = e.f x := by unfold Dev.f; rw [h]

theorem Fld.size_pos (x : Fld) : 0 < x.size := Nat.two_pow_pos _

/-- A field reads a value of its width. -/
theorem f_lt (d : Dev) (x : Fld) : d.f x < x.size := Nat.mod_lt _ x.size_pos

@[simp] theorem f_setB_same (x : Fld) (v : Bool) (d : Dev) : (setB x v d).f x = ofBool v % x.size := f_setF_same ..
theorem f_setB_other {x y : Fld} (h : y.key ≠ x.key) (v : Bool) (d : Dev) : (setB x v d).f y = d.f y := f_setF_other h ..

/-- A bit reads what was written. -/
theorem on_setB_same (x : Fld) (h : x.lo ≤ x.hi) (v : Bool) (d : Dev) : (setB x v d).on x = v := by
  have h2 : 2 ≤ x.size := by
    have : 2 ^ 1 ≤ 2 ^ (x.hi + 1 - x.lo) := Nat.pow_le_pow_right (by decide) (by omega)
    simpa [Fld.size] using this
  cases v <;> simp [Dev.on, ofBool, Nat.mod_eq_of_lt (show 1 < x.size by omega)]

/-- A saturating counter stops at its field's largest value. -/
theorem f_addF_same (x : Fld) (n : Nat) (d : Dev) : (addF x n d).f x = min (d.f x + n) (x.size - 1) := by
  have := x.size_pos
  unfold addF
  rw [f_setF_same, Nat.mod_eq_of_lt (by omega)]
theorem f_addF_other {x y : Fld} (h : y.key ≠ x.key) (n : Nat) (d : Dev) : (addF x n d).f y = d.f y := f_setF_other h ..
theorem f_incF_same (x : Fld) (d : Dev) : (incF x d).f x = min (d.f x + 1) (x.size - 1) := f_addF_same ..
theorem f_incF_other {x y : Fld} (h : y.key ≠ x.key) (d : Dev) : (incF x d).f y = d.f y := f_addF_other h ..
theorem f_rstF_other {x y : Fld} (h : y.key ≠ x.key) (d : Dev) : (rstF x d).f y = d.f y := f_setF_other h ..
theorem f_setBitF_other {x y : Fld} (h : y.key ≠ x.key) (i : Nat) (d : Dev) : (setBitF x i d).f y = d.f y := f_setF_other h ..
theorem f_clrBitF_other {x y : Fld} (h : y.key ≠ x.key) (i : Nat) (d : Dev) : (clrBitF x i d).f y = d.f y := by
  unfold clrBitF; split
  · exact f_setF_other h ..
  · rfl

/-! ### The clock -/

@[simp] theorem passTicks_regs (n : Nat) (d : Dev) : (passTicks n d).regs = d.regs := by unfold passTicks; split <;> rfl
@[simp] theorem passTicks_now (n : Nat) (d : Dev) : (passTicks n d).now = d.now + n := by unfold passTicks; split <;> rfl
@[simp] theorem passTo_regs (t : Nat) (d : Dev) : (passTo t d).regs = d.regs := by unfold passTo; split <;> simp
@[simp] theorem passTo_now (t : Nat) (d : Dev) : (passTo t d).now = max d.now t := by
  unfold passTo; split <;> simp <;> omega
@[simp] theorem f_passTicks (n : Nat) (d : Dev) (x : Fld) : (passTicks n d).f x = d.f x := f_congr (by simp) x
@[simp] theorem f_passTo (t : Nat) (d : Dev) (x : Fld) : (passTo t d).f x = d.f x := f_congr (by simp) x

@[simp] theorem passTicks_draws (n : Nat) (d : Dev) : (passTicks n d).draws = d.draws := by unfold passTicks; split <;> rfl
@[simp] theorem passTo_draws (n : Nat) (d : Dev) : (passTo n d).draws = d.draws := by unfold passTo; split <;> simp
@[simp] theorem passTicks_tt (n : Nat) (d : Dev) : (passTicks n d).tt = d.tt := by unfold passTicks; split <;> rfl
@[simp] theorem passTo_tt (n : Nat) (d : Dev) : (passTo n d).tt = d.tt := by unfold passTo; split <;> simp
@[simp] theorem passTicks_ev (n : Nat) (d : Dev) : (passTicks n d).ev = d.ev := by unfold passTicks; split <;> rfl
@[simp] theorem passTo_ev (n : Nat) (d : Dev) : (passTo n d).ev = d.ev := by unfold passTo; split <;> simp
@[simp] theorem passTicks_ldg (n : Nat) (d : Dev) : (passTicks n d).ldg = d.ldg := by unfold passTicks; split <;> rfl
@[simp] theorem passTo_ldg (n : Nat) (d : Dev) : (passTo n d).ldg = d.ldg := by unfold passTo; split <;> simp
@[simp] theorem passTicks_host (n : Nat) (d : Dev) : (passTicks n d).host = d.host := by unfold passTicks; split <;> rfl
@[simp] theorem passTo_host (n : Nat) (d : Dev) : (passTo n d).host = d.host := by unfold passTo; split <;> simp
@[simp] theorem passTicks_seals (n : Nat) (d : Dev) : (passTicks n d).seals = d.seals := by unfold passTicks; split <;> rfl
@[simp] theorem passTo_seals (n : Nat) (d : Dev) : (passTo n d).seals = d.seals := by unfold passTo; split <;> simp
@[simp] theorem passTicks_span (n : Nat) (d : Dev) : (passTicks n d).span = d.span := by unfold passTicks; split <;> rfl
@[simp] theorem passTo_span (n : Nat) (d : Dev) : (passTo n d).span = d.span := by unfold passTo; split <;> simp
@[simp] theorem passTicks_bays (n : Nat) (d : Dev) : (passTicks n d).bays = d.bays := by unfold passTicks; split <;> rfl
@[simp] theorem passTo_bays (n : Nat) (d : Dev) : (passTo n d).bays = d.bays := by unfold passTo; split <;> simp
@[simp] theorem passTicks_chains (n : Nat) (d : Dev) : (passTicks n d).chains = d.chains := by unfold passTicks; split <;> rfl
@[simp] theorem passTo_chains (n : Nat) (d : Dev) : (passTo n d).chains = d.chains := by unfold passTo; split <;> simp
@[simp] theorem passTicks_gainStored (n : Nat) (d : Dev) : (passTicks n d).gainStored = d.gainStored := by unfold passTicks; split <;> rfl
@[simp] theorem passTo_gainStored (n : Nat) (d : Dev) : (passTo n d).gainStored = d.gainStored := by unfold passTo; split <;> simp
@[simp] theorem passTicks_inForce (n : Nat) (d : Dev) : (passTicks n d).inForce = d.inForce := by unfold passTicks; split <;> rfl
@[simp] theorem passTo_inForce (n : Nat) (d : Dev) : (passTo n d).inForce = d.inForce := by unfold passTo; split <;> simp
@[simp] theorem passTicks_deferred (n : Nat) (d : Dev) : (passTicks n d).deferred = d.deferred := by unfold passTicks; split <;> rfl
@[simp] theorem passTo_deferred (n : Nat) (d : Dev) : (passTo n d).deferred = d.deferred := by unfold passTo; split <;> simp
@[simp] theorem passTicks_obs (n : Nat) (d : Dev) : (passTicks n d).obs = d.obs := by unfold passTicks; split <;> rfl
@[simp] theorem passTo_obs (n : Nat) (d : Dev) : (passTo n d).obs = d.obs := by unfold passTo; split <;> simp
@[simp] theorem passTicks_dpd (n : Nat) (d : Dev) : (passTicks n d).dpd = d.dpd := by unfold passTicks; split <;> rfl
@[simp] theorem passTo_dpd (n : Nat) (d : Dev) : (passTo n d).dpd = d.dpd := by unfold passTo; split <;> simp
@[simp] theorem passTicks_basis (n : Nat) (d : Dev) : (passTicks n d).basis = d.basis := by unfold passTicks; split <;> rfl
@[simp] theorem passTo_basis (n : Nat) (d : Dev) : (passTo n d).basis = d.basis := by unfold passTo; split <;> simp
@[simp] theorem passTicks_mp (n : Nat) (d : Dev) : (passTicks n d).mp = d.mp := by unfold passTicks; split <;> rfl
@[simp] theorem passTo_mp (n : Nat) (d : Dev) : (passTo n d).mp = d.mp := by unfold passTo; split <;> simp
@[simp] theorem passTicks_gir (n : Nat) (d : Dev) : (passTicks n d).gir = d.gir := by unfold passTicks; split <;> rfl
@[simp] theorem passTo_gir (n : Nat) (d : Dev) : (passTo n d).gir = d.gir := by unfold passTo; split <;> simp
@[simp] theorem passTicks_dma (n : Nat) (d : Dev) : (passTicks n d).dma = d.dma := by unfold passTicks; split <;> rfl
@[simp] theorem passTo_dma (n : Nat) (d : Dev) : (passTo n d).dma = d.dma := by unfold passTo; split <;> simp
@[simp] theorem passTicks_link (n : Nat) (d : Dev) : (passTicks n d).link = d.link := by unfold passTicks; split <;> rfl
@[simp] theorem passTo_link (n : Nat) (d : Dev) : (passTo n d).link = d.link := by unfold passTo; split <;> simp
@[simp] theorem passTicks_xk (n : Nat) (d : Dev) : (passTicks n d).xk = d.xk := by unfold passTicks; split <;> rfl
@[simp] theorem passTo_xk (n : Nat) (d : Dev) : (passTo n d).xk = d.xk := by unfold passTo; split <;> simp
@[simp] theorem passTicks_otp (n : Nat) (d : Dev) : (passTicks n d).otp = d.otp := by unfold passTicks; split <;> rfl
@[simp] theorem passTo_otp (n : Nat) (d : Dev) : (passTo n d).otp = d.otp := by unfold passTo; split <;> simp
@[simp] theorem passTicks_key (n : Nat) (d : Dev) : (passTicks n d).key = d.key := by unfold passTicks; split <;> rfl
@[simp] theorem passTo_key (n : Nat) (d : Dev) : (passTo n d).key = d.key := by unfold passTo; split <;> simp
@[simp] theorem passTicks_cal (n : Nat) (d : Dev) : (passTicks n d).cal = d.cal := by unfold passTicks; split <;> rfl
@[simp] theorem passTo_cal (n : Nat) (d : Dev) : (passTo n d).cal = d.cal := by unfold passTo; split <;> simp
@[simp] theorem passTicks_hk (n : Nat) (d : Dev) : (passTicks n d).hk = d.hk := by unfold passTicks; split <;> rfl
@[simp] theorem passTo_hk (n : Nat) (d : Dev) : (passTo n d).hk = d.hk := by unfold passTo; split <;> simp
@[simp] theorem passTicks_ps (n : Nat) (d : Dev) : (passTicks n d).ps = d.ps := by unfold passTicks; split <;> rfl
@[simp] theorem passTo_ps (n : Nat) (d : Dev) : (passTo n d).ps = d.ps := by unfold passTo; split <;> simp
@[simp] theorem passTicks_el (n : Nat) (d : Dev) : (passTicks n d).el = d.el := by unfold passTicks; split <;> rfl
@[simp] theorem passTo_el (n : Nat) (d : Dev) : (passTo n d).el = d.el := by unfold passTo; split <;> simp
@[simp] theorem passTicks_svc (n : Nat) (d : Dev) : (passTicks n d).svc = d.svc := by unfold passTicks; split <;> rfl
@[simp] theorem passTo_svc (n : Nat) (d : Dev) : (passTo n d).svc = d.svc := by unfold passTo; split <;> simp
@[simp] theorem passTicks_tr (n : Nat) (d : Dev) : (passTicks n d).tr = d.tr := by unfold passTicks; split <;> rfl
@[simp] theorem passTicks_sig (n : Nat) (d : Dev) : (passTicks n d).sig = d.sig := by unfold passTicks; split <;> rfl
@[simp] theorem passTo_tr (n : Nat) (d : Dev) : (passTo n d).tr = d.tr := by unfold passTo; split <;> simp
@[simp] theorem passTo_sig (n : Nat) (d : Dev) : (passTo n d).sig = d.sig := by unfold passTo; split <;> simp

/-! ### Records of the ledger and the actions of loops -/

@[simp] theorem ledgerPut_regs (org : Origin) (k a p u v : Nat) (d : Dev) : (ledgerPut org k a p u v d).regs = d.regs := by
  unfold ledgerPut; split <;> rfl
@[simp] theorem f_ledgerPut (org : Origin) (k a p u v : Nat) (d : Dev) (x : Fld) : (ledgerPut org k a p u v d).f x = d.f x :=
  f_congr (by simp) x
@[simp] theorem f_loopAct (c u : Nat) (v : Int) (d : Dev) (x : Fld) : (loopAct c u v d).f x = d.f x := by unfold loopAct; split <;> rfl
@[simp] theorem f_draw (d : Dev) (x : Fld) : (draw d).f x = d.f x := rfl

@[simp] theorem ledgerPut_now (org : Origin) (k a p u v : Nat) (d : Dev) : (ledgerPut org k a p u v d).now = d.now := by unfold ledgerPut; split <;> rfl
@[simp] theorem loopAct_now (c u : Nat) (v : Int) (d : Dev) : (loopAct c u v d).now = d.now := by unfold loopAct; split <;> rfl
@[simp] theorem ledgerPut_draws (org : Origin) (k a p u v : Nat) (d : Dev) : (ledgerPut org k a p u v d).draws = d.draws := by unfold ledgerPut; split <;> rfl
@[simp] theorem loopAct_draws (c u : Nat) (v : Int) (d : Dev) : (loopAct c u v d).draws = d.draws := by unfold loopAct; split <;> rfl
@[simp] theorem ledgerPut_t (org : Origin) (k a p u v : Nat) (d : Dev) : (ledgerPut org k a p u v d).t = d.t := by unfold ledgerPut; split <;> rfl
@[simp] theorem loopAct_t (c u : Nat) (v : Int) (d : Dev) : (loopAct c u v d).t = d.t := by unfold loopAct; split <;> rfl
@[simp] theorem ledgerPut_tt (org : Origin) (k a p u v : Nat) (d : Dev) : (ledgerPut org k a p u v d).tt = d.tt := by unfold ledgerPut; split <;> rfl
@[simp] theorem loopAct_tt (c u : Nat) (v : Int) (d : Dev) : (loopAct c u v d).tt = d.tt := by unfold loopAct; split <;> rfl
@[simp] theorem ledgerPut_ev (org : Origin) (k a p u v : Nat) (d : Dev) : (ledgerPut org k a p u v d).ev = d.ev := by unfold ledgerPut; split <;> rfl
@[simp] theorem loopAct_ev (c u : Nat) (v : Int) (d : Dev) : (loopAct c u v d).ev = d.ev := by unfold loopAct; split <;> rfl
@[simp] theorem ledgerPut_host (org : Origin) (k a p u v : Nat) (d : Dev) : (ledgerPut org k a p u v d).host = d.host := by unfold ledgerPut; split <;> rfl
@[simp] theorem loopAct_host (c u : Nat) (v : Int) (d : Dev) : (loopAct c u v d).host = d.host := by unfold loopAct; split <;> rfl
@[simp] theorem ledgerPut_seals (org : Origin) (k a p u v : Nat) (d : Dev) : (ledgerPut org k a p u v d).seals = d.seals := by unfold ledgerPut; split <;> rfl
@[simp] theorem loopAct_seals (c u : Nat) (v : Int) (d : Dev) : (loopAct c u v d).seals = d.seals := by unfold loopAct; split <;> rfl
@[simp] theorem ledgerPut_span (org : Origin) (k a p u v : Nat) (d : Dev) : (ledgerPut org k a p u v d).span = d.span := by unfold ledgerPut; split <;> rfl
@[simp] theorem loopAct_span (c u : Nat) (v : Int) (d : Dev) : (loopAct c u v d).span = d.span := by unfold loopAct; split <;> rfl
@[simp] theorem ledgerPut_bays (org : Origin) (k a p u v : Nat) (d : Dev) : (ledgerPut org k a p u v d).bays = d.bays := by unfold ledgerPut; split <;> rfl
@[simp] theorem loopAct_bays (c u : Nat) (v : Int) (d : Dev) : (loopAct c u v d).bays = d.bays := by unfold loopAct; split <;> rfl
@[simp] theorem ledgerPut_chains (org : Origin) (k a p u v : Nat) (d : Dev) : (ledgerPut org k a p u v d).chains = d.chains := by unfold ledgerPut; split <;> rfl
@[simp] theorem loopAct_chains (c u : Nat) (v : Int) (d : Dev) : (loopAct c u v d).chains = d.chains := by unfold loopAct; split <;> rfl
@[simp] theorem ledgerPut_gainStored (org : Origin) (k a p u v : Nat) (d : Dev) : (ledgerPut org k a p u v d).gainStored = d.gainStored := by unfold ledgerPut; split <;> rfl
@[simp] theorem loopAct_gainStored (c u : Nat) (v : Int) (d : Dev) : (loopAct c u v d).gainStored = d.gainStored := by unfold loopAct; split <;> rfl
@[simp] theorem ledgerPut_inForce (org : Origin) (k a p u v : Nat) (d : Dev) : (ledgerPut org k a p u v d).inForce = d.inForce := by unfold ledgerPut; split <;> rfl
@[simp] theorem loopAct_inForce (c u : Nat) (v : Int) (d : Dev) : (loopAct c u v d).inForce = d.inForce := by unfold loopAct; split <;> rfl
@[simp] theorem ledgerPut_deferred (org : Origin) (k a p u v : Nat) (d : Dev) : (ledgerPut org k a p u v d).deferred = d.deferred := by unfold ledgerPut; split <;> rfl
@[simp] theorem loopAct_deferred (c u : Nat) (v : Int) (d : Dev) : (loopAct c u v d).deferred = d.deferred := by unfold loopAct; split <;> rfl
@[simp] theorem ledgerPut_obs (org : Origin) (k a p u v : Nat) (d : Dev) : (ledgerPut org k a p u v d).obs = d.obs := by unfold ledgerPut; split <;> rfl
@[simp] theorem loopAct_obs (c u : Nat) (v : Int) (d : Dev) : (loopAct c u v d).obs = d.obs := by unfold loopAct; split <;> rfl
@[simp] theorem ledgerPut_dpd (org : Origin) (k a p u v : Nat) (d : Dev) : (ledgerPut org k a p u v d).dpd = d.dpd := by unfold ledgerPut; split <;> rfl
@[simp] theorem loopAct_dpd (c u : Nat) (v : Int) (d : Dev) : (loopAct c u v d).dpd = d.dpd := by unfold loopAct; split <;> rfl
@[simp] theorem ledgerPut_basis (org : Origin) (k a p u v : Nat) (d : Dev) : (ledgerPut org k a p u v d).basis = d.basis := by unfold ledgerPut; split <;> rfl
@[simp] theorem loopAct_basis (c u : Nat) (v : Int) (d : Dev) : (loopAct c u v d).basis = d.basis := by unfold loopAct; split <;> rfl
@[simp] theorem ledgerPut_mp (org : Origin) (k a p u v : Nat) (d : Dev) : (ledgerPut org k a p u v d).mp = d.mp := by unfold ledgerPut; split <;> rfl
@[simp] theorem loopAct_mp (c u : Nat) (v : Int) (d : Dev) : (loopAct c u v d).mp = d.mp := by unfold loopAct; split <;> rfl
@[simp] theorem ledgerPut_gir (org : Origin) (k a p u v : Nat) (d : Dev) : (ledgerPut org k a p u v d).gir = d.gir := by unfold ledgerPut; split <;> rfl
@[simp] theorem loopAct_gir (c u : Nat) (v : Int) (d : Dev) : (loopAct c u v d).gir = d.gir := by unfold loopAct; split <;> rfl
@[simp] theorem ledgerPut_dma (org : Origin) (k a p u v : Nat) (d : Dev) : (ledgerPut org k a p u v d).dma = d.dma := by unfold ledgerPut; split <;> rfl
@[simp] theorem loopAct_dma (c u : Nat) (v : Int) (d : Dev) : (loopAct c u v d).dma = d.dma := by unfold loopAct; split <;> rfl
@[simp] theorem ledgerPut_link (org : Origin) (k a p u v : Nat) (d : Dev) : (ledgerPut org k a p u v d).link = d.link := by unfold ledgerPut; split <;> rfl
@[simp] theorem loopAct_link (c u : Nat) (v : Int) (d : Dev) : (loopAct c u v d).link = d.link := by unfold loopAct; split <;> rfl
@[simp] theorem ledgerPut_xk (org : Origin) (k a p u v : Nat) (d : Dev) : (ledgerPut org k a p u v d).xk = d.xk := by unfold ledgerPut; split <;> rfl
@[simp] theorem loopAct_xk (c u : Nat) (v : Int) (d : Dev) : (loopAct c u v d).xk = d.xk := by unfold loopAct; split <;> rfl
@[simp] theorem ledgerPut_otp (org : Origin) (k a p u v : Nat) (d : Dev) : (ledgerPut org k a p u v d).otp = d.otp := by unfold ledgerPut; split <;> rfl
@[simp] theorem loopAct_otp (c u : Nat) (v : Int) (d : Dev) : (loopAct c u v d).otp = d.otp := by unfold loopAct; split <;> rfl
@[simp] theorem ledgerPut_key (org : Origin) (k a p u v : Nat) (d : Dev) : (ledgerPut org k a p u v d).key = d.key := by unfold ledgerPut; split <;> rfl
@[simp] theorem loopAct_key (c u : Nat) (v : Int) (d : Dev) : (loopAct c u v d).key = d.key := by unfold loopAct; split <;> rfl
@[simp] theorem ledgerPut_cal (org : Origin) (k a p u v : Nat) (d : Dev) : (ledgerPut org k a p u v d).cal = d.cal := by unfold ledgerPut; split <;> rfl
@[simp] theorem loopAct_cal (c u : Nat) (v : Int) (d : Dev) : (loopAct c u v d).cal = d.cal := by unfold loopAct; split <;> rfl
@[simp] theorem ledgerPut_hk (org : Origin) (k a p u v : Nat) (d : Dev) : (ledgerPut org k a p u v d).hk = d.hk := by unfold ledgerPut; split <;> rfl
@[simp] theorem loopAct_hk (c u : Nat) (v : Int) (d : Dev) : (loopAct c u v d).hk = d.hk := by unfold loopAct; split <;> rfl
@[simp] theorem ledgerPut_ps (org : Origin) (k a p u v : Nat) (d : Dev) : (ledgerPut org k a p u v d).ps = d.ps := by unfold ledgerPut; split <;> rfl
@[simp] theorem loopAct_ps (c u : Nat) (v : Int) (d : Dev) : (loopAct c u v d).ps = d.ps := by unfold loopAct; split <;> rfl
@[simp] theorem ledgerPut_el (org : Origin) (k a p u v : Nat) (d : Dev) : (ledgerPut org k a p u v d).el = d.el := by unfold ledgerPut; split <;> rfl
@[simp] theorem loopAct_el (c u : Nat) (v : Int) (d : Dev) : (loopAct c u v d).el = d.el := by unfold loopAct; split <;> rfl
@[simp] theorem ledgerPut_svc (org : Origin) (k a p u v : Nat) (d : Dev) : (ledgerPut org k a p u v d).svc = d.svc := by unfold ledgerPut; split <;> rfl
@[simp] theorem loopAct_svc (c u : Nat) (v : Int) (d : Dev) : (loopAct c u v d).svc = d.svc := by unfold loopAct; split <;> rfl
@[simp] theorem ledgerPut_tr (org : Origin) (k a p u v : Nat) (d : Dev) : (ledgerPut org k a p u v d).tr = d.tr := by unfold ledgerPut; split <;> rfl
@[simp] theorem ledgerPut_sig (org : Origin) (k a p u v : Nat) (d : Dev) : (ledgerPut org k a p u v d).sig = d.sig := by unfold ledgerPut; split <;> rfl
@[simp] theorem loopAct_tr (c u : Nat) (v : Int) (d : Dev) : (loopAct c u v d).tr = d.tr := by unfold loopAct; split <;> rfl
@[simp] theorem loopAct_sig (c u : Nat) (v : Int) (d : Dev) : (loopAct c u v d).sig = d.sig := by unfold loopAct; split <;> rfl

end Sys2Proof.Machine
end

