-- ==== Sys2Proof/Laws/Mem.lean ====
section
/-!
SUPPORT. Every operation on the four memories keeps their canonical form, and what a read gives after it.
-/
namespace Sys2Proof.Machine

/-! ### The canonical form -/

theorem Mem.wf_iff (m : Mem) :
    m.wf = true ↔ smWf sramDefault m.sram = true ∧ smWf false m.poison = true ∧ smWf 0 m.flips = true ∧ smWf storeDefault m.store = true := by
  simp [Mem.wf, and_assoc]

theorem reset_mem_wf : State.reset.blk.mem.wf = true := by decide

theorem putByte_wf (a v : Nat) (m : Mem) (h : m.wf = true) : (m.putByte a v).wf = true := by
  rw [Mem.wf_iff] at *
  exact ⟨smWf_smPut _ _ _ _ h.1, h.2⟩

theorem putBytes_wf (a : Nat) (l : List Nat) (m : Mem) (h : m.wf = true) : (m.putBytes a l).wf = true := by
  induction l generalizing a m with
  | nil => exact h
  | cons b r ih => exact ih _ _ (putByte_wf _ _ _ h)

theorem wr_wf (a n v : Nat) (m : Mem) (h : m.wf = true) : (m.wr a n v).wf = true := putBytes_wf _ _ _ h

theorem setPoison_wf (a : Nat) (v : Bool) (m : Mem) (h : m.wf = true) : (m.setPoison a v).wf = true := by
  rw [Mem.wf_iff] at *
  exact ⟨h.1, smWf_smPut _ _ _ _ h.2.1, h.2.2⟩

theorem setFlips_wf (a n : Nat) (m : Mem) (h : m.wf = true) : (m.setFlips a n).wf = true := by
  rw [Mem.wf_iff] at *
  exact ⟨h.1, h.2.1, smWf_smPut _ _ _ _ h.2.2.1, h.2.2.2⟩

theorem putWord8_wf (a : Nat) (l : List Nat) (m : Mem) (h : m.wf = true) : (m.putWord8 a l).wf = true :=
  setFlips_wf _ _ _ (setPoison_wf _ _ _ (putBytes_wf _ _ _ h))

theorem program_wf (a : Nat) (l : List Nat) (m : Mem) (h : m.wf = true) : (m.program a l).wf = true := by
  induction l generalizing a m with
  | nil => exact h
  | cons b r ih =>
    refine ih _ _ ?_
    rw [Mem.wf_iff] at *
    exact ⟨h.1, h.2.1, h.2.2.1, smWf_smPut _ _ _ _ h.2.2.2⟩

theorem erase_wf (a n : Nat) (m : Mem) (h : m.wf = true) : (m.erase a n).wf = true := by
  rw [Mem.wf_iff] at *
  exact ⟨h.1, h.2.1, h.2.2.1, smWf_filter _ _ _ h.2.2.2⟩

theorem initBank_wf (k : Nat) (m : Mem) (h : m.wf = true) : (initBank k m).wf = true := by
  rw [Mem.wf_iff] at *
  exact ⟨smWf_filter _ _ _ h.1, smWf_filter _ _ _ h.2.1, smWf_filter _ _ _ h.2.2.1, h.2.2.2⟩

/-- A fold whose every step keeps a property keeps it. -/
theorem foldl_keeps {α β : Type} (p : β → Prop) (f : β → α → β) (l : List α) (h : ∀ b a, a ∈ l → p b → p (f b a)) (b : β) (hb : p b) :
    p (l.foldl f b) := by
  induction l generalizing b with
  | nil => exact hb
  | cons a r ih => exact ih (fun b x hx => h b x (List.mem_cons_of_mem _ hx)) _ (h _ _ (List.mem_cons_self ..) hb)

theorem initBanks_wf (kept : List Nat) (m : Mem) (h : m.wf = true) : (initBanks kept m).wf = true := by
  refine foldl_keeps (fun m => m.wf = true) _ _ (fun m k _ hm => ?_) m h
  split
  · exact hm
  · exact initBank_wf _ _ hm

/-! ### The same for operations on the block -/

theorem onMem_wf {g : Mem → Mem} (hg : ∀ m : Mem, m.wf = true → (g m).wf = true) (b : Blk) (h : b.mem.wf = true) :
    (onMem g b).mem.wf = true := hg _ h

theorem touch_wf (src a : Nat) (b : Blk) (h : b.mem.wf = true) : (touch src a b).mem.wf = true := by
  unfold touch
  split
  · exact h
  · split
    · exact setFlips_wf _ _ _ (setPoison_wf _ _ _ h)
    · split <;> exact h

theorem touchRange_wf (src a n : Nat) (b : Blk) (h : b.mem.wf = true) : (touchRange src a n b).mem.wf = true := by
  induction n generalizing a b with
  | zero => exact h
  | succ n ih => exact ih _ _ (touch_wf _ _ _ h)

theorem upset_wf (a n : Nat) (b : Blk) (h : b.mem.wf = true) : (upset a n b).mem.wf = true := setFlips_wf _ _ _ h

theorem writeWord_wf (a : Nat) (l : List Nat) (b : Blk) (h : b.mem.wf = true) : (writeWord a l b).mem.wf = true :=
  setFlips_wf _ _ _ (putWord8_wf _ _ _ h)

theorem writeWords_wf (a : Nat) (l : List (List Nat)) (b : Blk) (h : b.mem.wf = true) : (writeWords a l b).mem.wf = true := by
  induction l generalizing a b with
  | nil => exact h
  | cons x r ih => exact ih _ _ (writeWord_wf _ _ _ h)

theorem store_wf (a : Nat) (l : List Nat) (b : Blk) (h : b.mem.wf = true) : (store a l b).mem.wf = true := writeWords_wf _ _ _ h

theorem retire_wf (e : MergeEnt) (b : Blk) (h : b.mem.wf = true) : (retire e b).mem.wf = true := by
  unfold retire
  split
  · exact writeWord_wf _ _ _ h
  · dsimp only
    split
    · exact touch_wf _ _ _ h
    · exact writeWord_wf _ _ _ (touch_wf _ _ _ h)

theorem retireAll_wf (b : Blk) (h : b.mem.wf = true) : (retireAll b).mem.wf = true :=
  foldl_keeps (fun b : Blk => b.mem.wf = true) _ _ (fun _ _ _ hb => retire_wf _ _ hb) _ h

theorem narrowWrite_wf (a : Nat) (l : List Nat) (b : Blk) (h : b.mem.wf = true) : (narrowWrite a l b).mem.wf = true := by
  unfold narrowWrite
  dsimp only
  split
  · split
    · exact retire_wf _ _ h
    · exact h
  · show Mem.wf (Blk.mem _) = true
    rw [onDev_mem]
    split
    · split
      · exact retire_wf _ _ h
      · exact h
    · exact h

theorem write32_wf (a v : Nat) (b : Blk) (h : b.mem.wf = true) : (write32 a v b).mem.wf = true := narrowWrite_wf _ _ _ h

theorem bufferRead_wf (reg n : Nat) (b : Blk) (h : b.mem.wf = true) : (bufferRead reg n b).2.mem.wf = true := by
  refine foldl_keeps (fun r : List Nat × Blk => r.2.mem.wf = true) _ _ (fun r a _ hr => ?_) ([], b) h
  dsimp only
  split
  · exact hr
  · split <;> exact touch_wf _ _ _ hr

theorem bufferInject_wf (reg : Nat) (b : Blk) (h : b.mem.wf = true) : (bufferInject reg b).mem.wf = true := by
  unfold bufferInject
  dsimp only
  split
  · exact h
  · split
    · exact h
    · exact setFlips_wf _ _ _ (setPoison_wf _ _ _ h)

theorem bufferWrite_wf (reg : Nat) (b : Blk) (h : b.mem.wf = true) : (bufferWrite reg b).mem.wf = true := by
  refine bufferInject_wf _ _ (foldl_keeps (fun b : Blk => b.mem.wf = true) _ _ (fun c a _ hc => ?_) b h)
  show (if _ then c.mem else _).wf = true
  split
  · exact hc
  · exact setFlips_wf _ _ _ (setPoison_wf _ _ _ hc)

/-- A region without a word in error: the buffers read as they are, and no free value is drawn. -/
theorem bufferRead_clean (reg n : Nat) (b : Blk) (h : b.mem.errWords reg = []) : bufferRead reg n b = ([], b) := by
  simp [bufferRead, h]

/-- With no injection armed a buffer's write meets none. -/
theorem bufferInject_off (reg : Nat) (b : Blk) (h : b.dev.on MEM_INJECT_armed = false) : bufferInject reg b = b := by
  simp [bufferInject, h]

theorem bufferWrite_clean (reg : Nat) (b : Blk) (h : b.mem.errWords reg = []) (ha : b.dev.on MEM_INJECT_armed = false) :
    bufferWrite reg b = b := by
  simp [bufferWrite, h, bufferInject_off reg b ha]

/-! ### Reads after writes -/

@[simp] theorem byte_putByte_same (a v : Nat) (m : Mem) : (m.putByte a v).byte a = v % 256 := by
  simp [Mem.byte, Mem.putByte, smGet_smPut_same]

theorem byte_putByte_other {a x : Nat} (h : x ≠ a) (v : Nat) (m : Mem) : (m.putByte a v).byte x = m.byte x := by
  simp [Mem.byte, Mem.putByte, smGet_smPut_other _ _ h]

theorem byte_putBytes_other (a : Nat) (l : List Nat) (m : Mem) (x : Nat) (h : x < a ∨ a + l.length ≤ x) :
    (m.putBytes a l).byte x = m.byte x := by
  induction l generalizing a m with
  | nil => rfl
  | cons b r ih =>
    simp only [List.length_cons] at h
    rw [Mem.putBytes, ih _ _ (by omega), byte_putByte_other (by omega)]

theorem byte_putBytes_in (a : Nat) (l : List Nat) (m : Mem) (i : Nat) (h : i < l.length) :
    (m.putBytes a l).byte (a + i) = l[i] % 256 := by
  induction l generalizing a m i with
  | nil => exact absurd h (Nat.not_lt_zero _)
  | cons b r ih =>
    cases i with
    | zero =>
      rw [Mem.putBytes, byte_putBytes_other _ _ _ _ (by omega)]
      exact byte_putByte_same ..
    | succ i =>
      rw [Mem.putBytes, show a + (i + 1) = a + 1 + i by omega, ih _ _ _ (by simpa using h)]
      rfl

@[simp] theorem byte_setPoison (a : Nat) (v : Bool) (m : Mem) (x : Nat) : (m.setPoison a v).byte x = m.byte x := rfl
@[simp] theorem byte_setFlips (a n : Nat) (m : Mem) (x : Nat) : (m.setFlips a n).byte x = m.byte x := rfl

theorem byte_putWord8_other (a : Nat) (l : List Nat) (m : Mem) (x : Nat) (h : x / 8 ≠ a / 8) : (m.putWord8 a l).byte x = m.byte x := by
  unfold Mem.putWord8
  rw [byte_setFlips, byte_setPoison, byte_putBytes_other]
  have := List.length_take_le 8 l
  omega

@[simp] theorem byte_touch (src a : Nat) (b : Blk) (x : Nat) : (touch src a b).mem.byte x = b.mem.byte x := by
  unfold touch
  split
  · rfl
  · split
    · rfl
    · split <;> rfl

@[simp] theorem byte_touchRange (src a n : Nat) (b : Blk) (x : Nat) : (touchRange src a n b).mem.byte x = b.mem.byte x := by
  induction n generalizing a b with
  | zero => rfl
  | succ n ih => rw [touchRange, ih, byte_touch]

theorem byte_bufferRead (reg n : Nat) (b : Blk) (x : Nat) : (bufferRead reg n b).2.mem.byte x = b.mem.byte x := by
  refine foldl_keeps (fun r : List Nat × Blk => r.2.mem.byte x = b.mem.byte x) _ _ (fun r a _ hr => ?_) ([], b) rfl
  dsimp only
  split
  · exact hr
  · split <;> simpa using hr

theorem byte_bufferInject (reg : Nat) (b : Blk) (x : Nat) : (bufferInject reg b).mem.byte x = b.mem.byte x := by
  unfold bufferInject
  dsimp only
  split
  · rfl
  · split <;> rfl

theorem byte_bufferWrite (reg : Nat) (b : Blk) (x : Nat) : (bufferWrite reg b).mem.byte x = b.mem.byte x := by
  unfold bufferWrite
  rw [byte_bufferInject]
  refine foldl_keeps (fun c : Blk => c.mem.byte x = b.mem.byte x) _ _ (fun c a _ hc => ?_) b rfl
  show (if _ then c.mem else _).byte x = _
  split
  · exact hc
  · simpa using hc

theorem byte_writeWord_other (a : Nat) (l : List Nat) (b : Blk) (x : Nat) (h : x / 8 ≠ a / 8) : (writeWord a l b).mem.byte x = b.mem.byte x :=
  byte_putWord8_other _ _ _ _ h

theorem sbyte_program_other (a : Nat) (l : List Nat) (m : Mem) (x : Nat) (h : x < a ∨ a + l.length ≤ x) :
    (m.program a l).sbyte x = m.sbyte x := by
  induction l generalizing a m with
  | nil => rfl
  | cons b r ih =>
    simp only [List.length_cons] at h
    rw [Mem.program, ih _ _ (by omega)]
    simp [Mem.sbyte, smGet_smPut_other _ _ (show x ≠ a by omega)]

/-- A map cut to the keys of which p holds. -/
theorem smGet_filter_key {α : Type} (d : α) (p : Nat → Bool) (k : Nat) (m : List (Nat × α)) :
    smGet d k (m.filter fun c => p c.1) = if p k then smGet d k m else d := by
  induction m with
  | nil => simp [smGet]
  | cons c r ih =>
    obtain ⟨a, v⟩ := c
    by_cases hak : a = k
    · subst hak
      by_cases hp : p a = true <;> simp [hp, smGet, ih]
    · by_cases hp : p a = true <;> simp [hp, smGet, ih, hak]

theorem sbyte_erase_other (a n : Nat) (m : Mem) (x : Nat) (h : x < a ∨ a + n ≤ x) : (m.erase a n).sbyte x = m.sbyte x := by
  have := smGet_filter_key storeDefault (fun k => decide (k < a ∨ a + n ≤ k)) x m.store
  rw [if_pos (by simpa using h)] at this
  exact congrArg BitVec.toNat this

theorem sbyte_erase_in (a n : Nat) (m : Mem) (x : Nat) (h : a ≤ x) (k : x < a + n) : (m.erase a n).sbyte x = storeDefault.toNat := by
  have := smGet_filter_key storeDefault (fun k => decide (k < a ∨ a + n ≤ k)) x m.store
  rw [if_neg (by simp; omega)] at this
  exact congrArg BitVec.toNat this

end Sys2Proof.Machine
end

