-- ==== Sys2Proof/Laws/Commands.lean ====
section
/-!
SUPPORT. What a command may do at all: the three conditions of commands, a step, the clock, and the host's write.
-/
namespace Sys2Proof.Machine

/-! ### A step -/

theorem step_nil (s : State) (h : s.pending = []) : step s = .next (idle s) := by unfold step; rw [h]
theorem step_cons (s : State) (c : Instr) (q : List Instr) (h : s.pending = c :: q) : step s = exec c { s with pending := q } := by
  unfold step; rw [h]

/-! ### The conditions of commands -/

@[simp] theorem always_eq (g : Blk → Blk) (s : State) : always g s = .next (s.act g) := rfl

theorem whileUp_up {s : State} (g : Blk → Blk) (h : s.blk.dev.deckUp = true) : whileUp g s = .next (s.act g) := by
  unfold whileUp; rw [if_pos h]

theorem whileUp_down {s : State} (g : Blk → Blk) (h : s.blk.dev.deckUp = false) : whileUp g s = .next s := by
  unfold whileUp; rw [if_neg (by simp [h])]

theorem whileRunning_running {s : State} (g : Blk → Blk) (h : s.blk.dev.deckUp = true) (k : s.blk.dev.running = true) :
    whileRunning g s = .next (s.act g) := by
  unfold whileRunning; rw [if_pos (by simp [h, k])]

theorem whileRunning_down {s : State} (g : Blk → Blk) (h : s.blk.dev.deckUp = false) : whileRunning g s = .next s := by
  unfold whileRunning; rw [if_neg (by simp [h])]

theorem whileRunning_early {s : State} (g : Blk → Blk) (h : s.blk.dev.running = false) : whileRunning g s = .next s := by
  unfold whileRunning; rw [if_neg (by simp [h])]

/-- Whatever its condition, a command's next state is the old one or the effect's. -/
theorem whileUp_cases {g : Blk → Blk} {s t : State} (h : whileUp g s = .next t) : t = s ∨ t = s.act g := by
  unfold whileUp at h
  split at h
  · exact .inr (by simpa using h.symm)
  · exact .inl (by simpa using h.symm)

theorem whileRunning_cases {g : Blk → Blk} {s t : State} (h : whileRunning g s = .next t) : t = s ∨ t = s.act g := by
  unfold whileRunning at h
  split at h
  · exact .inr (by simpa using h.symm)
  · exact .inl (by simpa using h.symm)

theorem always_answers (g : Blk → Blk) (s : State) : ∃ t, always g s = .next t ∧ t.pending = s.pending := ⟨_, rfl, rfl⟩

theorem whileUp_answers (g : Blk → Blk) (s : State) : ∃ t, whileUp g s = .next t ∧ t.pending = s.pending :=
  ⟨_, rfl, by split <;> rfl⟩

theorem whileRunning_answers (g : Blk → Blk) (s : State) : ∃ t, whileRunning g s = .next t ∧ t.pending = s.pending :=
  ⟨_, rfl, by split <;> rfl⟩

/-- An effect that keeps the memories canonical does so under each condition. -/
theorem always_wf {g : Blk → Blk} (hg : ∀ b : Blk, b.mem.wf = true → (g b).mem.wf = true) {s t : State} (hs : s.blk.mem.wf = true)
    (h : always g s = .next t) : t.blk.mem.wf = true := by
  simp only [always_eq, Host.Outcome.next.injEq] at h
  subst h; exact hg _ hs

theorem whileUp_wf {g : Blk → Blk} (hg : ∀ b : Blk, b.mem.wf = true → (g b).mem.wf = true) {s t : State} (hs : s.blk.mem.wf = true)
    (h : whileUp g s = .next t) : t.blk.mem.wf = true := by
  obtain rfl | rfl := whileUp_cases h
  · exact hs
  · exact hg _ hs

theorem whileRunning_wf {g : Blk → Blk} (hg : ∀ b : Blk, b.mem.wf = true → (g b).mem.wf = true) {s t : State} (hs : s.blk.mem.wf = true)
    (h : whileRunning g s = .next t) : t.blk.mem.wf = true := by
  obtain rfl | rfl := whileRunning_cases h
  · exact hs
  · exact hg _ hs

/-- A command of the device alone keeps every memory. -/
theorem onDev_wf (g : Dev → Dev) (b : Blk) (h : b.mem.wf = true) : (onDev g b).mem.wf = true := h

/-! ### The clock -/

@[simp] theorem passTicks_f (n : Nat) (d : Dev) (x : Fld) : (passTicks n d).f x = d.f x := by unfold Dev.f; rw [passTicks_regs]

/-- Time touches the clock and the timeline alone. -/
theorem passTicks_only (n : Nat) (d : Dev) : ∃ t, passTicks n d = { d with now := d.now + n, t := t } := by
  unfold passTicks
  split
  · exact ⟨d.t, rfl⟩
  · exact ⟨_, rfl⟩

@[simp] theorem passTo_f (t : Nat) (d : Dev) (x : Fld) : (passTo t d).f x = d.f x := by unfold Dev.f; rw [passTo_regs]

theorem passTo_only (t : Nat) (d : Dev) : ∃ u, passTo t d = { d with now := max d.now t, t := u } := by
  unfold passTo
  split
  · obtain ⟨u, h⟩ := passTicks_only (t - d.now) d
    exact ⟨u, by rw [h]; congr 1; omega⟩
  · exact ⟨d.t, by rw [show max d.now t = d.now by omega]⟩

theorem passTo_past {t : Nat} {d : Dev} (h : t ≤ d.now) : passTo t d = d := by unfold passTo; rw [if_neg (by omega)]

/-! ### The host's write of a word -/

/-- The device with the record of the last access cleared. -/
def fresh (d : Dev) : Dev := { d with host := { d.host with resp := .none } }

@[simp] theorem fresh_regs (d : Dev) : (fresh d).regs = d.regs := rfl
@[simp] theorem fresh_f (d : Dev) (x : Fld) : (fresh d).f x = d.f x := rfl
@[simp] theorem fresh_hostWaits (d : Dev) : (fresh d).hostWaits = d.hostWaits := rfl
@[simp] theorem fresh_running (d : Dev) : (fresh d).running = d.running := rfl

/-- An aligned host write while firmware runs reaches the register bus, the staging window apart, when no write of the host waits for the
ledger. -/
theorem hostWrite_running (off v : Nat) (b : Blk) (hu : b.dev.deckUp = true) (hr : b.dev.running = true) (ho : off < 0x4000000)
    (hw : writeAllowed off 4 = true) (hs : offIn off 0x410000 0x41FFF8 = false)
    (hq : b.dev.hostWaits = false) :
    hostWrite off v b = busWord .host off (v % 2 ^ 32) (onDev fresh b) := by
  have ha : (fresh b.dev).answers off = true := by
    unfold Dev.answers
    have : (fresh b.dev).running = true := hr
    rw [this]; rfl
  have h2 : inBar2 off = false := by simp [inBar2, offIn]; omega
  unfold hostWrite busWrite
  rw [if_neg (by simp [h2]), if_neg (by simp [hu]; omega), if_neg (by simp [hw])]
  show busTake .host (off + 4 * 0) _ (onDev fresh b) = _
  unfold busTake
  rw [show off + 4 * 0 = off by omega, if_neg (by simp [ha, hs]), if_neg (by simp [hq])]
  simp

/-- The same write while a write of the host waits for the ledger: it waits behind it (R419). -/
theorem hostWrite_waits (off v : Nat) (b : Blk) (hu : b.dev.deckUp = true) (hr : b.dev.running = true) (ho : off < 0x4000000)
    (hw : writeAllowed off 4 = true) (hs : offIn off 0x410000 0x41FFF8 = false) (hq : b.dev.hostWaits = true) :
    hostWrite off v b = onDev (holdWrite .host off (v % 2 ^ 32)) (onDev fresh b) := by
  have ha : (fresh b.dev).answers off = true := by simp [Dev.answers, hr]
  have h2 : inBar2 off = false := by simp [inBar2, offIn]; omega
  unfold hostWrite busWrite
  rw [if_neg (by simp [h2]), if_neg (by simp [hu]; omega), if_neg (by simp [hw])]
  show busTake .host (off + 4 * 0) _ (onDev fresh b) = _
  unfold busTake
  rw [show off + 4 * 0 = off by omega, if_neg (by simp [ha, hs]), if_pos (by simp [hq])]
  simp

/-- A misaligned one is recorded and changes nothing else (R6, R440). -/
theorem hostWrite_barred (off v : Nat) (b : Blk) (hu : b.dev.deckUp = true) (ho : off < 0x4000000) (hw : writeAllowed off 4 = false) :
    hostWrite off v b = onDev (hostErr true off) b := by
  have h2 : inBar2 off = false := by simp [inBar2, offIn]; omega
  unfold hostWrite busWrite
  rw [if_neg (by simp [h2]), if_neg (by simp [hu]; omega), if_pos (by simp [hw])]
  rfl

end Sys2Proof.Machine
end

