-- ==== Sys2Proof/Laws/Events.lean ====
section
/-!
SUPPORT. What raising an event can change: the event registers, the event queue, the MSI-X messages, and for a Halt the anchorage
words and their count.
-/
namespace Sys2Proof.Machine

/-- A device differs from another in the registers, the event queue and the host's side only. -/
def EvOnly (d e : Dev) : Prop := ∃ r v h, e = { d with regs := r, ev := v, host := h }

theorem EvOnly.refl (d : Dev) : EvOnly d d := ⟨_, _, _, rfl⟩
theorem EvOnly.trans {d e g : Dev} (h : EvOnly d e) (k : EvOnly e g) : EvOnly d g := by
  obtain ⟨_, _, _, rfl⟩ := h; obtain ⟨_, _, _, rfl⟩ := k; exact ⟨_, _, _, rfl⟩
theorem EvOnly.set {d e : Dev} (h : EvOnly d e) (x : Fld) (v : Nat) : EvOnly d (setF x v e) := by
  obtain ⟨_, _, _, rfl⟩ := h; exact ⟨_, _, _, rfl⟩
theorem EvOnly.ev {d e : Dev} (h : EvOnly d e) (v : EvSt) : EvOnly d { e with ev := v } := by
  obtain ⟨_, _, _, rfl⟩ := h; exact ⟨_, _, _, rfl⟩

/-- A step that keeps the register fields which no event touches. -/
def Quiet (d e : Dev) : Prop := EvOnly d e ∧ ∀ x, evFree x → e.f x = d.f x

theorem Quiet.refl (d : Dev) : Quiet d d := ⟨.refl d, fun _ _ => rfl⟩
theorem Quiet.trans {d e g : Dev} (h : Quiet d e) (k : Quiet e g) : Quiet d g :=
  ⟨h.1.trans k.1, fun x hx => (k.2 x hx).trans (h.2 x hx)⟩
theorem Quiet.set {d e : Dev} (h : Quiet d e) (y : Fld) (hy : ∀ x, evFree x → x.key ≠ y.key) (v : Nat) : Quiet d (setF y v e) :=
  ⟨h.1.set y v, fun x hx => (f_setF_other (hy x hx) v e).trans (h.2 x hx)⟩
theorem Quiet.ev {d e : Dev} (h : Quiet d e) (v : EvSt) : Quiet d { e with ev := v } :=
  ⟨h.1.ev v, fun x hx => h.2 x hx⟩
theorem Quiet.ite {d e g : Dev} (c : Prop) [Decidable c] (h : Quiet d e) (k : Quiet d g) : Quiet d (if c then e else g) := by
  split
  · exact h
  · exact k

theorem evFree_ne {x y : Fld} (hx : evFree x) (hy : y.lo < 32)
    (h : (0x110 ≤ y.off ∧ y.off < 0x680) ∨ (0x801200 ≤ y.off ∧ y.off < 0x801220) ∨ y.off = 0x801288) : x.key ≠ y.key := by
  unfold evFree at hx; unfold Fld.key; omega

theorem quiet_sendEvent (e : Nat) (d : Dev) : Quiet d (sendEvent e d) := ⟨⟨_, _, _, rfl⟩, fun _ _ => rfl⟩

theorem quiet_countAndSignal (e : Nat) (he : e < 160) (d : Dev) : Quiet d (countAndSignal e d) := by
  have h1 : Quiet d (incF (DECK_EVT_CFG_count e) d) :=
    (Quiet.refl d).set _ (fun x hx => evFree_ne hx (by simp [DECK_EVT_CFG_count]) (by simp [DECK_EVT_CFG_count]; omega)) _
  have h2 : Quiet d (setBitF (DECK_EVT_PEND_pend (e / 32)) (e % 32) (incF (DECK_EVT_CFG_count e) d)) :=
    h1.set _ (fun x hx => evFree_ne hx (by simp [DECK_EVT_PEND_pend]) (by simp [DECK_EVT_PEND_pend]; omega)) _
  exact Quiet.ite _ h2 (h2.trans (quiet_sendEvent _ _))

theorem quiet_dropEvent (d : Dev) : Quiet d (dropEvent d) := by
  have hne : ∀ x, evFree x → x.key ≠ DECK_EVQ_WR_lost.key := fun x hx => evFree_ne hx (by decide) (by decide)
  have h1 : Quiet d (incF DECK_EVQ_WR_lost d) := (Quiet.refl d).set _ hne _
  exact Quiet.ite _ h1 (((h1.ev _).set _ hne _).trans (quiet_countAndSignal 153 (by decide) _))

theorem quiet_queueEvent (e u c n : Nat) (d : Dev) : Quiet d (queueEvent e u c n d) :=
  ((Quiet.refl d).ev _).set _ (fun x hx => evFree_ne hx (by decide) (by decide)) _

theorem quiet_raiseEvent (e : Nat) (he : e < 160) (u c n : Nat) (d : Dev) : Quiet d (raiseEvent e u c n d) := by
  have h1 : Quiet d (if d.evUnread ≥ 255 then dropEvent d else queueEvent e u c n d) :=
    Quiet.ite _ (quiet_dropEvent d) (quiet_queueEvent e u c n d)
  exact Quiet.trans (Quiet.ite _ (h1.ev _) h1) (quiet_countAndSignal e he _)

theorem quiet_anchToOtp (k : Nat) (hk : k < 8) (d : Dev) : Quiet d (anchToOtp k d) := by
  unfold anchToOtp setB
  refine (((Quiet.refl d).set _ ?_ _).set _ ?_ _).set _ ?_ _ <;>
    exact fun x hx => evFree_ne hx (by simp [HK_ANCH_override, HK_ANCH_gain, HK_ANCH_code])
      (by simp [HK_ANCH_override, HK_ANCH_gain, HK_ANCH_code]; omega)

theorem quiet_forAll {α : Type} (l : List α) (g : α → Dev → Dev) (h : ∀ a ∈ l, ∀ d, Quiet d (g a d)) (d : Dev) :
    Quiet d (forAll l g d) := by
  induction l generalizing d with
  | nil => exact .refl d
  | cons a r ih => exact (h a (by simp) d).trans (ih (fun b hb => h b (by simp [hb])) _)

theorem quiet_anchRevert (d : Dev) : Quiet d (anchRevert d) :=
  quiet_forAll _ _ (fun k hk d => Quiet.ite _
    (((quiet_anchToOtp k (by simpa using hk) d).set _ (fun x hx => evFree_ne hx (by decide) (by decide)) _).trans
      (quiet_raiseEvent 58 (by decide) _ _ _ _)) (.refl d)) d

/-- Raising an event keeps every register field that is none of the events' and everything but the event queue and the host's
side. -/
theorem quiet_raise (e : Nat) (he : e < 160) (u c n : Nat) (d : Dev) : Quiet d (raise e u c n d) :=
  Quiet.ite _ ((quiet_raiseEvent e he u c n d).trans (quiet_anchRevert _)) (quiet_raiseEvent e he u c n d)

theorem quiet_raiseLimited (len key e : Nat) (he : e < 160) (u c n : Nat) (d : Dev) : Quiet d (raiseLimited len key e u c n d) :=
  Quiet.ite _ ((Quiet.refl d).set _ (fun x hx => evFree_ne hx (by simp [DECK_EVT_CFG_count]) (by simp [DECK_EVT_CFG_count]; omega)) _)
    (((Quiet.refl d).ev _).trans (quiet_raise e he u c n _))

theorem quiet_raiseSlot (key e : Nat) (he : e < 160) (u c n : Nat) (d : Dev) : Quiet d (raiseSlot key e u c n d) :=
  Quiet.ite _ ((Quiet.refl d).set _ (fun x hx => evFree_ne hx (by simp [DECK_EVT_CFG_count]) (by simp [DECK_EVT_CFG_count]; omega)) _)
    (((Quiet.refl d).ev _).trans (quiet_raise e he u c n _))

theorem f_raise {x : Fld} (hx : evFree x) {e : Nat} (he : e < 160) (u c n : Nat) (d : Dev) : (raise e u c n d).f x = d.f x :=
  (quiet_raise e he u c n d).2 x hx
theorem f_raise0 {x : Fld} (hx : evFree x) {e : Nat} (he : e < 160) (d : Dev) : (raise0 e d).f x = d.f x := f_raise hx he ..
theorem f_raiseSec {x : Fld} (hx : evFree x) (k : Nat) {e : Nat} (he : e < 160) (u c n : Nat) (d : Dev) :
    (raiseSec k e u c n d).f x = d.f x := (quiet_raiseLimited _ k e he u c n d).2 x hx
theorem f_raiseSlot {x : Fld} (hx : evFree x) (k : Nat) {e : Nat} (he : e < 160) (u c n : Nat) (d : Dev) :
    (raiseSlot k e u c n d).f x = d.f x := (quiet_raiseSlot k e he u c n d).2 x hx

/-! ### The other fields of the device -/

theorem raise_now {e : Nat} (he : e < 160) (u c n : Nat) (d : Dev) : (raise e u c n d).now = d.now := by
  obtain ⟨_, _, _, h⟩ := (quiet_raise e he u c n d).1; rw [h]
theorem raise0_now {e : Nat} (he : e < 160) (d : Dev) : (raise0 e d).now = d.now := raise_now he ..
theorem raise_draws {e : Nat} (he : e < 160) (u c n : Nat) (d : Dev) : (raise e u c n d).draws = d.draws := by
  obtain ⟨_, _, _, h⟩ := (quiet_raise e he u c n d).1; rw [h]
theorem raise0_draws {e : Nat} (he : e < 160) (d : Dev) : (raise0 e d).draws = d.draws := raise_draws he ..
theorem raise_t {e : Nat} (he : e < 160) (u c n : Nat) (d : Dev) : (raise e u c n d).t = d.t := by
  obtain ⟨_, _, _, h⟩ := (quiet_raise e he u c n d).1; rw [h]
theorem raise0_t {e : Nat} (he : e < 160) (d : Dev) : (raise0 e d).t = d.t := raise_t he ..
theorem raise_tt {e : Nat} (he : e < 160) (u c n : Nat) (d : Dev) : (raise e u c n d).tt = d.tt := by
  obtain ⟨_, _, _, h⟩ := (quiet_raise e he u c n d).1; rw [h]
theorem raise0_tt {e : Nat} (he : e < 160) (d : Dev) : (raise0 e d).tt = d.tt := raise_tt he ..
theorem raise_ldg {e : Nat} (he : e < 160) (u c n : Nat) (d : Dev) : (raise e u c n d).ldg = d.ldg := by
  obtain ⟨_, _, _, h⟩ := (quiet_raise e he u c n d).1; rw [h]
theorem raise0_ldg {e : Nat} (he : e < 160) (d : Dev) : (raise0 e d).ldg = d.ldg := raise_ldg he ..
theorem raise_seals {e : Nat} (he : e < 160) (u c n : Nat) (d : Dev) : (raise e u c n d).seals = d.seals := by
  obtain ⟨_, _, _, h⟩ := (quiet_raise e he u c n d).1; rw [h]
theorem raise0_seals {e : Nat} (he : e < 160) (d : Dev) : (raise0 e d).seals = d.seals := raise_seals he ..
theorem raise_span {e : Nat} (he : e < 160) (u c n : Nat) (d : Dev) : (raise e u c n d).span = d.span := by
  obtain ⟨_, _, _, h⟩ := (quiet_raise e he u c n d).1; rw [h]
theorem raise0_span {e : Nat} (he : e < 160) (d : Dev) : (raise0 e d).span = d.span := raise_span he ..
theorem raise_bays {e : Nat} (he : e < 160) (u c n : Nat) (d : Dev) : (raise e u c n d).bays = d.bays := by
  obtain ⟨_, _, _, h⟩ := (quiet_raise e he u c n d).1; rw [h]
theorem raise0_bays {e : Nat} (he : e < 160) (d : Dev) : (raise0 e d).bays = d.bays := raise_bays he ..
theorem raise_chains {e : Nat} (he : e < 160) (u c n : Nat) (d : Dev) : (raise e u c n d).chains = d.chains := by
  obtain ⟨_, _, _, h⟩ := (quiet_raise e he u c n d).1; rw [h]
theorem raise0_chains {e : Nat} (he : e < 160) (d : Dev) : (raise0 e d).chains = d.chains := raise_chains he ..
theorem raise_gainStored {e : Nat} (he : e < 160) (u c n : Nat) (d : Dev) : (raise e u c n d).gainStored = d.gainStored := by
  obtain ⟨_, _, _, h⟩ := (quiet_raise e he u c n d).1; rw [h]
theorem raise0_gainStored {e : Nat} (he : e < 160) (d : Dev) : (raise0 e d).gainStored = d.gainStored := raise_gainStored he ..
theorem raise_inForce {e : Nat} (he : e < 160) (u c n : Nat) (d : Dev) : (raise e u c n d).inForce = d.inForce := by
  obtain ⟨_, _, _, h⟩ := (quiet_raise e he u c n d).1; rw [h]
theorem raise0_inForce {e : Nat} (he : e < 160) (d : Dev) : (raise0 e d).inForce = d.inForce := raise_inForce he ..
theorem raise_deferred {e : Nat} (he : e < 160) (u c n : Nat) (d : Dev) : (raise e u c n d).deferred = d.deferred := by
  obtain ⟨_, _, _, h⟩ := (quiet_raise e he u c n d).1; rw [h]
theorem raise0_deferred {e : Nat} (he : e < 160) (d : Dev) : (raise0 e d).deferred = d.deferred := raise_deferred he ..
theorem raise_obs {e : Nat} (he : e < 160) (u c n : Nat) (d : Dev) : (raise e u c n d).obs = d.obs := by
  obtain ⟨_, _, _, h⟩ := (quiet_raise e he u c n d).1; rw [h]
theorem raise0_obs {e : Nat} (he : e < 160) (d : Dev) : (raise0 e d).obs = d.obs := raise_obs he ..
theorem raise_dpd {e : Nat} (he : e < 160) (u c n : Nat) (d : Dev) : (raise e u c n d).dpd = d.dpd := by
  obtain ⟨_, _, _, h⟩ := (quiet_raise e he u c n d).1; rw [h]
theorem raise0_dpd {e : Nat} (he : e < 160) (d : Dev) : (raise0 e d).dpd = d.dpd := raise_dpd he ..
theorem raise_basis {e : Nat} (he : e < 160) (u c n : Nat) (d : Dev) : (raise e u c n d).basis = d.basis := by
  obtain ⟨_, _, _, h⟩ := (quiet_raise e he u c n d).1; rw [h]
theorem raise0_basis {e : Nat} (he : e < 160) (d : Dev) : (raise0 e d).basis = d.basis := raise_basis he ..
theorem raise_mp {e : Nat} (he : e < 160) (u c n : Nat) (d : Dev) : (raise e u c n d).mp = d.mp := by
  obtain ⟨_, _, _, h⟩ := (quiet_raise e he u c n d).1; rw [h]
theorem raise0_mp {e : Nat} (he : e < 160) (d : Dev) : (raise0 e d).mp = d.mp := raise_mp he ..
theorem raise_gir {e : Nat} (he : e < 160) (u c n : Nat) (d : Dev) : (raise e u c n d).gir = d.gir := by
  obtain ⟨_, _, _, h⟩ := (quiet_raise e he u c n d).1; rw [h]
theorem raise0_gir {e : Nat} (he : e < 160) (d : Dev) : (raise0 e d).gir = d.gir := raise_gir he ..
theorem raise_dma {e : Nat} (he : e < 160) (u c n : Nat) (d : Dev) : (raise e u c n d).dma = d.dma := by
  obtain ⟨_, _, _, h⟩ := (quiet_raise e he u c n d).1; rw [h]
theorem raise0_dma {e : Nat} (he : e < 160) (d : Dev) : (raise0 e d).dma = d.dma := raise_dma he ..
theorem raise_link {e : Nat} (he : e < 160) (u c n : Nat) (d : Dev) : (raise e u c n d).link = d.link := by
  obtain ⟨_, _, _, h⟩ := (quiet_raise e he u c n d).1; rw [h]
theorem raise0_link {e : Nat} (he : e < 160) (d : Dev) : (raise0 e d).link = d.link := raise_link he ..
theorem raise_xk {e : Nat} (he : e < 160) (u c n : Nat) (d : Dev) : (raise e u c n d).xk = d.xk := by
  obtain ⟨_, _, _, h⟩ := (quiet_raise e he u c n d).1; rw [h]
theorem raise0_xk {e : Nat} (he : e < 160) (d : Dev) : (raise0 e d).xk = d.xk := raise_xk he ..
theorem raise_otp {e : Nat} (he : e < 160) (u c n : Nat) (d : Dev) : (raise e u c n d).otp = d.otp := by
  obtain ⟨_, _, _, h⟩ := (quiet_raise e he u c n d).1; rw [h]
theorem raise0_otp {e : Nat} (he : e < 160) (d : Dev) : (raise0 e d).otp = d.otp := raise_otp he ..
theorem raise_key {e : Nat} (he : e < 160) (u c n : Nat) (d : Dev) : (raise e u c n d).key = d.key := by
  obtain ⟨_, _, _, h⟩ := (quiet_raise e he u c n d).1; rw [h]
theorem raise0_key {e : Nat} (he : e < 160) (d : Dev) : (raise0 e d).key = d.key := raise_key he ..
theorem raise_cal {e : Nat} (he : e < 160) (u c n : Nat) (d : Dev) : (raise e u c n d).cal = d.cal := by
  obtain ⟨_, _, _, h⟩ := (quiet_raise e he u c n d).1; rw [h]
theorem raise0_cal {e : Nat} (he : e < 160) (d : Dev) : (raise0 e d).cal = d.cal := raise_cal he ..
theorem raise_hk {e : Nat} (he : e < 160) (u c n : Nat) (d : Dev) : (raise e u c n d).hk = d.hk := by
  obtain ⟨_, _, _, h⟩ := (quiet_raise e he u c n d).1; rw [h]
theorem raise0_hk {e : Nat} (he : e < 160) (d : Dev) : (raise0 e d).hk = d.hk := raise_hk he ..
theorem raise_ps {e : Nat} (he : e < 160) (u c n : Nat) (d : Dev) : (raise e u c n d).ps = d.ps := by
  obtain ⟨_, _, _, h⟩ := (quiet_raise e he u c n d).1; rw [h]
theorem raise0_ps {e : Nat} (he : e < 160) (d : Dev) : (raise0 e d).ps = d.ps := raise_ps he ..
theorem raise_el {e : Nat} (he : e < 160) (u c n : Nat) (d : Dev) : (raise e u c n d).el = d.el := by
  obtain ⟨_, _, _, h⟩ := (quiet_raise e he u c n d).1; rw [h]
theorem raise0_el {e : Nat} (he : e < 160) (d : Dev) : (raise0 e d).el = d.el := raise_el he ..
theorem raise_svc {e : Nat} (he : e < 160) (u c n : Nat) (d : Dev) : (raise e u c n d).svc = d.svc := by
  obtain ⟨_, _, _, h⟩ := (quiet_raise e he u c n d).1; rw [h]
theorem raise0_svc {e : Nat} (he : e < 160) (d : Dev) : (raise0 e d).svc = d.svc := raise_svc he ..
theorem raise_tr {e : Nat} (he : e < 160) (u c n : Nat) (d : Dev) : (raise e u c n d).tr = d.tr := by
  obtain ⟨_, _, _, h⟩ := (quiet_raise e he u c n d).1; rw [h]
theorem raise_sig {e : Nat} (he : e < 160) (u c n : Nat) (d : Dev) : (raise e u c n d).sig = d.sig := by
  obtain ⟨_, _, _, h⟩ := (quiet_raise e he u c n d).1; rw [h]
theorem raise0_tr {e : Nat} (he : e < 160) (d : Dev) : (raise0 e d).tr = d.tr := raise_tr he ..
theorem raise0_sig {e : Nat} (he : e < 160) (d : Dev) : (raise0 e d).sig = d.sig := raise_sig he ..

/-! ### The pending bits -/

/-- Pending events stay pending. -/
def EvMono (d e : Dev) : Prop := ∀ a, a < 160 → d.evPending a = true → e.evPending a = true

theorem EvMono.refl (d : Dev) : EvMono d d := fun _ _ h => h
theorem EvMono.trans {d e g : Dev} (h : EvMono d e) (k : EvMono e g) : EvMono d g := fun a l x => k a l (h a l x)
theorem EvMono.regs {d e g : Dev} (h : EvMono d e) (hg : g.regs = e.regs) : EvMono d g := fun a l x => by
  have := h a l x; unfold Dev.evPending Dev.fb at *; rwa [f_congr hg]
theorem EvMono.set {d e : Dev} (h : EvMono d e) (y : Fld) (hy : ∀ w, w < 5 → (DECK_EVT_PEND_pend w).key ≠ y.key) (v : Nat) :
    EvMono d (setF y v e) := fun a l x => by
  have := h a l x; unfold Dev.evPending Dev.fb at *; rwa [f_setF_other (hy _ (by omega))]
theorem EvMono.ite {d e g : Dev} (c : Prop) [Decidable c] (h : EvMono d e) (k : EvMono d g) : EvMono d (if c then e else g) := by
  split
  · exact h
  · exact k

theorem pend_key_ne {w w' : Nat} (h : w ≠ w') : (DECK_EVT_PEND_pend w).key ≠ (DECK_EVT_PEND_pend w').key := by
  simp [DECK_EVT_PEND_pend, Fld.key]; omega

theorem testBit_setBit {v i j : Nat} (hj : j < 32) : ((v ||| 1 <<< i) % 2 ^ 32).testBit j = (v.testBit j || decide (i = j)) := by
  simp only [Nat.testBit_mod_two_pow, hj, decide_true, Bool.true_and, Nat.testBit_or, Nat.shiftLeft_eq, Nat.one_mul,
    Nat.testBit_two_pow]

theorem evPending_setBit (e a : Nat) (d : Dev) :
    (setBitF (DECK_EVT_PEND_pend (e / 32)) (e % 32) d).evPending a = (d.evPending a || decide (e = a)) := by
  unfold Dev.evPending Dev.fb setBitF
  by_cases h : a / 32 = e / 32
  · rw [h, f_setF_same]
    have hsz : (DECK_EVT_PEND_pend (e / 32)).size = 2 ^ 32 := rfl
    rw [hsz, testBit_setBit (Nat.mod_lt _ (by decide))]
    congr 1
    simp only [decide_eq_decide]; omega
  · rw [f_setF_other (pend_key_ne h)]
    have : e ≠ a := fun x => h (by rw [x])
    simp [this]

theorem mono_sendEvent (e : Nat) (d : Dev) : EvMono d (sendEvent e d) := fun _ _ h => h

theorem mono_cfg {d e : Dev} (h : EvMono d e) (n : Nat) (v : Nat) : EvMono d (setF (DECK_EVT_CFG_count n) v e) := by
  refine h.set _ (fun w _ => ?_) v
  simp [DECK_EVT_PEND_pend, DECK_EVT_CFG_count, Fld.key]; omega

theorem evPending_countAndSignal (e : Nat) (he : e < 160) (d : Dev) : (countAndSignal e d).evPending e = true ∧ EvMono d (countAndSignal e d) := by
  have h1 : EvMono d (incF (DECK_EVT_CFG_count e) d) := mono_cfg (.refl d) e _
  have h2 : EvMono (incF (DECK_EVT_CFG_count e) d) (setBitF (DECK_EVT_PEND_pend (e / 32)) (e % 32) (incF (DECK_EVT_CFG_count e) d)) :=
    fun a _ h => by rw [evPending_setBit, h]; rfl
  have h3 : (setBitF (DECK_EVT_PEND_pend (e / 32)) (e % 32) (incF (DECK_EVT_CFG_count e) d)).evPending e = true := by
    rw [evPending_setBit]; simp
  unfold countAndSignal
  dsimp only
  split
  · exact ⟨h3, h1.trans h2⟩
  · exact ⟨mono_sendEvent _ _ e he h3, (h1.trans h2).trans (mono_sendEvent _ _)⟩

theorem mono_dropEvent (d : Dev) : EvMono d (dropEvent d) := by
  have hne : ∀ w, w < 5 → (DECK_EVT_PEND_pend w).key ≠ DECK_EVQ_WR_lost.key := fun w _ => by
    simp [DECK_EVT_PEND_pend, DECK_EVQ_WR_lost, Fld.key]; omega
  have h1 : EvMono d (incF DECK_EVQ_WR_lost d) := (EvMono.refl d).set _ hne _
  exact EvMono.ite _ h1 (((h1.regs (g := { incF DECK_EVQ_WR_lost d with ev := { (incF DECK_EVQ_WR_lost d).ev with dropping := true } }) rfl).set
    _ hne _).trans (evPending_countAndSignal 153 (by decide) _).2)

theorem mono_queueEvent (e u c n : Nat) (d : Dev) : EvMono d (queueEvent e u c n d) :=
  EvMono.set (e := { d with ev := _ }) (fun _ _ h => h) _ (fun w _ => by simp [DECK_EVT_PEND_pend, DECK_EVQ_WR_wr, Fld.key]; omega) _

theorem evPending_raiseEvent (e : Nat) (he : e < 160) (u c n : Nat) (d : Dev) :
    (raiseEvent e u c n d).evPending e = true ∧ EvMono d (raiseEvent e u c n d) := by
  have h1 : EvMono d (if d.evUnread ≥ 255 then dropEvent d else queueEvent e u c n d) :=
    EvMono.ite _ (mono_dropEvent d) (mono_queueEvent e u c n d)
  unfold raiseEvent
  dsimp only
  refine ⟨(evPending_countAndSignal e he _).1, EvMono.trans ?_ (evPending_countAndSignal e he _).2⟩
  split <;> exact fun a l x => h1 a l x

theorem mono_anchToOtp (k : Nat) (hk : k < 8) (d : Dev) : EvMono d (anchToOtp k d) := by
  unfold anchToOtp setB
  refine (((EvMono.refl d).set _ ?_ _).set _ ?_ _).set _ ?_ _ <;> intro w hw <;>
    simp [DECK_EVT_PEND_pend, HK_ANCH_override, HK_ANCH_gain, HK_ANCH_code, Fld.key] <;> omega

theorem mono_forAll {α : Type} (l : List α) (g : α → Dev → Dev) (h : ∀ a ∈ l, ∀ d, EvMono d (g a d)) (d : Dev) :
    EvMono d (forAll l g d) := by
  induction l generalizing d with
  | nil => exact .refl d
  | cons a r ih => exact (h a (by simp) d).trans (ih (fun b hb => h b (by simp [hb])) _)

theorem mono_anchRevert (d : Dev) : EvMono d (anchRevert d) :=
  mono_forAll _ _ (fun k hk d => EvMono.ite _
    (((mono_anchToOtp k (by simpa using hk) d).set _ (fun w _ => by simp [DECK_EVT_PEND_pend, HK_STAY_STAT_anch_reverts, Fld.key]; omega) _).trans
      (evPending_raiseEvent 58 (by decide) _ _ _ _).2) (.refl d)) d

/-- A raised event is pending, and no event stops being pending by it. -/
theorem evPending_raise (e : Nat) (he : e < 160) (u c n : Nat) (d : Dev) : (raise e u c n d).evPending e = true ∧ EvMono d (raise e u c n d) := by
  unfold raise
  dsimp only
  have h := evPending_raiseEvent e he u c n d
  split
  · exact ⟨mono_anchRevert _ e he h.1, h.2.trans (mono_anchRevert _)⟩
  · exact h


end Sys2Proof.Machine
end

