-- ==== Sys2Proof/Tests/Slice0.lean ====
section
/-!
SUPPORT. The machines of the tests, the refusals of ill-formed commands, steps with the results that the spec gives, and a witness for
the hypotheses of every statement.
-/
open Sys2Proof Sys2Proof.Machine
namespace Sys2Proof.Tests

set_option Elab.async false

/-- The device with firmware running in Ready, no map committed. -/
def devRun : Dev := {} |> setF KEY_STATUS_stage 5 |> setF PWR_STAT_state 1 |> setF PWR_STAT_in_entry 0
/-- Firmware runs; the register fields listed are set. -/
def W (l : List (Fld × Nat)) : State := { blk := { dev := l.foldl (fun d x => setF x.1 x.2 d) devRun } }
/-- The same, with the device changed. -/
def WD (l : List (Fld × Nat)) (g : Dev → Dev) : State := (W l).actDev g
/-- A span-map record with an empty header. -/
def mrec (ty unit : Nat) (body : List Nat) : SpanRec := ⟨ty, false, unit, 0, List.replicate 8 0 ++ body⟩
/-- A map of one carrier on bays 0 and 1. -/
def map1 : SpanImg :=
  { level := 0x100, mapId := 7, recs := [mrec 1 0 [255, 255, 255, 255], mrec 2 0 [2, 0, 0, 0, 0xE0, 0x67, 0x35, 0], mrec 2 1 [1, 0, 0, 0, 0xE0, 0x67, 0x35, 0],
    mrec 5 0 [20, 1, 51, 0, 12, 3], mrec 6 0 [4, 0, 0, 0, 0, 0, 0, 0, 2, 0, 0, 0, 0, 0, 0, 0], mrec 7 0 [0, 0, 0, 4, 1, 0], mrec 7 1 [1, 0, 0, 2, 1, 0]] }
/-- The same machine with the map committed. -/
def M (l : List (Fld × Nat)) (g : Dev → Dev) : State := WD l fun d => g { d with span := { d.span with committed := some map1 } }
/-- An armed timetable entry. -/
def ent (code idx kind arg due : Nat) : TtEntry :=
  { w0 := 0x07000000, w1 := code * 0x200000 + idx * 0x2000 + kind * 0x400, w2 := arg, status := 1, armed := true, req := due, due := due, origin := .firmware }
/-- A span-map image with an ADAPT record alone. -/
def image1 : List Nat :=
  [83, 80, 77, 80, 2, 0, 64, 0, 128, 0, 0, 0, 177, 0, 0, 0, 0, 1, 1, 0, 0, 0, 0, 0, 7, 0, 0, 0, 0, 0, 0, 0] ++
  [114, 134, 120, 140, 76, 80, 29, 146, 182, 71, 116, 111, 119, 132, 227, 126, 165, 187, 152, 219, 56, 151, 5, 68, 55, 80, 43, 43, 21, 224, 112, 193] ++
  [10, 0, 0, 0, 16, 0, 0, 0, 7] ++ List.replicate 55 0
/-- Its records. -/
def image1Map : SpanImg := { level := 0x100, mapId := 7, recs := [⟨10, false, 0, 64, [10, 0, 0, 0, 16, 0, 0, 0, 7, 0, 0, 0, 0, 0, 0, 0]⟩] }
/-- A fronthaul frame of a family and kind. -/
def xf (fam kind stream : Nat) (body : List Nat) : XkFrame :=
  ⟨0, 0, 7, 0, 0xAEFE, [0x10, fam] ++ beBytes 2 (8 + body.length) ++ [if kind = 2 ∧ fam ≠ 0x44 then 0x11 else 0x10, kind] ++ beBytes 2 stream ++ [0, 0, 0, 0] ++ body⟩
/-- Port A is UP, carries flows, and every family is agreed. -/
def X (l : List (Fld × Nat)) (g : Dev → Dev) : State :=
  M ([(LINK_PORT_STAT_state 0, 3), (LINK_XK_VER_LO_sections, 0x11), (LINK_XK_VER_LO_control, 0x11), (LINK_XK_VER_LO_timing, 0x10), (LINK_XK_VER_LO_management, 0x11), (LINK_XK_VER_HI_heartbeat, 0x10),
    (GIRDER_LAYERS_dl_enabled 0, 4), (GIRDER_LAYERS_ul_enabled 0, 2)] ++ l) fun d => g { d with link := { d.link with carry := some 3 } }
/-- Microcode with one program of class STATS is loaded; engine 14 serves its number and is idle; descriptor 128 describes a job. -/
def J (l : List (Fld × Nat)) (g : Dev → Dev) : State :=
  M ([(TRUSS_UCODE_VER_loaded, 1), (TRUSS_CFG_host_jobs, 1), (TRUSS_ENG_STAT_logical 14, 14), (TRUSS_ENG_STAT_state 14, 1)] ++ l) fun d =>
    g { d with tr := { d.tr with dir := [⟨0, 3, 0, false⟩], desc := [(2048, 0x30000), (2049, 1000)] } }
/-- Engine 3 runs a job. -/
def E (g : EngSt → EngSt) : State := J [(TRUSS_ENG_STAT_state 3, 2)] (setEng 3 (g { run := some ⟨128, 0, false, none⟩ }))
/-- A manifest of one empty part. -/
def man1 : ManInfo := { parts := [⟨1, 0, 0, 0, sha256 []⟩] }
/-- The programming window holds: every keystone sensor at 25 °C, and VPP at 1.77 V. -/
def KW (l : List (Fld × Nat)) (g : Dev → Dev) : State :=
  WD (((List.range 8).map fun i => (HK_PAR_SENS_temp (48 + i), 200)) ++ [(HK_CH_value 156, 2900)] ++ l) g
/-- Input of a test. -/
def ckJob : CkJob := { width := 32, poly := 0x04C11DB7, init := 0xFFFFFFFF, xorOut := 0xFFFFFFFF, refin := true, refout := true, src := 65, len := 9, notify := true }
/-- Input of a test. -/
def cap1 : CapRun := { path := 9, desc := 2, tick := 0, frame := 0, slot := 1, len := 1024, nb := [], att := 0, lag := 0, tag := 0, set := 0, linear := false, rail := 0, epoch := 0, start := 0, split := none, left := false }

theorem witness_FrontCommandRuns : ∃ (s : State) (c : Instr) (q : List Instr), s.pending = c :: q := ⟨{ pending := [.ppsOut, .wakePin] }, .ppsOut, [.wakePin], by decide⟩

theorem witness_EmptyQueueLetsATickPass : ∃ s : State, s.pending = [] ∧ s.d.xk.mgmt = [] ∧ s.d.t.stopped = false := ⟨W [], by decide⟩
theorem witness_EmptyQueueLetsATickPass_resting : ∃ s : State, s.pending = [] ∧ s.d.xk.mgmt = [] ∧ s.d.sampling = false ∧ (∀ p, s.d.portUp p = true → s.d.txq p = []) :=
  ⟨W [], by decide, by decide, by decide, fun p _ => by by_cases h : p = 0 <;> simp [Dev.txq, h, W, State.d, devRun, setF]⟩
theorem witness_EmptyQueueLetsATickPass_stopped : ∃ s : State, s.pending = [] ∧ s.d.xk.mgmt = [] ∧ s.d.t.stopped = true := ⟨WD [] (fun d => { d with t := { d.t with stopped := true } }), by decide⟩
theorem witness_EmptyQueueLetsATickPass_held : ∃ (s : State) (q : MgmtReq), s.pending = [] ∧ s.d.xk.mgmt = [q] ∧ (s.d.ldg.held.any fun w => w.org == .link) = true :=
  ⟨WD [] (fun d => d |> modXk (fun x => { x with mgmt := [⟨0, 7, 0, [9, 8], 1, true, [], some 0x500000, []⟩] }) |> modLdg fun l => { l with held := [⟨.link, 0x500000, 0⟩] }), ⟨0, 7, 0, [9, 8], 1, true, [], some 0x500000, []⟩, by decide⟩
theorem witness_EmptyQueueLetsATickPass_frame : ∃ (s : State) (x : TxFrame), s.pending = [] ∧ s.d.xk.mgmt = [] ∧ s.d.portUp 0 = true ∧ s.d.txq 0 = [x] ∧ (s.d.expb 1).till ≤ s.d.now :=
  ⟨WD [(LINK_PORT_STAT_state 0, 3)] (setTxq 0 [⟨none, 1, 2, 0, [1, 2, 3, 4, 5, 6, 7, 8], 0, true⟩]), ⟨none, 1, 2, 0, [1, 2, 3, 4, 5, 6, 7, 8], 0, true⟩, by decide⟩
theorem witness_EmptyQueueLetsATickPass_resumed : ∃ (s : State) (q : MgmtReq), s.pending = [] ∧ s.d.xk.mgmt = [q] ∧ q.items = [] ∧ (s.d.ldg.held.any fun w => w.org == .link) = false :=
  ⟨WD [] (modXk fun x => { x with mgmt := [⟨0, 7, 0, [9, 8], 1, true, [], some 0x500000, []⟩] }), ⟨0, 7, 0, [9, 8], 1, true, [], some 0x500000, []⟩, by decide⟩

theorem witness_EveryStepKeepsTheMemoriesCanonical : ∃ s t : State, Safe s ∧ step s = .next t := ⟨{ pending := [.xtalStart] }, _, by decide, rfl⟩

theorem witness_CommandsWaitForTheirCondition :
    (∃ (c : Instr) (s : State), c.always = false ∧ s.d.deckUp = false) ∧
    (∃ (c : Instr) (s : State), c.always = false ∧ s.d.running = false ∧ c.early = false) ∧
    ∃ (c : Instr) (s : State) (i j : Nat), c.always = false ∧ c ∈ [Instr.feState i, .beamSwitch i, .dpdApply i, .gainSet i, .respSwap i, .sync i,
      .calRun i, .trussJob i, .dmaStart i, .notify i, .snapshot i] ∧ j < i ∧ (s.d.ttE j).armed = true ∧ (s.d.ttE j).action ≠ 7 ∧
      (s.d.ttE j).due = (s.d.ttE i).due ∧ s.d.span.freeze = none :=
  ⟨⟨.ppsOut, WD [] (modEl fun e => { e with resetN := false }), by decide⟩, ⟨.ppsOut, State.reset, by decide⟩,
    .notify 6, WD [] (fun d => d |> setTt 5 (ent 19 0 0 77 100) |> setTt 6 (ent 19 0 0 77 100)), 6, 5, by decide⟩

theorem witness_ResetLeavesTheResetColumn :
    (∃ (s : State), (s.d.key.otpOp = none)) ∧
    (∃ (s : State), (s.d.key.otpOp = none)) ∧
    (∃ (s : State) (v : Word), (s.d.hostWaits = false) ∧ (s.d.deckUp = true ∧ s.d.running = true ∧ v.toNat % 2 = 1 ∧ bits v.toNat 15 8 = 0xC3 ∧ s.d.key.otpOp = none)) :=
  ⟨⟨W [(HK_PAR_TRIP_dies, 3)], by decide +kernel⟩,
    ⟨W [(HK_PAR_TRIP_dies, 3)], by decide +kernel⟩,
    ⟨W [(HK_PAR_TRIP_dies, 3)], 0xC301#32, by decide +kernel⟩⟩

theorem witness_WritesKeepTheAccessRules :
    (∃ (s : State) (off width : Nat) (_l : List Word), (s.d.deckUp = true ∧ off < 0x1000000 ∧ ¬(width = 4 ∧ off % 4 = 0))) ∧
    (∃ (s : State) (off : Nat) (_v : Word), (s.d.hostWaits = false) ∧ (s.d.deckUp = true ∧ 0x1100140 ≤ off ∧ off < 0x2000000)) ∧
    (∃ (s : State) (off : Nat) (_v : Word), (s.d.hostWaits = false) ∧ (s.d.deckUp = true ∧ s.d.running = true ∧ off % 4 = 0 ∧ findBank off = none ∧ (0x10 < off ∧ off < 0x1000 ∨ 0x110000 ≤ off ∧ off < 0x200000 ∨ 0x500000 ≤ off ∧ off < 0x900000 ∨ 0xA08000 ≤ off ∧ off < 0x1000000))) ∧
    (∃ (s : State) (off : Nat) (_v : Word), (s.d.deckUp = true ∧ s.d.running = false ∧ off % 4 = 0 ∧ off < 0x4000000 ∧ answersEarly off = false)) ∧
    (∃ (_s : State) (_off _width : Nat) (_l : List Word), True) :=
  ⟨⟨W [], 0x200002, 4, [7#32], by decide +kernel⟩,
    ⟨W [], 0x1100140, 7#32, by decide +kernel⟩,
    ⟨W [], 0x5FFFFC, 7#32, by decide +kernel⟩,
    ⟨WD [(KEY_STATUS_stage, 3)] id, 0x200020, 7#32, by decide +kernel⟩,
    ⟨W [], 0x200020, 4, [7#32], by decide +kernel⟩⟩

theorem witness_LockedRegistersAreJudgedFieldByField :
    (∃ (s : State) (org : Origin) (off : Nat) (v : Word) (r : RegDef), ((org = .host → s.d.hostWaits = false) ∧ (org = .firmware → s.d.key.fwStopped = false)) ∧ (s.d.deckUp = true ∧ s.d.running = true ∧ (org = .host ∨ org = .firmware) ∧ s.d.formed = true ∧ s.d.ledgerHolds = false ∧ off ∈ [0x100040, 0x500000, 0xC00F00, 0xC00F04, 0xC00F08, 0xC00F0C, 0xC00F10, 0xC00F14] ∧ findBank off = some r ∧ (off = 0x100040 → v.toNat % 4 ≠ 3))) :=
  ⟨M [] id, .host, 0x500000, 0x1#32, ⟨0x500000, [], [⟨13, 12, .rwl, 0x0⟩, ⟨11, 10, .rwl, 0x0⟩, ⟨9, 9, .rwl, 0x0⟩, ⟨8, 8, .rwg, 0x1⟩, ⟨5, 4, .rwl, 0x0⟩, ⟨3, 2, .rwl, 0x0⟩, ⟨1, 1, .rwl, 0x0⟩, ⟨0, 0, .rwg, 0x1⟩]⟩, by decide +kernel⟩

theorem witness_CancelsKeepTheLead :
    (∃ (s : State) (org : Origin) (i : Nat), (Running s) ∧ ((org = .host → s.d.hostWaits = false) ∧ (org = .firmware → s.d.key.fwStopped = false)) ∧ ((org = .host ∨ org = .firmware) ∧ i < 2048 ∧ (s.d.ttE i).isArmed = true ∧ (s.d.now : Int) + 1967 ≤ (s.d.ttE i).due)) ∧
    (∃ (s : State) (org : Origin) (i : Nat), (Running s) ∧ ((org = .host → s.d.hostWaits = false) ∧ (org = .firmware → s.d.key.fwStopped = false)) ∧ ((org = .host ∨ org = .firmware) ∧ i < 2048 ∧ (s.d.ttE i).isArmed = true ∧ (s.d.ttE i).due < (s.d.now : Int) + 1967)) ∧
    (∃ (s : State), (Running s) ∧ (s.d.hostWaits = false)) :=
  ⟨⟨WD [] (setTt 5 { armed := true, status := 1, w1 := 19 * 0x200000, due := 1967, req := 1967 }), .host, 5, by decide +kernel⟩,
    ⟨WD [] (setTt 5 { armed := true, status := 1, w1 := 19 * 0x200000, due := 1966, req := 1966 }), .host, 5, by decide +kernel⟩,
    ⟨WD [] (fun d => d |> setTt 5 { armed := true, status := 1, w1 := 19 * 0x200000, due := 1967, req := 1967 } |> setTt 7 { armed := true, status := 1, w1 := 19 * 0x200000, due := 1000, req := 1000 }), by decide +kernel⟩⟩

theorem witness_OneRequestAtATime :
    (∃ (s : State), (Up s) ∧ (2 ≤ s.d.stage)) ∧
    (∃ (s : State) (frame : List Nat), (Up s) ∧ (2 ≤ s.d.stage ∧ s.d.svc.req.isSome = true ∧ (svcParse frame).isSome = true)) ∧
    (∃ (s : State) (frame : List Nat), (Up s) ∧ (2 ≤ s.d.stage ∧ svcParse frame = none)) ∧
    (∃ (s : State) (frame : List Nat), (Up s) ∧ (2 ≤ s.d.stage ∧ s.d.svc.req.isSome = true ∧ (svcParse frame).isSome = true)) ∧
    (∃ (s : State) (frame : List Nat), (Up s) ∧ (2 ≤ s.d.stage ∧ svcParse frame = none)) ∧
    (∃ (s : State) (frame : List Nat) (r : SvcReq), (Up s) ∧ (2 ≤ s.d.stage ∧ s.d.svc.req = none ∧ svcParse frame = some r ∧ svcTypes.contains r.ty = true ∧ svcPayloadGood r = true)) ∧
    (∃ (s : State) (frame : List Nat) (r : SvcReq), (Up s) ∧ (2 ≤ s.d.stage ∧ s.d.svc.req = none ∧ svcParse frame = some r ∧ svcTypes.contains r.ty = true ∧ svcPayloadGood r = true)) ∧
    (∃ (s : State) (r : SvcReq), (Up s) ∧ (2 ≤ s.d.stage ∧ s.d.svc.req = some r ∧ r.ty = 1)) ∧
    (∃ (s : State), (Up s)) ∧
    (∃ (s : State), (Up s)) :=
  ⟨⟨WD [] (modSvc fun v => { v with req := some ⟨1, 9, []⟩ }), by decide +kernel⟩,
    ⟨WD [] (modSvc fun v => { v with req := some ⟨1, 9, []⟩ }), [83, 86, 1, 0, 9, 0, 0, 0, 191, 52, 33, 158], by decide +kernel⟩,
    ⟨WD [] (modSvc fun v => { v with req := some ⟨1, 9, []⟩ }), [83, 86], by decide +kernel⟩,
    ⟨WD [] (modSvc fun v => { v with req := some ⟨1, 9, []⟩ }), [83, 86, 1, 0, 9, 0, 0, 0, 191, 52, 33, 158], by decide +kernel⟩,
    ⟨WD [] (modSvc fun v => { v with req := some ⟨1, 9, []⟩ }), [83, 86], by decide +kernel⟩,
    ⟨WD [] (modSvc fun v => { v with resp := some [1, 2] }), [83, 86, 1, 0, 9, 0, 0, 0, 191, 52, 33, 158], ⟨1, 9, []⟩, by decide +kernel⟩,
    ⟨WD [] (modSvc fun v => { v with resp := some [1, 2] }), [83, 86, 1, 0, 9, 0, 0, 0, 191, 52, 33, 158], ⟨1, 9, []⟩, by decide +kernel⟩,
    ⟨WD [] (modSvc fun v => { v with req := some ⟨1, 9, []⟩, resp := some [1, 2] }), ⟨1, 9, []⟩, by decide +kernel⟩,
    ⟨WD [] (modSvc fun v => { v with resp := some [1, 2] }), by decide +kernel⟩,
    ⟨W [], by decide +kernel⟩⟩

theorem witness_ServoUpdatesFollowTheJumpLimit :
    (∃ (s : State) (m : PtpMsg), (Running s) ∧ (ptpSupported s.d m = false)) ∧
    (∃ (s : State) (m : PtpMsg) (u : Update), (Running s) ∧ (ptpSupported s.d m = true) ∧ (m.update = some u) ∧ (s.d.f LINK_STAT_timing_port = m.port) ∧ (s.d.f TL_ALIGN_CFG_role = 0 ∧ s.d.t.skip = 0 ∧ s.d.quality = 2 ∧ s.d.on TL_QUALITY_stepped = true) ∧ ((u.offset16 * 192).natAbs ≤ max 20 (s.d.f TL_JUMP_MAX_ns) * 3072) ∧ (-rateLimit ≤ u.rate ∧ u.rate ≤ rateLimit)) ∧
    (∃ (s : State) (m : PtpMsg) (u : Update), (Running s) ∧ (ptpSupported s.d m = true) ∧ (m.update = some u) ∧ (s.d.f LINK_STAT_timing_port = m.port) ∧ (s.d.f TL_ALIGN_CFG_role = 0 ∧ s.d.t.skip = 0 ∧ s.d.quality = 2 ∧ s.d.on TL_QUALITY_stepped = true ∧ s.d.f TL_STATUS_refused_run < 7) ∧ (max 20 (s.d.f TL_JUMP_MAX_ns) * 3072 < (u.offset16 * 192).natAbs)) ∧
    (∃ (s : State) (_rate : Int), (Running s) ∧ (s.d.f TL_REF_CFG_ref_sel = 1)) ∧
    (∃ (s : State), (Running s) ∧ (s.d.f TL_REF_CFG_ref_sel = 1 ∧ s.d.t.ppsLost = false)) :=
  ⟨⟨W [], ⟨0, false, true, false, false, false, true, 0, none⟩, by decide +kernel⟩,
    ⟨W [(TL_QUALITY_state, 2), (TL_QUALITY_stepped, 1), (TL_STATUS_refused_run, 3)], ⟨0, true, true, false, false, false, true, 0, some ⟨-100, 5⟩⟩, ⟨-100, 5⟩, by decide +kernel⟩,
    ⟨W [(TL_QUALITY_state, 2), (TL_QUALITY_stepped, 1)], ⟨0, true, true, false, false, false, true, 0, some ⟨-1000000, 5⟩⟩, ⟨-1000000, 5⟩, by decide +kernel⟩,
    ⟨W [(TL_REF_CFG_ref_sel, 1)], 5, by decide +kernel⟩,
    ⟨W [(TL_REF_CFG_ref_sel, 1)], by decide +kernel⟩⟩

theorem witness_TimeQualityMoves :
    (∃ (s : State), (Running s) ∧ (s.d.quality = 2 ∧ s.d.on TL_QUALITY_follower = false)) ∧
    (∃ (s : State), (Running s) ∧ (s.d.quality = 0)) ∧
    (∃ (s : State) (e : Nat), (Running s) ∧ (s.d.quality = 3 ∧ s.d.errNow = some e ∧ 1100 * fineNs < e ∧ s.d.on TL_QUALITY_follower = false)) ∧
    (∃ (s : State), (Running s) ∧ (s.d.on TL_REF_CFG_pps_out_en = true ∧ (s.d.quality = 2 ∨ s.d.quality = 3) ∧ s.d.t.stopped = false)) ∧
    (∃ (s : State) (b : Nat), (Running s) ∧ (b < 8 ∧ (s.d.fe b = 4 ∨ s.d.fe b = 5) ∧ s.d.inTransition b = false ∧ s.d.txPermit = false ∧ (s.d.bay b).cal = none ∧ (∀ i < 8, (s.d.calPath (8 * b + i)).pend = 0))) ∧
    (∃ (s : State), (Running s) ∧ (s.d.hostWaits = false) ∧ (s.d.inReady = true ∧ s.d.ledgerHolds = false)) ∧
    (∃ (s : State), (Running s) ∧ (s.d.hostWaits = false) ∧ (s.d.inReady = false ∧ s.d.ledgerHolds = false)) :=
  ⟨⟨W [(TL_QUALITY_state, 2)], by decide +kernel⟩,
    ⟨W [], by decide +kernel⟩,
    ⟨WD [(TL_QUALITY_state, 3)] (fun d => { d with t := { d.t with eLast := 40000000000000000 } }), 40000000000000000, by decide +kernel⟩,
    ⟨W [(TL_REF_CFG_pps_out_en, 1), (TL_QUALITY_state, 2)], by decide +kernel⟩,
    ⟨W [(BAY_FE_STAT_state 1, 4)], 1, by decide +kernel⟩,
    ⟨W [(TL_QUALITY_state, 2), (TL_QUALITY_stepped, 1)], by decide +kernel⟩,
    ⟨W [(PWR_STAT_state, 0)], by decide +kernel⟩⟩

theorem witness_RateAndAlignment :
    (∃ (s : State) (org : Origin) (_v : Word), (Running s) ∧ ((org = .host → s.d.hostWaits = false) ∧ (org = .firmware → s.d.key.fwStopped = false)) ∧ ((org = .host ∨ org = .firmware) ∧ s.d.ledgerHolds = false ∧ s.d.f TL_ALIGN_CFG_role = 0)) ∧
    (∃ (s : State) (v : Int) (at_ : Nat), (Running s) ∧ (s.d.t.rCarried = some (v, at_))) ∧
    (∃ (s : State) (org : Origin) (v : Word), (Running s) ∧ ((org = .host → s.d.hostWaits = false) ∧ (org = .firmware → s.d.key.fwStopped = false)) ∧ ((org = .host ∨ org = .firmware) ∧ s.d.ledgerHolds = false ∧ v.toNat ≤ 9830399)) ∧
    (∃ (s : State) (org : Origin) (v : Word), (Running s) ∧ ((org = .host → s.d.hostWaits = false) ∧ (org = .firmware → s.d.key.fwStopped = false)) ∧ ((org = .host ∨ org = .firmware) ∧ s.d.ledgerHolds = false ∧ 9830399 < v.toNat ∧ v.toNat < 0x1000000)) ∧
    (∃ (s : State), (Running s) ∧ (s.d.hostWaits = false) ∧ (s.d.inReady = true ∧ s.d.f TL_ALIGN_CFG_role = 2)) ∧
    (∃ (s : State), (Running s) ∧ (s.d.hostWaits = false) ∧ (s.d.inReady = false ∨ s.d.f TL_ALIGN_CFG_role ≠ 2)) ∧
    (∃ (s : State), (Running s) ∧ (s.d.f TL_ALIGN_CFG_role = 1)) ∧
    (∃ (s : State) (payload crc : Nat), (Running s) ∧ (s.d.f TL_ALIGN_CFG_role = 2 ∧ alignCrc payload ≠ crc ∧ s.d.t.alignRun < 2)) ∧
    (∃ (s : State) (payload crc : Nat) (u : Dev), (Running s) ∧ (s.d.f TL_ALIGN_CFG_role = 2 ∧ alignCrc payload = crc ∧ u = passTo s.d.baseEdge s.d ∧ s.d.t.alignArmed = false ∧ s.d.on TL_ALIGN_STAT_aligned = true ∧ u.alignSlip = 0 ∧ bits payload 48 46 = s.d.quality)) ∧
    (∃ (s : State) (payload crc : Nat) (u : Dev), (Running s) ∧ (s.d.f TL_ALIGN_CFG_role = 2 ∧ alignCrc payload = crc ∧ u = passTo s.d.baseEdge s.d ∧ s.d.t.alignArmed = false ∧ s.d.on TL_ALIGN_STAT_aligned = true ∧ u.alignSlip ≠ 0 ∧ -8 ≤ u.alignSlip ∧ u.alignSlip ≤ 7)) ∧
    (∃ (s : State) (payload crc : Nat), (Running s) ∧ (s.d.f TL_ALIGN_CFG_role = 2 ∧ alignCrc payload = crc ∧ s.d.t.alignArmed = true ∧ s.d.alignComp ≤ 0)) ∧
    (∃ (s : State), (Running s) ∧ (s.d.f TL_ALIGN_CFG_role = 2 ∧ s.d.t.alignRun < 2)) ∧
    (∃ (s : State), (Running s) ∧ (s.d.t.stopped = false ∧ s.d.t.wraps = s.d.t.ntU / (2 ^ 32 * 3072))) :=
  ⟨⟨W [(TL_RATE_HI_rate_hi, 0)], .host, 5#32, by decide +kernel⟩,
    ⟨WD [] (fun d => { d with t := { d.t with rCarried := some (7, 500) } }), 7, 500, by decide +kernel⟩,
    ⟨W [], .host, 9830399#32, by decide +kernel⟩,
    ⟨W [], .host, 9830400#32, by decide +kernel⟩,
    ⟨W [(TL_ALIGN_CFG_role, 2)], by decide +kernel⟩,
    ⟨W [], by decide +kernel⟩,
    ⟨W [(TL_ALIGN_CFG_role, 1)], by decide +kernel⟩,
    ⟨W [(TL_ALIGN_CFG_role, 2)], 0, 1, by decide +kernel⟩,
    ⟨WD [(TL_ALIGN_CFG_role, 2), (TL_ALIGN_STAT_aligned, 1)] (fun d => { d with now := 90, t := { d.t with tick := 9830396 } }), 0, 0x313E, passTo 94 (WD [(TL_ALIGN_CFG_role, 2), (TL_ALIGN_STAT_aligned, 1)] (fun d => { d with now := 90, t := { d.t with tick := 9830396 } })).d, by decide +kernel⟩,
    ⟨WD [(TL_ALIGN_CFG_role, 2), (TL_ALIGN_STAT_aligned, 1)] (fun d => { d with t := { d.t with tick := 24 } }), 0, 0x313E, (WD [(TL_ALIGN_CFG_role, 2), (TL_ALIGN_STAT_aligned, 1)] (fun d => { d with t := { d.t with tick := 24 } })).d, by decide +kernel⟩,
    ⟨WD [(TL_ALIGN_CFG_role, 2), (TL_ALIGN_CFG_comp, 14)] (fun d => { d with t := { d.t with alignArmed := true } }), 0, 0x313E, by decide +kernel⟩,
    ⟨W [(TL_ALIGN_CFG_role, 2)], by decide +kernel⟩,
    ⟨WD [] (fun d => { d with t := { d.t with ntU := 3 * 2 ^ 32 * 3072 + 77, wraps := 3 } }), by decide +kernel⟩⟩

theorem witness_LatchedReads :
    (∃ (s : State), (Running s)) ∧
    (∃ (s : State), (Running s)) ∧
    (∃ (s : State), (Running s)) :=
  ⟨⟨W [], by decide +kernel⟩,
    ⟨W [], by decide +kernel⟩,
    ⟨W [], by decide +kernel⟩⟩

theorem witness_TimetableWords :
    (∃ (s : State) (org : Origin) (i : Nat) (_v : Word), (Running s) ∧ ((org = .host → s.d.hostWaits = false) ∧ (org = .firmware → s.d.key.fwStopped = false)) ∧ ((org = .host ∨ org = .firmware) ∧ i < 2048 ∧ (s.d.ttE i).isArmed = false)) ∧
    (∃ (s : State) (org : Origin) (i w : Nat) (_v : Word), (Running s) ∧ ((org = .host → s.d.hostWaits = false) ∧ (org = .firmware → s.d.key.fwStopped = false)) ∧ ((org = .host ∨ org = .firmware) ∧ i < 2048 ∧ w < 3 ∧ (s.d.ttE i).isArmed = true)) ∧
    (∃ (s : State) (org : Origin) (i rep late : Nat) (e : TtEntry), (Running s) ∧ ((org = .host → s.d.hostWaits = false) ∧ (org = .firmware → s.d.key.fwStopped = false)) ∧ ((org = .host ∨ org = .firmware) ∧ i < 2048 ∧ rep < 4 ∧ late < 2 ∧ (s.d.ttE i).isArmed = false) ∧ (e = { s.d.ttE i with rep := rep, latePolicy := late, fireCount := 0, moved := false, armed := false, origin := org }) ∧ (s.d.wellFormed org e = true ∧ s.d.armedAt (s.d.requested e) < 32 ∧ (org = .firmware ∨ e.action ≠ 8) ∧ (s.d.now : Int) + leadTicks ≤ s.d.requested e)) ∧
    (∃ (s : State) (org : Origin) (i rep late : Nat) (e : TtEntry), (Running s) ∧ ((org = .host → s.d.hostWaits = false) ∧ (org = .firmware → s.d.key.fwStopped = false)) ∧ ((org = .host ∨ org = .firmware) ∧ i < 2048 ∧ rep < 4 ∧ late < 2 ∧ (s.d.ttE i).isArmed = false) ∧ (e = { s.d.ttE i with rep := rep, latePolicy := late, fireCount := 0, moved := false, armed := false, origin := org }) ∧ (s.d.wellFormed org e = false)) ∧
    (∃ (s : State) (org : Origin) (i rep late : Nat) (e : TtEntry) (at_ : Int), (Running s) ∧ ((org = .host → s.d.hostWaits = false) ∧ (org = .firmware → s.d.key.fwStopped = false)) ∧ ((org = .host ∨ org = .firmware) ∧ i < 2048 ∧ rep < 4 ∧ late < 2 ∧ (s.d.ttE i).isArmed = false ∧ s.d.ledgerHolds = false) ∧ (e = { s.d.ttE i with rep := rep, latePolicy := late, fireCount := 0, moved := false, armed := false, origin := org }) ∧ (s.d.wellFormed org e = true ∧ s.d.armedAt (s.d.requested e) < 32 ∧ (org = .firmware ∨ e.action ≠ 8) ∧ s.d.requested e < (s.d.now : Int) + leadTicks) ∧ (at_ = s.d.nextSymbol (s.d.grid15 e.carrier) leadTicks ∧ rep = 0 ∧ (late = 0 ∨ isRf e.action = true ∨ s.d.requested e + slotTicks (s.d.grid15 e.carrier) < at_ ∨ 32 ≤ s.d.armedAt at_))) ∧
    (∃ (s : State) (org : Origin) (i rep late : Nat) (e : TtEntry) (at_ : Int), (Running s) ∧ ((org = .host → s.d.hostWaits = false) ∧ (org = .firmware → s.d.key.fwStopped = false)) ∧ ((org = .host ∨ org = .firmware) ∧ i < 2048 ∧ rep < 4 ∧ late < 2 ∧ (s.d.ttE i).isArmed = false ∧ s.d.ledgerHolds = false) ∧ (e = { s.d.ttE i with rep := rep, latePolicy := late, fireCount := 0, moved := false, armed := false, origin := org }) ∧ (s.d.wellFormed org e = true ∧ s.d.armedAt (s.d.requested e) < 32 ∧ (org = .firmware ∨ e.action ≠ 8) ∧ s.d.requested e < (s.d.now : Int) + leadTicks) ∧ (at_ = s.d.nextSymbol (s.d.grid15 e.carrier) leadTicks ∧ rep = 0 ∧ late = 1 ∧ isRf e.action = false ∧ at_ ≤ s.d.requested e + slotTicks (s.d.grid15 e.carrier) ∧ s.d.armedAt at_ < 32)) ∧
    (∃ (s : State) (org : Origin) (i rep late : Nat) (e : TtEntry) (at_ : Int), (Running s) ∧ ((org = .host → s.d.hostWaits = false) ∧ (org = .firmware → s.d.key.fwStopped = false)) ∧ ((org = .host ∨ org = .firmware) ∧ i < 2048 ∧ rep < 4 ∧ late < 2 ∧ (s.d.ttE i).isArmed = false ∧ s.d.ledgerHolds = false) ∧ (e = { s.d.ttE i with rep := rep, latePolicy := late, fireCount := 0, moved := false, armed := false, origin := org }) ∧ (s.d.wellFormed org e = true ∧ s.d.armedAt (s.d.requested e) < 32 ∧ (org = .firmware ∨ e.action ≠ 8) ∧ s.d.requested e < (s.d.now : Int) + leadTicks) ∧ (at_ = s.d.nextSymbol (s.d.grid15 e.carrier) leadTicks ∧ rep ≠ 0 ∧ (late = 0 ∨ isRf e.action = true))) ∧
    (∃ (s : State) (org : Origin) (i : Nat), (Running s) ∧ ((org = .host → s.d.hostWaits = false) ∧ (org = .firmware → s.d.key.fwStopped = false)) ∧ ((org = .host ∨ org = .firmware) ∧ i < 2048 ∧ (s.d.ttE i).isArmed = true ∧ (s.d.now : Int) + leadTicks ≤ (s.d.ttE i).due)) ∧
    (∃ (s : State) (org : Origin) (i : Nat), (Running s) ∧ ((org = .host → s.d.hostWaits = false) ∧ (org = .firmware → s.d.key.fwStopped = false)) ∧ ((org = .host ∨ org = .firmware) ∧ i < 2048 ∧ (s.d.ttE i).isArmed = true ∧ (s.d.ttE i).due < (s.d.now : Int) + leadTicks)) ∧
    (∃ (s : State), (Running s) ∧ (s.d.hostWaits = false) ∧ (∀ x ∈ s.d.tt, x.2.armed = true → (s.d.now : Int) + leadTicks ≤ x.2.due)) :=
  ⟨⟨W [], .host, 5, 0x03000007#32, by decide +kernel⟩,
    ⟨WD [] (setTt 5 { armed := true, status := 1, w1 := 0x800000 }), .firmware, 5, 2, 7#32, by decide +kernel⟩,
    ⟨WD [] (setTt 5 { w0 := 0x07002000, w1 := 19 * 0x200000 }), .host, 5, 0, 0, { w0 := 0x07002000, w1 := 19 * 0x200000, origin := .host }, by decide +kernel⟩,
    ⟨W [], .host, 5, 0, 0, { origin := .host }, by decide +kernel⟩,
    ⟨WD [] (setTt 5 { w0 := 0x07000000, w1 := 19 * 0x200000 }), .host, 5, 0, 0, { w0 := 0x07000000, w1 := 19 * 0x200000, origin := .host }, 35584, by decide +kernel⟩,
    ⟨WD [] (setTt 5 { w0 := 0x07000000, w1 := 19 * 0x200000 }), .host, 5, 0, 1, { w0 := 0x07000000, w1 := 19 * 0x200000, latePolicy := 1, origin := .host }, 35584, by decide +kernel⟩,
    ⟨WD [] (setTt 5 { w0 := 0x07000000, w1 := 19 * 0x200000 }), .firmware, 5, 2, 0, { w0 := 0x07000000, w1 := 19 * 0x200000, rep := 2, origin := .firmware }, 35584, by decide +kernel⟩,
    ⟨WD [] (setTt 5 { armed := true, status := 1, w1 := 19 * 0x200000, due := 1967, req := 1967 }), .host, 5, by decide +kernel⟩,
    ⟨WD [] (setTt 5 { armed := true, status := 1, w1 := 19 * 0x200000, due := 1966, req := 1966 }), .host, 5, by decide +kernel⟩,
    ⟨WD [] (setTt 5 { armed := true, status := 1, w1 := 19 * 0x200000, due := 1967, req := 1967 }), by decide +kernel⟩⟩

theorem witness_RfActionsExecute :
    (∃ (s : State) (i b : Nat), (Running s) ∧ (EntryDue s i 1 ∧ (s.d.ttE i).w2 = 4 ∧ (s.d.ttE i).index = b ∧ b < 8) ∧ (s.d.bayFormed b = true ∧ (s.d.bay b).cal = none ∧ s.d.fe b = 3 ∧ s.d.inTransition b = false ∧ s.d.pierHeld (b / 2) = false) ∧ (s.d.inActive = true ∧ s.d.piersUp = true ∧ s.d.txPermit = true ∧ s.d.on (BAY_FE_STAT_lo_ready b) = true)) ∧
    (∃ (s : State) (i b : Nat), (Running s) ∧ (EntryDue s i 1 ∧ (s.d.ttE i).w2 = 4 ∧ (s.d.ttE i).index = b ∧ b < 8) ∧ (s.d.bayFormed b = true ∧ (s.d.bay b).cal = none ∧ s.d.fe b = 3 ∧ s.d.inTransition b = false ∧ s.d.pierHeld (b / 2) = false) ∧ (s.d.inActive = true ∧ s.d.piersUp = true ∧ s.d.txPermit = true ∧ s.d.on (BAY_FE_STAT_lo_ready b) = false) ∧ (s.d.phaseWaits b = true → (max s.d.now (s.d.ttE i).due.toNat) < (s.d.bay b).alignAt)) ∧
    (∃ (s : State) (i n : Nat), (Running s) ∧ (EntryDue s i 2 ∧ (s.d.ttE i).kind = 4 ∧ (s.d.ttE i).index = n ∧ n < 64 ∧ (s.d.ttE i).w2 = 1) ∧ (s.d.map.txActive n = true ∧ s.d.piersUp = true ∧ s.d.railBusy n 1 = false)) ∧
    (∃ (s : State) (i n x : Nat), (Running s) ∧ (EntryDue s i 3 ∧ (s.d.ttE i).kind = 4 ∧ (s.d.ttE i).index = n ∧ n < 64 ∧ (s.d.ttE i).w2 = x ∧ x < 2) ∧ (s.d.piersUp = true ∧ s.d.map.modelled n = true ∧ s.d.dpdState n ≠ 5 ∧ (s.d.dpdLinear n = true ∨ s.d.dpdForce n ≠ x)) ∧ (s.d.on (readyFld n x) = true ∧ (s.d.dpdSt n).held ≠ some x)) ∧
    (∃ (s : State) (i n v : Nat), (Running s) ∧ (EntryDue s i 4 ∧ (s.d.ttE i).kind = 4 ∧ (s.d.ttE i).index = n ∧ n < 64 ∧ (s.d.ttE i).w2 = 0x10000 + 0x100 * v ∧ v < 64) ∧ (s.d.piersUp = true ∧ s.d.map.txActive n = true ∧ s.d.txOn (bayOf n) = true)) ∧
    (∃ (s : State) (i n : Nat), (Running s) ∧ (EntryDue s i 5 ∧ (s.d.ttE i).kind = 4 ∧ (s.d.ttE i).index = n ∧ n < 64 ∧ (s.d.ttE i).w2 = 1) ∧ (s.d.piersUp = true ∧ s.d.map.txActive n = true ∧ (s.d.chain n 0).fade = none ∧ s.d.f (respFld n 0 0) ≠ 1) ∧ ((passTo (s.d.ttE i).due.toNat s.d).chainValid n 0 0 = true)) ∧
    (∃ (s : State) (i n : Nat), (Running s) ∧ (EntryDue s i 5 ∧ (s.d.ttE i).kind = 4 ∧ (s.d.ttE i).index = n ∧ n < 64 ∧ (s.d.ttE i).w2 = 1) ∧ (s.d.piersUp = true ∧ s.d.map.txActive n = true ∧ (s.d.chain n 0).fade = none) ∧ ((passTo (s.d.ttE i).due.toNat s.d).chainValid n 0 0 = false)) ∧
    (∃ (s : State) (i : Nat), (Running s) ∧ (EntryDue s i 6 ∧ (s.d.ttE i).kind = 1 ∧ (s.d.ttE i).index = 0 ∧ s.d.piersUp = true)) ∧
    (∃ (s : State) (i b : Nat), (Running s) ∧ (EntryDue s i 8 ∧ (s.d.ttE i).kind = 3 ∧ (s.d.ttE i).index = b ∧ b < 8 ∧ (s.d.ttE i).w2 = 2) ∧ (s.d.pierHeld (b / 2) = false ∧ s.d.inActive = true ∧ s.d.piersUp = true ∧ (s.d.bay b).cal = none ∧ s.d.inTransition b = false ∧ s.d.fe b = 2) ∧ (s.d.txPermit = true ∧ s.d.on (BAY_FE_STAT_lo_ready b) = true ∧ s.d.runPairs b 2 none ≠ [])) ∧
    (∃ (s : State) (b : Nat), (Running s) ∧ (b < 8 ∧ (s.d.bay b).cal.isSome = true ∧ (∀ x ∈ s.d.tt, x.2.feOf b = false))) ∧
    (∃ (s : State) (b : Nat) (_ref : CalMeas) (_l : List CalOutcome), (Running s) ∧ (b < 8 ∧ (s.d.calBay b).awaits ≠ [])) ∧
    (∃ (s : State) (b : Nat), (Running s) ∧ (b < 8 ∧ s.d.inGuard b = true ∧ ∃ i < 8, (s.d.calPath (8 * b + i)).pend ≠ 0)) ∧
    (∃ (s : State) (b k kind : Nat), (Running s) ∧ (s.d.hostWaits = false) ∧ (b < 8 ∧ k < 8 ∧ 2 ≤ kind ∧ kind ≤ 8 ∧ s.d.calHost = true ∧ s.d.piersUp = true)) ∧
    (∃ (s : State) (n kind at_ : Nat), (Running s) ∧ (n < 64 ∧ 1 ≤ kind ∧ kind ≤ 8 ∧ smGet 0 kind (s.d.calPath n).failAt = at_ + 1)) ∧
    (∃ (s : State) (b : Nat), (Running s) ∧ (b < 8 ∧ (s.d.calBay b).recDue = true ∧ (s.d.calBay b).recAt = 0 ∧ s.d.key.fwStopped = false ∧ s.d.key.storeAbsent = false ∧ s.d.bayFormed b = true)) :=
  ⟨⟨M [(BAY_FE_STAT_state 1, 3), (PWR_STAT_state, 0), (TL_QUALITY_tx_permit, 1), (BAY_FE_STAT_lo_ready 1, 1)] (setTt 5 (ent 1 1 3 4 100)), 5, 1, by decide +kernel⟩,
    ⟨M [(BAY_FE_STAT_state 1, 3), (PWR_STAT_state, 0), (TL_QUALITY_tx_permit, 1)] (setTt 5 (ent 1 1 3 4 100)), 5, 1, by decide +kernel⟩,
    ⟨M [] (setTt 5 (ent 2 9 4 1 100)), 5, 9, by decide +kernel⟩,
    ⟨M [(readyFld 9 1, 1)] (setTt 5 (ent 3 9 4 1 100)), 5, 9, 1, by decide +kernel⟩,
    ⟨M [(BAY_FE_STAT_state 1, 4)] (setTt 5 (ent 4 9 4 0x11700 100)), 5, 9, 23, by decide +kernel⟩,
    ⟨M [(BAY_FE_STAT_state 1, 4), (BAY_ACTIVE_tx_live 1, 255)] (fun d => setTt 5 (ent 5 9 4 1 100) { d with sig := { d.sig with dl := [(9, [⟨90, List.replicate 200 (1, 2)⟩])] } }), 5, 9, by decide +kernel⟩,
    ⟨M [(BAY_FE_STAT_state 1, 4), (BAY_ACTIVE_tx_live 1, 255)] (fun d => setTt 5 (ent 5 9 4 1 100) d), 5, 9, by decide +kernel⟩,
    ⟨M [] (fun d => setTt 5 (ent 6 0 1 0 104) (setChain 3 0 { fade := some (0, 1) } d)), 5, by decide +kernel⟩,
    ⟨M [(BAY_FE_STAT_state 1, 2), (PWR_STAT_state, 0), (TL_QUALITY_tx_permit, 1), (BAY_FE_STAT_lo_ready 1, 1), (BAY_ACTIVE_rx_live 1, 255)] (setTt 5 (ent 8 1 3 2 100)), 5, 1, by decide +kernel⟩,
    ⟨M [(BAY_FE_STAT_state 1, 5)] (modBay 1 fun x => { x with cal := some ⟨7, [(9, 7)], 0, 900, false, 0, 40, false, 3, 80⟩ }), 1, by decide +kernel⟩,
    ⟨M [] (modCalBay 1 fun x => { x with awaits := [⟨3, [(9, 3)], false, 0, 40, false, 3, 80, 900, none⟩] }), 1, ⟨0, 0, 0⟩, [⟨9, 3, [-700], [5], 77, 0, ⟨0, 0, 0⟩, []⟩], by decide +kernel⟩,
    ⟨M [(TRIM_AB_PEND_a 1 1 4, 33)] (modCalPath 9 fun x => { x with pend := 4, pvals := [(3, 33)] }), 1, by decide +kernel⟩,
    ⟨M [(SPAN_ADAPT_MODE_acal_mode, 1), (TRIM_AB_PEND_a 1 1 4, 33)] id, 1, 1, 3, by decide +kernel⟩,
    ⟨M [] (modCalPath 9 fun x => { x with failAt := [(3, 8)] }), 9, 3, 7, by decide +kernel⟩,
    ⟨M [] (modCalBay 1 fun x => { x with recDue := true }), 1, by decide +kernel⟩⟩

theorem witness_DispatchingActionsExecute :
    (∃ (s : State) (i : Nat), (Running s) ∧ (EntryDue s i 7 ∧ s.d.formState = 4 ∧ s.d.span.formPartial = false ∧ s.d.inReady = true)) ∧
    (∃ (s : State) (i n x : Nat), (Running s) ∧ (EntryDue s i 16 ∧ (s.d.ttE i).kind = 4 ∧ (s.d.ttE i).index = n ∧ n < 64 ∧ (s.d.ttE i).w2 = x ∧ x < 8) ∧ (s.d.fe (bayOf n) = 4 ∧ s.d.inTransition (bayOf n) = false ∧ s.d.txLive n = true ∧ s.d.map.modelled n = true) ∧ (s.d.on (BAY_OBS_STAT_busy (bayOf n)) = false ∧ (s.d.obsSt (bayOf n)).byCal = false ∧ s.d.fb (BAY_OBS_STAT_slot_full (bayOf n)) (s.d.f (BAY_CAPD_slot (bayOf n) x)) = false ∧ (s.d.obsSt (bayOf n)).pre = none) ∧ (s.d.f (BAY_OBS_CFG_settle (bayOf n)) ≠ 0 ∧ (s.d.now : Int) + 8 * s.d.f (BAY_OBS_CFG_settle (bayOf n)) ≤ (s.d.ttE i).due)) ∧
    (∃ (s : State) (i n x : Nat), (Running s) ∧ (EntryDue s i 16 ∧ (s.d.ttE i).kind = 4 ∧ (s.d.ttE i).index = n ∧ n < 64 ∧ (s.d.ttE i).w2 = x ∧ x < 8) ∧ (s.d.fe (bayOf n) ≠ 4 ∧ (s.d.obsSt (bayOf n)).pre = none) ∧ (s.d.f (BAY_OBS_CFG_settle (bayOf n)) ≠ 0 ∧ (s.d.now : Int) + 8 * s.d.f (BAY_OBS_CFG_settle (bayOf n)) ≤ (s.d.ttE i).due)) ∧
    (∃ (s : State) (i n x : Nat), (Running s) ∧ (EntryDue s i 16 ∧ (s.d.ttE i).kind = 4 ∧ (s.d.ttE i).index = n ∧ n < 64 ∧ (s.d.ttE i).w2 = x ∧ x < 8) ∧ ((s.d.obsSt (bayOf n)).pre = some (i, (s.d.ttE i).due.toNat, true))) ∧
    (∃ (s : State) (i n x : Nat), (Running s) ∧ (EntryDue s i 16 ∧ (s.d.ttE i).kind = 4 ∧ (s.d.ttE i).index = n ∧ n < 64 ∧ (s.d.ttE i).w2 = x ∧ x < 8) ∧ (s.d.fe (bayOf n) = 4 ∧ s.d.inTransition (bayOf n) = false ∧ s.d.txLive n = true ∧ s.d.map.modelled n = true) ∧ (s.d.on (BAY_OBS_STAT_busy (bayOf n)) = false ∧ (s.d.obsSt (bayOf n)).byCal = false ∧ s.d.fb (BAY_OBS_STAT_slot_full (bayOf n)) (s.d.f (BAY_CAPD_slot (bayOf n) x)) = false ∧ (s.d.obsSt (bayOf n)).pre = none) ∧ (s.d.f (BAY_OBS_CFG_settle (bayOf n)) = 0 ∨ (s.d.ttE i).due < s.d.now + 8 * s.d.f (BAY_OBS_CFG_settle (bayOf n)))) ∧
    (∃ (s : State) (i l j : Nat), (Running s) ∧ (EntryDue s i 17 ∧ (s.d.ttE i).index = l ∧ l < 16 ∧ (s.d.ttE i).w2 = j ∧ j < 256) ∧ (s.d.jobCheck (s.d.ttE i).origin l j = 0 ∧ s.d.tr.mig = [])) ∧
    (∃ (s : State) (i n a : Nat), (Running s) ∧ (EntryDue s i 18 ∧ (s.d.ttE i).index = n ∧ n < 32 ∧ (s.d.ttE i).w2 = a ∧ a % 64 = 0 ∧ a < 0x100000000) ∧ (s.d.chMayStart n = true)) ∧
    (∃ (s : State) (i : Nat), (Running s) ∧ (EntryDue s i 19)) ∧
    (∃ (s : State) (i : Nat), (Running s) ∧ (EntryDue s i 20 ∧ s.d.ldg.closed = false ∧ s.d.ldg.queue = [] ∧ s.d.on LEDGER_STAT_gap_pending = false)) :=
  ⟨⟨M [(SPAN_STATUS_form_state, 4)] (setTt 5 (ent 7 0 0 0 100)), 5, by decide +kernel⟩,
    ⟨M [(BAY_FE_STAT_state 1, 4), (BAY_ACTIVE_tx_live 1, 255)] (setTt 5 (ent 16 9 4 2 300)), 5, 9, 2, by decide +kernel⟩,
    ⟨M [(BAY_FE_STAT_state 1, 3), (BAY_ACTIVE_tx_live 1, 255)] (setTt 5 (ent 16 9 4 2 300)), 5, 9, 2, by decide +kernel⟩,
    ⟨M [(BAY_FE_STAT_state 1, 4), (BAY_ACTIVE_tx_live 1, 255)] (fun d => modObs 1 (fun o => { o with pre := some (5, 300, true) }) (setTt 5 (ent 16 9 4 2 300) d)), 5, 9, 2, by decide +kernel⟩,
    ⟨M [(BAY_FE_STAT_state 1, 4), (BAY_ACTIVE_tx_live 1, 255)] (setTt 5 (ent 16 9 4 2 100)), 5, 9, 2, by decide +kernel⟩,
    ⟨M [(TRUSS_UCODE_VER_loaded, 1), (TRUSS_ENG_STAT_state 2, 1), (TRUSS_ENG_STAT_logical 2, 2)] (fun d => setTt 5 (ent 17 2 5 200 100) (modTr (fun x => { x with dir := [⟨0, 3, 0, false⟩], desc := [(3200, 0x30000), (3201, 5)], eng := [(2, { old := some [8, 0, 0, 0, 0, 0, 0] })] }) d)), 5, 2, 200, by decide +kernel⟩,
    ⟨M [] (setTt 5 (ent 18 20 6 0x1240 100)), 5, 20, 0x1240, by decide +kernel⟩,
    ⟨W [] |>.actDev (setTt 5 (ent 19 0 0 77 100)), 5, by decide +kernel⟩,
    ⟨W [] |>.actDev (setTt 5 (ent 20 0 0 0 100)), 5, by decide +kernel⟩⟩

theorem witness_FormationMovesToItsShadow :
    (∃ (s : State) (v : Word), (Running s) ∧ (s.d.hostWaits = false) ∧ (v.toNat % 16 ≤ 1 ∧ s.d.formState = 0 ∧ s.d.inReady = true)) ∧
    (∃ (s : State) (a n : Nat), (Running s) ∧ (s.d.formState = 1 ∧ a = s.d.span.formAddr ∧ n = s.d.span.formLen ∧ a + n ≤ 0x4000000 ∧ Clean s a ((n + 7) / 8)) ∧ (s.d.imageHash s.d.span.formImage = some (sha256 ((s.blk.read8 a ((n + 7) / 8)).take n)))) ∧
    (∃ (s : State) (m : SpanImg), (Running s) ∧ (s.d.formState = 2 ∧ s.d.span.formPartial = false) ∧ ((checkImage s.d.span.loaded s.d.span.formImage s.d.span.loaded.length s.d.effLevel s.d.otp.fused none).toOption = some m)) ∧
    (∃ (s : State), (Running s) ∧ (s.d.formState = 3)) ∧
    (∃ (s : State), (Running s) ∧ (s.d.formState = 3)) ∧
    (∃ (s : State), (Running s) ∧ (s.d.on DECK_SEAL_STAT_busy = true)) :=
  ⟨⟨W [], 0x21#32, by decide +kernel⟩,
    ⟨WD [(SPAN_STATUS_form_state, 1)] (fun d => { d with key := { d.key with active := some { parts := [⟨5, 0, 0, 0, sha256 []⟩] } } }), 0, 0, by decide +kernel⟩,
    ⟨WD [(SPAN_STATUS_form_state, 2)] (fun d => { d with span := { d.span with loaded := image1 } }), image1Map, by decide +kernel⟩,
    ⟨W [(SPAN_STATUS_form_state, 3)], by decide +kernel⟩,
    ⟨W [(SPAN_STATUS_form_state, 3)], by decide +kernel⟩,
    ⟨W [(DECK_SEAL_STAT_busy, 1)], by decide +kernel⟩⟩

theorem witness_AbortDiscardsTheShadow :
    (∃ (s : State) (v : Word), (Running s) ∧ (s.d.hostWaits = false) ∧ ((v.toNat % 16 = 0 ∨ v.toNat % 16 = 2) ∧ 1 ≤ s.d.formState ∧ s.d.formState ≤ 4)) ∧
    (∃ (s : State) (v : Word), (Running s) ∧ (s.d.hostWaits = false) ∧ ((v.toNat % 16 = 0 ∨ v.toNat % 16 = 2) ∧ s.d.formState = 5)) :=
  ⟨⟨M [(SPAN_STATUS_form_state, 4)] id, 0#32, by decide +kernel⟩,
    ⟨M [(SPAN_STATUS_form_state, 5)] id, 2#32, by decide +kernel⟩⟩

theorem witness_SpanCommandsAreTakenOneByOne :
    (∃ (s : State) (v : Word), (Running s) ∧ (s.d.hostWaits = false) ∧ (v.toNat % 16 ∉ [0, 1, 2, 4, 8])) ∧
    (∃ (s : State) (v : Word), (Running s) ∧ (s.d.hostWaits = false) ∧ (v.toNat % 2 = 0)) :=
  ⟨⟨W [], 0x13#32, by decide +kernel⟩,
    ⟨W [], 0x34#32, by decide +kernel⟩⟩

theorem witness_CommitAndUnformAreReleased :
    (∃ (s : State) (v : Word), (Running s) ∧ (s.d.hostWaits = false) ∧ (v.toNat % 16 = 0 ∨ v.toNat % 16 = 4)) ∧
    (∃ (s : State) (v : Word), (Running s) ∧ (s.d.hostWaits = false) ∧ ((v.toNat % 16 = 0 ∨ v.toNat % 16 = 8) ∧ s.d.inReady = true ∧ s.d.formState = 0)) ∧
    (∃ (s : State) (die : Nat) (z : Freeze), (Running s) ∧ (die < 6 ∧ s.d.span.freeze = some z)) ∧
    (∃ (s : State) (z : Freeze) (m : SpanImg) (want : Nat), (Running s) ∧ (s.d.span.freeze = some z ∧ z.unform = false ∧ want = (if s.d.span.formPartial then 0x30 else 0x3F) ∧ z.acks &&& want = want ∧ z.deferred = []) ∧ (s.d.span.shadow = some m ∧ m.initPairs s.d.span.formPartial = [])) ∧
    (∃ (s : State) (z : Freeze) (m : SpanImg) (want v : Nat), (Running s) ∧ (s.d.span.freeze = some z ∧ z.unform = false ∧ want = (if s.d.span.formPartial then 0x30 else 0x3F) ∧ z.acks &&& want = want ∧ z.deferred = []) ∧ (s.d.span.shadow = some m ∧ m.initPairs s.d.span.formPartial = [(0x10001C, v)] ∧ 20 ≤ v ∧ v < 2 ^ 32 ∧ s.d.ldg.closed = false ∧ s.d.ledgerFull = false)) ∧
    (∃ (s : State) (z : Freeze) (m : SpanImg) (want : Nat), (Running s) ∧ (s.d.span.freeze = some z ∧ z.unform = false ∧ want = (if s.d.span.formPartial then 0x30 else 0x3F) ∧ z.acks &&& want ≠ want ∧ z.deferred = []) ∧ (s.d.span.shadow = some m)) ∧
    (∃ (s : State) (z : Freeze), (Running s) ∧ (s.d.span.freeze = some z ∧ z.unform = true ∧ z.deferred = [])) :=
  ⟨⟨W [(SPAN_STATUS_form_state, 4)], 0#32, by decide +kernel⟩,
    ⟨W [], 8#32, by decide +kernel⟩,
    ⟨WD [] (modSpan fun x => { x with freeze := some ⟨false, .host, 0, 0, none, [], 0⟩ }), 5, ⟨false, .host, 0, 0, none, [], 0⟩, by decide +kernel⟩,
    ⟨WD [(SPAN_STATUS_form_state, 5)] (modSpan fun x => { x with freeze := some ⟨false, .host, 0, 0x30, none, [], 0⟩, formPartial := true, shadow := some map1 }), ⟨false, .host, 0, 0x30, none, [], 0⟩, map1, 0x30, by decide +kernel⟩,
    ⟨WD [(SPAN_STATUS_form_state, 5)] (modSpan fun x => { x with freeze := some ⟨false, .host, 0, 0x3F, none, [], 0⟩, shadow := some { map1 with recs := map1.recs ++ [mrec 12 4 [0x1C, 0, 0x10, 0, 0xF4, 1, 0, 0]] } }), ⟨false, .host, 0, 0x3F, none, [], 0⟩, { map1 with recs := map1.recs ++ [mrec 12 4 [0x1C, 0, 0x10, 0, 0xF4, 1, 0, 0]] }, 0x3F, 500, by decide +kernel⟩,
    ⟨WD [(SPAN_STATUS_form_state, 5)] (modSpan fun x => { x with freeze := some ⟨false, .host, 0, 0x3B, none, [], 0⟩, shadow := some map1 }), ⟨false, .host, 0, 0x3B, none, [], 0⟩, map1, 0x3F, by decide +kernel⟩,
    ⟨M [(SPAN_STATUS_form_state, 5)] (modSpan fun x => { x with freeze := some ⟨true, .host, 0, 0, none, [], 0⟩ }), ⟨true, .host, 0, 0, none, [], 0⟩, by decide +kernel⟩⟩

theorem witness_PierSealsAndLevel :
    (∃ (s : State) (p : Nat) (agree : Bool), (Running s) ∧ (p < 4 ∧ s.d.piersUp = true ∧ agree = false ∧ s.d.on DECK_SEAL_STAT_busy = false ∧ s.d.fb DECK_SEAL_STAT_diverged p = false)) ∧
    (∃ (s : State) (p : Nat) (agree : Bool), (Running s) ∧ (p < 4 ∧ agree = true ∧ s.d.fb DECK_SEAL_STAT_diverged p = true ∧ s.d.pierHeld p = false)) ∧
    (∃ (s : State) (p : Nat) (agree : Bool), (Running s) ∧ (p < 4 ∧ agree = false ∧ s.d.fb DECK_SEAL_STAT_diverged p = true ∧ s.d.pierHeld p = false)) ∧
    (∃ (s : State) (org : Origin) (v : Word) (x : Nat), (Running s) ∧ ((org = .host → s.d.hostWaits = false) ∧ (org = .firmware → s.d.key.fwStopped = false)) ∧ ((org = .host ∨ org = .firmware) ∧ s.d.inReady = true ∧ s.d.ledgerHolds = false ∧ x = v.toNat % 0x10000 ∧ (x = 0 ∨ 0x100 ≤ x) ∧ s.d.map.level ≤ levelOfDecl x)) ∧
    (∃ (s : State) (org : Origin) (_v : Word), (Running s) ∧ ((org = .host → s.d.hostWaits = false) ∧ (org = .firmware → s.d.key.fwStopped = false)) ∧ ((org = .host ∨ org = .firmware) ∧ s.d.inReady = true ∧ s.d.ledgerHolds = false)) ∧
    (∃ (s : State) (org : Origin) (v : Word) (x : Nat), (Running s) ∧ ((org = .host → s.d.hostWaits = false) ∧ (org = .firmware → s.d.key.fwStopped = false)) ∧ ((org = .host ∨ org = .firmware) ∧ s.d.ledgerHolds = false ∧ x = v.toNat % 0x10000 ∧ (s.d.inReady = false ∨ (0 < x ∧ x < 0x100) ∨ levelOfDecl x < s.d.map.level))) ∧
    (∃ (s : State) (org : Origin) (_v : Word), (Running s) ∧ ((org = .host → s.d.hostWaits = false) ∧ (org = .firmware → s.d.key.fwStopped = false)) ∧ ((org = .host ∨ org = .firmware) ∧ s.d.inReady = false ∧ s.d.ledgerHolds = false)) ∧
    (∃ (s : State) (p : Nat) (_up : Bool) (errBits : Nat), (Running s) ∧ (p < 4 ∧ s.d.piersUp = true ∧ errBits = 1)) ∧
    (∃ (s : State) (p : Nat) (_up : Bool) (errBits : Nat), (Running s) ∧ (p < 4 ∧ s.d.piersUp = true ∧ 1 < errBits)) :=
  ⟨⟨M [(BAY_ACTIVE_tx_active 1, 255), (BAY_ACTIVE_tx_live 1, 255)] id, 0, false, by decide +kernel⟩,
    ⟨M [(DECK_SEAL_STAT_diverged, 2)] id, 1, true, by decide +kernel⟩,
    ⟨M [(DECK_SEAL_STAT_diverged, 2), (BAY_FE_STAT_state 2, 2)] id, 1, false, by decide +kernel⟩,
    ⟨W [], .host, 0x101#32, 0x101, by decide +kernel⟩,
    ⟨W [], .host, 0x21#32, by decide +kernel⟩,
    ⟨M [] id, .host, 0x35#32, 0x35, by decide +kernel⟩,
    ⟨W [(PWR_STAT_state, 0)], .host, 0x21#32, by decide +kernel⟩,
    ⟨W [], 2, true, 1, by decide +kernel⟩,
    ⟨M [(PWR_STAT_state, 0)] id, 0, false, 3, by decide +kernel⟩⟩

theorem witness_FrontEndRequestsTakeEffect :
    (∃ (s : State) (b st : Nat), (Running s) ∧ (s.d.hostWaits = false) ∧ (b < 8 ∧ st = 3 ∧ s.d.piersUp = true ∧ s.d.bayFormed b = true)) ∧
    (∃ (s : State) (b st : Nat), (Running s) ∧ (s.d.hostWaits = false) ∧ (b < 8 ∧ st = 1 ∧ s.d.piersUp = true ∧ s.d.bayFormed b = true ∧ s.d.fe b = 0 ∧ s.d.inTransition b = false ∧ (s.d.bay b).cal = none ∧ s.d.pierHeld (b / 2) = false)) ∧
    (∃ (s : State) (b at_ : Nat), (Running s) ∧ (b < 8 ∧ (s.d.bay b).req = some (3, at_) ∧ s.d.bayFormed b = true ∧ s.d.fe b = 2 ∧ s.d.inTransition b = false ∧ (s.d.bay b).cal = none) ∧ (s.d.inActive = true ∧ s.d.piersUp = true ∧ s.d.on (BAY_FE_STAT_lo_ready b) = true ∧ s.d.pierHeld (b / 2) = false)) ∧
    (∃ (s : State) (b : Nat), (Running s) ∧ (b < 8 ∧ s.d.fe b = 0 ∧ s.d.feTarget b = 1 ∧ s.d.inTransition b = true ∧ (s.d.bay b).dest = 1)) ∧
    (∃ (s : State) (b : Nat), (Running s) ∧ (b < 8 ∧ s.d.inTransition b = true ∧ s.d.feTarget b = 4 ∧ (s.d.bay b).dest = 4)) :=
  ⟨⟨M [(BAY_FE_STAT_state 1, 2)] id, 1, 3, by decide +kernel⟩,
    ⟨M [] id, 1, 1, by decide +kernel⟩,
    ⟨M [(BAY_FE_STAT_state 1, 2), (PWR_STAT_state, 0), (BAY_FE_STAT_lo_ready 1, 1), (BAY_FE_STAT_held 1, 1)] (modBay 1 fun x => { x with req := some (3, 100) }), 1, 100, by decide +kernel⟩,
    ⟨M [(BAY_FE_STAT_target 1, 1), (BAY_FE_STAT_in_transition 1, 1)] (modBay 1 fun x => { x with dest := 1 }), 1, by decide +kernel⟩,
    ⟨M [(BAY_FE_STAT_state 1, 2), (BAY_FE_STAT_target 1, 4), (BAY_FE_STAT_in_transition 1, 1)] (modBay 1 fun x => { x with dest := 4, turnEnd := 1573 }), 1, by decide +kernel⟩⟩

theorem witness_SynthesiserLocksAndFails :
    (∃ (s : State) (b band : Nat), (Running s) ∧ (b < 8 ∧ band < 256 ∧ s.d.inLockWait b = true ∧ s.d.on (BAY_SYNTH_STAT_locked b) = false)) ∧
    (∃ (s : State) (b : Nat), (Running s) ∧ (b < 8 ∧ s.d.inLockWait b = true ∧ (s.d.bay b).dest = 2 ∧ s.d.on (BAY_SYNTH_STAT_locked b) = true ∧ s.d.on (BAY_SYNTH_STAT_aligned b) = false) ∧ (s.d.on (BAY_SYNTH_STAT_cal_busy b) = false ∧ s.d.f (BAY_FE_STAT_mute_cause b) ≠ 1)) ∧
    (∃ (s : State) (b : Nat), (Running s) ∧ (b < 8 ∧ s.d.on (BAY_SYNTH_STAT_locked b) = true ∧ 3 ≤ s.d.fe b)) ∧
    (∃ (s : State) (b at_ : Nat), (Running s) ∧ ((s.d.bay b).unlockAt = some at_)) ∧
    (∃ (s : State) (b at_ : Nat), (Running s) ∧ (b < 8 ∧ (s.d.bay b).unlockAt = some at_)) :=
  ⟨⟨M [(BAY_FE_STAT_state 1, 1), (BAY_FE_STAT_target 1, 2), (BAY_FE_STAT_in_transition 1, 1)] id, 1, 77, by decide +kernel⟩,
    ⟨M [(BAY_FE_STAT_state 1, 1), (BAY_FE_STAT_target 1, 2), (BAY_FE_STAT_in_transition 1, 1), (BAY_SYNTH_STAT_locked 1, 1)] (modBay 1 fun x => { x with dest := 2, alignAt := 500 }), 1, by decide +kernel⟩,
    ⟨M [(BAY_FE_STAT_state 1, 4), (BAY_SYNTH_STAT_locked 1, 1)] id, 1, by decide +kernel⟩,
    ⟨M [] (modBay 1 fun x => { x with unlockAt := some 5 }), 1, 5, by decide +kernel⟩,
    ⟨M [(BAY_FE_STAT_state 1, 2)] (modBay 1 fun x => { x with unlockAt := some 5 }), 1, 5, by decide +kernel⟩⟩

theorem witness_GainsAndSheds :
    (∃ (s : State) (n tx rx : Nat), (Running s) ∧ (s.d.hostWaits = false) ∧ (n < 64 ∧ tx < 64 ∧ rx < 64 ∧ s.d.piersUp = true ∧ s.d.ledgerHolds = false)) ∧
    (∃ (s : State) (n tx rx due : Nat), (Running s) ∧ (n < 64 ∧ tx < 64 ∧ rx < 64 ∧ s.d.deferred = [⟨.gain n tx rx, due⟩] ∧ s.d.txOn (bayOf n) = true)) ∧
    (∃ (s : State) (n : Nat) (symbols : List (List (Int × Int))), (Running s) ∧ (n < 64 ∧ s.d.rxOn (bayOf n) = true ∧ s.d.rxLive n = true) ∧ (∃ l ∈ symbols, max 1 (s.d.f (BAY_RX_CFG_ovl_cnt (bayOf n))) ≤ (l.filter fun x => overThr (s.d.f (BAY_RX_CFG_ovl_thr (bayOf n))) (codeMag x)).length)) ∧
    (∃ (s : State) (n cause : Nat), (Running s) ∧ (n < 64 ∧ cause = 2 ∧ s.d.fb (BAY_ACTIVE_tx_active (bayOf n)) (posOf n) = true)) ∧
    (∃ (s : State) (n us : Nat), (Running s) ∧ (n < 64 ∧ us ≤ 20 ∧ (∃ c ∈ s.d.faultsOf n, c ≠ 5))) ∧
    (∃ (s : State) (n us : Nat), (Running s) ∧ (n < 64 ∧ us ≤ 20 ∧ s.d.faultsOf n = [5])) ∧
    (∃ (s : State) (n us : Nat), (Running s) ∧ (n < 64 ∧ 20 < us ∧ s.d.faultsOf n = [5]) ∧ (∀ b < 8, ∀ x ∈ (s.d.bay b).faults, x.2.1 = 5 → b = bayOf n ∧ x.1 = posOf n)) ∧
    (∃ (s : State) (n us c k u v : Nat), (Running s) ∧ (n < 64 ∧ 20 < us ∧ (s.d.bay (bayOf n)).faults = [(posOf n, c, u), (posOf n, k, v)] ∧ c ≠ 5 ∧ k ≠ 5 ∧ u ≤ v ∧ us - (v - u) * 1000000 / secTicks ≤ 20)) ∧
    (∃ (s : State) (_c : Nat), (Running s)) ∧
    (∃ (s : State) (b tx rx : Nat), (Running s) ∧ (s.d.hostWaits = false) ∧ (b < 8 ∧ tx < 256 ∧ rx < 256 ∧ s.d.piersUp = true ∧ s.d.ledgerHolds = false)) ∧
    (∃ (s : State) (b tx rx : Nat), (Running s) ∧ (s.d.hostWaits = false) ∧ (b < 8 ∧ tx < 256 ∧ rx < 256 ∧ s.d.piersUp = true ∧ s.d.ledgerHolds = false)) ∧
    (∃ (s : State) (n persists : Nat), (Running s) ∧ (n < 64 ∧ persists = 0 ∧ s.d.inGuard (bayOf n) = true ∧ s.d.fb DECK_SEAL_STAT_diverged (pierOf n) = false ∧ s.d.pierHeld (pierOf n) = false) ∧ (s.d.txShedCause n = false ∧ s.d.fb (BAY_ACTIVE_tx_active (bayOf n)) (posOf n) = true)) ∧
    (∃ (s : State) (n dir : Nat) (x : Nat × Nat), (Running s) ∧ (n < 64 ∧ dir < 2 ∧ (s.d.chain n dir).fade = some x ∧ (s.d.chain n dir).queued = none)) :=
  ⟨⟨M [] id, 9, 23, 5, by decide +kernel⟩,
    ⟨M [(BAY_FE_STAT_state 1, 4)] (deferTo (.gain 9 23 5) 100), 9, 23, 5, 100, by decide +kernel⟩,
    ⟨M [(BAY_FE_STAT_state 1, 3), (BAY_ACTIVE_rx_live 1, 255), (BAY_RX_CFG_ovl_evt_en 1, 1), (BAY_RX_CFG_ovl_thr 1, 12), (BAY_RX_CFG_ovl_cnt 1, 2)] id, 9, [[(1, 2)], [(8000, 0), (0, -7000), (3, 4)]], by decide +kernel⟩,
    ⟨M [(BAY_ACTIVE_tx_active 1, 255), (BAY_ACTIVE_tx_live 1, 255)] id, 9, 2, by decide +kernel⟩,
    ⟨M [] (modBay 1 fun x => { x with faults := [(1, 3, 0), (1, 1, 7)] }), 9, 12, by decide +kernel⟩,
    ⟨M [] (modBay 1 fun x => { x with faults := [(1, 5, 0)] }), 9, 12, by decide +kernel⟩,
    ⟨M [] (modBay 1 fun x => { x with faults := [(1, 5, 0)] }), 9, 30, by decide +kernel⟩,
    ⟨M [] (modBay 1 fun x => { x with faults := [(1, 3, 5), (1, 1, 20000)] }), 9, 30, 3, 1, 5, 20000, by decide +kernel⟩,
    ⟨M [(BAY_ACTIVE_tx_live 1, 255)] id, 0, by decide +kernel⟩,
    ⟨M [(BAY_ACTIVE_tx_active 1, 15)] id, 1, 6, 1, by decide +kernel⟩,
    ⟨M [(BAY_SHED_tx_fault 1, 15)] id, 1, 6, 1, by decide +kernel⟩,
    ⟨M [(BAY_ACTIVE_tx_active 1, 255), (BAY_ACTIVE_tx_live 1, 253)] (modBay 1 fun x => { x with shedTx := 2 }), 9, 0, by decide +kernel⟩,
    ⟨M [] (setChain 9 0 { fade := some (0, 1) }), 9, 0, (0, 1), by decide +kernel⟩⟩

theorem witness_PredistortionActsOnItsPaths :
    (∃ (s : State) (org : Origin) (n set w : Nat) (_v : Word), (Running s) ∧ ((org = .host → s.d.hostWaits = false) ∧ (org = .firmware → s.d.key.fwStopped = false)) ∧ (org = .host ∧ n < 64 ∧ set < 2 ∧ w < 128 ∧ s.d.piersUp = true ∧ s.d.map.modelled n = true ∧ s.d.setBusy n set = false ∧ s.d.dpdHw = false)) ∧
    (∃ (s : State) (n set : Nat), (Running s) ∧ (s.d.hostWaits = false) ∧ (n < 64 ∧ set < 2 ∧ s.d.piersUp = true ∧ s.d.map.modelled n = true ∧ s.d.on (BAY_OBS_STAT_exp_busy (bayOf n)) = false)) ∧
    (∃ (s : State) (b k set : Nat), (Running s) ∧ (b < 8 ∧ k < 8 ∧ set < 2 ∧ (s.d.obsSt b).exp = some (k, set) ∧ s.d.loopExpansion b (8 * b + k) = none)) ∧
    (∃ (s : State) (n : Nat), (Running s) ∧ (s.d.hostWaits = false) ∧ (n < 64 ∧ s.d.piersUp = true ∧ s.d.dpdState n = 5 ∧ s.d.map.modelled n = true ∧ s.d.on (BAY_DPD_dpd_en (bayOf n) (posOf n)) = true ∧ s.d.dpdHw = true ∧ s.d.fb SPAN_ADAPT_MODE_pending 0 = false)) ∧
    (∃ (s : State) (b : Nat) (r : CapResult) (c : CapRun), (Running s) ∧ (b < 8 ∧ (s.d.obsSt b).cap = some c ∧ c.slot < 4 ∧ captureStatus c ((captureEnd b s.d).capSamples b c r) = 0)) ∧
    (∃ (s : State) (b : Nat) (r : CapResult) (c : CapRun), (Running s) ∧ (b < 8 ∧ (s.d.obsSt b).cap = some c ∧ c.slot < 4 ∧ captureStatus c ((captureEnd b s.d).capSamples b c r) ≠ 0)) ∧
    (∃ (s : State) (e _result j at_ l n set : Nat) (r : FitResult) (trap : Bool), (Running s) ∧ (e < 16 ∧ (s.d.eng e).run = some ⟨j, at_, trap, some 1⟩ ∧ s.d.descByte j 2 = 0 ∧ s.d.serves e = some l ∧ (s.d.assigned l 6).testBit (bayOf n) = true ∧ r.path = n ∧ n < 64 ∧ set = s.d.dpdSpare n) ∧ (s.d.dpdHw = true ∧ s.d.fb SPAN_ADAPT_MODE_pending 0 = false ∧ s.d.dpdState n ≠ 5 ∧ s.d.setBusy n set = false ∧ (s.d.map.neighbours n).length ≤ 4 ∧ r.da ≠ [] ∧ r.g ≠ (0, 0) ∧ r.errPow ≠ 0 ∧ r.sigPow ≠ 0)) ∧
    (∃ (s : State) (n at_ x : Nat), (Running s) ∧ (n < 64 ∧ (s.d.dpdSt n).revertAt = some at_ ∧ (s.d.dpdSt n).held = some x ∧ x < 2 ∧ (s.d.dpdSt n).revertRun < 2)) ∧
    (∃ (s : State) (n : Nat), (Running s) ∧ (n < 64 ∧ s.d.on (BAY_DPD_verify (bayOf n) (posOf n)) = true ∧ (s.d.dpdSt n).revertAt = none)) ∧
    (∃ (s : State) (n : Nat), (Running s) ∧ (n < 64 ∧ s.d.dpdHw = true ∧ s.d.dpdState n = 3 ∧ s.d.fe (bayOf n) = 4 ∧ s.d.inTransition (bayOf n) = false)) :=
  ⟨⟨M [(SPAN_ADAPT_MODE_dpd_mode, 1)] id, .host, 9, 1, 8, 0x12345#32, by decide +kernel⟩,
    ⟨M [] id, 9, 1, by decide +kernel⟩,
    ⟨M [] (modObs 1 fun x => { x with exp := some (1, 0) }), 1, 1, 0, by decide +kernel⟩,
    ⟨M [(BAY_DPD_state 1 1, 5), (BAY_DPD_dpd_en 1 1, 1), (BAY_GAIN_tx_att 1 1, 12)] (modDpd 9 fun x => { x with fbAdded := 6 }), 9, by decide +kernel⟩,
    ⟨M [(BAY_FE_STAT_state 1, 4), (BAY_ACTIVE_tx_live 1, 255), (BAY_OBS_STAT_busy 1, 1), (BAY_DPD_linear 1 1, 0)] (fun d => modObs 1 (fun x => { x with cap := some cap1 }) { d with sig := { d.sig with caps := [(1, { x := List.replicate 1024 0 })] } }), 1, ⟨false, []⟩, cap1, by decide +kernel⟩,
    ⟨M [(BAY_FE_STAT_state 1, 4), (BAY_ACTIVE_tx_live 1, 255), (BAY_OBS_STAT_busy 1, 1), (BAY_DPD_linear 1 1, 0)] (modObs 1 fun x => { x with cap := some cap1 }), 1, ⟨true, []⟩, cap1, by decide +kernel⟩,
    ⟨J [(TRUSS_ENG_STAT_logical 1, 1), (TRUSS_ENG_STAT_state 1, 2)] (fun d => d |> setDescWord 128 0 0 |> setEng 1 { run := some ⟨128, 5, false, some 1⟩ }), 1, 99, 128, 5, 1, 9, 0, ⟨9, (8192, -100), [(300, -200), (5, 7)], 10, 1000⟩, false, by decide +kernel⟩,
    ⟨M [(BAY_DPD_in_force 1 1, 1)] (modDpd 9 fun x => { x with revertAt := some 100, held := some 0 }), 9, 100, 0, by decide +kernel⟩,
    ⟨M [(BAY_DPD_verify 1 1, 1)] id, 9, by decide +kernel⟩,
    ⟨M [(BAY_DPD_state 1 1, 3), (BAY_FE_STAT_state 1, 4)] id, 9, by decide +kernel⟩⟩

theorem witness_BeamCommandsActOnTheGirders :
    (∃ (s : State) (org : Origin) (e j : Nat) (_v : Word), (Running s) ∧ ((org = .host → s.d.hostWaits = false) ∧ (org = .firmware → s.d.key.fwStopped = false)) ∧ (org = .host ∧ e < 4096 ∧ j < 63 ∧ s.d.gir.stageEntry = some e)) ∧
    (∃ (s : State) (org : Origin) (e j u : Nat) (_v : Word), (Running s) ∧ ((org = .host → s.d.hostWaits = false) ∧ (org = .firmware → s.d.key.fwStopped = false)) ∧ (org = .host ∧ e < 4096 ∧ j = 63 ∧ u < 2 ^ 32 ∧ s.d.gir.stageEntry = some e ∧ s.d.gir.stage = [(62, u)])) ∧
    (∃ (s : State) (org : Origin) (off : Nat) (_v : Word), (Running s) ∧ ((org = .host → s.d.hostWaits = false) ∧ (org = .firmware → s.d.key.fwStopped = false)) ∧ (org = .host ∧ off < 0x13C ∧ off % 4 = 0)) ∧
    (∃ (s : State) (org : Origin) (off k : Nat) (_v : Word), (Running s) ∧ ((org = .host → s.d.hostWaits = false) ∧ (org = .firmware → s.d.key.fwStopped = false)) ∧ (org = .host ∧ off = 0x13C ∧ k = smGet 0 0 s.d.gir.port % 65536 ∧ k < 1024)) ∧
    (∃ (s : State) (e : Nat), (Running s) ∧ (s.d.hostWaits = false) ∧ (e < 4096 ∧ Clean s (cbAddr e 0) 32)) ∧
    (∃ (s : State) (c frame slot sym : Nat) (at_ : Int), (Running s) ∧ ((s.d.map.carrier c).isSome = true ∧ at_ = s.d.symInstant (s.d.grid15 c) frame slot sym ∧ s.d.span.freeze = none)) ∧
    (∃ (s : State) (c _frame _slot _sym : Nat), (Running s) ∧ ((s.d.map.carrier c).isSome = true ∧ s.d.span.freeze.isSome = true)) ∧
    (∃ (s : State) (c : Nat), (Running s) ∧ (c < 6)) ∧
    (∃ (s : State) (org : Origin) (p i set : Nat) (_v : Word), (Running s) ∧ ((org = .host → s.d.hostWaits = false) ∧ (org = .firmware → s.d.key.fwStopped = false)) ∧ (org = .host ∧ p < 4 ∧ i < 16 ∧ set < 2 ∧ s.d.piersUp = true ∧ ofBool (s.d.fb (PIER_RAIL_SEL_in_force p) i) ≠ set ∧ s.d.fb (PIER_RAIL_SEL_loading p) i = false)) ∧
    (∃ (s : State) (n w at_ x : Nat), (Running s) ∧ (n < 64 ∧ w < 2 ^ 32 ∧ x < 2 ∧ s.d.gir.loads = [⟨at_, x, [(n, w)]⟩])) :=
  ⟨⟨WD [] (modGir fun g => { g with stageEntry := some 5, stage := [(3, 9)] }), .host, 5, 3, 77#32, by decide +kernel⟩,
    ⟨WD [] (modGir fun g => { g with stageEntry := some 5, stage := [(62, 9)] }), .host, 5, 63, 9, 77#32, by decide +kernel⟩,
    ⟨W [], .host, 8, 77#32, by decide +kernel⟩,
    ⟨WD [] (modGir fun g => { g with port := [(0, 7)] }), .host, 0x13C, 7, 77#32, by decide +kernel⟩,
    ⟨W [(GIRDER_CB_INVAL_invalid 0, 32)], 5, by decide +kernel⟩,
    ⟨M [] id, 0, 0, 3, 0, 1474560, by decide +kernel⟩,
    ⟨M [] (modSpan fun x => { x with freeze := some ⟨false, .host, 0, 0, none, [], 0⟩ }), 0, 0, 3, 0, by decide +kernel⟩,
    ⟨M [] id, 0, by decide +kernel⟩,
    ⟨M [] id, .host, 2, 9, 1, 0x12345678#32, by decide +kernel⟩,
    ⟨WD [] (modGir fun g => { g with loads := [⟨5, 1, [(9, 0x12345678)]⟩] }), 9, 0x12345678, 5, 1, by decide +kernel⟩⟩

theorem witness_LanesMoveThroughTheirStates :
    (∃ (s : State) (l : Nat), (Running s) ∧ (l < 4 ∧ s.d.lane l = 1 ∧ s.d.rxRest l = false)) ∧
    (∃ (s : State) (l : Nat), (Running s) ∧ (l < 4 ∧ s.d.lane l = 3 ∧ s.d.rxRest l = false ∧ s.d.on (LINK_LANE_STAT_sig_det l) = true)) ∧
    (∃ (s : State) (l : Nat), (Running s) ∧ (l < 4 ∧ s.d.lane l = 5 ∧ s.d.rxRest l = false)) ∧
    (∃ (s : State) (l : Nat), (Running s) ∧ (l < 4 ∧ s.d.lane l = 1 ∧ s.d.rxRest l = false ∧ s.d.on (LINK_LANE_STAT_sig_det l) = false)) ∧
    (∃ (s : State) (l : Nat), (Running s) ∧ (l < 4 ∧ s.d.lane l = 2 ∧ s.d.rxRest l = false)) ∧
    (∃ (s : State) (l : Nat), (Running s) ∧ (l < 4 ∧ s.d.lane l = 3 ∧ s.d.rxRest l = false)) ∧
    (∃ (s : State) (l : Nat) (merit : Int) (_eq : Nat), (Running s) ∧ (l < 4 ∧ s.d.lane l = 3 ∧ s.d.rxRest l = false ∧ s.d.meritMin ≤ merit ∧ merit < 32768 ∧ s.d.on SPAN_ADAPT_MODE_lane_mode = false)) ∧
    (∃ (s : State) (l : Nat), (Running s) ∧ (l < 4 ∧ s.d.lane l = 4 ∧ s.d.rxRest l = false)) ∧
    (∃ (s : State) (org : Origin) (l : Nat) (v : Word), (Running s) ∧ ((org = .host → s.d.hostWaits = false) ∧ (org = .firmware → s.d.key.fwStopped = false)) ∧ (org = .host ∧ l < 4 ∧ txeqGood v.toNat = true ∧ s.d.ledgerHolds = false)) :=
  ⟨⟨W [(LINK_LANE_STAT_state 1, 1)], 1, by decide +kernel⟩,
    ⟨W [(LINK_LANE_STAT_state 1, 3), (LINK_LANE_STAT_sig_det 1, 1)], 1, by decide +kernel⟩,
    ⟨W [(LINK_LANE_STAT_state 1, 5), (LINK_LANE_STAT_cdr_lock 1, 1), (LINK_PORT_STAT_state 0, 3)], 1, by decide +kernel⟩,
    ⟨W [(LINK_LANE_STAT_state 1, 1)], 1, by decide +kernel⟩,
    ⟨W [(LINK_LANE_STAT_state 1, 2), (LINK_LANE_STAT_backoff 1, 2)], 1, by decide +kernel⟩,
    ⟨W [(LINK_LANE_STAT_state 1, 3)], 1, by decide +kernel⟩,
    ⟨W [(LINK_LANE_STAT_state 1, 3)], 1, 180, 0x01020304, by decide +kernel⟩,
    ⟨W [(LINK_LANE_STAT_state 1, 4)], 1, by decide +kernel⟩,
    ⟨W [], .host, 2, 0xFC78FC00#32, by decide +kernel⟩⟩

theorem witness_PortsAlignFailOverAndReturn :
    (∃ (s : State) (p rx tx : Nat), (Running s) ∧ (p < 2 ∧ 320 ≤ rx ∧ rx ≤ 4000 ∧ 320 ≤ tx ∧ tx ≤ 4000 ∧ s.d.port p = 2)) ∧
    (∃ (s : State) (p : Nat), (Running s) ∧ (p < 2 ∧ s.d.port p = 2 ∧ s.d.f (LINK_PORT_STAT_attempts p) < 2 ∧ s.d.lane (2 * p) = 5 ∧ s.d.lane (2 * p + 1) = 5 ∧ s.d.portRest p = false)) ∧
    (∃ (s : State) (p n _corr : Nat), (Running s) ∧ (p < 2 ∧ s.d.portUp p = true ∧ 8 ≤ n)) ∧
    (∃ (s : State) (p : Nat), (Running s) ∧ (p < 2 ∧ s.d.portUp p = true)) ∧
    (∃ (s : State) (_ns o : Nat), (Running s) ∧ (o < 2 ∧ s.d.link.moveTo = some o ∧ s.d.portUp o = true)) ∧
    (∃ (s : State) (at_ : Nat), (Running s) ∧ (s.d.link.holdAt = some at_ ∧ s.d.now ≤ at_ + usTicks (100000 * s.d.map.hold))) ∧
    (∃ (s : State) (at_ : Nat), (Running s) ∧ (s.d.link.failbackAt = some at_ ∧ s.d.moved = true ∧ s.d.arrangementUp = true)) ∧
    (∃ (s : State), (Running s) ∧ (s.d.hostWaits = false) ∧ (s.d.portUp 0 = true ∧ s.d.portUp 1 = true ∧ s.d.moved = true ∧ s.d.link.failbackAt = none ∧ s.d.map.revert = false)) ∧
    (∃ (s : State) (p : Nat), (Running s) ∧ (s.d.hostWaits = false) ∧ (p < 2 ∧ s.d.carries p = false ∧ s.d.lane (2 * p) = 5 ∧ s.d.lane (2 * p + 1) = 5 ∧ s.d.portRest p = false)) ∧
    (∃ (s : State) (_v : Word), (Running s) ∧ (s.d.hostWaits = false) ∧ (s.d.carries 0 = false ∧ s.d.carries 1 = false)) :=
  ⟨⟨W [(LINK_PORT_STAT_state 1, 2)], 1, 320, 4000, by decide +kernel⟩,
    ⟨W [(LINK_PORT_STAT_state 1, 2), (LINK_LANE_STAT_state 2, 5), (LINK_LANE_STAT_state 3, 5)], 1, by decide +kernel⟩,
    ⟨W [(LINK_PORT_STAT_state 1, 3)], 1, 9, 70000, by decide +kernel⟩,
    ⟨W [(LINK_PORT_STAT_state 1, 3)], 1, by decide +kernel⟩,
    ⟨WD [(LINK_PORT_STAT_state 1, 3)] (modLink fun k => { k with moveTo := some 1, carry := some 3 }), 9000, 1, by decide +kernel⟩,
    ⟨M [] (modLink fun k => { k with holdAt := some 7, carry := some 1 }), 7, by decide +kernel⟩,
    ⟨M [(LINK_PORT_STAT_state 0, 3), (LINK_PORT_STAT_state 1, 3)] (modLink fun k => { k with failbackAt := some 7, carry := some 1 }), 7, by decide +kernel⟩,
    ⟨M [(LINK_PORT_STAT_state 0, 3), (LINK_PORT_STAT_state 1, 3)] (modLink fun k => { k with carry := some 1 }), by decide +kernel⟩,
    ⟨W [(LINK_PORT_STAT_state 1, 3), (LINK_LANE_STAT_state 2, 5), (LINK_LANE_STAT_state 3, 5)], 1, by decide +kernel⟩,
    ⟨W [], 0x0C05#32, by decide +kernel⟩⟩

theorem witness_LinkMessagesTakeEffect :
    (∃ (s : State) (f : XkFrame) (m : XkMsg) (g : Nat) (l : List Nat) (at_ : Int), (Running s) ∧ (s.d.xkOpen 0x40 [1] f = .message m ∧ be m.body 0 4 % 8192 = 1 ∧ bits (be m.body 0 4) 21 17 ≤ 19 ∧ bits (be m.body 0 4) 16 13 ≤ 13) ∧ (l = m.body.drop 4 ∧ l.getD 1 0 = 0 ∧ l.length = 12 + be l 10 2 ∧ g < 320 ∧ s.d.flowOf 0 m.stream = some g ∧ 2 ≤ s.d.flowState g ∧ s.d.sectionGood g (l.take 12) = true ∧ s.d.slotGood g (bits (be m.body 0 4) 21 17) = true) ∧ (at_ = s.d.symInstant (s.d.grid15 (match s.d.map.get 7 g with | some r => r.b 1 | none => 0)) (bits (be m.body 0 4) 31 22) (bits (be m.body 0 4) 21 17) (bits (be m.body 0 4) 16 13)) ∧ (245760 ≤ at_ - s.d.now ∧ at_ - s.d.now ≤ 491520)) ∧
    (∃ (s : State) (f : XkFrame) (m : XkMsg) (g : Nat) (r : SpanRec) (at_ : Int), (Running s) ∧ (s.d.xkOpen 0x41 [1] f = .message m ∧ s.d.flowOf 1 (be m.body 0 2) = some g ∧ s.d.flowState g = 2 ∧ s.d.map.get 7 g = some r) ∧ (m.body.length = 12 + 2 * r.b 3 ∧ be m.body 2 2 ≤ 1023 ∧ m.body.getD 4 0 < s.d.slotsOf (r.b 1) ∧ m.body.getD 5 0 ≤ 13 ∧ 1 ≤ m.body.getD 6 0 ∧ m.body.getD 6 0 ≤ 14 - m.body.getD 5 0 ∧ m.body.getD 7 0 = 0) ∧ (be m.body 8 2 < s.d.map.nRb (r.b 1) ∧ 1 ≤ be m.body 10 2 ∧ be m.body 10 2 ≤ s.d.map.nRb (r.b 1) - be m.body 8 2) ∧ (at_ = s.d.symInstant (s.d.grid15 (r.b 1)) (be m.body 2 2) (m.body.getD 4 0) (m.body.getD 5 0) ∧ 245760 ≤ at_ - s.d.now ∧ at_ - s.d.now ≤ 9830400 ∧ s.d.xk.plans.length < 2048)) ∧
    (∃ (s : State) (f : XkFrame) (m : XkMsg), (Running s) ∧ (s.d.xkOpen 0x41 [2] f = .message m ∧ m.body.length = 320 ∧ m.body.getD 2 0 ≤ 5 ∧ m.body.getD 3 0 = 0 ∧ (∀ x ∈ (m.body.drop 8).take 56, x = 0) ∧ be m.body 0 2 < 1024 ∧ s.d.on (modeFld 2) = true)) ∧
    (∃ (s : State) (c frame slot sym : Nat) (_rx : List UlSamples) (at_ : Int), (Running s) ∧ (c < 6 ∧ s.d.span.freeze = none ∧ (s.d.map.carrier c).isSome = true ∧ at_ = s.d.symInstant (s.d.grid15 c) frame slot sym)) ∧
    (∃ (s : State) (c frame slot sym f port : Nat) (_rx : List UlSamples) (at_ ends : Int) (r : SpanRec), (Running s) ∧ (c < 6 ∧ s.d.span.freeze = none ∧ (s.d.map.carrier c).isSome = true ∧ at_ = s.d.symInstant (s.d.grid15 c) frame slot sym ∧ ends = s.d.symInstant (s.d.grid15 c) frame slot (sym + 1)) ∧ (((List.range 320).filter fun g => match s.d.map.get 7 g with | some x => x.b 0 == 1 && x.b 1 == c | none => false) = [f] ∧ s.d.map.get 7 f = some r ∧ s.d.ulWay f r = some (true, port) ∧ port < 2)) ∧
    (∃ (s : State) (f : Nat) (x : TxFrame), (Running s) ∧ (f < 320 ∧ s.d.link.txqA = [x] ∧ x.flow = some f ∧ s.d.link.txqB = [] ∧ s.d.lastSig 31 = 0)) ∧
    (∃ (s : State) (f : XkFrame) (turn : Nat) (m : XkMsg), (Running s) ∧ (s.d.xkOpen 0x42 [1] f = .message m ∧ f.port < 2 ∧ turn ≤ 98304 ∧ m.body.length = 8)) ∧
    (∃ (s : State) (f : XkFrame) (waiting : Nat) (m : XkMsg) (off : Nat), (Running s) ∧ (s.d.xkOpen 0x43 [1] f = .message m ∧ f.port < 2 ∧ waiting < 8 ∧ s.d.xk.mgmt = [] ∧ m.body.getD 2 0 = 1 ∧ m.body.getD 3 0 = 0 ∧ m.body.length = 12 ∧ off = be m.body 4 4 ∧ be m.body 8 4 = 0 ∧ s.d.mgmtStatus false off = 0) ∧ ((∀ a, sramOf off = some a → s.blk.mem.bad a = false ∧ s.blk.mem.flipped a = 0))) ∧
    (∃ (s : State) (f : XkFrame) (waiting : Nat) (m : XkMsg) (off a : Nat), (Running s) ∧ (s.d.xkOpen 0x43 [1] f = .message m ∧ f.port < 2 ∧ waiting < 8 ∧ s.d.xk.mgmt = [] ∧ m.body.getD 2 0 = 1 ∧ m.body.getD 3 0 = 0 ∧ m.body.length = 12 ∧ off = be m.body 4 4 ∧ be m.body 8 4 = 0 ∧ s.d.mgmtStatus false off = 0) ∧ (sramOf off = some a ∧ s.blk.mem.poisoned a = true ∧ s.d.holdsUsed a = false)) ∧
    (∃ (s : State) (f : XkFrame) (waiting : Nat) (m : XkMsg) (off : Nat), (Running s) ∧ (s.d.xkOpen 0x43 [2] f = .message m ∧ f.port < 2 ∧ waiting < 8 ∧ s.d.xk.mgmt = [] ∧ m.body.getD 2 0 = 1 ∧ m.body.getD 3 0 = 0 ∧ m.body.length = 12 ∧ off = be m.body 4 4 ∧ s.d.mgmtStatus true off = 0 ∧ s.d.ledgerHolds = false)) ∧
    (∃ (s : State) (f : XkFrame) (waiting : Nat) (m : XkMsg) (off : Nat), (Running s) ∧ (s.d.xkOpen 0x43 [2] f = .message m ∧ f.port < 2 ∧ waiting < 8 ∧ s.d.xk.mgmt = [] ∧ m.body.getD 2 0 = 1 ∧ m.body.getD 3 0 = 0 ∧ m.body.length = 12 ∧ off = be m.body 4 4 ∧ s.d.mgmtStatus true off = 0 ∧ governedOff off = true ∧ s.d.ledgerHolds = true)) :=
  ⟨⟨X [] id, xf 0x40 1 1 ([0, 1, 0x40, 1, 0, 0, 0, 0, 0, 1, 0, 5, 1, 0, 0, 28] ++ List.replicate 28 0), xkMsg (xf 0x40 1 1 ([0, 1, 0x40, 1, 0, 0, 0, 0, 0, 1, 0, 5, 1, 0, 0, 28] ++ List.replicate 28 0)), 0, [0, 0, 0, 0, 0, 1, 0, 5, 1, 0, 0, 28] ++ List.replicate 28 0, 351232, by decide +kernel⟩,
    ⟨X [] id, xf 0x41 1 0 [0, 1, 0, 0, 3, 2, 4, 0, 0, 0, 0, 20, 0, 5, 0, 6], xkMsg (xf 0x41 1 0 [0, 1, 0, 0, 3, 2, 4, 0, 0, 0, 0, 20, 0, 5, 0, 6]), 1, mrec 7 1 [1, 0, 0, 2, 1, 0], 1545216, by decide +kernel⟩,
    ⟨X [(SPAN_ADAPT_MODE_ulw_mode, 1)] id, xf 0x41 2 0 (List.replicate 320 0), xkMsg (xf 0x41 2 0 (List.replicate 320 0)), by decide +kernel⟩,
    ⟨X [(BAY_ACTIVE_rx_live 1, 255)] id, 0, 0, 3, 2, [⟨8, List.replicate 80 (0, 0) ++ List.replicate 40 (30000, -20000)⟩, ⟨9, []⟩], (X [(BAY_ACTIVE_rx_live 1, 255)] id).d.symInstant ((X [(BAY_ACTIVE_rx_live 1, 255)] id).d.grid15 0) 0 3 2, by decide +kernel⟩,
    ⟨X [(BAY_ACTIVE_rx_live 1, 255), (LINK_XK_CFG_mtu, 1500)] (modXk fun x => { x with plans := [⟨1, 0, 3, 2, 1, 0, 5, [5, 6], 99999999⟩] }), 0, 0, 3, 2, 1, 0, [], (X [] id).d.symInstant false 0 3 2, (X [] id).d.symInstant false 0 3 3, mrec 7 1 [1, 0, 0, 2, 1, 0], by decide +kernel⟩,
    ⟨X [] (modLink fun k => { k with txqA := [⟨some 1, 0, 0, 0, [], 900, false⟩] }), 1, ⟨some 1, 0, 0, 0, [], 900, false⟩, by decide +kernel⟩,
    ⟨X [] id, xf 0x42 1 0 [1, 2, 3, 4, 5, 6, 7, 8], 700, xkMsg (xf 0x42 1 0 [1, 2, 3, 4, 5, 6, 7, 8]), by decide +kernel⟩,
    ⟨X [(LINK_XK_CFG_mgmt, 1)] id, xf 0x43 1 0 [9, 8, 1, 0, 0, 0x50, 0, 0x18, 0, 0, 0, 0], 0, xkMsg (xf 0x43 1 0 [9, 8, 1, 0, 0, 0x50, 0, 0x18, 0, 0, 0, 0]), 0x500018, by decide +kernel⟩,
    ⟨(X [(LINK_XK_CFG_mgmt, 1)] id).act (onMem fun m => m.setPoison 0x3A80000 true), xf 0x43 1 0 [9, 8, 1, 0, 0, 0x38, 0, 0, 0, 0, 0, 0], 0, xkMsg (xf 0x43 1 0 [9, 8, 1, 0, 0, 0x38, 0, 0, 0, 0, 0, 0]), 0x380000, 0x3A80000, by decide +kernel⟩,
    ⟨X [(LINK_XK_CFG_mgmt, 2)] id, xf 0x43 2 0 [9, 8, 1, 0, 0, 0x50, 2, 4, 0xFC, 0x78, 0xFC, 0], 0, xkMsg (xf 0x43 2 0 [9, 8, 1, 0, 0, 0x50, 2, 4, 0xFC, 0x78, 0xFC, 0]), 0x500204, by decide +kernel⟩,
    ⟨X [(LINK_XK_CFG_mgmt, 2)] (modLdg fun l => { l with closed := true }), xf 0x43 2 0 [9, 8, 1, 0, 0, 0x50, 2, 4, 0xFC, 0x78, 0xFC, 0], 0, xkMsg (xf 0x43 2 0 [9, 8, 1, 0, 0, 0x50, 2, 4, 0xFC, 0x78, 0xFC, 0]), 0x500204, by decide +kernel⟩⟩

theorem witness_LinkUpkeepTakesEffect :
    (∃ (s : State), (Running s) ∧ (s.d.famVer 0x42 ≠ 0 ∧ s.d.upPorts = [0] ∧ s.d.xk.owed ≠ 0)) ∧
    (∃ (s : State), (Running s) ∧ (s.d.famVer 0x42 ≠ 0 ∧ s.d.upPorts = [0, 1] ∧ s.d.xk.owed ≠ 0)) ∧
    (∃ (s : State), (Running s) ∧ (s.d.xk.owed = 0)) ∧
    (∃ (s : State) (u : Dev), (Running s) ∧ (s.d.pwr ≠ 3 ∧ s.d.upPorts = [0] ∧ u = (if s.d.t.tick = 0 then s.d else passTo s.d.nextFrame s.d))) ∧
    (∃ (s : State) (f : XkFrame) (m : XkMsg), (Running s) ∧ (s.d.xkOpen 0x44 [1, 3] f = .message m ∧ peerBodyGood m = true)) ∧
    (∃ (s : State) (f : XkFrame) (m : XkMsg), (Running s) ∧ (s.d.xkOpen 0x44 [1, 3] f = .message m ∧ peerBodyGood m = false)) ∧
    (∃ (s : State), (Running s) ∧ (s.d.f LINK_XK_CFG_peer_to ≠ 0 ∧ s.d.portUp 0 = true ∧ s.d.on LINK_XK_STAT_peer_silent = false)) ∧
    (∃ (s : State) (f : XkFrame) (m : XkMsg) (n : Nat), (Running s) ∧ (s.d.xkOpen 0x44 [2] f = .message m ∧ n = m.body.getD 0 0 ∧ 1 ≤ n ∧ n ≤ 16 ∧ m.body.length = 1 + 4 * n ∧ (∀ i < n, m.body.getD (4 + 4 * i) 0 = 0 ∧ 0x40 ≤ m.body.getD (1 + 4 * i) 0 ∧ m.body.getD (1 + 4 * i) 0 ≤ 0x44))) ∧
    (∃ (s : State), (Running s) ∧ (s.d.f LINK_XK_STAT_caps = 1 ∧ s.d.upPorts = [0])) ∧
    (∃ (s : State) (r : CapsResult), (Running s) ∧ (s.d.xk.result = some r)) :=
  ⟨⟨X [] (modXk fun x => { x with owed := 1 }), by decide +kernel⟩,
    ⟨X [(LINK_PORT_STAT_state 1, 3)] (modXk fun x => { x with owed := 1 }), by decide +kernel⟩,
    ⟨X [] id, by decide +kernel⟩,
    ⟨X [] id, (X [] id).d, by decide +kernel⟩,
    ⟨X [] id, xf 0x44 1 0 (List.replicate 68 0), xkMsg (xf 0x44 1 0 (List.replicate 68 0)), by decide +kernel⟩,
    ⟨X [] id, xf 0x44 1 0 [1], xkMsg (xf 0x44 1 0 [1]), by decide +kernel⟩,
    ⟨X [(LINK_XK_CFG_peer_to, 50)] id, by decide +kernel⟩,
    ⟨X [] id, xf 0x44 2 0 [1, 0x44, 1, 0, 0], xkMsg (xf 0x44 2 0 [1, 0x44, 1, 0, 0]), 1, by decide +kernel⟩,
    ⟨X [(LINK_XK_STAT_caps, 1)] id, by decide +kernel⟩,
    ⟨X [] (modXk fun x => { x with result := some ⟨[(1, 1), (1, 0), (0, 0), (1, 0), (1, 0)], 7, 500, true⟩ }), ⟨[(1, 1), (1, 0), (0, 0), (1, 0), (1, 0)], 7, 500, true⟩, by decide +kernel⟩⟩

theorem witness_JobsRunThroughTheEngines :
    (∃ (s : State) (eng desc : Nat), (Running s) ∧ (s.d.hostWaits = false) ∧ (eng < 16 ∧ desc < 256 ∧ s.d.jobCheck .host eng desc = 0 ∧ s.d.tr.mig = [])) ∧
    (∃ (s : State) (eng desc : Nat), (Running s) ∧ (eng < 16 ∧ desc < 256 ∧ s.d.jobCheck .firmware eng desc = 0 ∧ s.d.tr.mig = [] ∧ s.d.key.fwStopped = false)) ∧
    (∃ (s : State) (org : Origin) (j w : Nat) (_v : Word), (Running s) ∧ ((org = .host → s.d.hostWaits = false) ∧ (org = .firmware → s.d.key.fwStopped = false)) ∧ (org = .host ∧ 128 ≤ j ∧ j < 256 ∧ w < 16 ∧ s.d.descBusy j = false)) ∧
    (∃ (s : State) (e j a n : Nat) (q : List Nat), (Running s) ∧ (e < 16 ∧ (s.d.eng e).run = none ∧ (s.d.eng e).queue = j :: q ∧ s.d.engState e = 1 ∧ a = s.d.descWord j 2 ∧ n = s.d.descWord j 3 / 4 ∧ n ≤ 65536) ∧ (Clean s (a / 8 * 8) ((a + 4 * n + 7) / 8 - a / 8))) ∧
    (∃ (s : State) (e _result : Nat) (_fit : Option FitResult) (j at_ st : Nat) (trap : Bool), (Running s) ∧ (e < 16 ∧ (s.d.eng e).run = some ⟨j, at_, trap, some st⟩ ∧ st < 16)) ∧
    (∃ (s : State) (e : Nat) (r : RunJob), (Running s) ∧ (e < 16 ∧ (s.d.eng e).run = some r)) ∧
    (∃ (s : State) (e _cause : Nat), (Running s) ∧ (e < 16 ∧ s.d.engState e ≠ 0 ∧ s.d.engState e ≠ 4)) ∧
    (∃ (s : State) (e : Nat), (Running s) ∧ (e < 16 ∧ s.d.engState e = 2)) ∧
    (∃ (s : State) (m : Mig) (r : List Mig), (Running s) ∧ (s.d.tr.mig = m :: r ∧ m.logical < 16 ∧ m.spare < 16)) ∧
    (∃ (s : State) (e : Nat), (Running s) ∧ (s.d.hostWaits = false) ∧ (e < 16 ∧ s.d.inReady = true ∧ s.d.engState e = 4)) ∧
    (∃ (s : State) (e : Nat) (pass : Bool), (Running s) ∧ (e < 16 ∧ s.d.tr.reinst.testBit e = true ∧ pass = true)) ∧
    (∃ (s : State) (_dir : List TrussProg) (major minor : Nat) (dst : Nat × Nat), (Running s) ∧ (dst = s.d.key.matched.getD 2 (0, 0) ∧ Clean s dst.1 (dst.2 / 8) ∧ major < 256 ∧ minor < 256) ∧ (sha256 (s.blk.read8 dst.1 (dst.2 / 8)) = (match (s.d.key.active.getD {}).parts.find? fun p => p.ty == 3 with | some p => p.hash | none => []))) :=
  ⟨⟨J [] id, 14, 128, by decide +kernel⟩,
    ⟨J [] id, 14, 128, by decide +kernel⟩,
    ⟨J [] id, .host, 128, 2, 0x1234#32, by decide +kernel⟩,
    ⟨J [] (fun d => d |> setEng 14 { queue := [128] } |> setDescWord 128 2 0x2000000 |> setDescWord 128 3 16), 14, 128, 0x2000000, 4, [], by decide +kernel⟩,
    ⟨J [] (setEng 14 { run := some ⟨128, 5, false, some 1⟩ }), 14, 99, none, 128, 5, 1, false, by decide +kernel⟩,
    ⟨J [] (setEng 14 { run := some ⟨128, 5, false, none⟩ }), 14, ⟨128, 5, false, none⟩, by decide +kernel⟩,
    ⟨J [] (setEng 14 { run := some ⟨128, 5, false, none⟩ }), 14, 2, by decide +kernel⟩,
    ⟨J [(TRUSS_ENG_STAT_state 14, 2)] (setEng 14 { run := some ⟨128, 5, false, none⟩ }), 14, by decide +kernel⟩,
    ⟨J [] (modTr fun x => { x with mig := [⟨14, 15, 500, [128]⟩] }), ⟨14, 15, 500, [128]⟩, [], by decide +kernel⟩,
    ⟨J [(TRUSS_ENG_STAT_state 14, 4)] id, 14, by decide +kernel⟩,
    ⟨J [(TRUSS_ENG_STAT_state 14, 4), (TRUSS_ENG_STAT_fault_cause 14, 2)] (modTr fun x => { x with reinst := 0x4001 }), 14, true, by decide +kernel⟩,
    ⟨J [] (modKey fun k => { k with active := some { parts := [⟨3, 0, 0, 0, sha256 []⟩] } }), [⟨0, 3, 0, false⟩], 2, 3, (0, 0), by decide +kernel⟩⟩

theorem witness_MultiplyAccumulateOperations :
    (∃ (s : State) (e i x y : Nat) (o : TBun), (Running s) ∧ (Issues s e o ∧ (s.d.eng e).limit = [] ∧ (∀ k < 32, InAcc (cadd ((s.d.eng e).acc i k) (cmul (comps ((s.d.eng e).vec x k)) (comps ((s.d.eng e).vec y k))))))) ∧
    (∃ (s : State) (e i _x _y : Nat) (o : TBun), (Running s) ∧ (Issues s e o ∧ e < 16 ∧ i < 4 ∧ (s.d.eng e).limit = [] ∧ (s.d.eng e).run.map (·.trap) = some false)) ∧
    (∃ (s : State) (e i x y k : Nat) (o : TBun), (Running s) ∧ (Issues s e o ∧ i < 4 ∧ k < 32 ∧ (s.d.eng e).run.map (·.trap) = some false ∧ 64 * i + 2 * k ∈ (s.d.eng e).limit ∧ 64 * i + 2 * k + 1 ∉ (s.d.eng e).limit) ∧ (accMin ≤ (cadd ((s.d.eng e).acc i k) (cmul (comps ((s.d.eng e).vec x k)) (comps ((s.d.eng e).vec y k)))).2 ∧ (cadd ((s.d.eng e).acc i k) (cmul (comps ((s.d.eng e).vec x k)) (comps ((s.d.eng e).vec y k)))).2 ≤ accMax)) ∧
    (∃ (s : State) (e i x y k : Nat) (o : TBun), (Running s) ∧ (Issues s e o ∧ o.last = true ∧ k < 32 ∧ (s.d.eng e).limit = [] ∧ (s.d.eng e).run.map (·.trap) = some true ∧ s.d.lastSig 98 = 0) ∧ (¬ InAcc (cadd ((s.d.eng e).acc i k) (cmul (comps ((s.d.eng e).vec x k)) (comps ((s.d.eng e).vec y k)))))) ∧
    (∃ (s : State) (e i x y : Nat) (o : TBun), (Running s) ∧ (Issues s e o ∧ (s.d.eng e).limit = [] ∧ (∀ k < 32, InAcc (cadd ((s.d.eng e).acc i k) (cmulConj (comps ((s.d.eng e).vec x k)) (comps ((s.d.eng e).vec y k))))))) ∧
    (∃ (s : State) (e i x w : Nat) (o : TBun), (Running s) ∧ (Issues s e o ∧ (s.d.eng e).limit = [] ∧ w = smGet 0 (((s.d.eng e).agOf 2).fold.1.addr 0) (s.d.eng e).lm ∧ (∀ k < 32, InAcc (cadd ((s.d.eng e).acc i k) (cmul (comps ((s.d.eng e).vec x k)) (comps w)))))) ∧
    (∃ (s : State) (e _i _x _y : Nat) (o : TBun), (Running s) ∧ (Issues s e o)) ∧
    (∃ (s : State) (e _i : Nat) (o : TBun), (Running s) ∧ (Issues s e o)) ∧
    (∃ (s : State) (e _i sh : Nat) (_bx : Bool) (o : TBun), (Running s) ∧ (Issues s e o ∧ sh < 40 ∧ ((s.d.eng e).agOf 3).circ = false)) ∧
    (∃ (s : State) (e _i sh : Nat) (_bx : Bool) (o : TBun), (Running s) ∧ (Issues s e o ∧ sh < 40)) ∧
    (∃ (s : State) (e _i sh : Nat) (_bx : Bool) (o : TBun), (Running s) ∧ (Issues s e o ∧ sh < 40 ∧ ((s.d.eng e).agOf 3).circ = false)) ∧
    (∃ (s : State) (e _i sh : Nat) (_bx : Bool) (o : TBun), (Running s) ∧ (Issues s e o ∧ sh < 40)) :=
  ⟨⟨E (fun x => { x with v := [(32, 0x20003), (64, 0x50007)], a := [(64, (9, 9))] }), 3, 2, 1, 2, ⟨0, true⟩, by decide +kernel⟩,
    ⟨E (fun x => { x with v := [(32, 3), (64, 7)], a := [(64, (accMax, accMin))] }), 3, 2, 1, 2, ⟨0, true⟩, by decide +kernel⟩,
    ⟨E (fun x => { x with v := [(32, 0x20003), (64, 0x50007)], a := [(64, (accMax, 9))], limit := [128] }), 3, 2, 1, 2, 0, ⟨0, true⟩, by decide +kernel⟩,
    ⟨E (fun x => { x with v := [(32, 3), (64, 7)], a := [(64, (accMax, 9))], run := some ⟨3, 0, true, none⟩ }), 3, 2, 1, 2, 0, ⟨0, true⟩, by decide +kernel⟩,
    ⟨E (fun x => { x with v := [(32, 0x20003), (64, 0x50007)], a := [(64, (9, 9))] }), 3, 2, 1, 2, ⟨0, true⟩, by decide +kernel⟩,
    ⟨E (fun x => { x with v := [(32, 0x20003)], lm := [(70, 5)], ag := [(2, { ptr := 70, off := 1 })], a := [(64, (9, 9))] }), 3, 2, 1, 5, ⟨0, true⟩, by decide +kernel⟩,
    ⟨E (fun x => { x with v := [(32, 0x20003), (64, 0x50007)], a := [(64, (9, 9))], limit := [128] }), 3, 2, 1, 2, ⟨0, true⟩, by decide +kernel⟩,
    ⟨E (fun x => { x with a := [(64, (9, 9))], limit := [128], sat := 4 }), 3, 2, ⟨0, true⟩, by decide +kernel⟩,
    ⟨E (fun x => { x with a := [(64, (90000, -3))] }), 3, 2, 1, true, ⟨0, true⟩, by decide +kernel⟩,
    ⟨E (fun x => { x with a := [(64, (900, -3))], bx := 9 }), 3, 2, 1, true, ⟨0, true⟩, by decide +kernel⟩,
    ⟨E (fun x => { x with a := [(64, (90000, -3))] }), 3, 2, 1, true, ⟨0, true⟩, by decide +kernel⟩,
    ⟨E (fun x => { x with a := [(64, (90000, -3))], bx := 9 }), 3, 2, 1, true, ⟨0, true⟩, by decide +kernel⟩⟩

theorem witness_VectorAndScalarOperations :
    (∃ (s : State) (e _r x y : Nat) (o : TBun), (Running s) ∧ (Issues s e o ∧ (∀ k < 32, Native (cadd (comps ((s.d.eng e).vec x k)) (comps ((s.d.eng e).vec y k)))))) ∧
    (∃ (s : State) (e _r x y : Nat) (o : TBun), (Running s) ∧ (Issues s e o ∧ (∀ k < 32, Native (vSub (comps ((s.d.eng e).vec x k)) (comps ((s.d.eng e).vec y k)))))) ∧
    (∃ (s : State) (e _i _x _y : Nat) (o : TBun), (Running s) ∧ (Issues s e o ∧ (s.d.eng e).limit = [])) ∧
    (∃ (s : State) (e _r x : Nat) (o : TBun), (Running s) ∧ (Issues s e o ∧ (∀ k < 32, Native (conj (comps ((s.d.eng e).vec x k)))))) ∧
    (∃ (s : State) (e _r _x _sh : Nat) (o : TBun), (Running s) ∧ (Issues s e o)) ∧
    (∃ (s : State) (e _i _x : Nat) (o : TBun), (Running s) ∧ (Issues s e o ∧ (s.d.eng e).limit = [])) ∧
    (∃ (s : State) (e _r _x _y : Nat) (o : TBun), (Running s) ∧ (Issues s e o)) ∧
    (∃ (s : State) (e _r _x _y : Nat) (o : TBun), (Running s) ∧ (Issues s e o)) ∧
    (∃ (s : State) (e _i _r : Nat) (o : TBun), (Running s) ∧ (Issues s e o)) ∧
    (∃ (s : State) (e _r i : Nat) (o : TBun), (Running s) ∧ (Issues s e o ∧ (∀ k < 32, InAcc ((s.d.eng e).acc i k)))) ∧
    (∃ (s : State) (e _r : Nat) (o : TBun), (Running s) ∧ (Issues s e o)) ∧
    (∃ (s : State) (e : Nat) (o : TBun), (Running s) ∧ (Issues s e o)) ∧
    (∃ (s : State) (e _r : Nat) (o : TBun), (Running s) ∧ (Issues s e o ∧ o.last = true)) ∧
    (∃ (s : State) (e _r x : Nat) (o : TBun), (Running s) ∧ (s.d.acts e o.stg = true ∧ o.last = false ∧ (s.d.eng e).cyc < smGet 0 ((s.d.eng e).reg x) (s.d.eng e).ready)) ∧
    (∃ (s : State) (e _r : Nat) (o : TBun), (Running s) ∧ (Issues s e o)) ∧
    (∃ (s : State) (e _r : Nat) (o : TBun), (Running s) ∧ (Issues s e o)) ∧
    (∃ (s : State) (e _r : Nat) (o : TBun), (Running s) ∧ (Issues s e o)) ∧
    (∃ (s : State) (e _r : Nat) (o : TBun), (Running s) ∧ (Issues s e o)) :=
  ⟨⟨E (fun x => { x with v := [(32, 0x20003), (64, 0x5FFF7)] }), 3, 2, 1, 2, ⟨0, true⟩, by decide +kernel⟩,
    ⟨E (fun x => { x with v := [(32, 0x20003), (64, 0x5FFF7)] }), 3, 2, 1, 2, ⟨0, true⟩, by decide +kernel⟩,
    ⟨E (fun x => { x with v := [(32, 0x20003), (64, 0x5FFF7)] }), 3, 2, 1, 2, ⟨0, true⟩, by decide +kernel⟩,
    ⟨E (fun x => { x with v := [(32, 0x20003), (64, 0x5FFF7)] }), 3, 2, 1, ⟨0, true⟩, by decide +kernel⟩,
    ⟨E (fun x => { x with v := [(32, 0xFFF20003), (64, 0x5FFF7)] }), 3, 2, 1, 2, ⟨0, true⟩, by decide +kernel⟩,
    ⟨E (fun x => { x with v := [(32, 0xFFF20003)] }), 3, 2, 1, ⟨0, true⟩, by decide +kernel⟩,
    ⟨E (fun x => { x with v := [(32, 0x20003), (64, 0x5FFF7)] }), 3, 2, 1, 2, ⟨0, true⟩, by decide +kernel⟩,
    ⟨E (fun x => { x with v := [(32, 0x20003), (64, 0x5FFF7)] }), 3, 2, 1, 2, ⟨0, true⟩, by decide +kernel⟩,
    ⟨E (fun x => { x with a := [(64, (90000, -3))] }), 3, 2, 1, ⟨0, true⟩, by decide +kernel⟩,
    ⟨E (fun x => { x with a := [(64, (90000, -3))] }), 3, 5, 2, ⟨0, true⟩, by decide +kernel⟩,
    ⟨E (fun x => { x with bx := 7 }), 3, 5, ⟨0, true⟩, by decide +kernel⟩,
    ⟨E (fun x => { x with bx := 7 }), 3, ⟨0, true⟩, by decide +kernel⟩,
    ⟨E (fun x => { x with lm := [(70, 5)], ag := [(0, { ptr := 70, off := 1 })] }), 3, 1, ⟨0, true⟩, by decide +kernel⟩,
    ⟨E (fun x => { x with ready := [(1, 3)], cyc := 1 }), 3, 2, 1, ⟨0, false⟩, by decide +kernel⟩,
    ⟨E (fun x => { x with lm := [(70, 5)], ag := [(0, { ptr := 70, off := 1 })] }), 3, 1, ⟨0, true⟩, by decide +kernel⟩,
    ⟨E (fun x => { x with lm := [(70, 5)], ag := [(1, { ptr := 70, off := 1 })] }), 3, 1, ⟨0, true⟩, by decide +kernel⟩,
    ⟨E (fun x => { x with lm := [(70, 5)], ag := [(2, { ptr := 70, off := 1 })] }), 3, 1, ⟨0, true⟩, by decide +kernel⟩,
    ⟨E (fun x => { x with lm := [(70, 5)], ag := [(2, { ptr := 70, off := 1 })] }), 3, 1, ⟨0, true⟩, by decide +kernel⟩⟩

theorem witness_ControlAndPortOperations :
    (∃ (s : State) (e _g : Nat) (f : AgField) (v : Int) (o : TBun), (Running s) ∧ (Issues s e o ∧ 0 ≤ v ∧ v < 65536 ∧ f ≠ .rrsize)) ∧
    (∃ (s : State) (e _g : Nat) (f : AgField) (v : Int) (o : TBun), (Running s) ∧ (Issues s e o ∧ f = .offset ∧ -65536 ≤ v ∧ v < 65536)) ∧
    (∃ (s : State) (e _g : Nat) (f : AgField) (v : Int) (o : TBun), (Running s) ∧ (Issues s e o ∧ o.last = true ∧ f = .rrsize ∧ 8 ≤ v ∧ v ≤ 64 ∧ v % 8 = 0)) ∧
    (∃ (s : State) (e _g : Nat) (_v : Int) (o : TBun), (Running s) ∧ (Issues s e o)) ∧
    (∃ (s : State) (e n _start _after : Nat) (o : TBun), (Running s) ∧ (Issues s e o ∧ 0 < n ∧ (s.d.eng e).loops.length < 4)) ∧
    (∃ (s : State) (e n _start _after : Nat) (o : TBun), (Running s) ∧ (Issues s e o ∧ 0 < n ∧ (s.d.eng e).loops.length < 4)) ∧
    (∃ (s : State) (e n _stages _start _after : Nat) (o : TBun), (Running s) ∧ (Issues s e o ∧ 0 < n ∧ (s.d.eng e).loops.length < 4)) ∧
    (∃ (s : State) (e : Nat) (f : LoopFr) (r : List LoopFr), (Running s) ∧ (s.d.runsJob e = true ∧ (s.d.eng e).ags = [] ∧ (s.d.eng e).trap = false ∧ (s.d.eng e).loops = f :: r ∧ f.pass + 1 < (if f.kind = 2 then f.n + f.stages - 1 else f.n))) ∧
    (∃ (s : State) (e _target : Nat) (o : TBun), (Running s) ∧ (Issues s e o)) ∧
    (∃ (s : State) (e _target _ret : Nat) (o : TBun), (Running s) ∧ (Issues s e o)) ∧
    (∃ (s : State) (e r : Nat) (c : List Nat) (o : TBun), (Running s) ∧ (Issues s e o ∧ (s.d.eng e).calls = r :: c)) ∧
    (∃ (s : State) (e : Nat) (o : TBun), (Running s) ∧ (Issues s e o)) ∧
    (∃ (s : State) (e _l a n : Nat) (o : TBun), (Running s) ∧ (Issues s e o ∧ a % 4 = 0 ∧ n ≤ 65536 ∧ Clean s (a / 8 * 8) ((a + 4 * n + 7) / 8 - a / 8))) ∧
    (∃ (s : State) (e _l a n : Nat) (o : TBun), (Running s) ∧ (Issues s e o ∧ n = 1 ∧ a % 4 = 0 ∧ a < 0x4000000 ∧ s.d.protects a 4 = false ∧ s.d.mp.merge = [])) ∧
    (∃ (s : State) (e n set w _l : Nat) (o : TBun), (Running s) ∧ (Issues s e o ∧ n < 64 ∧ set < 2 ∧ w < 128 ∧ s.d.piersUp = true ∧ s.d.map.modelled n = true ∧ s.d.setBusy n set = false ∧ s.d.dpdHw = true ∧ s.d.dpdState n ≠ 5 ∧ 0 < w ∧ w < 8 * (12 + (s.d.map.neighbours n).length))) ∧
    (∃ (s : State) (e k _carrier _frame _slot _sym _l x base n : Nat) (o : TBun), (Running s) ∧ (Issues s e o ∧ s.d.serves e = some x ∧ (s.d.assigned x 0).testBit 2 = true ∧ base = s.d.assigned x 2 + 256 * s.d.assigned x 3 ∧ n = s.d.assigned x 4 + 256 * s.d.assigned x 5 ∧ base ≤ k ∧ k < base + n)) ∧
    (∃ (s : State) (e : Nat) (o : TBun), (Running s) ∧ (Issues s e o)) :=
  ⟨⟨E id, 3, 2, .length, 4096, ⟨0, true⟩, by decide +kernel⟩,
    ⟨E id, 3, 2, .offset, -64, ⟨0, true⟩, by decide +kernel⟩,
    ⟨E id, 3, 2, .rrsize, 24, ⟨0, true⟩, by decide +kernel⟩,
    ⟨E (fun x => { x with ag := [(2, { ptr := 70, off := 1 })] }), 3, 2, -64, ⟨0, true⟩, by decide +kernel⟩,
    ⟨E id, 3, 9, 20, 30, ⟨0, true⟩, by decide +kernel⟩,
    ⟨E id, 3, 9, 20, 30, ⟨0, true⟩, by decide +kernel⟩,
    ⟨E id, 3, 9, 4, 20, 30, ⟨0, true⟩, by decide +kernel⟩,
    ⟨E (fun x => { x with loops := [⟨2, 2, 4, 3, 20, 30⟩] }), 3, ⟨2, 2, 4, 3, 20, 30⟩, [], by decide +kernel⟩,
    ⟨E id, 3, 50, ⟨0, true⟩, by decide +kernel⟩,
    ⟨E id, 3, 50, 7, ⟨0, true⟩, by decide +kernel⟩,
    ⟨E (fun x => { x with calls := [7] }), 3, 7, [], ⟨0, true⟩, by decide +kernel⟩,
    ⟨E id, 3, ⟨0, true⟩, by decide +kernel⟩,
    ⟨E id, 3, 40, 0x2000000, 3, ⟨0, true⟩, by decide +kernel⟩,
    ⟨E (fun x => { x with lm := [(40, 77)] }), 3, 40, 0x2000004, 1, ⟨0, true⟩, by decide +kernel⟩,
    ⟨E (fun x => { x with lm := [(40, 77)] }), 3, 9, 1, 8, 40, ⟨0, true⟩, by decide +kernel⟩,
    ⟨J [(TRUSS_ENG_STAT_state 9, 2), (TRUSS_ENG_STAT_logical 9, 9)] (setEng 9 { run := some ⟨128, 0, false, none⟩ }), 9, 300, 0, 0, 3, 0, 40, 9, 256, 256, ⟨0, true⟩, by decide +kernel⟩,
    ⟨E id, 3, ⟨0, true⟩, by decide +kernel⟩⟩

theorem witness_CalibrationRunsAndResults :
    (∃ (s : State) (b : Nat) (r : CalRun), (Running s) ∧ (b < 8 ∧ (s.d.bay b).cal = some r ∧ r.kind ≠ 1 ∧ (∀ p ∈ r.pairs, s.d.kindLive p.1 p.2 = true) ∧ (∀ x ∈ s.d.tt, x.2.feOf b = true → x.2.due ≠ r.until_))) ∧
    (∃ (s : State) (b n k : Nat) (r : CalRun), (Running s) ∧ (b < 8 ∧ (s.d.bay b).cal = some r ∧ r.pairs = [(n, k)] ∧ n < 64 ∧ 1 ≤ k ∧ k ≤ 8 ∧ s.d.kindLive n k = false ∧ (s.d.calPath n).pend.testBit (k - 1) = false ∧ (∀ x ∈ s.d.tt, x.2.feOf b = true → x.2.due ≠ r.until_))) ∧
    (∃ (s : State) (b : Nat) (r : CalRun), (Running s) ∧ (b < 8 ∧ (s.d.bay b).cal = some r ∧ r.kind = 1 ∧ (∀ x ∈ s.d.tt, x.2.feOf b = true → x.2.due ≠ r.until_))) ∧
    (∃ (s : State) (b n : Nat) (_ref : CalMeas) (o : CalOutcome) (a : CalAwait) (l : List CalAwait), (Running s) ∧ (b < 8 ∧ n / 8 = b ∧ s.d.classServed 1 = true ∧ (s.d.calBay b).awaits = a :: l ∧ a.host = false ∧ a.bad = false ∧ a.pairs = [(n, o.kind)] ∧ 2 ≤ o.kind ∧ o.kind ≤ 6 ∧ o.path = n) ∧ (precondMet o.kind o.pre = true ∧ levelsMet o.kind o.pre o.post = true ∧ s.d.trimGood n o.kind o.trim o.band (5 * signed 16 a.temp) = true)) ∧
    (∃ (s : State) (b n v : Nat) (ref : CalMeas) (o : CalOutcome) (a : CalAwait) (l : List CalAwait), (Running s) ∧ (b < 8 ∧ n / 8 = b ∧ s.d.classServed 1 = true ∧ (s.d.calBay b).awaits = a :: l ∧ a.host = false ∧ a.bad = false ∧ a.pairs = [(n, o.kind)] ∧ (o.kind = 7 ∨ o.kind = 8) ∧ o.path = n) ∧ (precondMet o.kind o.pre = true ∧ levelsMet o.kind o.pre o.post = true ∧ arrayTrim (s.d.trim false n (kindWord o.kind)) (relResp o.meas ref) (s.d.gainTarget b o.kind [(n, (relResp o.meas ref).mag)]) = some v ∧ s.d.trimGood n o.kind v o.band (5 * signed 16 a.temp) = true)) ∧
    (∃ (s : State) (b n : Nat) (_ref : CalMeas) (o : CalOutcome) (a : CalAwait) (l : List CalAwait), (Running s) ∧ (b < 8 ∧ n / 8 = b ∧ s.d.classServed 1 = true ∧ (s.d.calBay b).awaits = a :: l ∧ a.pairs = [(n, o.kind)] ∧ 2 ≤ o.kind ∧ o.kind ≤ 8 ∧ o.path = n ∧ (a.bad = true ∨ precondMet o.kind o.pre = false))) ∧
    (∃ (s : State) (b n k : Nat), (Running s) ∧ (b < 8 ∧ n / 8 = b ∧ 2 ≤ k ∧ k ≤ 8 ∧ s.d.inGuard b = true ∧ (s.d.calPath n).pend = kindBit k ∧ s.d.trim true n (kindWord k) = smGet 0 k (s.d.calPath n).pvals ∧ (s.d.calBay b).syn = none ∧ (∀ i < 8, 8 * b + i ≠ n → (s.d.calPath (8 * b + i)).pend = 0))) ∧
    (∃ (s : State) (b k kind : Nat), (Running s) ∧ (s.d.hostWaits = false) ∧ (b < 8 ∧ k < 8 ∧ 2 ≤ kind ∧ kind ≤ 8 ∧ s.d.calHost = true ∧ s.d.piersUp = true ∧ trimRange kind (s.d.trim true (8 * b + k) (kindWord kind)) = true) ∧ (s.d.trimChange (8 * b + k) kind (s.d.trim true (8 * b + k) (kindWord kind)) 0 ((smGet none kind (s.d.calPath (8 * b + k)).ptemps).getD (s.d.bayTemp b)) = true)) ∧
    (∃ (s : State) (b k kind : Nat), (Running s) ∧ (s.d.hostWaits = false) ∧ (b < 8 ∧ k < 8 ∧ 2 ≤ kind ∧ kind ≤ 8 ∧ s.d.calHost = true ∧ s.d.piersUp = true ∧ trimRange kind (s.d.trim true (8 * b + k) (kindWord kind)) = false)) ∧
    (∃ (s : State) (n kind at_ : Nat), (Running s) ∧ (n < 64 ∧ 1 ≤ kind ∧ kind ≤ 8 ∧ smGet 0 kind (s.d.calPath n).failAt = at_ + 1)) ∧
    (∃ (s : State) (b base : Nat) (k : Nat × Nat), (Running s) ∧ (b < 8 ∧ (s.d.calBay b).recDue = true ∧ (s.d.calBay b).recAt = 0 ∧ s.d.key.fwStopped = false ∧ s.d.key.storeAbsent = false ∧ s.d.bayFormed b = true) ∧ (base = calRecBase b (s.blk.calCombo b) ∧ k = (s.blk.calMem b).recNext 2 base 0x1000 2)) :=
  ⟨⟨M [(BAY_FE_STAT_state 1, 5), (BAY_CAL_STAT_running 1, 1), (BAY_ACTIVE_tx_live 1, 255)] (modBay 1 fun x => { x with cal := some ⟨7, [(8, 7), (9, 7)], 0, 900, false, 0, 40, false, 3, 80⟩ }), 1, ⟨7, [(8, 7), (9, 7)], 0, 900, false, 0, 40, false, 3, 80⟩, by decide +kernel⟩,
    ⟨M [(BAY_FE_STAT_state 1, 5), (BAY_CAL_STAT_running 1, 1)] (modBay 1 fun x => { x with cal := some ⟨7, [(9, 7)], 0, 900, false, 0, 40, false, 3, 80⟩ }), 1, 9, 7, ⟨7, [(9, 7)], 0, 900, false, 0, 40, false, 3, 80⟩, by decide +kernel⟩,
    ⟨M [(BAY_FE_STAT_state 1, 2), (BAY_CAL_STAT_running 1, 1), (BAY_SYNTH_STAT_cal_busy 1, 1)] (modBay 1 fun x => { x with cal := some ⟨1, [(8, 1)], 0, 900, false, 0, 40, false, 3, 80⟩ }), 1, ⟨1, [(8, 1)], 0, 900, false, 0, 40, false, 3, 80⟩, by decide +kernel⟩,
    ⟨J [(TRUSS_ENG_STAT_logical 3, 3), (TRUSS_ENG_STAT_state 3, 1)] (modCalBay 1 fun x => { x with awaits := [⟨3, [(9, 3)], false, 0, 40, false, 3, 80, 900, none⟩] }), 1, 9, ⟨0, 0, 0⟩, ⟨9, 3, [-700], [5], 77, 0, ⟨0, 0, 0⟩, []⟩, ⟨3, [(9, 3)], false, 0, 40, false, 3, 80, 900, none⟩, [], by decide +kernel⟩,
    ⟨J [(TRUSS_ENG_STAT_logical 3, 3), (TRUSS_ENG_STAT_state 3, 1)] (modCalBay 1 fun x => { x with awaits := [⟨8, [(9, 8)], false, 0, 40, false, 3, 80, 900, none⟩] }), 1, 9, 0x010003FD, ⟨10, 2, 5⟩, ⟨9, 8, [-600, -600], [0], 0, 0, ⟨30, 5, 4⟩, []⟩, ⟨8, [(9, 8)], false, 0, 40, false, 3, 80, 900, none⟩, [], by decide +kernel⟩,
    ⟨J [(TRUSS_ENG_STAT_logical 3, 3), (TRUSS_ENG_STAT_state 3, 1)] (modCalBay 1 fun x => { x with awaits := [⟨3, [(9, 3)], false, 0, 40, false, 3, 80, 900, none⟩] }), 1, 9, ⟨0, 0, 0⟩, ⟨9, 3, [-500], [5], 77, 0, ⟨0, 0, 0⟩, []⟩, ⟨3, [(9, 3)], false, 0, 40, false, 3, 80, 900, none⟩, [], by decide +kernel⟩,
    ⟨M [(TRIM_AB_PEND_a 1 1 4, 33)] (modCalPath 9 fun x => { x with pend := 4, pvals := [(3, 33)] }), 1, 9, 3, by decide +kernel⟩,
    ⟨M [(SPAN_ADAPT_MODE_acal_mode, 1), (TRIM_AB_PEND_a 1 1 4, 33)] id, 1, 1, 3, by decide +kernel⟩,
    ⟨M [(SPAN_ADAPT_MODE_acal_mode, 1), (TRIM_AB_PEND_a 1 1 4, 300)] id, 1, 1, 3, by decide +kernel⟩,
    ⟨M [] (modCalPath 9 fun x => { x with failAt := [(3, 8)] }), 9, 3, 7, by decide +kernel⟩,
    ⟨M [] (modCalBay 1 fun x => { x with recDue := true }), 1, 0x160000, (0, 1), by decide +kernel⟩⟩

theorem witness_TheKeystoneBoots :
    (∃ (s : State) (_lost : Nat), (Up s) ∧ (s.d.stage = 0 ∧ s.d.on MEM_STAT_init_done = false ∧ s.d.key.cause ≠ 1)) ∧
    (∃ (s : State) (_present : Bool), (Up s) ∧ (s.d.stage = 1)) ∧
    (∃ (s : State), (Up s) ∧ (s.d.hostWaits = false) ∧ (s.d.stage = 2)) ∧
    (∃ (s : State) (table : List Nat) (images : List (List Nat)) (busErr : Option Nat) (_conv : List (List Nat)) (m : ManInfo), (Up s) ∧ (s.d.stage = 3 ∧ s.d.host.d3hot = false ∧ s.d.host.busMaster = true ∧ busErr = none ∧ offerForm table = none ∧ table.getD 5 0 = 1 ∧ s.d.key.active = some m) ∧ (offerFails m ((List.range (table.getD 4 0)).map (offerEnt table)) images = none)) ∧
    (∃ (s : State) (ok : Bool) (_conv : List (List Nat)) (p : ManInfo) (k seq : Nat), (Up s) ∧ (s.d.stage = 4 ∧ ok = true ∧ s.d.key.pending = some p ∧ k = (if s.d.on KEY_STATUS_active_valid then 1 - s.d.f KEY_STATUS_active_slot else 0) ∧ s.blk.mem.sle (slotBase 2 + 8) 4 ≤ 0xFFF8) ∧ (seq = max ((s.blk.mem.slotSeq 0).getD 0) ((s.blk.mem.slotSeq 1).getD 0) + 1 ∧ seq < 0xFFFFFFFF ∧ s.blk.mem.sbytes (slotBase k + 0xFFF8) 8 = List.replicate 8 255)) ∧
    (∃ (s : State) (khz : Nat), (Up s) ∧ (s.d.running = true ∧ 95 * 122880 ≤ 100 * khz ∧ 100 * khz ≤ 105 * 122880)) :=
  ⟨⟨{ W [(KEY_STATUS_stage, 0)] with blk := { (W [(KEY_STATUS_stage, 0)]).blk with mem := { sram := [(0x123456, 7)] } } }, 0, by decide +kernel⟩,
    ⟨W [(KEY_STATUS_stage, 1)], false, by decide +kernel⟩,
    ⟨W [(KEY_STATUS_stage, 2)], by decide +kernel⟩,
    ⟨WD [(KEY_STATUS_stage, 3)] (fun d => { d with host := { d.host with busMaster := true }, key := { d.key with active := some man1 } }), [0x4C, 0x4D, 0x4F, 0x46, 1, 1] ++ List.replicate 10 0 ++ [1] ++ List.replicate 31 0, [[]], none, [], man1, by decide +kernel⟩,
    ⟨{ WD [(KEY_STATUS_stage, 4)] (modKey fun x => { x with pending := some man1 }) with blk := { (WD [(KEY_STATUS_stage, 4)] (modKey fun x => { x with pending := some man1 })).blk with mem := { store := [(0x20008, 0), (0x20009, 0), (0x2000A, 0), (0x2000B, 0)] } } }, true, [], man1, 0, 1, by decide +kernel⟩,
    ⟨W [(KEY_STATUS_refclk_wait, 1)], 122881, by decide +kernel⟩⟩

theorem witness_StagingOtpAndAttestation :
    (∃ (s : State) (org : Origin), (Up s) ∧ ((org = .host → s.d.hostWaits = false) ∧ (org = .firmware → s.d.key.fwStopped = false)) ∧ (org = .host ∧ s.d.stagingBusy 1 = false)) ∧
    (∃ (s : State) (org : Origin) (off : Nat) (_v : Word), (Up s) ∧ ((org = .host → s.d.hostWaits = false) ∧ (org = .firmware → s.d.key.fwStopped = false)) ∧ (org = .host ∧ off < 65528 ∧ off % 4 = 0 ∧ s.d.stagingBusy 1 = false ∧ s.d.f KEY_STAGE_session = 1 ∧ s.d.f KEY_STAGE_owner = 1)) ∧
    (∃ (s : State) (org : Origin), (Up s) ∧ ((org = .host → s.d.hostWaits = false) ∧ (org = .firmware → s.d.key.fwStopped = false)) ∧ (org = .host ∧ s.d.stagingBusy 1 = false ∧ s.d.f KEY_STAGE_session = 1)) ∧
    (∃ (s : State) (ok : Bool) (i : ManInfo), (Up s) ∧ (ok = true ∧ s.d.key.committing = some i ∧ ofLe ((List.range 4).map fun j => smGet 0 (8 + j) s.d.key.buf) ≤ 65528 ∧ s.blk.mem.sbytes (slotBase 2 + 0xFFF8) 8 = List.replicate 8 255)) ∧
    (∃ (s : State) (org : Origin), (Up s) ∧ ((org = .host → s.d.hostWaits = false) ∧ (org = .firmware → s.d.key.fwStopped = false)) ∧ (org = .host ∧ s.d.stagingBusy 1 = false ∧ s.d.f KEY_STAGE_session = 1)) ∧
    (∃ (s : State) (org : Origin), (Up s) ∧ ((org = .host → s.d.hostWaits = false) ∧ (org = .firmware → s.d.key.fwStopped = false)) ∧ (org = .host ∧ s.d.stagingBusy 1 = false ∧ s.d.f KEY_STAGE_session = 0)) ∧
    (∃ (s : State) (r : SvcReq), (Up s) ∧ (2 ≤ s.d.stage ∧ s.d.svc.req = some r ∧ r.ty = 0x15)) ∧
    (∃ (s : State), (Up s) ∧ (s.d.f KEY_STAGE_session = 1)) ∧
    (∃ (s : State) (k : Nat), (Up s) ∧ (s.d.hostWaits = false) ∧ (k < 4 ∧ 2 ≤ k ∧ (s.d.slot k).state = 0 ∧ s.d.running = true ∧ s.d.inReady = true ∧ s.d.on KEY_OTP_CMD_busy = false ∧ s.d.otpWindow = 0)) ∧
    (∃ (s : State) (k o : Nat), (Up s) ∧ (s.d.hostWaits = false) ∧ (k < 4 ∧ o = k / 2 * 2 + (1 - k % 2) ∧ (s.d.slot o).state = 1 ∧ (∃ a, s.d.key.active = some a ∧ (a.vendorBy / 2 = k / 2 → a.vendorBy = o) ∧ (a.manifestBy / 2 = k / 2 → a.manifestBy = o)) ∧ s.d.running = true ∧ s.d.inReady = true ∧ s.d.on KEY_OTP_CMD_busy = false ∧ s.d.otpWindow = 0)) ∧
    (∃ (s : State) (words k : Nat), (Up s) ∧ (s.d.running = true ∧ s.d.key.otpOp = some (1, k) ∧ 9 ≤ words)) ∧
    (∃ (s : State) (good : Bool), (Up s) ∧ (good = true ∧ s.d.running = true ∧ s.d.on KEY_STATUS_attest_ready = false ∧ s.d.f KEY_ATT_STAT_cause = 0 ∧ s.d.f KEY_ATT_STAT_used = 0 ∧ s.d.otp.blocks < 128 ∧ s.d.key.storeAbsent = false ∧ s.blk.mem.recNewest 4 attBase 0x1000 12 = none ∧ nodesGood s.d.otp.hssKey [] = false ∧ s.d.otpWindow = 0)) ∧
    (∃ (s : State) (_good : Bool), (Up s) ∧ (s.d.running = true ∧ s.d.f KEY_ATT_STAT_cause = 4)) ∧
    (∃ (s : State), (Up s) ∧ (s.d.hostWaits = false) ∧ (s.d.on KEY_STATUS_attest_ready = true ∧ s.d.key.building = none)) ∧
    (∃ (s : State) (l : List Nat), (Up s) ∧ (s.d.running = true ∧ s.d.key.building = some l)) :=
  ⟨⟨W [], .host, by decide +kernel⟩,
    ⟨W [(KEY_STAGE_session, 1), (KEY_STAGE_owner, 1)], .host, 8, 0x12345678#32, by decide +kernel⟩,
    ⟨W [(KEY_STAGE_session, 1), (KEY_STAGE_owner, 1)], .host, by decide +kernel⟩,
    ⟨WD [(KEY_STAGE_session, 2), (KEY_STAGE_owner, 1)] (modKey fun x => { x with committing := some man1 }), true, man1, by decide +kernel⟩,
    ⟨W [(KEY_STAGE_session, 1), (KEY_STAGE_owner, 1)], .host, by decide +kernel⟩,
    ⟨W [(KEY_STATUS_staging, 1)], .host, by decide +kernel⟩,
    ⟨WD [] (modSvc fun x => { x with req := some { ty := 0x15, tag := 9, payload := [] } }), { ty := 0x15, tag := 9, payload := [] }, by decide +kernel⟩,
    ⟨W [(KEY_STAGE_session, 1), (KEY_STAGE_owner, 2)], by decide +kernel⟩,
    ⟨KW [] id, 2, by decide +kernel⟩,
    ⟨KW [] (fun d => { d with key := { d.key with active := some { man1 with vendorBy := 3, manifestBy := 1 } }, otp := { d.otp with slots := [(3, { words := 8, valid := true })] } }), 2, 3, by decide +kernel⟩,
    ⟨KW [(KEY_OTP_CMD_busy, 1)] (modKey fun x => { x with otpOp := some (1, 2) }), 9, 2, by decide +kernel⟩,
    ⟨KW [] id, true, by decide +kernel⟩,
    ⟨KW [(KEY_ATT_STAT_cause, 4)] id, true, by decide +kernel⟩,
    ⟨KW [(KEY_STATUS_attest_ready, 1)] id, by decide +kernel⟩,
    ⟨KW [] (modKey fun x => { x with building := some [7, 0, 9] }), [7, 0, 9], by decide +kernel⟩⟩

theorem witness_DeckSramIsProtected :
    (∃ (s : State) (w err : Nat), (Running s) ∧ (s.d.scrubs = true ∧ s.d.mp.ptr ≤ w ∧ w < 8388608 ∧ err = 1 ∧ Clean s (8 * w) 1 ∧ (∀ x < w, s.d.mp.ptr ≤ x → s.blk.mem.flipped (8 * x) = 0))) ∧
    (∃ (s : State) (w err : Nat), (Running s) ∧ (s.d.scrubs = true ∧ s.d.mp.ptr ≤ w ∧ w < 8388608 ∧ err = 2 ∧ Clean s (8 * w) 1 ∧ (∀ x < w, s.d.mp.ptr ≤ x → s.blk.mem.flipped (8 * x) = 0))) ∧
    (∃ (s : State) (w _err : Nat), (Running s) ∧ (s.d.scrubs = true ∧ s.d.mp.ptr ≤ w ∧ w < 8388608 ∧ s.blk.mem.poisoned (8 * w) = true ∧ (∀ x < w, s.d.mp.ptr ≤ x → s.blk.mem.flipped (8 * x) = 0))) ∧
    (∃ (s : State), (Running s) ∧ (s.d.scrubs = true)) ∧
    (∃ (s : State) (w : Nat) (r : List Nat), (Running s) ∧ (s.d.mp.wb = w :: r)) ∧
    (∃ (s : State) (e : MergeEnt), (Running s) ∧ (s.d.mp.stalest = some e ∧ e.mask ≠ 0xFF ∧ (∀ x ∈ e.data, x < 256) ∧ Clean s (8 * e.word) 1)) ∧
    (∃ (s : State) (a : Nat), (Running s) ∧ (s.d.key.fwStopped = false ∧ a < 0x4000000 ∧ s.blk.mem.bad (a / 8 * 8) = true)) ∧
    (∃ (s : State) (a seq : Nat), (Running s) ∧ (s.d.sparing = false ∧ s.d.key.fwStopped = false ∧ s.d.key.storeAbsent = false ∧ s.d.mp.unwritten ≠ [] ∧ s.d.mp.spares.length ≤ 1024) ∧ (a = 0x30000 + 0x2000 * (s.blk.mem.recNext 3 0x30000 0x2000 2).1 ∧ seq = (s.blk.mem.recNext 3 0x30000 0x2000 2).2)) ∧
    (∃ (s : State), (Running s) ∧ (s.d.hostWaits = false) ∧ (s.d.inReady = true ∧ s.d.ledgerHolds = false)) ∧
    (∃ (s : State) (off width err : Nat), (Running s) ∧ (0x2000000 ≤ off ∧ off < 0x3000000 ∧ off % 4 = 0 ∧ width = 4 ∧ err = 0 ∧ Clean s (off / 8 * 8) 1)) :=
  ⟨⟨W [(MEM_STAT_init_done, 1), (MEM_CFG_scrub_en, 1)], 77, 1, by decide +kernel⟩,
    ⟨W [(MEM_STAT_init_done, 1), (MEM_CFG_scrub_en, 1)], 78, 2, by decide +kernel⟩,
    ⟨{ W [(MEM_STAT_init_done, 1), (MEM_CFG_scrub_en, 1)] with blk := { (W [(MEM_STAT_init_done, 1), (MEM_CFG_scrub_en, 1)]).blk with mem := { poison := [(77, true)] } } }, 77, 0, by decide +kernel⟩,
    ⟨W [(MEM_STAT_init_done, 1), (MEM_CFG_scrub_en, 1)], by decide +kernel⟩,
    ⟨{ WD [] (modMp fun p => { p with wb := [77] }) with blk := { (WD [] (modMp fun p => { p with wb := [77] })).blk with mem := { flips := [(77, 1)] } } }, 77, [], by decide +kernel⟩,
    ⟨WD [] (modMp fun p => { p with merge := [⟨77, 0xF0, [0, 0, 0, 0, 5, 6, 7, 8], 3⟩] }), ⟨77, 0xF0, [0, 0, 0, 0, 5, 6, 7, 8], 3⟩, by decide +kernel⟩,
    ⟨{ W [] with blk := { (W []).blk with mem := { poison := [(77, true)] } } }, 617, by decide +kernel⟩,
    ⟨WD [] (modMp fun p => { p with unwritten := [(3, 7, 0)], spares := [(3, 7, 0)] }), 0x30000, 1, by decide +kernel⟩,
    ⟨W [(MEM_INJECT_addr, 77)], by decide +kernel⟩,
    ⟨{ W [] with blk := { (W []).blk with mem := { sram := [(0x2000005, 9)] } } }, 0x2000004, 4, 0, by decide +kernel⟩⟩

theorem witness_DmaMovesItsDescriptors :
    (∃ (s : State) (org : Origin) (n : Nat), (Running s) ∧ ((org = .host → s.d.hostWaits = false) ∧ (org = .firmware → s.d.key.fwStopped = false)) ∧ (org = .host ∧ 16 ≤ n ∧ n < 32 ∧ s.d.chMayStart n = true)) ∧
    (∃ (s : State) (org : Origin) (n : Nat), (Running s) ∧ ((org = .host → s.d.hostWaits = false) ∧ (org = .firmware → s.d.key.fwStopped = false)) ∧ (org = .host ∧ 16 ≤ n ∧ n < 32 ∧ s.d.chState n ≠ 0)) ∧
    (∃ (s : State), (Running s) ∧ (s.d.hostWaits = false) ∧ (s.d.on DMA_HALT_CAUSE_halted = true)) ∧
    (∃ (s : State) (n : Nat) (_ok : Bool) (_host : List Nat) (c : ChanSt), (Running s) ∧ (n < 32 ∧ s.d.chState n = 1 ∧ s.d.on (DMA_CH_STAT_stop_pending n) = false ∧ s.d.f (DMA_CH_COUNT_hops n) < max 1 (s.d.f (DMA_CH_HOPMAX_hopmax n)) ∧ s.d.chPosSpace n = 0 ∧ s.d.chPos n < 0x4000000 ∧ Clean s (s.d.chPos n) 8) ∧ ((s.d.chan n).edge = false ∧ c = descOf (s.blk.read8 (s.d.chPos n) 8) ∧ s.d.descError c (((s.blk.read8 (s.d.chPos n) 8).drop 40).all fun x => x == 0) = 0)) ∧
    (∃ (s : State) (n : Nat) (_ok : Bool) (_host : List Nat) (c : ChanSt) (done : Nat), (Running s) ∧ (n < 32 ∧ s.d.chState n = 2 ∧ s.d.chTurn n = true ∧ c = s.d.chan n ∧ done = s.d.f (DMA_CH_DONE_bytes n) ∧ done % 64 = 0 ∧ done < c.len ∧ c.len ≤ 16777216 ∧ c.dst % 64 = 0 ∧ bits c.ctrl 3 0 = 0 ∧ bits c.ctrl 13 8 = 0 ∧ s.d.mp.merge = [] ∧ Clean s (c.src + done) 8)) ∧
    (∃ (s : State) (n : Nat) (_ok : Bool) (_host : List Nat), (Running s) ∧ (n < 32 ∧ s.d.chTurn n = false)) ∧
    (∃ (s : State) (n : Nat) (c : ChanSt), (Running s) ∧ (n < 32 ∧ s.d.chState n = 2 ∧ c = s.d.chan n ∧ c.len ≠ 0 ∧ c.len ≤ s.d.f (DMA_CH_DONE_bytes n) ∧ c.ctrl.testBit 6 = false ∧ c.ctrl.testBit 4 = true ∧ c.tag < 65536)) ∧
    (∃ (s : State) (n : Nat) (c : ChanSt), (Running s) ∧ (n < 32 ∧ s.d.chState n = 2 ∧ c = s.d.chan n ∧ c.len ≠ 0 ∧ c.len ≤ s.d.f (DMA_CH_DONE_bytes n) ∧ c.ctrl.testBit 6 = false ∧ c.ctrl.testBit 4 = false ∧ c.next < 2 ^ 64 ∧ s.d.on (DMA_CH_STAT_stop_pending n) = false)) ∧
    (∃ (s : State) (line n : Nat) (c : ChanSt), (Running s) ∧ (n < 32 ∧ c = s.d.chan n ∧ s.d.chState n = 3 ∧ s.d.lineHigh line = true ∧ s.d.dma.seen.contains line = false ∧ bits c.ctrl 13 8 = line)) ∧
    (∃ (s : State) (line : Nat), (Running s) ∧ (s.d.lineHigh line = true ∧ s.d.dma.seen.contains line = true)) ∧
    (∃ (s : State) (_space : Nat) (_write : Bool) (_cause _addr : Nat), (Running s) ∧ (s.d.f DMA_STAT_busy ≠ 0 ∧ s.d.on DMA_HALT_CAUSE_halted = false)) :=
  ⟨⟨W [(DMA_CH_DESC_LO_addr 17, 99), (DMA_CH_DESC_HI_addr 17, 3), (DMA_CH_DESC_LO_space 17, 1)], .host, 17, by decide +kernel⟩,
    ⟨W [(DMA_CH_STAT_state 17, 2)], .host, 17, by decide +kernel⟩,
    ⟨W [(DMA_CH_STAT_state 17, 4), (DMA_HALT_CAUSE_halted, 1)], by decide +kernel⟩,
    ⟨{ W [(DMA_CH_STAT_state 17, 1), (DMA_CH_POS_LO_addr 17, 4), (DMA_CH_HOPMAX_hopmax 17, 9)] with blk := { (W [(DMA_CH_STAT_state 17, 1), (DMA_CH_POS_LO_addr 17, 4), (DMA_CH_HOPMAX_hopmax 17, 9)]).blk with mem := { sram := [(256, 0x10), (260, 0x80), (265, 1), (274, 1)] } } }, 17, true, [], { ctrl := 16, len := 128, src := 256, dst := 65536, next := 0, tag := 0 }, by decide +kernel⟩,
    ⟨{ WD [(DMA_CH_STAT_state 17, 2), (DMA_CH_DONE_bytes 17, 64)] (setChan 17 { ctrl := 16, len := 128, src := 264, dst := 65536 }) with blk := { (WD [(DMA_CH_STAT_state 17, 2), (DMA_CH_DONE_bytes 17, 64)] (setChan 17 { ctrl := 16, len := 128, src := 264, dst := 65536 })).blk with mem := { sram := [(330, 7)] } } }, 17, true, [], { ctrl := 16, len := 128, src := 264, dst := 65536 }, 64, by decide +kernel⟩,
    ⟨WD [(DMA_CH_STAT_state 17, 2), (DMA_CH_STAT_state 18, 2), (DMA_CH_CTRL_prio 18, 1)] (fun d => d |> setChan 17 { ctrl := 16, len := 128, src := 264, dst := 65536 } |> setChan 18 { ctrl := 16, len := 128, src := 264, dst := 65536 }), 17, true, [], by decide +kernel⟩,
    ⟨WD [(DMA_CH_STAT_state 17, 2), (DMA_CH_DONE_bytes 17, 64)] (setChan 17 { ctrl := 16, len := 64, src := 256, dst := 65536, tag := 5 }), 17, { ctrl := 16, len := 64, src := 256, dst := 65536, tag := 5 }, by decide +kernel⟩,
    ⟨WD [(DMA_CH_STAT_state 17, 2), (DMA_CH_DONE_bytes 17, 64)] (setChan 17 { ctrl := 0, len := 64, src := 256, dst := 65536, next := 0x300000401 }), 17, { ctrl := 0, len := 64, src := 256, dst := 65536, next := 0x300000401 }, by decide +kernel⟩,
    ⟨WD [(DMA_CH_STAT_state 17, 3), (BAY_OBS_STAT_slot_full 2, 1)] (setChan 17 { ctrl := 0x20910, len := 640 }), 9, 17, { ctrl := 0x20910, len := 640 }, by decide +kernel⟩,
    ⟨WD [(DMA_CH_STAT_state 17, 3), (BAY_OBS_STAT_slot_full 2, 1)] (modDma fun x => { x with seen := [9] }), 9, by decide +kernel⟩,
    ⟨W [(DMA_CH_STAT_state 17, 2), (DMA_STAT_busy, 0x20000)], 1, true, 2, 0x1234, by decide +kernel⟩⟩

theorem witness_TheAdcConvertsAndCalibrates :
    (∃ (s : State) (_raw c : Nat), (Running s) ∧ (c = s.d.hk.next ∧ c < 160)) ∧
    (∃ (s : State) (ch : Nat), (Running s) ∧ (s.d.hostWaits = false) ∧ (ch < 160 ∧ s.d.hk.urgent = none)) ∧
    (∃ (s : State) (_raw c : Nat), (Running s) ∧ (s.d.hk.urgent = some c ∧ c < 160)) ∧
    (∃ (s : State) (g : Nat), (Running s) ∧ (s.d.hostWaits = false) ∧ (g < 12)) ∧
    (∃ (s : State) (g fs : Nat), (Running s) ∧ (s.d.hostWaits = false) ∧ (g < 12 ∧ fs < 4096 ∧ s.d.hk.calGroup = some g)) ∧
    (∃ (s : State) (g : Nat) (sums : List Nat), (Running s) ∧ (s.d.hk.measuring = 1 ∧ s.d.hk.calGroup = some g ∧ (∀ i < 8, (smGet (0, 0) (8 * g + i) s.d.hk.acc).2 = 64)) ∧ (sums = ((List.range 8).map fun i => (smGet (0, 0) (8 * g + i) s.d.hk.acc).1))) ∧
    (∃ (s : State) (g : Nat) (sums : List Nat), (Running s) ∧ (s.d.hk.measuring = 2 ∧ s.d.hk.calGroup = some g ∧ (∀ i < 8, (smGet (0, 0) (8 * g + i) s.d.hk.acc).2 = 64)) ∧ (sums = ((List.range 8).map fun i => (smGet (0, 0) (8 * g + i) s.d.hk.acc).1))) ∧
    (∃ (s : State) (g off gain : Nat), (Running s) ∧ (s.d.hostWaits = false) ∧ (g < 12 ∧ s.d.hkComputed g = some (off, gain))) ∧
    (∃ (s : State) (g : Nat), (Running s) ∧ (s.d.hostWaits = false) ∧ (g < 12)) :=
  ⟨⟨W [], 1234, 0, by decide +kernel⟩,
    ⟨W [], 33, by decide +kernel⟩,
    ⟨WD [] (modHk fun h => { h with urgent := some 33 }), 1234, 33, by decide +kernel⟩,
    ⟨WD [] (modHk fun h => { h with calGroup := some 2 }), 5, by decide +kernel⟩,
    ⟨WD [] (modHk fun h => { h with calGroup := some 5 }), 5, 4000, by decide +kernel⟩,
    ⟨WD [] (modHk fun h => { h with calGroup := some 5, measuring := 1, acc := (List.range 8).map fun i => (8 * 5 + i, (640 + i, 64)) }), 5, [640, 641, 642, 643, 644, 645, 646, 647], by decide +kernel⟩,
    ⟨WD [] (modHk fun h => { h with calGroup := some 5, measuring := 2, acc := (List.range 8).map fun i => (8 * 5 + i, (256000 + i, 64)) }), 5, [256000, 256001, 256002, 256003, 256004, 256005, 256006, 256007], by decide +kernel⟩,
    ⟨WD [] (modHk fun h => { h with calGroup := some 5, zero := some (List.replicate 8 640), full := some (List.replicate 8 256000), fs := 3990 }), 5, 10, 32768, by decide +kernel⟩,
    ⟨WD [] (modHk fun h => { h with calGroup := some 5, measuring := 1 }), 5, by decide +kernel⟩⟩

theorem witness_TheParapetActs :
    (∃ (s : State) (_gap : Nat), (Running s)) ∧
    (∃ (s : State) (_gap : Nat), (Running s) ∧ (s.d.sensTemps = List.replicate 56 950 ∧ s.d.on HK_PAR_STAT_shutdown = false ∧ s.d.pwr ≤ 1 ∧ s.d.piersUp = true)) ∧
    (∃ (s : State) (_gap : Nat), (Running s) ∧ (s.d.sensTemps = List.replicate 56 950 ∧ s.d.on HK_PAR_STAT_shutdown = false) ∧ (2 ≤ s.d.pwr ∨ s.d.piersUp = false)) ∧
    (∃ (s : State) (x : ThrStep), (Running s) ∧ (s.d.hk.firstStep = some x ∧ x.kind = 1 ∧ x.apply = true ∧ s.d.hk.waiting.filter x.joins = [x] ∧ smGet 0 x.unit s.d.hk.att ≤ 6)) ∧
    (∃ (s : State) (at_ : Nat), (Running s) ∧ (s.d.hk.ramp = some at_ ∧ s.d.on PWR_STAT_held = false)) ∧
    (∃ (s : State) (dies : Nat), (Running s) ∧ (dies % 32 ≠ 0 ∧ s.d.pwr ≠ 3)) ∧
    (∃ (s : State) (i : Nat), (Running s) ∧ (s.d.hostWaits = false) ∧ (i < 56)) ∧
    (∃ (s : State) (_raw : Nat), (Running s)) ∧
    (∃ (s : State) (ch : Nat), (Running s) ∧ (s.d.hostWaits = false) ∧ (ch < 160 ∧ s.d.hk.urgent = none)) ∧
    (∃ (s : State) (_raw c : Nat), (Running s) ∧ (s.d.hk.urgent = some c ∧ c < 160)) ∧
    (∃ (s : State) (g : Nat), (Running s) ∧ (s.d.hostWaits = false) ∧ (g < 12)) ∧
    (∃ (s : State) (g fs : Nat), (Running s) ∧ (s.d.hostWaits = false) ∧ (g < 12 ∧ fs < 4096)) ∧
    (∃ (s : State) (g : Nat), (Running s) ∧ (s.d.hk.measuring ≠ 0 ∧ s.d.hk.calGroup = some g ∧ (∀ i < 8, (smGet (0, 0) (8 * g + i) s.d.hk.acc).2 = 64))) ∧
    (∃ (s : State) (g : Nat), (Running s) ∧ (s.d.hostWaits = false) ∧ (g < 12)) ∧
    (∃ (s : State) (g : Nat), (Running s) ∧ (s.d.hostWaits = false) ∧ (g < 12)) :=
  ⟨⟨W [(HK_CH_value 153, 500)], 510, by decide +kernel⟩,
    ⟨W ((List.range 56).map fun i => (HK_PAR_SENS_temp i, 950)), 0, by decide +kernel⟩,
    ⟨W ((PWR_STAT_state, 2) :: (List.range 56).map fun i => (HK_PAR_SENS_temp i, 950)), 0, by decide +kernel⟩,
    ⟨WD [] (modHk fun h => { h with waiting := [⟨500, true, 1, 3⟩] }), ⟨500, true, 1, 3⟩, by decide +kernel⟩,
    ⟨WD [] (modHk fun h => { h with ramp := some 500 }), 500, by decide +kernel⟩,
    ⟨W [], 9, by decide +kernel⟩,
    ⟨W [(HK_PAR_SENS_excluded 7, 1)], 7, by decide +kernel⟩,
    ⟨W [], 1234, by decide +kernel⟩,
    ⟨W [], 33, by decide +kernel⟩,
    ⟨WD [] (modHk fun h => { h with urgent := some 33 }), 1234, 33, by decide +kernel⟩,
    ⟨W [], 5, by decide +kernel⟩,
    ⟨W [], 5, 4000, by decide +kernel⟩,
    ⟨WD [] (modHk fun h => { h with calGroup := some 5, measuring := 2, acc := (List.range 8).map fun i => (8 * 5 + i, (256000 + i, 64)) }), 5, by decide +kernel⟩,
    ⟨W [], 5, by decide +kernel⟩,
    ⟨W [], 5, by decide +kernel⟩⟩

theorem witness_TripsAndOutputsInAnyCondition :
    (∃ (s : State) (dies : Nat), (s.d.el.trips ≠ 0 ∧ s.d.el.trips &&& dies = s.d.el.trips)) ∧
    (∃ (s : State) (at_ : Nat), (s.d.el.tripHold = some at_)) ∧
    (∃ (_s : State), True) ∧
    (∃ (s : State), (s.d.el.clrN = true ∧ s.d.stayPowered = true ∧ s.d.staySettled = true ∧ s.d.hk.zeroOut = false)) ∧
    (∃ (s : State), (s.d.el.clrN = false)) ∧
    (∃ (s : State), (s.d.el.vdda = true)) ∧
    (∃ (s : State), (s.d.el.vdda = false)) ∧
    (∃ (s : State) (k : Nat) (_v : Word), (s.d.hostWaits = false) ∧ (s.d.deckUp = true ∧ s.d.running = true ∧ k < 8 ∧ s.d.inReady = true ∧ s.d.ledgerHolds = false)) :=
  ⟨⟨WD [] (modEl fun e => { e with trips := 5 }), 7, by decide +kernel⟩,
    ⟨WD [] (modEl fun e => { e with tripHold := some 500 }), 500, by decide +kernel⟩,
    ⟨W [], by decide +kernel⟩,
    ⟨WD [] (fun d => { d with now := 300000, el := { d.el with vdda := true, clrN := true } }), by decide +kernel⟩,
    ⟨WD [] (modEl fun e => { e with clrN := false }), by decide +kernel⟩,
    ⟨WD [] (modEl fun e => { e with vdda := true }), by decide +kernel⟩,
    ⟨WD [] (modEl fun e => { e with vdda := false }), by decide +kernel⟩,
    ⟨W [], 3, 0x12345#32, by decide +kernel⟩⟩

theorem witness_CheckUnitsAnswer :
    (∃ (s : State) (org : Origin) (u _alive : Nat), (Running s) ∧ ((org = .host → s.d.hostWaits = false) ∧ (org = .firmware → s.d.key.fwStopped = false)) ∧ (org = .host ∧ 2 ≤ u ∧ u < 4 ∧ s.d.on (HK_CK_CFG_busy u) = false ∧ s.d.on (HK_CK_CFG_alive_en u) = false ∧ 8 ≤ s.d.f (HK_CK_CFG_width u) ∧ s.d.f (HK_CK_CFG_width u) ≤ 64 ∧ 0 < s.d.f (HK_CK_LEN_value u) ∧ s.d.f (HK_CK_LEN_value u) ≤ 0x1000000 ∧ s.d.f (HK_CK_SRC_value u) + s.d.f (HK_CK_LEN_value u) ≤ 0x4000000)) ∧
    (∃ (s : State) (u x : Nat) (j : CkJob), (Running s) ∧ (u < 4 ∧ (s.d.hk.jobs.find? fun x => x.1 == u) = some (x, j) ∧ Clean s (j.src / 8 * 8) ((j.src + j.len + 7) / 8 - j.src / 8) ∧ j.width ≤ 64)) :=
  ⟨⟨W [(HK_CK_CFG_width 2, 32), (HK_CK_LEN_value 2, 9), (HK_CK_SRC_value 2, 64)], .host, 2, 0, by decide +kernel⟩,
    ⟨WD [(HK_CK_CFG_busy 2, 1)] (modHk fun h => { h with jobs := [(2, ckJob)] }), 2, 2, ckJob, by decide +kernel⟩⟩

theorem witness_PowerRequestsAndEntries :
    (∃ (s : State), (Running s) ∧ (s.d.hostWaits = false) ∧ (s.d.pwr = 1 ∧ s.d.on PWR_STAT_in_entry = false ∧ s.d.firstRefuser 1 0 false = none)) ∧
    (∃ (s : State), (Running s) ∧ (s.d.hostWaits = false) ∧ (s.d.pwr = 0 ∧ s.d.on PWR_STAT_in_entry = false)) ∧
    (∃ (s : State), (Running s) ∧ (s.d.hostWaits = false) ∧ (s.d.pwr = 2 ∧ s.d.on PWR_STAT_in_entry = false ∧ s.d.firstRefuser 2 1 false = none)) ∧
    (∃ (s : State), (Running s) ∧ (s.d.hostWaits = false) ∧ (s.d.pwr = 1 ∧ s.d.on PWR_STAT_in_entry = false ∧ s.d.firstRefuser 1 2 false = none)) ∧
    (∃ (s : State), (Running s) ∧ (s.d.hostWaits = false) ∧ (s.d.pwr = 2 ∧ s.d.on PWR_STAT_in_entry = false ∧ s.d.firstRefuser 2 3 false = none)) ∧
    (∃ (s : State), (Running s) ∧ (s.d.hostWaits = false) ∧ (s.d.pwr = 1 ∧ s.d.on PWR_STAT_in_entry = false ∧ s.d.firstRefuser 1 4 false = none)) ∧
    (∃ (s : State) (e : PwrEntry), (Running s) ∧ (s.d.ps.entry = some e ∧ e.committed = false ∧ e.target = 1 ∧ e.from_ = 0 ∧ s.d.hk.ramp = none)) ∧
    (∃ (s : State) (e : PwrEntry), (Running s) ∧ (s.d.ps.entry = some e ∧ e.committed = false ∧ e.target = 1 ∧ e.from_ = 2 ∧ s.d.hk.ramp = none ∧ s.d.firstRefuser 2 1 true = none)) ∧
    (∃ (s : State) (e : PwrEntry), (Running s) ∧ (s.d.ps.entry = some e ∧ e.committed = false ∧ e.target = 2 ∧ e.from_ = 1 ∧ s.d.hk.ramp = none ∧ s.d.firstRefuser 1 2 true = none)) ∧
    (∃ (s : State) (e : PwrEntry), (Running s) ∧ (s.d.ps.entry = some e ∧ e.committed = false ∧ e.target = 3 ∧ e.from_ = 2 ∧ s.d.hk.ramp = none ∧ s.d.firstRefuser 2 3 true = none)) ∧
    (∃ (s : State) (e : PwrEntry), (Running s) ∧ (s.d.ps.entry = some e ∧ e.committed = false ∧ e.target = 4 ∧ s.d.hk.ramp = none ∧ s.d.firstRefuser e.from_ 4 true = none) ∧ (e.from_ = 1 ∨ e.from_ = 2)) ∧
    (∃ (s : State) (e : PwrEntry), (Running s) ∧ (s.d.ps.entry = some e ∧ e.committed = true ∧ e.target = 1 ∧ s.d.hk.ramp = none ∧ s.d.on PWR_STAT_held = false)) ∧
    (∃ (s : State) (e : PwrEntry), (Running s) ∧ (s.d.ps.entry = some e ∧ e.committed = true ∧ e.target = 2 ∧ s.d.hk.ramp = none ∧ s.d.on PWR_STAT_held = false)) ∧
    (∃ (s : State) (e : PwrEntry), (Running s) ∧ (s.d.ps.entry = some e ∧ e.committed = true ∧ e.target = 4 ∧ s.d.hk.ramp = none)) ∧
    (∃ (s : State) (e : PwrEntry), (Running s) ∧ (s.d.ps.entry = some e ∧ e.committed = true ∧ e.target = 0 ∧ s.d.hk.ramp = none ∧ s.d.on PWR_STAT_held = false)) ∧
    (∃ (s : State) (e : PwrEntry), (Running s) ∧ (s.d.ps.entry = some e ∧ e.committed = true ∧ e.target = 3 ∧ s.d.hk.ramp = none ∧ s.d.on PWR_STAT_held = false)) ∧
    (∃ (s : State) (i : Nat), (Running s) ∧ (s.d.pwr = 4 ∧ s.d.on PWR_STAT_in_entry = true ∧ s.d.f PWR_STAT_target = 2 ∧ s.d.key.fwStopped = false ∧ s.d.on KEY_STATUS_refclk_wait = false ∧ i < 16 ∧ s.d.engState i ≠ 0 ∧ s.d.on PWR_STAT_held = false)) ∧
    (∃ (s : State) (margin _measured fail : Nat), (Running s) ∧ (s.d.avsRuns = true ∧ 10 ≤ margin ∧ margin < 25 ∧ fail = 0 ∧ s.d.hostMode 4 = false ∧ s.d.avsClamp (s.d.ps.sent + 5) ≠ s.d.ps.sent)) ∧
    (∃ (s : State) (margin _measured fail : Nat), (Running s) ∧ (s.d.avsRuns = true ∧ 10 ≤ margin ∧ margin < 25 ∧ fail = 1 ∧ s.d.hostMode 4 = false ∧ s.d.avsClamp (s.d.ps.sent + 5) ≠ s.d.ps.sent)) ∧
    (∃ (s : State) (org : Origin) (_v : Word) (_measured fail : Nat), (Running s) ∧ (org = .host ∧ s.d.avsRuns = true ∧ fail = 0 ∧ s.d.hostMode 4 = true ∧ s.d.ledgerHolds = false ∧ s.d.hostWaits = false)) ∧
    (∃ (s : State) (org : Origin) (_v : Word) (_measured _fail : Nat), (Running s) ∧ (org = .host ∧ s.d.hostWaits = true)) :=
  ⟨⟨M [] id, by decide +kernel⟩,
    ⟨M [(PWR_STAT_state, 0)] id, by decide +kernel⟩,
    ⟨M [(PWR_STAT_state, 2)] (modPs fun p => { p with piersOff := true }), by decide +kernel⟩,
    ⟨M [] id, by decide +kernel⟩,
    ⟨M [(PWR_STAT_state, 2)] id, by decide +kernel⟩,
    ⟨M [] id, by decide +kernel⟩,
    ⟨M [(PWR_STAT_state, 0), (PWR_STAT_in_entry, 1)] (modPs fun p => { p with entry := some ⟨1, 0, 500, false⟩ }), ⟨1, 0, 500, false⟩, by decide +kernel⟩,
    ⟨M [(PWR_STAT_state, 2), (PWR_STAT_in_entry, 1)] (modPs fun p => { p with piersOff := true, entry := some ⟨1, 2, 500, false⟩ }), ⟨1, 2, 500, false⟩, by decide +kernel⟩,
    ⟨M [(PWR_STAT_in_entry, 1), (TRUSS_ENG_STAT_state 3, 1)] (fun d => d |> modPs (fun p => { p with entry := some ⟨2, 1, 500, false⟩ }) |> modMp fun p => { p with merge := [⟨77, 0xF0, [0, 0, 0, 0, 5, 6, 7, 8], 3⟩] }), ⟨2, 1, 500, false⟩, by decide +kernel⟩,
    ⟨M [(PWR_STAT_state, 2), (PWR_STAT_in_entry, 1), (LINK_PORT_STAT_state 0, 3), (HK_ANCH_override 3, 1)] (modPs fun p => { p with entry := some ⟨3, 2, 500, false⟩ }), ⟨3, 2, 500, false⟩, by decide +kernel⟩,
    ⟨M [(PWR_STAT_in_entry, 1), (LINK_PORT_STAT_state 0, 3)] (modPs fun p => { p with entry := some ⟨4, 1, 500, false⟩ }), ⟨4, 1, 500, false⟩, by decide +kernel⟩,
    ⟨M [(PWR_STAT_in_entry, 1)] (modPs fun p => { p with entry := some ⟨1, 0, 500, true⟩ }), ⟨1, 0, 500, true⟩, by decide +kernel⟩,
    ⟨M [(PWR_STAT_in_entry, 1)] (modPs fun p => { p with piersOff := true, entry := some ⟨2, 1, 500, true⟩ }), ⟨2, 1, 500, true⟩, by decide +kernel⟩,
    ⟨M [(PWR_STAT_state, 2), (PWR_STAT_in_entry, 1)] (modPs fun p => { p with entry := some ⟨4, 2, 500, true⟩ }), ⟨4, 2, 500, true⟩, by decide +kernel⟩,
    ⟨M [(PWR_STAT_in_entry, 1)] (modPs fun p => { p with entry := some ⟨0, 1, 500, true⟩ }), ⟨0, 1, 500, true⟩, by decide +kernel⟩,
    ⟨M [(PWR_STAT_state, 2), (PWR_STAT_in_entry, 1)] (modPs fun p => { p with entry := some ⟨3, 2, 500, true⟩ }), ⟨3, 2, 500, true⟩, by decide +kernel⟩,
    ⟨W [(PWR_STAT_state, 4), (PWR_STAT_in_entry, 1), (PWR_STAT_target, 2), (KEY_STATUS_refclk_wait, 0), (TRUSS_ENG_STAT_state 3, 1)], 3, by decide +kernel⟩,
    ⟨WD [(KEY_STATUS_refclk_wait, 0)] (modPs fun p => { p with sent := 750 }), 20, 755, 0, by decide +kernel⟩,
    ⟨WD [(KEY_STATUS_refclk_wait, 0)] (modPs fun p => { p with sent := 750 }), 20, 755, 1, by decide +kernel⟩,
    ⟨W [(KEY_STATUS_refclk_wait, 0), (SPAN_ADAPT_MODE_avs_mode, 1)], .host, 760#32, 762, 0, by decide +kernel⟩,
    ⟨WD [] (holdWrite .host 0x110 0), .host, 760#32, 762, 0, by decide +kernel⟩⟩

theorem witness_SleepAndWake :
    (∃ (s : State), (s.d.pwr = 3 ∧ s.d.ps.waking = 0 ∧ s.d.el.resetN = true ∧ s.d.el.vaon = true)) ∧
    (∃ (s : State), (s.d.pwr = 3 ∧ s.d.ps.waking = 0 ∧ s.d.wakeTimer ≠ 0)) ∧
    (∃ (s : State), (s.d.pwr = 3 ∧ s.d.ps.rcSlept = false)) ∧
    (∃ (s : State) (n : Nat), (s.d.pwr = 3 ∧ (s.d.ps.waking = 1 ∨ s.d.ps.waking = 2) ∧ s.d.el.pwrOk = true ∧ s.d.el.resetN = true ∧ s.d.el.vaon = true ∧ n = (s.d.now - s.d.ps.sleepAt + 29999) / 30000 ∧ n < 2 ^ 40 - 1)) :=
  ⟨⟨W [(PWR_STAT_state, 3)], by decide +kernel⟩,
    ⟨W [(PWR_STAT_state, 3), (PWR_WAKE_TIMER_LO_count, 9)], by decide +kernel⟩,
    ⟨W [(PWR_STAT_state, 3)], by decide +kernel⟩,
    ⟨WD [(PWR_STAT_state, 3)] (fun d => { d with now := 100000, ps := { d.ps with waking := 1, sleepAt := 7 } }), 4, by decide +kernel⟩⟩

theorem witness_TheLedgerRecordsAndArchives :
    (∃ (s : State) (r : LedgerReq) (q : List LedgerReq), (Running s) ∧ (s.d.ldg.queue = r :: q ∧ s.d.f LEDGER_STAT_fill < 8192 ∧ s.d.on LEDGER_STAT_gap_pending = false ∧ s.d.ldg.held = [] ∧ r.kind < 32)) ∧
    (∃ (s : State), (Running s) ∧ (s.d.on LEDGER_STAT_gap_pending = true ∧ s.d.f LEDGER_STAT_fill < 8192 ∧ s.d.ldg.closed = false)) ∧
    (∃ (s : State), (Running s) ∧ (s.d.ldg.closed = true)) ∧
    (∃ (s : State) (a : LoopAcc), (Running s) ∧ (s.d.ldg.loops = [a] ∧ s.d.ldg.closed = false)) ∧
    (∃ (s : State), (Running s) ∧ (s.d.ldg.loops = [] ∧ s.d.t.stopped = false ∧ s.d.t.tick < 9830400)) ∧
    (∃ (s : State), (Running s) ∧ (s.d.ldg.arc = none ∧ s.d.key.fwStopped = false ∧ s.d.on LEDGER_STAT_arc_fail = false ∧ s.d.key.storeAbsent = false ∧ max 1 (s.d.f LEDGER_CFG_drain_thr) ≤ s.d.f LEDGER_STAT_fill)) ∧
    (∃ (s : State), (Running s) ∧ (s.d.ldg.arc = none ∧ s.d.key.fwStopped = false ∧ s.d.on LEDGER_STAT_arc_fail = false ∧ s.d.f LEDGER_STAT_fill ≠ 0 ∧ s.d.f LEDGER_STAT_fill < max 1 (s.d.f LEDGER_CFG_drain_thr))) ∧
    (∃ (s : State), (Running s) ∧ (s.d.on LEDGER_STAT_arc_fail = true)) ∧
    (∃ (s : State) (ok : Bool) (j : ArcJob), (Running s) ∧ (ok = true ∧ s.d.ldg.arc = some j ∧ j.count ≤ s.d.f LEDGER_STAT_fill ∧ s.d.ldg.want = false ∧ s.d.key.fwStopped = false ∧ s.d.key.storeAbsent = false)) ∧
    (∃ (s : State) (ok : Bool) (j : ArcJob) (i slot : Nat), (Running s) ∧ (ok = true ∧ s.d.ldg.arc = some j ∧ i < j.count ∧ j.count ≤ 126 ∧ s.d.ldg.want = false ∧ s.d.key.fwStopped = false ∧ s.d.key.storeAbsent = false ∧ s.d.ldg.arcHead.length = 32) ∧ (slot = (s.d.f LEDGER_RD_SLOT_slot + i) % 8192 ∧ s.blk.readable (ringAddr slot) 4 = false ∧ s.blk.mem.sbytes (arcAddr j.sector) (60 + 32 * j.count) = List.replicate (60 + 32 * j.count) 255)) ∧
    (∃ (s : State) (ok : Bool) (j : ArcJob), (Running s) ∧ (ok = false ∧ s.d.ldg.arc = some j ∧ s.d.ldg.arcFails = 2 ∧ s.d.key.fwStopped = false)) ∧
    (∃ (s : State) (_ok : Bool), (Running s) ∧ (s.d.key.fwStopped = true)) ∧
    (∃ (s : State), (Running s) ∧ (s.d.on LEDGER_STAT_arc_fail = true ∧ s.d.ldg.arc = none ∧ s.d.key.fwStopped = false ∧ s.d.f LEDGER_STAT_fill ≠ 0)) ∧
    (∃ (s : State), (Running s) ∧ (s.d.hostWaits = false) ∧ (s.d.ldg.arc = none ∧ s.d.key.fwStopped = false ∧ s.d.f LEDGER_STAT_fill ≠ 0 ∧ s.d.on LEDGER_STAT_arc_fail = false)) ∧
    (∃ (s : State), (Running s) ∧ (s.d.hostWaits = false) ∧ (s.d.ldg.arc.isSome = true ∨ s.d.on LEDGER_STAT_arc_fail = true)) ∧
    (∃ (s : State) (org : Origin) (off : Nat) (_v : Word), (Running s) ∧ (org = .host ∧ s.d.hostWaits = false ∧ s.d.ledgerHolds = true ∧ off < 0x1000000 ∧ off % 4 = 0 ∧ governedOff off = true)) ∧
    (∃ (s : State) (org : Origin) (off : Nat) (_v : Word), (Running s) ∧ (org = .host ∧ s.d.hostWaits = true ∧ off < 0x1000000 ∧ off % 4 = 0 ∧ (off < 0x410000 ∨ 0x41FFF8 ≤ off ∨ s.d.stagingTakes = true))) ∧
    (∃ (s : State) (sector : Nat), (Running s) ∧ (s.d.hostWaits = false) ∧ (s.d.ldg.reading = none ∧ sector < 2048)) ∧
    (∃ (s : State) (ok : Bool) (n : Nat), (Running s) ∧ (ok = true ∧ s.d.ldg.reading = some n)) ∧
    (∃ (s : State), (Running s)) :=
  ⟨⟨WD [(LEDGER_WR_SLOT_slot, 8191), (LEDGER_WR_SEQ_seq, 4294967295)] (ledgerPut .host 1 0 0x20 3 5), ⟨0, 0, .host, 1, 0, 0x20, 3, 5, 0⟩, [], by decide +kernel⟩,
    ⟨WD [(LEDGER_STAT_gap_pending, 1), (LEDGER_WR_SEQ_seq, 9)] (modLdg fun l => { l with gapFirst := 6, gapCount := 3 }), by decide +kernel⟩,
    ⟨WD [(LEDGER_STAT_gap_pending, 1)] (modLdg fun l => { l with closed := true, gapFirst := 6, gapCount := 3 }), by decide +kernel⟩,
    ⟨WD [] (fun d => { d with t := { d.t with stopped := false } } |> modLdg fun l => { l with loops := [⟨2, 5, -3, 8, 1⟩], loopsEnd := 9830400 }), ⟨2, 5, -3, 8, 1⟩, by decide +kernel⟩,
    ⟨WD [] (fun d => { d with t := { d.t with stopped := false } }), by decide +kernel⟩,
    ⟨W [(LEDGER_STAT_fill, 130), (LEDGER_RD_SEQ_seq, 7), (LEDGER_CFG_drain_thr, 100)], by decide +kernel⟩,
    ⟨WD [(LEDGER_STAT_fill, 3), (LEDGER_RD_SLOT_slot, 5), (LEDGER_CFG_drain_thr, 100)] (modLdg fun l => { l with ring := [(5, ⟨7, 0, [], 90⟩)] }), by decide +kernel⟩,
    ⟨W [(LEDGER_STAT_fill, 130), (LEDGER_STAT_arc_fail, 1)], by decide +kernel⟩,
    ⟨WD [(LEDGER_STAT_fill, 5), (LEDGER_RD_SLOT_slot, 8190)] (modLdg fun l => { l with arc := some ⟨7, 3, 1⟩ }), true, ⟨7, 3, 1⟩, by decide +kernel⟩,
    ⟨{ WD [(LEDGER_STAT_fill, 5), (LEDGER_RD_SLOT_slot, 8190)] (modLdg fun l => { l with arc := some ⟨7, 3, 1⟩, arcHead := List.replicate 32 7, ring := [(8191, ⟨9, 0, [], 90⟩)] }) with blk := { (WD [(LEDGER_STAT_fill, 5), (LEDGER_RD_SLOT_slot, 8190)] (modLdg fun l => { l with arc := some ⟨7, 3, 1⟩, arcHead := List.replicate 32 7, ring := [(8191, ⟨9, 0, [], 90⟩)] })).blk with mem := { poison := [((ringAddr 8191) / 8, true)] } } }, true, ⟨7, 3, 1⟩, 1, 8191, by decide +kernel⟩,
    ⟨WD [(LEDGER_STAT_fill, 5)] (modLdg fun l => { l with arc := some ⟨7, 3, 1⟩, arcFails := 2 }), false, ⟨7, 3, 1⟩, by decide +kernel⟩,
    ⟨WD [] (fun d => { d with key := { d.key with fwStopped := true } } |> modLdg fun l => { l with arc := some ⟨7, 3, 1⟩ }), true, by decide +kernel⟩,
    ⟨W [(LEDGER_STAT_arc_fail, 1), (LEDGER_STAT_fill, 1)], by decide +kernel⟩,
    ⟨W [(LEDGER_STAT_fill, 1)], by decide +kernel⟩,
    ⟨WD [] (modLdg fun l => { l with arc := some ⟨7, 3, 1⟩ }), by decide +kernel⟩,
    ⟨WD [] (modLdg fun l => { l with closed := true }), .host, 0x500000, 1#32, by decide +kernel⟩,
    ⟨WD [] (holdWrite .host 0x110 0), .host, 0x110, 7#32, by decide +kernel⟩,
    ⟨W [], 2047, by decide +kernel⟩,
    ⟨WD [] (modLdg fun l => { l with reading := some 5 }), true, 5, by decide +kernel⟩,
    ⟨W [(LEDGER_WR_SEQ_seq, 77)], by decide +kernel⟩⟩

theorem witness_EventsVectorsAndResetsOfTheHost :
    (∃ (s : State) (w : Nat) (_v : Word), (Running s) ∧ (s.d.hostWaits = false) ∧ (w < 5)) ∧
    (∃ (s : State) (_cfg : HostCfg), (Running s)) ∧
    (∃ (s : State) (v : Word), (Running s) ∧ (s.d.hostWaits = false) ∧ (v.toNat % 2 = 1 ∧ bits v.toNat 15 8 = 0xC3 ∧ s.d.key.otpOp = none)) ∧
    (∃ (s : State), (Running s)) ∧
    (∃ (s : State), (Running s) ∧ (s.d.host.linkUp = true ∧ s.d.key.fwStopped = false)) ∧
    (∃ (s : State), (Running s) ∧ (s.d.host.linkUp = false)) :=
  ⟨⟨WD [] (fun d => d |> raise0 33 |> raise0 40 |> raise0 9), 1, 0x100#32, by decide +kernel⟩,
    ⟨WD [] (raise0 33), { d3hot := false, busMaster := true, enable := true, funcMask := false, mask := 0xFFFF0000, bar0 := 0x123456789, bar2 := 0x2345, payload256 := true, aerClear := true }, by decide +kernel⟩,
    ⟨W [(TL_SLEEP_xtal_ok, 1)], 0xC301#32, by decide +kernel⟩,
    ⟨WD [] (fun d => { d with host := { d.host with busMaster := true, msixEnable := true } }), by decide +kernel⟩,
    ⟨WD [] (fun d => { d with host := { d.host with busMaster := true } }), by decide +kernel⟩,
    ⟨WD [] (fun d => { d with host := { d.host with linkUp := false } }), by decide +kernel⟩⟩

theorem witness_TheServicePortAnswers :
    (∃ (s : State), (Up s) ∧ (2 ≤ s.d.stage)) ∧
    (∃ (s : State) (frame : List Nat) (r : SvcReq), (Up s) ∧ (2 ≤ s.d.stage ∧ s.d.svc.req = none ∧ svcParse frame = some r ∧ svcTypes.contains r.ty = true ∧ svcPayloadGood r = true)) ∧
    (∃ (s : State) (frame : List Nat) (r : SvcReq), (Up s) ∧ (2 ≤ s.d.stage ∧ s.d.svc.req = none ∧ svcParse frame = some r ∧ svcTypes.contains r.ty = true ∧ svcPayloadGood r = true)) ∧
    (∃ (s : State) (l : List Nat), (Up s) ∧ (s.d.svc.resp = some l)) ∧
    (∃ (s : State) (l : List Nat), (Up s) ∧ (s.d.svc.resp = some l)) ∧
    (∃ (s : State) (r : SvcReq), (Up s) ∧ (2 ≤ s.d.stage ∧ s.d.svc.req = some r ∧ r.ty = 1)) ∧
    (∃ (s : State) (r : SvcReq), (Up s) ∧ (2 ≤ s.d.stage ∧ s.d.svc.req = some r ∧ r.ty = 0x20)) ∧
    (∃ (s : State) (ok : Bool) (r : SvcReq), (Up s) ∧ (ok = true ∧ 2 ≤ s.d.stage ∧ s.d.svc.req = some r ∧ r.ty = 0x21 ∧ s.d.key.storeAbsent = false)) :=
  ⟨⟨WD [] (modSvc fun v => { v with err := true, req := some ⟨1, 9, []⟩ }), by decide +kernel⟩,
    ⟨W [], [83, 86, 1, 0, 9, 0, 0, 0, 191, 52, 33, 158], ⟨1, 9, []⟩, by decide +kernel⟩,
    ⟨WD [] (modSvc fun v => { v with resp := some [1, 2] }), [83, 86, 1, 0, 9, 0, 0, 0, 191, 52, 33, 158], ⟨1, 9, []⟩, by decide +kernel⟩,
    ⟨WD [] (modSvc fun v => { v with resp := some [1, 2] }), [1, 2], by decide +kernel⟩,
    ⟨WD [] (modSvc fun v => { v with resp := some [1, 2] }), [1, 2], by decide +kernel⟩,
    ⟨WD [] (modSvc fun v => { v with req := some ⟨1, 9, []⟩ }), ⟨1, 9, []⟩, by decide +kernel⟩,
    ⟨WD [] (modSvc fun v => { v with req := some ⟨0x20, 9, [5, 0, 0, 0, 2, 0, 0, 0]⟩ }), ⟨0x20, 9, [5, 0, 0, 0, 2, 0, 0, 0]⟩, by decide +kernel⟩,
    ⟨WD [] (modSvc fun v => { v with req := some ⟨0x21, 9, [5, 0, 0, 0]⟩ }), true, ⟨0x21, 9, [5, 0, 0, 0]⟩, by decide +kernel⟩⟩

theorem witness_SuppliesAndResets :
    (∃ (s : State), (s.d.key.otpOp = none)) ∧
    (∃ (s : State), (s.d.key.otpOp = none)) ∧
    (∃ (s : State), (s.d.key.otpOp = none)) ∧
    (∃ (s : State), (s.d.el.resetN = false ∧ s.d.el.vaon = true ∧ s.d.el.pwrOk = true ∧ s.d.el.trips = 0 ∧ s.d.el.tripHold = none ∧ s.d.el.offHeld = false ∧ s.d.pwr = 4)) ∧
    (∃ (s : State), (s.d.el.pwrOk = true ∧ s.d.pwr ≠ 3 ∧ s.d.el.offHeld = false ∧ s.d.key.otpOp = none)) ∧
    (∃ (s : State), (s.d.el.pwrOk = false ∧ s.d.pwr = 4 ∧ s.d.el.resetN = true ∧ s.d.el.vaon = true ∧ s.d.el.trips = 0 ∧ s.d.el.tripHold = none ∧ s.d.el.offHeld = false)) ∧
    (∃ (s : State), (s.d.el.vaon = true ∧ s.d.el.offHeld = false)) ∧
    (∃ (s : State), (s.d.pwr ≠ 3)) :=
  ⟨⟨W [], by decide +kernel⟩,
    ⟨W [(HK_PAR_TRIP_tripped, 1)], by decide +kernel⟩,
    ⟨W [(HK_PAR_TRIP_dies, 3)], by decide +kernel⟩,
    ⟨({ blk := { dev := modEl (fun e => { e with resetN := false }) {} } } : State), by decide +kernel⟩,
    ⟨W [], by decide +kernel⟩,
    ⟨({ blk := { dev := modEl (fun e => { e with pwrOk := false }) {} } } : State), by decide +kernel⟩,
    ⟨W [(TL_SLEEP_xtal_ok, 0)], by decide +kernel⟩,
    ⟨W [(TL_SLEEP_xtal_ok, 1)], by decide +kernel⟩⟩

theorem witness_JtagInstructionsLoad :
    (∃ (_s : State), True) ∧
    (∃ (_s : State), True) ∧
    (∃ (_s : State), True) ∧
    (∃ (s : State), (s.d.el.resetN = true)) ∧
    (∃ (s : State) (p : Pin) (l : PinLevel), (s.d.el.resetN = false ∧ s.d.el.scan.find? (fun x => x.1 == p) = some (p, l))) ∧
    (∃ (s : State), (s.d.el.resetN = true)) ∧
    (∃ (s : State) (p : Pin) (l : PinLevel), (s.d.el.resetN = false ∧ s.d.el.scan.find? (fun x => x.1 == p) = some (p, l))) ∧
    (∃ (s : State), (s.d.el.resetN = true)) ∧
    (∃ (s : State) (p : Pin) (l : PinLevel), (s.d.el.resetN = false ∧ s.d.el.scan.find? (fun x => x.1 == p) = some (p, l))) :=
  ⟨⟨WD [] (modEl fun e => { e with bypassBit := true }), by decide +kernel⟩,
    ⟨WD [] (modEl fun e => { e with jtag := .extest }), by decide +kernel⟩,
    ⟨W [], by decide +kernel⟩,
    ⟨W [], by decide +kernel⟩,
    ⟨WD [] (modEl fun e => { e with resetN := false, scan := [(.ppsOut, .high), (.evtN, .low)] }), .evtN, .low, by decide +kernel⟩,
    ⟨W [], by decide +kernel⟩,
    ⟨WD [] (modEl fun e => { e with resetN := false, scan := [(.ppsOut, .high), (.evtN, .low)] }), .evtN, .low, by decide +kernel⟩,
    ⟨W [], by decide +kernel⟩,
    ⟨WD [] (modEl fun e => { e with resetN := false, scan := [(.ppsOut, .high), (.evtN, .low)] }), .evtN, .low, by decide +kernel⟩⟩

theorem witness_TimeAndLedgerCommandsKeepTheirFrame : ∃ (c : Instr) (s t : State), c.frame.family = 1 ∧ c.wf = true ∧ exec c s = .next t :=
  ⟨.ppsOut, W [], _, by decide, by decide, rfl⟩

theorem witness_SpanAndBayCommandsKeepTheirFrame : ∃ (c : Instr) (s t : State), c.frame.family = 2 ∧ c.wf = true ∧ exec c s = .next t :=
  ⟨.swapAck 1, W [], _, by decide, by decide, rfl⟩

theorem witness_LinkAndPortCommandsKeepTheirFrame : ∃ (c : Instr) (s t : State), c.frame.family = 3 ∧ c.wf = true ∧ exec c s = .next t :=
  ⟨.bypass, W [], _, by decide, by decide, rfl⟩

theorem witness_JobAndEngineCommandsKeepTheirFrame : ∃ (c : Instr) (s t : State), c.frame.family = 4 ∧ c.wf = true ∧ exec c s = .next t :=
  ⟨.bxclr 3 ⟨0, false⟩, E id, _, by decide, by decide, rfl⟩

theorem witness_KeystoneAndMemoryCommandsKeepTheirFrame : ∃ (c : Instr) (s t : State), c.frame.family = 5 ∧ c.wf = true ∧ exec c s = .next t :=
  ⟨.pllSwitch 0, W [], _, by decide, by decide, rfl⟩

theorem witness_HousekeepingAndPowerCommandsKeepTheirFrame : ∃ (c : Instr) (s t : State), c.frame.family = 6 ∧ c.wf = true ∧ exec c s = .next t :=
  ⟨.wakePin, W [], _, by decide, by decide, rfl⟩

theorem witness_EngineOperationsStayOnTheirEngine : ∃ (c : Instr) (s t : State) (e k : Nat), c.engineOf = some e ∧ k ≠ e ∧ exec c s = .next t :=
  ⟨.bxclr 3 ⟨0, false⟩, E id, _, 3, 4, by decide, by decide, rfl⟩

theorem witness_StoresChangeOnlyTheirBytes :
    (∃ (s : State) (b : Nat) (_r : CapResult) (c : CapRun), (b < 8 ∧ (s.d.obsSt b).cap = some c)) ∧
    (∃ (s : State) (r : LedgerReq) (q : List LedgerReq), (s.d.ldg.queue = r :: q ∧ s.d.on LEDGER_STAT_gap_pending = false ∧ s.d.ldg.held = [])) ∧
    (∃ (_s : State), True) ∧
    (∃ (s : State) (e : MergeEnt), (s.d.mp.stalest = some e)) ∧
    (∃ (s : State) (n : Nat) (_ok : Bool) (_host : List Nat), (n < 32 ∧ bits (s.d.chan n).ctrl 3 2 = 0 ∧ ((s.d.chan n).dst + s.d.f (DMA_CH_DONE_bytes n)) % 8 = 0)) ∧
    (∃ (_s : State) (n : Nat), (n < 32)) ∧
    (∃ (_s : State) (e j : Nat) (_v : Word), (e < 4096 ∧ j < 64)) ∧
    (∃ (_s : State) (e _l _p _n : Nat) (_o : TBun), (e < 16)) ∧
    (∃ (_s : State) (e k _carrier _frame _slot _sym _l : Nat) (_o : TBun), (e < 16 ∧ k < 1024)) ∧
    (∃ (_s : State) (_lost : Nat), True) ∧
    (∃ (_s : State) (_present : Bool), True) ∧
    (∃ (s : State) (_table : List Nat) (_images : List (List Nat)) (_busErr : Option Nat) (_conv : List (List Nat)) (k : Nat), (k = (if s.d.on KEY_STATUS_active_valid then 1 - s.d.f KEY_STATUS_active_slot else 0))) ∧
    (∃ (s : State) (_ok : Bool) (_conv : List (List Nat)) (k : Nat), (k = (if s.d.on KEY_STATUS_active_valid then 1 - s.d.f KEY_STATUS_active_slot else 0) ∧ s.blk.mem.sle (slotBase 2 + 8) 4 ≤ 0xFFF8)) ∧
    (∃ (_s : State) (_ok : Bool), True) ∧
    (∃ (_s : State) (_org : Origin), True) ∧
    (∃ (s : State) (_good : Bool) (p : Nat), (p = attBase + 0x1000 * (s.blk.mem.recNext 4 attBase 0x1000 12).1)) ∧
    (∃ (s : State) (b base : Nat), (b < 8 ∧ base = calRecBase b (s.blk.calCombo b))) ∧
    (∃ (s : State) (p : Nat), (p = 0x30000 + 0x2000 * (s.blk.mem.recNext 3 0x30000 0x2000 2).1 ∧ s.d.mp.spares.length ≤ 1024)) ∧
    (∃ (_s : State) (_g : Nat), True) ∧
    (∃ (_s : State), True) ∧
    (∃ (_s : State), True) ∧
    (∃ (_s : State), True) ∧
    (∃ (s : State) (ok : Bool) (j : ArcJob) (k : Nat), (s.d.ldg.arc = some j ∧ j.count ≤ 126 ∧ k = (j.sector + 1) % 2048 ∧ (s.d.ldg.want = true ∨ ok = false ∨ s.d.key.storeAbsent = true))) ∧
    (∃ (s : State) (ok : Bool) (j : ArcJob), (s.d.ldg.arc = some j ∧ j.count ≤ 126 ∧ s.d.ldg.want = false ∧ ok = true ∧ s.d.key.storeAbsent = false)) :=
  ⟨⟨WD [] (modObs 1 fun o => { o with cap := some cap1 }), 1, ⟨false, []⟩, cap1, by decide +kernel⟩,
    ⟨WD [] (ledgerPut .host 1 0 0x20 3 5), ⟨0, 0, .host, 1, 0, 0x20, 3, 5, 0⟩, [], by decide +kernel⟩,
    ⟨W [(LEDGER_STAT_gap_pending, 1)], by decide +kernel⟩,
    ⟨WD [] (modMp fun p => { p with merge := [⟨9, 15, [1, 2, 3, 4, 0, 0, 0, 0], 0⟩] }), ⟨9, 15, [1, 2, 3, 4, 0, 0, 0, 0], 0⟩, by decide +kernel⟩,
    ⟨WD [(DMA_CH_STAT_state 3, 2)] (setChan 3 { len := 128, src := 0x1000, dst := 0x2000 }), 3, true, [], by decide +kernel⟩,
    ⟨WD [(DMA_CH_STAT_state 17, 2), (DMA_CH_DONE_bytes 17, 64)] (fun d => d |> setChan 17 { ctrl := 0x50, len := 64, src := 256, dst := 65536, tag := 5 } |> modMp fun p => { p with merge := (List.range 8).map fun i => ⟨9 + i, 15, [1, 2, 3, 4, 0, 0, 0, 0], 0⟩ }), 17, by decide +kernel⟩,
    ⟨WD [] (modGir fun g => { g with stageEntry := some 5, stage := (List.range 63).map fun i => (i, i + 1) }), 5, 63, 9#32, by decide +kernel⟩,
    ⟨E (fun x => { x with lm := (List.range 32).map fun i => (i, 3 * i + 1) }), 3, 0, 0x104, 20, ⟨0, true⟩, by decide +kernel⟩,
    ⟨J [(TRUSS_ENG_STAT_state 9, 2), (TRUSS_ENG_STAT_logical 9, 9)] (setEng 9 { run := some ⟨128, 0, false, none⟩ }), 9, 300, 0, 0, 3, 0, 40, ⟨0, true⟩, by decide +kernel⟩,
    ⟨{ W [(KEY_STATUS_stage, 0)] with blk := { (W [(KEY_STATUS_stage, 0)]).blk with mem := { store := [(7, 7)] } } }, 0, by decide +kernel⟩,
    ⟨W [(KEY_STATUS_stage, 1)], true, by decide +kernel⟩,
    ⟨WD [(KEY_STATUS_stage, 3)] (fun d => { d with host := { d.host with busMaster := true }, key := { d.key with active := some man1 } }), [0x4C, 0x4D, 0x4F, 0x46, 1, 1] ++ List.replicate 10 0 ++ [1] ++ List.replicate 31 0, [[]], none, [], 0, by decide +kernel⟩,
    ⟨{ WD [(KEY_STATUS_stage, 4)] (modKey fun x => { x with pending := some man1 }) with blk := { (WD [(KEY_STATUS_stage, 4)] (modKey fun x => { x with pending := some man1 })).blk with mem := { store := [(0x20008, 0), (0x20009, 0), (0x2000A, 0), (0x2000B, 0)] } } }, true, [], 0, by decide +kernel⟩,
    ⟨WD [(KEY_STAGE_session, 2), (KEY_STAGE_owner, 1)] (modKey fun x => { x with committing := some man1 }), true, by decide +kernel⟩,
    ⟨W [(KEY_STATUS_staging, 1)], .host, by decide +kernel⟩,
    ⟨KW [] id, true, attBase, by decide +kernel⟩,
    ⟨M [] (modCalBay 1 fun c => { c with recDue := true }), 1, 0x160000, by decide +kernel⟩,
    ⟨WD [] (modMp fun p => { p with unwritten := [(3, 7, 0)], spares := [(3, 7, 0)] }), 0x30000, by decide +kernel⟩,
    ⟨WD [] (modHk fun h => { h with calGroup := some 5, zero := some (List.replicate 8 640), full := some (List.replicate 8 256000), fs := 3990 }), 5, by decide +kernel⟩,
    ⟨W [(LEDGER_STAT_fill, 130)], by decide +kernel⟩,
    ⟨W [(LEDGER_STAT_arc_fail, 1), (LEDGER_STAT_fill, 1)], by decide +kernel⟩,
    ⟨W [(LEDGER_STAT_fill, 1)], by decide +kernel⟩,
    ⟨WD [(LEDGER_STAT_fill, 5)] (modLdg fun l => { l with arc := some ⟨7, 3, 2047⟩, want := true }), true, ⟨7, 3, 2047⟩, 0, by decide +kernel⟩,
    ⟨WD [(LEDGER_STAT_fill, 5)] (modLdg fun l => { l with arc := some ⟨7, 3, 1⟩ }), true, ⟨7, 3, 1⟩, by decide +kernel⟩⟩

/-! ### Ill-formed commands are refused, one for each check -/

theorem test_wf_refuses : [(.crossingTransfer 4 true 0 : Instr),
    (.timeMute 8 : Instr),
    (.ttEntryWrite .host 2048 0 0#32 : Instr),
    (.ttEntryWrite .host 0 4 0#32 : Instr),
    (.swapAck 6 : Instr),
    (.gainWrite 64 0 0 : Instr),
    (.renormalise 6 : Instr),
    (.crossFadeEnd 0 2 : Instr),
    (.coefWrite .host 0 2 0 0#32 : Instr),
    (.coefWrite .host 0 0 128 0#32 : Instr),
    (.codebookWrite .host 4096 0 [] : Instr),
    (.codebookWrite .host 0 64 [] : Instr),
    (.railWrite .host 0 16 0 0#32 : Instr),
    (.hostDispatch 16 0 : Instr),
    (.hostDispatch 0 256 : Instr),
    (.jobDescriptorWrite .host 0 16 0#32 : Instr),
    (.mac 0 4 (.v 0) (.v 0) ⟨0, true⟩ : Instr),
    (.shr 0 (.v 0) (.v 0) 40 ⟨0, true⟩ : Instr),
    (.norm 0 0 64 ⟨0, true⟩ : Instr),
    (.exp 0 32 0 ⟨0, true⟩ : Instr),
    (.agadd 0 4 0 ⟨0, true⟩ : Instr),
    (.wrdyn 0 1024 0 0 0 0 0 ⟨0, true⟩ : Instr),
    (.signalDetect 4 : Instr),
    (.portUp 2 0 0 : Instr),
    (.ulOverrun 320 : Instr),
    (.progSlot 4 : Instr),
    (.scrubRead 8388608 0 : Instr),
    (.channelStart .host 32 : Instr),
    (.requestEdge 34 : Instr),
    (.urgentRequest 160 : Instr),
    (.hkCalZero 12 : Instr),
    (.fixedTrip 32 : Instr),
    (.readmit 56 : Instr),
    (.anchOverride 8 0#32 : Instr),
    (.checkStart .host 4 0 : Instr),
    (.archiveRead 2048 : Instr),
    (.eventClear 5 0#32 : Instr),
    (.mac 0 0 (.v 64) (.v 0) ⟨0, true⟩ : Instr),
    (.mac 0 0 (.v 0) (.a 4) ⟨0, true⟩ : Instr),
    (.add 0 (.a 4) (.v 0) (.v 0) ⟨0, true⟩ : Instr),
    (.add 0 (.v 64) (.v 0) (.v 0) ⟨0, true⟩ : Instr)].all (fun c => !c.wf) = true := by decide

theorem test_wf_accepts :
    [(.mac 15 3 (.v 63) (.a 3) ⟨0, true⟩ : Instr), .coefWrite .host 63 1 127 0#32, .ttEntryWrite .host 2047 3 0#32, .eventClear 4 0#32, .swapAck 5].all Instr.wf = true := by decide

/-! ### Steps with the results of the spec's worked cases -/

/-- The state that a command leads to. -/
def ran (c : Instr) (s : State) : State := match exec c s with | .next t => t | _ => s

/-- Chapter 00: path 45 lies in bay 5 at position 5, pier 2; R4's instant of 0513.07.11 in the frame. -/
theorem test_path_45 : bayOf 45 = 5 ∧ posOf 45 = 5 ∧ 45 / 16 = 2 := by decide

/-- Chapter 00: slot 07, symbol 11 on the 30 kHz grid is 3,826,944 ticks into the frame, and a boundary of its grid. -/
theorem test_symbol_11 : symCeil false 3826944 = 3826944 ∧ symCeil false (3826944 - 35071) = 3826944 := by decide +kernel

/-- Chapter 02, a late entry moved: the first boundary with lead is symbol 12, at slot offset 421,376. -/
theorem test_late_entry_moves : symCeil false (7 * 491520 + 384432 + 1967) = 7 * 491520 + 421376 := by decide +kernel

/-- Chapter 02, a wake after 600 s: frame 100 becomes 708, frame_in_second stays, TL_NT goes from 0x1000_0000 to 0xC2C9_7000. -/
theorem test_wake_after_600_s :
    let d := passTicks 589824000000 { devRun with t := { devRun.t with frame := 100, fis := 37, ntU := 3072 * 0x10000000, stopped := false } }
    d.t.frame = 708 ∧ d.t.fis = 37 ∧ d.t.tick = 0 ∧ d.nt = 0xC2C97000 := by decide +kernel

/-- Chapter 05: BAY_RXCH_5 of bay 2 sits at 0x340_0234. -/
theorem test_rxch_offset : (BAY_RXCH_queued 2 5).off = 0x3400234 := by decide +kernel

/-- Chapter 05: the downlink latency of C0 at 122.88 MS/s with S responses is 338,642 ps, that of C2 at 30.72 MS/s with L responses 712,991. -/
theorem test_downlink_latency : dlLatency 16 false = 338642 ∧ dlLatency 4 true = 712991 := by decide +kernel

/-- Chapter 07: with one of 64 equal weights of 0.5 lost, the 63 live ones become 8,257. -/
theorem test_renorm_weight : scaleComp (64, 63) 3 8192 = 8257 := by decide +kernel

/-- Chapter 07: the uncorrectable word 0x3C0_9A84 is of region 7 and makes entry 154 invalid, bit 26 of GIRDER_CB_INVAL4. -/
theorem test_codebook_entry_154 :
    let t := ran (.scrubRead (0x3C09A84 / 8) 2) (W [(MEM_STAT_init_done, 1), (MEM_CFG_scrub_en, 1)])
    t.d.f MEM_LAST_UE_region = 7 ∧ t.d.fb (GIRDER_CB_INVAL_invalid 4) 26 = true ∧ Raised 34 t := by decide +kernel

/-- Chapter 08, a sum that passes the guard bits: the 257th product saturates the real part, and a later negative one leaves it. -/
theorem test_guard_bits :
    let s := E fun x => { x with v := [(32, 0x80008000), (64, 0x7FFF8000), (96, 0x80007FFF)], a := [(0, (549747425280, 0))] }
    let t := ran (.mac 3 0 (.v 1) (.v 2) ⟨0, true⟩) s
    ((t.d.eng 3).acc 0 0).1 = 549755813887 ∧ t.d.fb (TRUSS_ENG_OVF_acc_ovf 3) 0 = true ∧ t.d.f (TRUSS_ENG_OVF_ovf_sums 3) = 1 ∧
      (((ran (.mac 3 0 (.v 1) (.v 3) ⟨0, true⟩) t).d.eng 3).acc 0 0).1 = 549755813887 := by decide +kernel

/-- Chapter 08: ST32 with s = 8 of the saturated component stores 0x7FFF_FFFF. -/
theorem test_st32_saturates :
    let t := ran (.st32 3 0 8 false ⟨0, true⟩) (E fun x => { x with a := [(0, (549755813887, 0))] })
    smGet 0 0 (t.d.eng 3).lm = 0x7FFFFFFF := by decide +kernel

/-- Chapter 08: AG0 with base 0x2000, length 2,048 and pointer 0x2F80 folds to 0x2780 at the next LDX, and circ_resize shows. -/
theorem test_ag_folds :
    let t := ran (.ldx 3 0 ⟨0, true⟩) (E fun x => { x with ag := [(0, { base := 0x2000, len := 2048, ptr := 0x2F80, off := 0, circ := true })], lm := [(0x2780, 77)] })
    smGet 0 0 (t.d.eng 3).v = 77 ∧ t.d.fb (TRUSS_ENG_OVF_circ_resize 3) 0 = true := by decide +kernel

/-- Chapter 14: z̄ of 21.4 and f̄ of 3,951.7 at fs 3,932 give offset 21 and gain 0x800E. -/
theorem test_adc_calibration :
    let s := WD [] (modHk fun h => { h with calGroup := some 5, zero := some (List.replicate 7 1370 ++ [1366]), full := some (List.replicate 7 252909 ++ [252907]), fs := 3932 })
    let t := ran (.hkCalCompute 5) s
    t.d.f (HK_GRP_CAL_offset 5) = 21 ∧ t.d.f (HK_GRP_CAL_gain 5) = 0x800E := by decide +kernel

/-- FIPS 180-4: the digest of "abc" begins ba7816bf. -/
theorem test_sha256 : (sha256 [0x61, 0x62, 0x63]).take 4 = [0xBA, 0x78, 0x16, 0xBF] := by decide +kernel

/-- RFC 3720: the CRC-32C of 32 bytes of zeros is 0x8A9136AA. -/
theorem test_crc32c : crc32c (List.replicate 32 0) = 0x8A9136AA := by decide +kernel

/-- R6: a misaligned host write is an Unsupported Request. -/
theorem test_misaligned : (ran (.registerWrite .host 0x200002 4 [7#32]) (W [])).d.host.resp = .unsupported := by decide +kernel

/-- R490: SPAN_CMD with form and commit is refused. -/
theorem test_span_cmd_two : (ran (.form 4#32) (W [])).d.on SPAN_STATUS_cmd_refused = true := by decide +kernel

/-- R443: DECK_RESET without its key does nothing. -/
theorem test_reset_key : (ran (.deviceReset 0xC201#32) (W [])).d.stage = 5 := by decide +kernel

end Sys2Proof.Tests
end

section
/-!
PROOF. The state after reset (O3), and the frames of the six families (O53 to O58): they do not hold, since a command of each family may come
from the link, and the answer to a refused management write draws a free value.
-/
namespace Sys2Proof.Machine

/-- Settles O3: each part of the statement is a value of the one fixed state. -/
theorem resetIsSafe : Obligations.ResetIsSafe := by
  unfold Obligations.ResetIsSafe
  decide

/-! ### A write by the link that management refuses -/

/-- What a refused management item does to the device (R285, R287): a free value stands beside its status, and the refusal is counted. -/
def refuseItem (d : Dev) : Dev := d |> draw |> incF LINK_XK_MGMT_refused

/-- Management that takes reads alone, or nothing, answers every write DISABLED (R285). -/
theorem mgmtStatus_write_barred {d : Dev} (h : d.f LINK_XK_CFG_mgmt ≤ 1) (off : Nat) : d.mgmtStatus true off = 3 := by
  have : d.f LINK_XK_CFG_mgmt = 0 ∨ d.f LINK_XK_CFG_mgmt = 1 := by omega
  simp [Dev.mgmtStatus, this]

/-- A word that the link writes while management takes no writes is a refused item. -/
theorem wordFrom_link_barred {b : Blk} (hr : b.dev.running = true) (h : b.dev.f LINK_XK_CFG_mgmt ≤ 1) (off : Nat) (v : Word) :
    wordFrom .link off v b = onDev refuseItem b := by
  simp only [wordFrom, wordsFrom, hr, if_true, mgmtItem, mgmtStatus_write_barred h]
  rfl

/-- A deck in service: firmware runs, and everything else is as after reset, so that management takes reads alone. -/
def inService : State := State.reset.actDev (setF KEY_STATUS_stage 5)

/-- Such a word, whatever its offset and value, is refused there. -/
theorem inService_refuses (off : Nat) (v : Word) : wordFrom .link off v inService.blk = onDev refuseItem inService.blk :=
  wordFrom_link_barred (by decide) (by decide) off v

/-- A command that is such a word draws a free value, so a frame without the counter of free values does not hold for it. -/
theorem refused_word_leaves_frame {c : Instr} {g : Blk → Blk} (hc : exec c inService = whileUp g inService)
    (hg : g inService.blk = onDev refuseItem inService.blk) (hp : Part.draws ∉ c.frame.parts)
    (h : ∀ t, exec c inService = .next t → Only c.frame.parts inService t) : False := by
  rw [hc, whileUp_up _ (by decide)] at h
  have hd := h _ rfl .draws hp
  rw [Part.same, State.act_blk, hg] at hd
  exact absurd hd (by decide)

/-- Refutes O53: a write of SPAN_ADAPT_MODE by the link, which management refuses, draws a free value outside the frame. -/
theorem not_timeAndLedgerCommandsKeepTheirFrame : ¬ Obligations.TimeAndLedgerCommandsKeepTheirFrame := fun h =>
  refused_word_leaves_frame (c := .adaptModeWrite .link 0) rfl (inService_refuses ..) (by decide) fun t ht => (h _ _ t rfl rfl ht).1

/-- Refutes O54: a write of DECK_HOSTLEVEL by the link, which management refuses, draws a free value outside the frame. -/
theorem not_spanAndBayCommandsKeepTheirFrame : ¬ Obligations.SpanAndBayCommandsKeepTheirFrame := fun h =>
  refused_word_leaves_frame (c := .hostlevelWrite .link 0) rfl (inService_refuses ..) (by decide) fun t ht => (h _ _ t rfl rfl ht).1

/-- Refutes O55: a write of LINK_LANE_TXEQ by the link, which management refuses, draws a free value outside the frame. -/
theorem not_linkAndPortCommandsKeepTheirFrame : ¬ Obligations.LinkAndPortCommandsKeepTheirFrame := fun h =>
  refused_word_leaves_frame (c := .txeqWrite .link 0 0) rfl (inService_refuses ..) (by decide) fun t ht => (h _ _ t rfl rfl ht).1

/-- Refutes O56: a write of a job descriptor by the link, which management refuses, draws a free value outside the frame. -/
theorem not_jobAndEngineCommandsKeepTheirFrame : ¬ Obligations.JobAndEngineCommandsKeepTheirFrame := fun h =>
  refused_word_leaves_frame (c := .jobDescriptorWrite .link 0 0 0) rfl (inService_refuses ..) (by decide) fun t ht => (h _ _ t rfl rfl ht).1

/-- Refutes O57: a start of a DMA channel by the link, which management refuses, draws a free value outside the frame. -/
theorem not_keystoneAndMemoryCommandsKeepTheirFrame : ¬ Obligations.KeystoneAndMemoryCommandsKeepTheirFrame := fun h =>
  refused_word_leaves_frame (c := .channelStart .link 0) rfl (inService_refuses ..) (by decide) fun t ht => (h _ _ t rfl rfl ht).1

/-- Refutes O58: a start of a check by the link, which management refuses, draws a free value outside the frame. -/
theorem not_housekeepingAndPowerCommandsKeepTheirFrame : ¬ Obligations.HousekeepingAndPowerCommandsKeepTheirFrame := fun h =>
  refused_word_leaves_frame (c := .checkStart .link 0 0) rfl (inService_refuses ..) (by decide) fun t ht => (h _ _ t rfl rfl ht).1

end Sys2Proof.Machine
end
section
/-!
PROOF. Resets: what a reset of the device leaves, field by field (O7), and what the supplies, RESET_N, PWR_OK and the crystal do (O51).
-/
namespace Sys2Proof.Machine

/-! ### The stay outputs take their levels -/

/-- The places of the live fields of HK_STAY_DRV and HK_STAY_STAT. -/
def stayKeys : List Nat :=
  [HK_STAY_DRV_LO_drv.key, HK_STAY_DRV_HI_drv.key, HK_STAY_STAT_anch_otp.key, HK_STAY_STAT_vdda_ok.key, HK_STAY_STAT_clr_pin.key]

theorem f_stayUpdate {x : Fld} (hx : x.key ∉ stayKeys) (d : Dev) : (stayUpdate d).f x = d.f x := by
  simp only [stayKeys, List.mem_cons, List.not_mem_nil, or_false, not_or] at hx
  obtain ⟨lo, hi, otp, vdda, clr⟩ := hx
  unfold stayUpdate
  dsimp only
  rw [f_setB_other clr, f_setB_other vdda, f_setF_other otp, f_setF_other hi, f_setF_other lo]
  rfl

/-! ### The device after a reset -/

/-- An OTP operation that runs at a reset has programmed some of its words. -/
def otpCut (d : Dev) : Dev :=
  match d.key.otpOp with
  | some (op, k) => d |> draw |> otpProgram op k (Config.freeValue d.draws % (d.otpNeeds op k + 1))
  | none => d

theorem otpCut_of_none {d : Dev} (h : d.key.otpOp = none) : otpCut d = d := by unfold otpCut; rw [h]

/-- The device with everything but what a reset leaves gone. -/
def blank (cause : Nat) (d : Dev) : Dev :=
  { now := d.now, draws := d.draws, otp := d.otp, el := { d.el with offHeld := false, wakeDriven := none }
    ev := { haltCount := d.ev.haltCount }, hk := { safeOut := d.el.trips != 0 || d.el.tripHold.isSome, zeroOut := d.hk.zeroOut }
    key := { bootAt := d.now, cause := cause }, t := { stopped := true } }

/-- What a reset makes of a device without an OTP operation: the record of the always-on domain stands, and the outputs take their levels. -/
def restart (cause : Nat) (d : Dev) : Dev :=
  blank cause d |> setF HK_PAR_TRIP_tripped (d.f HK_PAR_TRIP_tripped) |> setF HK_PAR_TRIP_dies (d.f HK_PAR_TRIP_dies)
    |> setF TL_SLEEP_xtal_ok (d.f TL_SLEEP_xtal_ok) |> stayUpdate

theorem clearDev_eq (cause : Nat) (d : Dev) : clearDev cause d = restart cause (otpCut d) := rfl

theorem clearDev_of_none {d : Dev} (h : d.key.otpOp = none) (cause : Nat) : clearDev cause d = restart cause d := by
  rw [clearDev_eq, otpCut_of_none h]

/-- The places of the record of the always-on domain: the fixed trip and the crystal. -/
def aonKeys : List Nat := [HK_PAR_TRIP_tripped.key, HK_PAR_TRIP_dies.key, TL_SLEEP_xtal_ok.key]

/-- Any other field holds its reset value (R10). -/
theorem f_restart {x : Fld} (hs : x.key ∉ stayKeys) (ha : x.key ∉ aonKeys) (c : Nat) (d : Dev) : (restart c d).f x = x.rst % x.size := by
  simp only [aonKeys, List.mem_cons, List.not_mem_nil, or_false, not_or] at ha
  obtain ⟨tripped, dies, xtal⟩ := ha
  unfold restart
  rw [f_stayUpdate hs, f_setF_other xtal, f_setF_other dies, f_setF_other tripped]
  rfl

theorem f_restart_kept {x : Fld} (hx : x ∈ [HK_PAR_TRIP_tripped, HK_PAR_TRIP_dies, TL_SLEEP_xtal_ok]) (c : Nat) (d : Dev) :
    (restart c d).f x = d.f x := by
  unfold restart
  simp only [List.mem_cons, List.not_mem_nil, or_false] at hx
  obtain rfl | rfl | rfl := hx
  · rw [f_stayUpdate (by decide), f_setF_other (by decide), f_setF_other (by decide), f_setF_same, Nat.mod_eq_of_lt (f_lt ..)]
  · rw [f_stayUpdate (by decide), f_setF_other (by decide), f_setF_same, Nat.mod_eq_of_lt (f_lt ..)]
  · rw [f_stayUpdate (by decide), f_setF_same, Nat.mod_eq_of_lt (f_lt ..)]

theorem deckUp_congr {d e : Dev} (h : e.el = d.el) (k : e.f PWR_STAT_state = d.f PWR_STAT_state) : e.deckUp = d.deckUp := by
  unfold Dev.deckUp; rw [h, k]

/-! ### The always-on domain loses its power -/

/-- A field put back to what its place reads as when nothing is stored there, read through any field of the same place. -/
theorem f_setF_rst {x y : Fld} (h : y.key = x.key) {v : Nat} (hv : v % x.size = x.rst) (d : Dev) : (setF x v d).f y = y.rst % y.size := by
  unfold Dev.f
  rw [setF_regs, h, smPut, if_pos hv, smGet_drop_same]

/-- Without the always-on domain every field but the live ones holds its reset value. -/
theorem f_aonOff_restart {x : Fld} (hs : x.key ∉ stayKeys) (c : Nat) (d : Dev) : (aonOff (restart c d)).f x = x.rst % x.size := by
  unfold aonOff
  by_cases xtal : x.key = TL_SLEEP_xtal_ok.key
  · exact f_setF_rst xtal rfl _
  by_cases dies : x.key = HK_PAR_TRIP_dies.key
  · rw [f_setF_other xtal, f_setF_rst dies rfl]
  by_cases tripped : x.key = HK_PAR_TRIP_tripped.key
  · rw [f_setF_other xtal, f_setF_other dies, f_setF_rst tripped rfl]
  rw [f_setF_other xtal, f_setF_other dies, f_setF_other tripped, f_restart hs (by simp [aonKeys, *])]

/-- The always-on domain's record and the Halt count do not outlive its supply. -/
def afterLoss (d : Dev) : Dev :=
  let d := aonOff d
  { d with ev := {} } |> stayUpdate

/-- A restart after the loss of the always-on supply. -/
def coldStart (d : Dev) : Dev := afterLoss (restart 0 d)

theorem coldStart_eq {d : Dev} (h : d.key.otpOp = none) : coldStart d = afterLoss (clearDev 0 d) := by rw [clearDev_of_none h]; rfl

theorem powerOn_of_none {d : Dev} (h : d.key.otpOp = none) :
    powerOn d = coldStart (modEl (fun e => { e with vaon := true, pwrOk := false, trips := 0, tripHold := none, stayAt := d.now }) d) := by
  rw [coldStart_eq (d := modEl _ d) h]
  unfold powerOn afterLoss modEl
  rfl

theorem vaonLoss_of_none {d : Dev} (h : d.key.otpOp = none) :
    vaonLoss d = coldStart (modEl (fun e => { e with vaon := false, trips := 0, tripHold := none }) d) := by
  rw [coldStart_eq (d := modEl _ d) h]
  unfold vaonLoss afterLoss modEl
  rfl

theorem f_afterLoss {x : Fld} (hs : x.key ∉ stayKeys) (d : Dev) : (afterLoss d).f x = (aonOff d).f x := by
  unfold afterLoss
  extract_lets e
  exact (f_stayUpdate hs _).trans (f_congr rfl x)

theorem f_coldStart {x : Fld} (hs : x.key ∉ stayKeys) (d : Dev) : (coldStart d).f x = x.rst % x.size :=
  (f_afterLoss hs _).trans (f_aonOff_restart hs 0 d)

theorem coldStart_el (d : Dev) : (coldStart d).el = { d.el with offHeld := false, wakeDriven := none } := rfl
theorem coldStart_key (d : Dev) : (coldStart d).key = { bootAt := d.now, cause := 0 } := rfl
theorem coldStart_ev (d : Dev) : (coldStart d).ev = {} := rfl
theorem coldStart_otp (d : Dev) : (coldStart d).otp = d.otp := rfl

/-! ### Events without a Halt keep what lies outside the event registers -/

/-- The place of a field lies outside the event registers. -/
def OutsideEvents (x : Fld) : Prop := x.key / 32 < 0x110 ∨ 0x680 ≤ x.key / 32

theorem OutsideEvents.key_ne {x y : Fld} (hx : OutsideEvents x) (h : 0x110 ≤ y.key / 32 ∧ y.key / 32 < 0x680) : x.key ≠ y.key := by
  intro e
  unfold OutsideEvents at hx
  rw [e] at hx
  omega

theorem evtCount_key_mem {e : Nat} (he : e < 160) : 0x110 ≤ (DECK_EVT_CFG_count e).key / 32 ∧ (DECK_EVT_CFG_count e).key / 32 < 0x680 := by
  simp only [Fld.key, DECK_EVT_CFG_count]; omega

theorem evtPend_key_mem {w : Nat} (hw : w < 5) : 0x110 ≤ (DECK_EVT_PEND_pend w).key / 32 ∧ (DECK_EVT_PEND_pend w).key / 32 < 0x680 := by
  simp only [Fld.key, DECK_EVT_PEND_pend]; omega

section
variable {x : Fld} (hx : OutsideEvents x)
include hx

theorem f_countAndSignal_outside {e : Nat} (he : e < 160) (d : Dev) : (countAndSignal e d).f x = d.f x := by
  unfold countAndSignal
  dsimp only
  split
  · rw [f_setBitF_other (hx.key_ne (evtPend_key_mem (by omega))), f_incF_other (hx.key_ne (evtCount_key_mem he))]
  · exact (f_setBitF_other (hx.key_ne (evtPend_key_mem (by omega))) _ _).trans (f_incF_other (hx.key_ne (evtCount_key_mem he)) _)

theorem f_dropEvent_outside (d : Dev) : (dropEvent d).f x = d.f x := by
  have lost : x.key ≠ DECK_EVQ_WR_lost.key := hx.key_ne (by decide)
  unfold dropEvent
  dsimp only
  split
  · exact f_incF_other lost _
  · rw [f_countAndSignal_outside hx (by decide), f_incF_other lost]
    exact f_incF_other lost _

theorem f_queueEvent_outside (e u c n : Nat) (d : Dev) : (queueEvent e u c n d).f x = d.f x :=
  f_setF_other (hx.key_ne (by decide)) _ _

theorem f_raise_outside {e : Nat} (he : e < 160) (hc : eventClass e ≠ 2) (u c n : Nat) (d : Dev) : (raise e u c n d).f x = d.f x := by
  unfold raise raiseEvent
  simp only [if_neg hc, f_countAndSignal_outside hx he]
  split
  · exact f_dropEvent_outside hx d
  · exact f_queueEvent_outside hx e u c n d

end

theorem dropEvent_haltCount (d : Dev) : (dropEvent d).ev.haltCount = d.ev.haltCount := by
  unfold dropEvent
  dsimp only
  split
  · rfl
  · unfold countAndSignal
    dsimp only
    split <;> rfl

theorem countAndSignal_ev (e : Nat) (d : Dev) : (countAndSignal e d).ev = d.ev := by
  unfold countAndSignal
  dsimp only
  split <;> rfl

theorem raise_haltCount {e : Nat} (hc : eventClass e ≠ 2) (u c n : Nat) (d : Dev) : (raise e u c n d).ev.haltCount = d.ev.haltCount := by
  unfold raise raiseEvent
  simp only [if_neg hc, countAndSignal_ev]
  split
  · exact dropEvent_haltCount d
  · rfl

/-! ### The anchorage overrides that a reset ends (R379) -/

/-- One override ends: it is counted, and E058 tells of it. -/
def overrideEnds (k : Nat) (d : Dev) : Dev := d |> incF HK_STAY_STAT_anch_reverts |> raise 58 k 0 0

theorem quiet_overrideEnds (k : Nat) (d : Dev) : Quiet d (overrideEnds k d) :=
  ((Quiet.refl d).set _ (fun _ hx => evFree_ne hx (by decide) (by decide)) _).trans (quiet_raise 58 (by decide) _ _ _ _)

theorem mono_overrideEnds (k : Nat) (d : Dev) : EvMono d (overrideEnds k d) :=
  ((EvMono.refl d).set _ (fun w _ => by simp [DECK_EVT_PEND_pend, HK_STAY_STAT_anch_reverts, Fld.key]; omega) _).trans
    (evPending_raise 58 (by decide) _ _ _ _).2

theorem f_overrideEnds_outside {x : Fld} (hx : OutsideEvents x) (hr : x.key ≠ HK_STAY_STAT_anch_reverts.key) (k : Nat) (d : Dev) :
    (overrideEnds k d).f x = d.f x :=
  (f_raise_outside hx (by decide) (by decide) ..).trans (f_incF_other hr d)

theorem f_overrideEnds_reverts (k : Nat) (d : Dev) :
    (overrideEnds k d).f HK_STAY_STAT_anch_reverts = min (d.f HK_STAY_STAT_anch_reverts + 1) 255 :=
  (f_raise_outside (.inr (by decide)) (by decide) (by decide) ..).trans (f_incF_same _ d)

theorem f_forAll {α : Type} {x : Fld} {g : α → Dev → Dev} (h : ∀ a d, (g a d).f x = d.f x) (l : List α) (d : Dev) :
    (forAll l g d).f x = d.f x := by
  induction l generalizing d with
  | nil => rfl
  | cons a r ih => exact (ih (g a d)).trans (h a d)

theorem f_forAll_overrideEnds_reverts (l : List Nat) (d : Dev) (h : d.f HK_STAY_STAT_anch_reverts + l.length < 256) :
    (forAll l overrideEnds d).f HK_STAY_STAT_anch_reverts = d.f HK_STAY_STAT_anch_reverts + l.length := by
  induction l generalizing d with
  | nil => rfl
  | cons k r ih =>
    have hk := f_overrideEnds_reverts k d
    rw [List.length_cons] at h ⊢
    exact (ih (overrideEnds k d) (by omega)).trans (by omega)

theorem evPending_forAll_overrideEnds {l : List Nat} (h : l ≠ []) (d : Dev) : (forAll l overrideEnds d).evPending 58 = true := by
  obtain ⟨k, r, rfl⟩ := List.exists_cons_of_ne_nil h
  exact mono_forAll r overrideEnds (fun k _ => mono_overrideEnds k) _ 58 (by decide) (evPending_raise 58 (by decide) k 0 0 _).1

theorem forAll_overrideEnds_haltCount (l : List Nat) (d : Dev) : (forAll l overrideEnds d).ev.haltCount = d.ev.haltCount := by
  induction l generalizing d with
  | nil => rfl
  | cons k r ih => exact (ih (overrideEnds k d)).trans (raise_haltCount (by decide) ..)

/-! ### A reset of a running device -/

/-- The anchorage outputs whose word an override gives. -/
def Dev.overrides (d : Dev) : List Nat := (List.range 8).filter fun k => d.on (HK_ANCH_override k)

theorem resetDev_eq (c : Nat) (d : Dev) : resetDev c d = forAll d.overrides overrideEnds (clearDev c d) := rfl

theorem overrides_eq_nil {d : Dev} : d.overrides = [] ↔ ∀ k < 8, d.on (HK_ANCH_override k) = false := by
  simp [Dev.overrides, List.filter_eq_nil_iff]

theorem overrides_length_le (d : Dev) : d.overrides.length ≤ 8 := by
  simpa [Dev.overrides] using List.length_filter_le (fun k => d.on (HK_ANCH_override k)) (List.range 8)

theorem quiet_resetDev (c : Nat) (d : Dev) : Quiet (clearDev c d) (resetDev c d) := by
  rw [resetDev_eq]; exact quiet_forAll _ _ (fun k _ => quiet_overrideEnds k) _

section
variable (c : Nat) (d : Dev)

theorem resetDev_tt : (resetDev c d).tt = (clearDev c d).tt := by obtain ⟨_, _, _, h⟩ := (quiet_resetDev c d).1; rw [h]
theorem resetDev_otp : (resetDev c d).otp = (clearDev c d).otp := by obtain ⟨_, _, _, h⟩ := (quiet_resetDev c d).1; rw [h]
theorem resetDev_key : (resetDev c d).key = (clearDev c d).key := by obtain ⟨_, _, _, h⟩ := (quiet_resetDev c d).1; rw [h]
theorem resetDev_el : (resetDev c d).el = (clearDev c d).el := by obtain ⟨_, _, _, h⟩ := (quiet_resetDev c d).1; rw [h]
theorem resetDev_haltCount : (resetDev c d).ev.haltCount = (clearDev c d).ev.haltCount := forAll_overrideEnds_haltCount ..

theorem f_resetDev {x : Fld} (hx : evFree x) : (resetDev c d).f x = (clearDev c d).f x := (quiet_resetDev c d).2 x hx

end

/-- A field outside the live ones and the always-on domain holds its reset value, and so do the event registers when no override ends. -/
theorem f_resetDev_rst {x : Fld} {d : Dev} (hn : d.key.otpOp = none) (hs : x.key ∉ stayKeys) (ha : x.key ∉ aonKeys)
    (hr : x.key ≠ HK_STAY_STAT_anch_reverts.key) (he : OutsideEvents x ∨ d.overrides = []) (c : Nat) :
    (resetDev c d).f x = x.rst % x.size := by
  rw [resetDev_eq, clearDev_of_none hn]
  obtain he | he := he
  · rw [f_forAll (f_overrideEnds_outside he hr), f_restart hs ha]
  · rw [he]; exact f_restart hs ha c d

theorem f_resetDev_reverts {d : Dev} (hn : d.key.otpOp = none) (c : Nat) :
    (resetDev c d).f HK_STAY_STAT_anch_reverts = d.overrides.length := by
  have h0 : (restart c d).f HK_STAY_STAT_anch_reverts = 0 := f_restart (by decide) (by decide) c d
  have h8 := overrides_length_le d
  rw [resetDev_eq, clearDev_of_none hn, f_forAll_overrideEnds_reverts _ _ (by omega), h0, Nat.zero_add]

theorem evPending_resetDev {d : Dev} (h : ∃ k < 8, d.on (HK_ANCH_override k) = true) (c : Nat) : (resetDev c d).evPending 58 = true := by
  refine evPending_forAll_overrideEnds (fun h0 => ?_) _
  obtain ⟨k, hk, ho⟩ := h
  rw [overrides_eq_nil.mp h0 k hk] at ho
  exact absurd ho (by decide)

theorem f_resetDev_kept {x : Fld} (hx : x ∈ [HK_PAR_TRIP_tripped, HK_PAR_TRIP_dies, TL_SLEEP_xtal_ok]) {d : Dev}
    (hn : d.key.otpOp = none) (c : Nat) : (resetDev c d).f x = d.f x := by
  have he : evFree x := by
    simp only [List.mem_cons, List.not_mem_nil, or_false] at hx
    obtain rfl | rfl | rfl := hx <;> decide
  rw [f_resetDev c d he, clearDev_of_none hn, f_restart_kept hx]

/-! ### The deck leaves reset -/

theorem leaveReset_up {d : Dev} (h : d.deckUp = true) :
    leaveReset d = stayUpdate { d with
      t := { d.t with stopped := false }, key := { d.key with bootAt := d.now }, hk := { d.hk with zeroOut := false, safeOut := false } } := by
  unfold leaveReset; rw [if_pos h]; rfl

theorem f_leaveReset {x : Fld} (hs : x.key ∉ stayKeys) (d : Dev) : (leaveReset d).f x = d.f x := by
  unfold leaveReset
  split
  · rw [f_stayUpdate hs]; rfl
  · rfl

theorem evPending_leaveReset (e : Nat) (he : e < 160) (d : Dev) : (leaveReset d).evPending e = d.evPending e := by
  unfold Dev.evPending Dev.fb
  rw [f_leaveReset]
  simp only [stayKeys, Fld.key, DECK_EVT_PEND_pend, HK_STAY_DRV_LO_drv, HK_STAY_DRV_HI_drv, HK_STAY_STAT_anch_otp, HK_STAY_STAT_vdda_ok,
    HK_STAY_STAT_clr_pin, List.mem_cons, List.not_mem_nil, or_false, not_or]
  omega

/-! ### What the supplies and the pins do (O51) -/

theorem on_eq_false_of_f {x : Fld} {d : Dev} (h : d.f x = 0) : d.on x = false := by unfold Dev.on; rw [h]; rfl

theorem deckUp_without_vaon {d : Dev} (h : d.el.vaon = false) : d.deckUp = false := by simp [Dev.deckUp, h]
theorem deckUp_without_resetN {d : Dev} (h : d.el.resetN = false) : d.deckUp = false := by simp [Dev.deckUp, h]
theorem deckUp_without_pwrOk {d : Dev} (h : d.el.pwrOk = false) : d.deckUp = false := by simp [Dev.deckUp, h]

/-- A deck that nothing holds is up in the state after reset. -/
theorem deckUp_of_off {d : Dev} (h : d.el.vaon = true ∧ d.el.resetN = true ∧ d.el.pwrOk = true ∧ d.el.offHeld = false ∧ d.el.trips = 0 ∧
    d.el.tripHold = none) (hs : d.pwr = 4) : d.deckUp = true := by
  have hs' : d.f PWR_STAT_state = 4 := hs
  obtain ⟨hv, hr, hp, ho, ht, hh⟩ := h
  simp [Dev.deckUp, hv, hr, hp, ho, ht, hh, hs']

theorem deckUp_stayUpdate (d : Dev) : (stayUpdate d).deckUp = d.deckUp := deckUp_congr rfl (f_stayUpdate (by decide) d)

theorem resetDev_el_of_none {d : Dev} (h : d.key.otpOp = none) (c : Nat) :
    (resetDev c d).el = { d.el with offHeld := false, wakeDriven := none } := by
  rw [resetDev_el, clearDev_of_none h]; rfl

theorem resetDev_otp_of_none {d : Dev} (h : d.key.otpOp = none) (c : Nat) : (resetDev c d).otp = d.otp := by
  rw [resetDev_otp, clearDev_of_none h]; rfl

theorem resetDev_key_of_none {d : Dev} (h : d.key.otpOp = none) (c : Nat) : (resetDev c d).key = { bootAt := d.now, cause := c } := by
  rw [resetDev_key, clearDev_of_none h]; rfl

theorem resetDev_tt_of_none {d : Dev} (h : d.key.otpOp = none) (c : Nat) : (resetDev c d).tt = [] := by
  rw [resetDev_tt, clearDev_of_none h]; rfl

theorem resetDev_haltCount_of_none {d : Dev} (h : d.key.otpOp = none) (c : Nat) : (resetDev c d).ev.haltCount = d.ev.haltCount := by
  rw [resetDev_haltCount, clearDev_of_none h]; rfl

theorem resetDev_stage {d : Dev} (h : d.key.otpOp = none) (c : Nat) : (resetDev c d).stage = 0 :=
  f_resetDev_rst h (by decide) (by decide) (by decide) (.inl (by unfold OutsideEvents; decide)) c

theorem pwrOkFall_eq {d : Dev} (h : d.el.pwrOk = true) (hp : d.pwr ≠ 3) (ho : d.el.offHeld = false) :
    pwrOkFall d = resetDev 0 (modEl (fun e => { e with pwrOk := false }) d) := by
  unfold pwrOkFall; rw [if_neg (by simp [h, hp, ho])]

theorem pwrOkRise_eq {d : Dev} (h : d.el.pwrOk = false) (hp : d.pwr ≠ 3) :
    pwrOkRise d = leaveReset (modEl (fun e => { e with pwrOk := true, okAt := d.now }) d) := by
  unfold pwrOkRise; rw [if_neg (by simp [h])]; exact if_neg hp

theorem resetRelease_eq {d : Dev} (h : d.el.resetN = false) : resetRelease d = leaveReset (modEl (fun e => { e with resetN := true }) d) := by
  unfold resetRelease; rw [if_neg (by simp [h])]

theorem xtalStart_eq {d : Dev} (h : d.el.vaon = true) (ho : d.el.offHeld = false) : xtalStart d = setF TL_SLEEP_xtal_ok 1 d := by
  unfold xtalStart; rw [if_pos (by simp [h, ho])]; rfl

theorem crystalFailure_eq {d : Dev} (h : d.pwr ≠ 3) : crystalFailure d = setF TL_SLEEP_xtal_ok 0 d := by
  unfold crystalFailure; rw [if_neg h]; rfl

/-- The state with another device. -/
def State.withDev (s : State) (e : Dev) : State := { s with blk := { s.blk with dev := e } }

/-- A command that acts on the device alone, by what it makes of the device. -/
theorem does_of_dev {c : Instr} {s : State} {g : Dev → Dev} {P : State → Prop} (hc : exec c s = .next (s.act (onDev g))) {e : Dev}
    (he : g s.blk.dev = e) (h : P (s.withDev e)) : Does c s P := ⟨_, hc, by subst he; exact h⟩

theorem doesDev_of_eq {c : Instr} {s : State} {g g' : Dev → Dev} (hc : exec c s = .next (s.actDev g)) (h : g s.blk.dev = g' s.blk.dev) :
    DoesDev c s g' := by
  refine hc.trans (congrArg Host.Outcome.next ?_)
  unfold State.actDev State.act onDev
  rw [h]

/-- Settles O51: each command is a restart of the device, the start of the deck, or one field of the crystal. -/
theorem suppliesAndResets : Obligations.SuppliesAndResets := by
  intro s
  refine ⟨fun h => does_of_dev rfl (powerOn_of_none h) ?powerOn, fun h => does_of_dev rfl (vaonLoss_of_none h) ?vaonLoss,
    fun h => ⟨_, rfl, ?resetN⟩, ?resetRelease, ?pwrOkFall, ?pwrOkRise,
    ?xtalStart, ?crystalFailure⟩
  case powerOn =>
    have hel := coldStart_el (modEl (fun e => { e with vaon := true, pwrOk := false, trips := 0, tripHold := none, stayAt := s.d.now }) s.d)
    exact ⟨f_coldStart (by decide) _, deckUp_without_pwrOk (congrArg (·.pwrOk) hel), congrArg (·.cause) (coldStart_key _),
      congrArg (·.vaon) hel, congrArg (·.pwrOk) hel, congrArg (·.haltCount) (coldStart_ev _),
      on_eq_false_of_f (f_coldStart (by decide) _), coldStart_otp _, f_coldStart (by decide) _⟩
  case vaonLoss =>
    have hel := coldStart_el (modEl (fun e => { e with vaon := false, trips := 0, tripHold := none }) s.d)
    exact ⟨f_coldStart (by decide) _, deckUp_without_vaon (congrArg (·.vaon) hel), congrArg (·.vaon) hel,
      congrArg (·.haltCount) (coldStart_ev _), on_eq_false_of_f (f_coldStart (by decide) _),
      on_eq_false_of_f (f_coldStart (by decide) _), coldStart_otp _⟩
  case resetN =>
    have hn : (modEl (fun e => { e with resetN := false }) s.d).key.otpOp = none := h
    have hel := resetDev_el_of_none hn 0
    have hrst : (resetPin s.d).el.resetN = false := congrArg (·.resetN) hel
    exact ⟨hrst, deckUp_without_resetN hrst, resetDev_stage hn 0, congrArg (·.cause) (resetDev_key_of_none hn 0),
      resetDev_haltCount_of_none hn 0, f_resetDev_kept (by decide) hn 0, resetDev_otp_of_none hn 0, resetDev_tt_of_none hn 0, rfl⟩
  case resetRelease =>
    rintro ⟨hr, hv, hp, ht, hh, ho, hs⟩
    have hup := deckUp_of_off (d := modEl (fun e => { e with resetN := true }) s.d) ⟨hv, rfl, hp, ho, ht, hh⟩ hs
    refine does_of_dev rfl ((resetRelease_eq hr).trans (leaveReset_up hup)) ?_
    exact ⟨rfl, (deckUp_stayUpdate _).trans hup, f_stayUpdate (by decide) _, rfl, rfl⟩
  case pwrOkFall =>
    rintro ⟨hp, hs, ho, hn⟩
    have hn' : (modEl (fun e => { e with pwrOk := false }) s.d).key.otpOp = none := hn
    have hok : (resetDev 0 (modEl (fun e => { e with pwrOk := false }) s.d)).el.pwrOk = false := congrArg (·.pwrOk) (resetDev_el_of_none hn' 0)
    exact does_of_dev rfl (pwrOkFall_eq hp hs ho) ⟨hok, deckUp_without_pwrOk hok, resetDev_stage hn' 0,
      congrArg (·.cause) (resetDev_key_of_none hn' 0), resetDev_otp_of_none hn' 0⟩
  case pwrOkRise =>
    rintro ⟨hp, hs, hr, hv, ht, hh, ho⟩
    have hup := deckUp_of_off (d := modEl (fun e => { e with pwrOk := true, okAt := s.d.now }) s.d) ⟨hv, hr, rfl, ho, ht, hh⟩ hs
    refine does_of_dev rfl ((pwrOkRise_eq hp (by rw [hs]; decide)).trans (leaveReset_up hup)) ?_
    exact ⟨rfl, (deckUp_stayUpdate _).trans hup, rfl⟩
  case xtalStart =>
    rintro ⟨hv, ho⟩
    exact doesDev_of_eq rfl (xtalStart_eq hv ho)
  case crystalFailure =>
    intro h
    exact doesDev_of_eq rfl (crystalFailure_eq h)


/-! ### The reset column (O7) -/

/-- The live fields lie in three registers. -/
theorem not_mem_stayKeys {x : Fld} (h : x.key / 32 ∉ [HK_STAY_DRV_LO_drv.off, HK_STAY_DRV_HI_drv.off, HK_STAY_STAT_clr_pin.off]) :
    x.key ∉ stayKeys := fun hx => h <| by
  simp only [stayKeys, List.mem_cons, List.not_mem_nil, or_false] at hx
  obtain hx | hx | hx | hx | hx := hx <;> rw [hx] <;> decide

/-- The registers that a reset of a running device leaves, and those that the stay outputs show. -/
theorem not_mem_restKeys {x : Fld}
    (h : x.key / 32 ∉ [HK_STAY_DRV_LO_drv.off, HK_STAY_DRV_HI_drv.off, HK_STAY_STAT_clr_pin.off, HK_PAR_TRIP_dies.off, TL_SLEEP_xtal_ok.off]) :
    x.key ∉ stayKeys ∧ x.key ∉ aonKeys ∧ x.key ≠ HK_STAY_STAT_anch_reverts.key := by
  refine ⟨not_mem_stayKeys fun hm => h ?_, fun hx => h ?_, fun hx => h (by rw [hx]; decide)⟩
  · exact List.mem_append_left [HK_PAR_TRIP_dies.off, TL_SLEEP_xtal_ok.off] hm
  · simp only [aonKeys, List.mem_cons, List.not_mem_nil, or_false] at hx
    obtain hx | hx | hx := hx <;> rw [hx] <;> decide

/-- What O7 says of a device e after a reset of a running device d. -/
def ResetColumn (d e : Dev) : Prop :=
  (∀ x : Fld, x.key / 32 ∉ [HK_STAY_DRV_LO_drv.off, HK_STAY_DRV_HI_drv.off, HK_STAY_STAT_clr_pin.off, HK_PAR_TRIP_dies.off,
      TL_SLEEP_xtal_ok.off] →
    (x.key / 32 < 0x110 ∨ 0x680 ≤ x.key / 32 ∨ ∀ k < 8, d.on (HK_ANCH_override k) = false) → e.f x = x.rst % x.size) ∧
  ((∃ k < 8, d.on (HK_ANCH_override k) = true) → e.evPending 58 = true) ∧
  e.f HK_STAY_STAT_anch_reverts = ((List.range 8).filter fun k => d.on (HK_ANCH_override k)).length ∧
  ∀ x ∈ [HK_PAR_TRIP_dies, HK_PAR_TRIP_tripped, TL_SLEEP_xtal_ok], e.f x = d.f x

theorem resetDev_column {d : Dev} (hn : d.key.otpOp = none) (c : Nat) : ResetColumn d (resetDev c d) := by
  refine ⟨fun x hx he => ?_, fun h => evPending_resetDev h c, f_resetDev_reverts hn c,
    fun x hx => f_resetDev_kept (by simpa [or_left_comm] using hx) hn c⟩
  obtain ⟨hs, ha, hr⟩ := not_mem_restKeys hx
  refine f_resetDev_rst hn hs ha hr ?_ c
  rw [overrides_eq_nil]
  exact or_assoc.mpr he

/-- Leaving reset touches the live fields alone. -/
theorem ResetColumn.leaveReset {d e : Dev} (h : ResetColumn d e) : ResetColumn d (leaveReset e) := by
  obtain ⟨hcol, hev, hrev, hkept⟩ := h
  refine ⟨fun x hx he => ?_, fun ho => ?_, ?_, fun x hx => ?_⟩
  · rw [f_leaveReset (not_mem_restKeys hx).1, hcol x hx he]
  · rw [evPending_leaveReset 58 (by decide), hev ho]
  · rw [f_leaveReset (by decide), hrev]
  · rw [f_leaveReset, hkept x hx]
    simp only [List.mem_cons, List.not_mem_nil, or_false] at hx
    obtain rfl | rfl | rfl := hx <;> decide

theorem deviceReset_keyed {v : Nat} (h : v % 2 = 1) (hk : bits v 15 8 = 0xC3) (d : Dev) : deviceReset v d = leaveReset (resetDev 0 d) := by
  unfold deviceReset; rw [if_pos ⟨h, hk⟩]

theorem onDev_onDev (g f : Dev → Dev) (b : Blk) : onDev g (onDev f b) = onDev (fun d => g (f d)) b := rfl

/-- The host's write of DECK_RESET, on a running deck and with no write of the host waiting. -/
theorem exec_deviceReset {s : State} (v : Word) (hu : s.d.deckUp = true) (hr : s.d.running = true) (hq : s.d.hostWaits = false) :
    exec (.deviceReset v) s = .next (s.act (onDev fun d => deviceReset v.toNat (fresh d))) := by
  have hw : hostWrite 0x10 v.toNat s.blk = onDev (fun d => deviceReset v.toNat (fresh d)) s.blk := by
    rw [hostWrite_running 0x10 v.toNat s.blk hu hr (by decide) (by decide) (by decide) hq, Nat.mod_eq_of_lt v.isLt, busWord,
      if_pos rfl, onDev_onDev]
  refine (whileUp_up _ hu).trans (congrArg Host.Outcome.next ?_)
  unfold State.act
  rw [hw]

/-- Settles O7: a reset leaves the blank device but for the record of the always-on domain, the live fields and the overrides it ends. -/
theorem resetLeavesTheResetColumn : Obligations.ResetLeavesTheResetColumn := by
  intro s
  refine ⟨fun h => ?powerOn, fun h => ?resetN, fun v hq => ?deviceReset⟩
  case powerOn => exact does_of_dev rfl (powerOn_of_none h) fun x hx => f_coldStart (not_mem_stayKeys hx) _
  case resetN => exact ⟨_, rfl, resetDev_column (d := modEl (fun e => { e with resetN := false }) s.d) h 0⟩
  case deviceReset =>
    rintro ⟨hu, hr, hv, hk, hn⟩
    exact does_of_dev (exec_deviceReset v hu hr hq) (deviceReset_keyed hv hk _) (resetDev_column (d := fresh s.d) hn 0).leaveReset

end Sys2Proof.Machine
end

section
/-!
PROOF. Writes from outside and the access rules (O8): what a word written does where no register answers, and what it reaches otherwise.
-/
namespace Sys2Proof.Machine

/-! ### A word written on the register bus -/

/-- An aligned word below BAR2 is taken by the bus, the record of the last access cleared. -/
theorem busWrite_word {b : Blk} {off : Nat} (hu : b.dev.deckUp = true) (ho : off < 0x4000000) (hw : writeAllowed off 4 = true)
    (org : Origin) (v : Word) : busWrite org off 4 [v] b = busTake org off v.toNat (onDev fresh b) := by
  have h2 : inBar2 off = false := by simp [inBar2, offIn]; omega
  unfold busWrite
  rw [if_neg (by simp [h2]), if_neg (by simp [hu]; omega), if_neg (by simp [hw])]
  rfl

/-- Where nothing answers, a word has no effect. -/
theorem busTake_unanswered {b : Blk} {off : Nat} (h : b.dev.answers off = false) (org : Origin) (v : Nat) : busTake org off v b = b := by
  unfold busTake; rw [if_pos (.inl (by simp [h]))]

/-- Where an offset outside the staging window answers, a word that waits behind no other reaches its range. -/
theorem busTake_answered {b : Blk} {org : Origin} {off : Nat} (h : b.dev.answers off = true) (hs : offIn off 0x410000 0x41FFF8 = false)
    (hq : org = .host → b.dev.hostWaits = false) (v : Nat) : busTake org off v b = busWord org off v b := by
  unfold busTake
  rw [if_neg (by simp [h, hs]), if_neg fun hw => by rw [hq hw.1] at hw; exact absurd hw.2 (by decide)]

theorem answers_running {d : Dev} (h : d.running = true) (off : Nat) : d.answers off = true := by unfold Dev.answers; rw [h]; rfl

theorem offIn_false {off lo hi : Nat} (h : off < lo ∨ hi ≤ off) : offIn off lo hi = false := by
  unfold offIn; exact decide_eq_false (by omega)

theorem offIn_true {off lo hi : Nat} (h : lo ≤ off) (k : off < hi) : offIn off lo hi = true := decide_eq_true ⟨h, k⟩

theorem exec_hostRegisterWrite {s : State} {off : Nat} (hu : s.d.deckUp = true) (ho : off < 0x4000000) (hw : writeAllowed off 4 = true) (v : Word) :
    exec (.registerWrite .host off 4 [v]) s = .next (s.act fun b => busTake .host off v.toNat (onDev fresh b)) :=
  (whileUp_up _ hu).trans (congrArg (fun b => Host.Outcome.next { s with blk := b }) (busWrite_word hu ho hw .host v))

/-- A host's word that changes nothing but the record of the last access. -/
theorem doesDev_fresh {s : State} {off : Nat} {v : Word} (hu : s.d.deckUp = true) (ho : off < 0x4000000) (hw : writeAllowed off 4 = true)
    (h : busTake .host off v.toNat (onDev fresh s.blk) = onDev fresh s.blk) : DoesDev (.registerWrite .host off 4 [v]) s fresh :=
  (exec_hostRegisterWrite hu ho hw v).trans (congrArg (fun b => Host.Outcome.next { s with blk := b }) h)

/-! ### Ranges without registers -/

theorem writeAllowed_aligned {off : Nat} (h : off % 4 = 0) : writeAllowed off 4 = true := by
  unfold writeAllowed
  split
  · simp [h]
  · simp [h]

theorem writeAllowed_misaligned {off width : Nat} (ho : off < 0x1000000) (h : ¬(width = 4 ∧ off % 4 = 0)) : writeAllowed off width = false := by
  unfold writeAllowed
  rw [offIn_false (.inl ho), offIn_false (.inl (by omega))]
  simpa using h

theorem writeAllowed_open {off : Nat} (h : 0x1100140 ≤ off) (k : off < 0x3000000) (width : Nat) : writeAllowed off width = true := by
  unfold writeAllowed
  rw [offIn_false (.inr h), offIn_true h k]
  rfl

/-- The range above the weight-set port is ignored. -/
theorem busWord_open {off : Nat} (h : 0x1100140 ≤ off) (k : off < 0x3000000) (org : Origin) (v : Nat) (b : Blk) : busWord org off v b = b := by
  have h10 : off ≠ 0x10 := by omega
  have h9 : off ≠ 0x900000 := by omega
  unfold busWord
  simp (disch := omega) [h10, h9, offIn_false, offIn_true]

/-- The ranges below BAR0's ports that hold registers alone. -/
def inRegisterBlocks (off : Nat) : Prop :=
  0x10 < off ∧ off < 0x1000 ∨ 0x110000 ≤ off ∧ off < 0x200000 ∨ 0x500000 ≤ off ∧ off < 0x900000 ∨ 0xA08000 ≤ off ∧ off < 0x1000000

theorem busWord_registerBlocks {off : Nat} (h : inRegisterBlocks off) (org : Origin) (v : Nat) (b : Blk) :
    busWord org off v b = busRegister org off v b := by
  unfold inRegisterBlocks at h
  have h10 : off ≠ 0x10 := by omega
  have h9 : off ≠ 0x900000 := by omega
  unfold busWord
  simp (disch := omega) [h10, h9, offIn_false]

/-- A write to an unassigned offset is ignored (R8). -/
theorem busRegister_unassigned {off : Nat} (h : inRegisterBlocks off) (hf : findBank off = none) (org : Origin) (v : Nat) (b : Blk) :
    busRegister org off v b = b := by
  unfold inRegisterBlocks at h
  have hg : governedWrite off v = false := by
    have : (off == 0x10002C) = false := by simp; omega
    simp [governedWrite, governedOff, hf, this]
  have hr : railRel off = none := by unfold railRel; rw [if_pos (by omega)]
  unfold busRegister regWrite
  rw [hg, if_neg (by simp), if_neg (by omega), if_neg (by omega), hr, hf]
  simp

/-! ### A barred access -/

theorem f_hostErr_offset {off : Nat} (ho : off < 0x1000000) (d : Dev) : (hostErr true off d).f DECK_HOST_ERR_offset = off / 4 := by
  unfold hostErr
  rw [f_setF_same]
  exact Nat.mod_eq_of_lt (show off / 4 < 16777216 by omega)

theorem f_hostErr_count (off : Nat) (d : Dev) :
    (hostErr true off d).f DECK_HOST_ERR_count = min (d.f DECK_HOST_ERR_count + 1) (DECK_HOST_ERR_count.size - 1) := by
  unfold hostErr
  rw [f_setF_other (by decide), f_setB_other (by decide), f_setB_other (by decide), f_incF_same]
  rfl

theorem f_hostErr_write (off : Nat) (d : Dev) : (hostErr true off d).f DECK_HOST_ERR_write = 1 := by
  unfold hostErr
  rw [f_setF_other (by decide), f_setB_other (by decide), f_setB_same]
  rfl

theorem f_hostErr_sticky (off : Nat) (d : Dev) : (hostErr true off d).f DECK_HOST_ERR_sticky = 1 := by
  unfold hostErr
  rw [f_setF_other (by decide), f_setB_same]
  rfl

theorem f_hostErr_other {x : Fld} (hc : x.key ≠ DECK_HOST_ERR_count.key) (hw : x.key ≠ DECK_HOST_ERR_write.key)
    (hs : x.key ≠ DECK_HOST_ERR_sticky.key) (ho : x.key ≠ DECK_HOST_ERR_offset.key) (off : Nat) (d : Dev) : (hostErr true off d).f x = d.f x := by
  unfold hostErr
  rw [f_setF_other ho, f_setB_other hs, f_setB_other hw, f_incF_other hc]
  rfl

theorem sets_hostErr {off : Nat} (ho : off < 0x1000000) (s : State) :
    Sets [(DECK_HOST_ERR_count, min (s.d.f DECK_HOST_ERR_count + 1) (DECK_HOST_ERR_count.size - 1)), (DECK_HOST_ERR_write, 1),
      (DECK_HOST_ERR_sticky, 1), (DECK_HOST_ERR_offset, off / 4)] s (s.actDev (hostErr true off)) := by
  refine ⟨fun p hp => ?_, fun x hx => ?_⟩
  · simp only [List.mem_cons, List.not_mem_nil, or_false] at hp
    obtain rfl | rfl | rfl | rfl := hp
    · exact f_hostErr_count off _
    · exact f_hostErr_write off _
    · exact f_hostErr_sticky off _
    · exact f_hostErr_offset ho _
  · exact f_hostErr_other (hx (_, _) (.head _)) (hx (_, _) (.tail _ (.head _))) (hx (_, _) (.tail _ (.tail _ (.head _))))
      (hx (_, _) (.tail _ (.tail _ (.tail _ (.head _))))) off _

theorem busWrite_barred {b : Blk} {off : Nat} (hu : b.dev.deckUp = true) (ho : off < 0x4000000) {width : Nat}
    (hw : writeAllowed off width = false) (l : List Word) : busWrite .host off width l b = onDev (hostErr true off) b := by
  have h2 : inBar2 off = false := by simp [inBar2, offIn]; omega
  unfold busWrite
  rw [if_neg (by simp [h2]), if_neg (by simp [hu]; omega), if_pos (by simp [hw])]
  rfl

/-! ### The access rules (O8) -/

theorem exec_serviceRegisterWrite (off width : Nat) (l : List Word) (s : State) : exec (.registerWrite .service off width l) s = .next s := by
  show whileUp id s = .next s
  unfold whileUp
  split <;> rfl

/-- Settles O8: a word that is barred is recorded, and one that no register takes changes the record of the last access alone. -/
theorem writesKeepTheAccessRules : Obligations.WritesKeepTheAccessRules := by
  intro s
  refine ⟨?misaligned, ?above, ?unassigned, ?early, fun off width l => ⟨s, exec_serviceRegisterWrite .., rfl⟩⟩
  case misaligned =>
    rintro off width l ⟨hu, ho, hm⟩
    refine ⟨s.actDev (hostErr true off), ?_, rfl, rfl, sets_hostErr ho s⟩
    exact (whileUp_up _ hu).trans
      (congrArg (fun b => Host.Outcome.next { s with blk := b }) (busWrite_barred hu (by omega) (writeAllowed_misaligned ho hm) l))
  case above =>
    rintro off v hq ⟨hu, hlo, hhi⟩
    refine doesDev_fresh hu (by omega) (writeAllowed_open hlo (by omega) 4) ?_
    by_cases ha : (onDev fresh s.blk).dev.answers off = true
    · rw [busTake_answered ha (offIn_false (.inr (by omega))) (fun _ => hq), busWord_open hlo (by omega)]
    · exact busTake_unanswered (by simpa using ha) ..
  case unassigned =>
    rintro off v hq ⟨hu, hr, hal, hf, hin⟩
    refine doesDev_fresh hu (by omega) (writeAllowed_aligned hal) ?_
    rw [busTake_answered (b := onDev fresh s.blk) (answers_running (d := fresh s.d) hr off) (offIn_false (by omega))
      (fun _ => hq), busWord_registerBlocks hin, busRegister_unassigned hin hf]
  case early =>
    rintro off v ⟨hu, hr, hal, ho, he⟩
    have ha : (onDev fresh s.blk).dev.answers off = false := by
      have hr' : (fresh s.blk.dev).running = false := hr
      simp [Dev.answers, hr', he]
    exact doesDev_fresh hu ho (writeAllowed_aligned hal) (busTake_unanswered ha ..)

end Sys2Proof.Machine
end

section
/-!
PROOF. The registers with RWL fields under a committed map (O9): how the fields of a register take a write, what E149 leaves, and what the
three kinds of register do beyond their fields.
-/
namespace Sys2Proof.Machine

/-! ### The fields of a register take a write -/

theorem FieldDef.at_key (x : FieldDef) (off : Nat) : (x.at off).key = off * 32 + x.lo := rfl

theorem bits_lt_size (v off : Nat) (x : FieldDef) : bits v x.hi x.lo < (x.at off).size := Nat.mod_lt _ (Nat.two_pow_pos _)

/-- The fields of a register are RWL or RWG, and no two have one place. -/
def lockable (fs : List FieldDef) : Bool :=
  fs.all (fun x => (x.acc == .rwl || x.acc == .rwg) && decide (x.lo < 32)) && decide (fs.Pairwise fun x y => x.lo ≠ y.lo)

/-- Would the write of v change an RWL field? -/
def Dev.changesLocked (d : Dev) (off v : Nat) (fs : List FieldDef) : Bool :=
  fs.any fun x => x.acc == .rwl && d.f (x.at off) != bits v x.hi x.lo

/-- The fields of a lockable register under a committed map: d is the device before the write of v, and e after it. -/
structure FieldsJudged (off v : Nat) (fs : List FieldDef) (d e : Dev) : Prop where
  locked : ∀ x ∈ fs, x.acc = .rwl → e.f (x.at off) = d.f (x.at off)
  free : ∀ x ∈ fs, x.acc = .rwg → e.f (x.at off) = bits v x.hi x.lo

theorem changesLocked_congr {d e : Dev} {off : Nat} {fs : List FieldDef} (h : ∀ x ∈ fs, e.f (x.at off) = d.f (x.at off)) (v : Nat) :
    e.changesLocked off v fs = d.changesLocked off v fs := by
  unfold Dev.changesLocked
  rw [Bool.eq_iff_iff, List.any_eq_true, List.any_eq_true]
  exact exists_congr fun x => and_congr_right fun hx => by rw [h x hx]

theorem storeFields_locked (off v : Nat) (fs : List FieldDef) (hacc : ∀ x ∈ fs, x.acc = .rwl ∨ x.acc = .rwg)
    (hlo : fs.Pairwise fun x y => x.lo ≠ y.lo) (d : Dev) (flag : Bool) :
    ∃ e, fs.foldl (storeField off v true) (d, flag) = (e, flag || d.changesLocked off v fs) ∧ (∃ r, e = { d with regs := r }) ∧
      FieldsJudged off v fs d e ∧ ∀ y : Fld, (∀ x ∈ fs, y.key ≠ (x.at off).key) → e.f y = d.f y := by
  induction fs generalizing d flag with
  | nil => exact ⟨d, by simp [Dev.changesLocked], ⟨d.regs, rfl⟩, ⟨by simp, by simp⟩, fun _ _ => rfl⟩
  | cons x xs ih =>
    obtain ⟨hx, hxs⟩ := List.pairwise_cons.mp hlo
    have hne : ∀ y ∈ xs, (x.at off).key ≠ (y.at off).key := fun y hy h => hx y hy (by rw [x.at_key, y.at_key] at h; omega)
    have ih' := ih (fun y hy => hacc y (.tail _ hy)) hxs
    obtain hl | hg := hacc x (.head _)
    · obtain ⟨e, he, hr, ⟨hlk, hfr⟩, hot⟩ := ih' d (flag || d.f (x.at off) != bits v x.hi x.lo)
      refine ⟨e, ?_, hr, ⟨?_, ?_⟩, fun y hy => hot y fun z hz => hy z (.tail _ hz)⟩
      · rw [List.foldl_cons, storeField, hl]
        simpa [Dev.changesLocked, hl, Bool.or_assoc] using he
      · rintro y hy hya
        obtain rfl | hy := List.mem_cons.mp hy
        · exact hot _ hne
        · exact hlk y hy hya
      · rintro y hy hya
        obtain rfl | hy := List.mem_cons.mp hy
        · rw [hl] at hya; exact absurd hya (by decide)
        · exact hfr y hy hya
    · obtain ⟨e, he, ⟨r, hr⟩, ⟨hlk, hfr⟩, hot⟩ := ih' (setF (x.at off) (bits v x.hi x.lo) d) flag
      have hsame : ∀ y ∈ xs, (setF (x.at off) (bits v x.hi x.lo) d).f (y.at off) = d.f (y.at off) :=
        fun y hy => f_setF_other (hne y hy).symm _ _
      refine ⟨e, ?_, ⟨r, hr⟩, ⟨?_, ?_⟩, fun y hy => ?_⟩
      · rw [List.foldl_cons, storeField, hg]
        refine he.trans ?_
        rw [changesLocked_congr hsame]
        simp [Dev.changesLocked, hg, show (Acc.rwg == Acc.rwl) = false from rfl]
      · rintro y hy hya
        obtain rfl | hy := List.mem_cons.mp hy
        · rw [hg] at hya; exact absurd hya (by decide)
        · exact (hlk y hy hya).trans (hsame y hy)
      · rintro y hy hya
        obtain rfl | hy := List.mem_cons.mp hy
        · rw [hot _ hne, f_setF_same, Nat.mod_eq_of_lt (bits_lt_size v off y)]
        · exact hfr y hy hya
      · rw [hot y fun z hz => hy z (.tail _ hz), f_setF_other (hy x (.head _))]

/-! ### One event is raised, and another is left alone -/

theorem evtCount_key_ne {a e : Nat} (h : a ≠ e) : (DECK_EVT_CFG_count a).key ≠ (DECK_EVT_CFG_count e).key := by
  simp only [Fld.key, DECK_EVT_CFG_count]; omega

theorem evtCount_key_ne_pend (a w : Nat) : (DECK_EVT_CFG_count a).key ≠ (DECK_EVT_PEND_pend w).key := by
  simp only [Fld.key, DECK_EVT_CFG_count, DECK_EVT_PEND_pend]; omega

theorem evPending_of_regs {d e : Dev} (h : e.regs = d.regs) (a : Nat) : e.evPending a = d.evPending a := by
  unfold Dev.evPending Dev.fb; rw [f_congr h]

theorem evPending_setF_other {x : Fld} {a : Nat} (h : (DECK_EVT_PEND_pend (a / 32)).key ≠ x.key) (v : Nat) (d : Dev) :
    (setF x v d).evPending a = d.evPending a := by
  unfold Dev.evPending Dev.fb; rw [f_setF_other h]

/-- A step leaves event a alone: its pending bit and its count. -/
def LeavesEvent (a : Nat) (d e : Dev) : Prop := e.evPending a = d.evPending a ∧ e.f (DECK_EVT_CFG_count a) = d.f (DECK_EVT_CFG_count a)

theorem LeavesEvent.refl (a : Nat) (d : Dev) : LeavesEvent a d d := ⟨rfl, rfl⟩
theorem LeavesEvent.trans {a : Nat} {d e g : Dev} (h : LeavesEvent a d e) (k : LeavesEvent a e g) : LeavesEvent a d g :=
  ⟨k.1.trans h.1, k.2.trans h.2⟩
theorem LeavesEvent.of_regs {a : Nat} {d e : Dev} (h : e.regs = d.regs) : LeavesEvent a d e := ⟨evPending_of_regs h a, f_congr h _⟩
theorem LeavesEvent.ite {a : Nat} {d e g : Dev} (c : Prop) [Decidable c] (h : LeavesEvent a d e) (k : LeavesEvent a d g) :
    LeavesEvent a d (if c then e else g) := by
  split
  · exact h
  · exact k

theorem leavesEvent_ev (a : Nat) (d : Dev) (v : EvSt) : LeavesEvent a d { d with ev := v } := .of_regs rfl

/-- A field outside event a's pending word and count. -/
theorem leavesEvent_setF {a : Nat} {x : Fld} (hp : (DECK_EVT_PEND_pend (a / 32)).key ≠ x.key) (hc : (DECK_EVT_CFG_count a).key ≠ x.key) (v : Nat)
    (d : Dev) : LeavesEvent a d (setF x v d) := ⟨evPending_setF_other hp v d, f_setF_other hc v d⟩

/-- The same for a field outside the event registers. -/
theorem leavesEvent_setF_outside {a : Nat} (ha : a < 160) {x : Fld} (hx : OutsideEvents x) (v : Nat) (d : Dev) : LeavesEvent a d (setF x v d) :=
  leavesEvent_setF (hx.key_ne (evtPend_key_mem (by omega))).symm (hx.key_ne (evtCount_key_mem ha)).symm v d

theorem leavesEvent_countAndSignal {a e : Nat} (h : e ≠ a) (d : Dev) : LeavesEvent a d (countAndSignal e d) := by
  have hcount : LeavesEvent a d (incF (DECK_EVT_CFG_count e) d) :=
    leavesEvent_setF (evtCount_key_ne_pend e _).symm (evtCount_key_ne h.symm) _ d
  have hpend : LeavesEvent a (incF (DECK_EVT_CFG_count e) d) (setBitF (DECK_EVT_PEND_pend (e / 32)) (e % 32) (incF (DECK_EVT_CFG_count e) d)) :=
    ⟨by rw [evPending_setBit, decide_eq_false h, Bool.or_false], f_setF_other (evtCount_key_ne_pend a _) _ _⟩
  exact .ite _ (hcount.trans hpend) ((hcount.trans hpend).trans (.of_regs rfl))

theorem leavesEvent_dropEvent {a : Nat} (ha : a < 160) (h : 153 ≠ a) (d : Dev) : LeavesEvent a d (dropEvent d) := by
  have hp : (DECK_EVT_PEND_pend (a / 32)).key ≠ DECK_EVQ_WR_lost.key := by simp only [Fld.key, DECK_EVT_PEND_pend, DECK_EVQ_WR_lost]; omega
  have hc : (DECK_EVT_CFG_count a).key ≠ DECK_EVQ_WR_lost.key := by simp only [Fld.key, DECK_EVT_CFG_count, DECK_EVQ_WR_lost]; omega
  have hlost : LeavesEvent a d (incF DECK_EVQ_WR_lost d) := leavesEvent_setF hp hc _ d
  exact .ite _ hlost ((hlost.trans ((leavesEvent_ev a _ _).trans (leavesEvent_setF hp hc _ _))).trans (leavesEvent_countAndSignal h _))

theorem leavesEvent_queueEvent {a : Nat} (ha : a < 160) (e u c n : Nat) (d : Dev) : LeavesEvent a d (queueEvent e u c n d) := by
  refine (LeavesEvent.of_regs rfl).trans (leavesEvent_setF ?_ ?_ _ _)
  · simp only [Fld.key, DECK_EVT_PEND_pend, DECK_EVQ_WR_wr]; omega
  · simp only [Fld.key, DECK_EVT_CFG_count, DECK_EVQ_WR_wr]; omega

/-- What a raise does before it counts and signals its event. -/
theorem leavesEvent_entry {a : Nat} (ha : a < 160) (h : 153 ≠ a) (e u c n : Nat) (d : Dev) :
    LeavesEvent a d (if d.evUnread ≥ 255 then dropEvent d else queueEvent e u c n d) :=
  .ite _ (leavesEvent_dropEvent ha h d) (leavesEvent_queueEvent ha e u c n d)

theorem leavesEvent_raiseEvent {a e : Nat} (ha : a < 160) (h : 153 ≠ a) (hne : e ≠ a) (u c n : Nat) (d : Dev) :
    LeavesEvent a d (raiseEvent e u c n d) := by
  have hentry := leavesEvent_entry ha h e u c n d
  unfold raiseEvent
  dsimp only
  exact (LeavesEvent.ite _ (hentry.trans (leavesEvent_ev a _ _)) hentry).trans (leavesEvent_countAndSignal hne _)

theorem leavesEvent_forAll {α : Type} {a : Nat} {g : α → Dev → Dev} {l : List α} (h : ∀ b ∈ l, ∀ d, LeavesEvent a d (g b d)) (d : Dev) :
    LeavesEvent a d (forAll l g d) := by
  induction l generalizing d with
  | nil => exact .refl a d
  | cons b r ih => exact (h b (.head _) d).trans (ih (fun c hc => h c (.tail _ hc)) _)

theorem leavesEvent_anchRevert {a : Nat} (ha : a < 160) (h : 153 ≠ a) (h58 : 58 ≠ a) (d : Dev) : LeavesEvent a d (anchRevert d) := by
  refine leavesEvent_forAll (fun k hk d => .ite _ ?_ (.refl a d)) d
  have hk8 : k < 8 := List.mem_range.mp hk
  have hout : ∀ x ∈ [HK_ANCH_override k, HK_ANCH_gain k, HK_ANCH_code k], OutsideEvents x := by
    intro x hx
    simp only [List.mem_cons, List.not_mem_nil, or_false] at hx
    obtain rfl | rfl | rfl := hx <;> right <;> simp only [Fld.key, HK_ANCH_override, HK_ANCH_gain, HK_ANCH_code] <;> omega
  exact ((((leavesEvent_setF_outside ha (hout _ (by simp)) _ _).trans (leavesEvent_setF_outside ha (hout _ (by simp)) _ _)).trans
    (leavesEvent_setF_outside ha (hout _ (by simp)) _ _)).trans
    (leavesEvent_setF_outside (x := HK_STAY_STAT_anch_reverts) ha (.inr (by decide)) _ _)).trans (leavesEvent_raiseEvent ha h h58 ..)

theorem leavesEvent_raise {a e : Nat} (ha : a < 160) (h : 153 ≠ a) (h58 : 58 ≠ a) (hne : e ≠ a) (u c n : Nat) (d : Dev) :
    LeavesEvent a d (raise e u c n d) := by
  have hraise := leavesEvent_raiseEvent ha h hne u c n d
  exact .ite _ (hraise.trans (leavesEvent_anchRevert ha h h58 _)) hraise

theorem f_count_countAndSignal (e : Nat) (d : Dev) :
    (countAndSignal e d).f (DECK_EVT_CFG_count e) = min (d.f (DECK_EVT_CFG_count e) + 1) 255 := by
  have hcount : (incF (DECK_EVT_CFG_count e) d).f (DECK_EVT_CFG_count e) = min (d.f (DECK_EVT_CFG_count e) + 1) 255 := f_incF_same ..
  have hpend := f_setBitF_other (evtCount_key_ne_pend e (e / 32)) (e % 32) (incF (DECK_EVT_CFG_count e) d)
  unfold countAndSignal
  dsimp only
  split
  · exact hpend.trans hcount
  · exact hpend.trans hcount

/-- An event that is no Halt, and not the one of a full queue, counts once. -/
theorem f_count_raise {e : Nat} (he : e < 160) (h : 153 ≠ e) (hc : eventClass e ≠ 2) (u c n : Nat) (d : Dev) :
    (raise e u c n d).f (DECK_EVT_CFG_count e) = min (d.f (DECK_EVT_CFG_count e) + 1) 255 := by
  unfold raise raiseEvent
  simp only [if_neg hc]
  rw [f_count_countAndSignal, (leavesEvent_entry he h e u c n d).2]


/-! ### What a register does beyond its fields -/

/-- A step keeps the ledger's queue, event 149, and the fields of the register at an offset. -/
structure KeepsJudged (off : Nat) (d e : Dev) : Prop where
  queue : e.ldg.queue = d.ldg.queue
  event : LeavesEvent 149 d e
  field : ∀ x : Fld, x.off = off → x.lo < 32 → e.f x = d.f x

theorem KeepsJudged.refl (off : Nat) (d : Dev) : KeepsJudged off d d := ⟨rfl, .refl 149 d, fun _ _ _ => rfl⟩

section
variable {off : Nat} {d e : Dev}

theorem KeepsJudged.trans {g : Dev} (h : KeepsJudged off d e) (k : KeepsJudged off e g) : KeepsJudged off d g :=
  ⟨k.queue.trans h.queue, h.event.trans k.event, fun x hx hl => (k.field x hx hl).trans (h.field x hx hl)⟩

theorem KeepsJudged.regs (h : KeepsJudged off d e) {g : Dev} (hr : g.regs = e.regs) (hl : g.ldg = e.ldg) : KeepsJudged off d g :=
  h.trans ⟨by rw [hl], .of_regs hr, fun x _ _ => f_congr hr x⟩

theorem KeepsJudged.ite {g : Dev} (c : Prop) [Decidable c] (h : KeepsJudged off d e) (k : KeepsJudged off d g) :
    KeepsJudged off d (if c then e else g) := by
  split
  · exact h
  · exact k

/-- A field of another register, outside the events. -/
theorem KeepsJudged.set (h : KeepsJudged off d e) {x : Fld} (hx : x.off ≠ off) (hl : x.lo < 32) (ho : OutsideEvents x) (v : Nat) :
    KeepsJudged off d (setF x v e) :=
  h.trans ⟨rfl, leavesEvent_setF_outside (by decide) ho v e,
    fun y hy hyl => f_setF_other (fun hk => hx (by unfold Fld.key at hk; omega)) v e⟩

theorem KeepsJudged.each {α : Type} (h : KeepsJudged off d e) {g : α → Dev → Dev} {l : List α}
    (hg : ∀ a ∈ l, ∀ d, KeepsJudged off d (g a d)) : KeepsJudged off d (forAll l g e) := by
  induction l generalizing e with
  | nil => exact h
  | cons a r ih => exact ih (h.trans (hg a (.head _) e)) fun b hb => hg b (.tail _ hb)

/-- An event but E149 and those that a raise may bring with it, seen from a register that no event touches. -/
theorem KeepsJudged.raise (h : KeepsJudged off d e) (ho : 0x802000 ≤ off ∨ 0x680 ≤ off ∧ off < 0x801000) {n : Nat} (hn : n < 160)
    (hne : n ≠ 149) (u c m : Nat) : KeepsJudged off d (raise n u c m e) :=
  h.trans ⟨by rw [raise_ldg hn], leavesEvent_raise (by decide) (by decide) (by decide) hne u c m e,
    fun x hx hl => f_raise (by unfold evFree; omega) hn u c m e⟩

theorem KeepsJudged.raise0 (h : KeepsJudged off d e) (ho : 0x802000 ≤ off ∨ 0x680 ≤ off ∧ off < 0x801000) {n : Nat} (hn : n < 160)
    (hne : n ≠ 149) : KeepsJudged off d (raise0 n e) := h.raise ho hn hne ..

end

/-! #### The role of the alignment (TL_ALIGN_CFG) -/

theorem keepsJudged_alignRole (d : Dev) : KeepsJudged 0x100040 d (alignRole d) := by
  have h0 := KeepsJudged.refl 0x100040 d
  unfold alignRole
  extract_lets _ _ d₁ _ d₂
  have h1 : KeepsJudged 0x100040 d d₁ := .ite _ h0 <|
    .set (x := TL_ALIGN_STAT_aligned) (.set (x := TL_QUALITY_follower) (h0.regs (by rfl) (by rfl)) (by decide) (by decide) (.inr (by decide)) _)
      (by decide) (by decide) (.inr (by decide)) _
  have h2 : KeepsJudged 0x100040 d d₂ := .ite _ h1 (h1.regs rfl rfl)
  exact .ite _ h2 (h2.regs rfl rfl)

/-! #### The ports (LINK_CFG) -/

/-- A field among the link's registers above LINK_CFG. -/
theorem KeepsJudged.link {d e : Dev} (h : KeepsJudged 0x500000 d e) {x : Fld} (hx : 0x500000 < x.off ∧ x.off < 0x600000 ∧ x.lo < 32) (v : Nat) :
    KeepsJudged 0x500000 d (setF x v e) :=
  h.set (by omega) hx.2.2 (.inr (by unfold Fld.key; omega)) v

theorem KeepsJudged.modLink {d e : Dev} (h : KeepsJudged 0x500000 d e) (g : LinkSt → LinkSt) :
    KeepsJudged 0x500000 d (modLink g e) := h.regs rfl rfl

theorem keepsJudged_laneEnter {l : Nat} (hl : l < 4) (st : Nat) (d : Dev) : KeepsJudged 0x500000 d (laneEnter l st d) := by
  refine .regs (.link (.ite _ (.link (.refl _ d) ?_ _) (.refl _ d)) ?_ _) rfl rfl
  · simp only [LINK_LANE_STAT_backoff]; omega
  · simp only [LINK_LANE_STAT_state]; omega

theorem keepsJudged_portSeeks {p : Nat} (hp : p < 2) (d : Dev) : KeepsJudged 0x500000 d (portSeeks p d) := by
  have hs : 0x500000 < (LINK_PORT_STAT_state p).off ∧ (LINK_PORT_STAT_state p).off < 0x600000 ∧ (LINK_PORT_STAT_state p).lo < 32 := by
    simp only [LINK_PORT_STAT_state]; omega
  exact .ite _ (.link (.refl _ d) hs _) (.ite _ (.refl _ d) (.raise (.link (.refl _ d) hs _) (by omega) (by omega) (by omega) ..))

theorem keepsJudged_setTiming (p : Nat) (d : Dev) : KeepsJudged 0x500000 d (setTiming p d) := by
  unfold setTiming
  extract_lets _ d₁
  have h1 : KeepsJudged 0x500000 d d₁ := .ite _ (.regs (.refl _ d) rfl rfl) (.refl _ d)
  exact .ite _ (.refl _ d) (.regs (.link (x := LINK_STAT_timing_port) h1 (by decide) _) rfl rfl)

theorem keepsJudged_refreshFlows (d : Dev) : KeepsJudged 0x500000 d (refreshFlows d) := by
  unfold refreshFlows setB
  refine .link (x := LINK_STAT_active) (.each (.each (.refl _ d) fun f hf d => .link (.link (.refl _ d) ?_ _) ?_ _)
    fun p hp d => .link (.link (.refl _ d) ?_ _) ?_ _) (by decide) _
  · have := List.mem_range.mp hf; simp only [LINK_FLOW_W0_state]; omega
  · have := List.mem_range.mp hf; simp only [LINK_FLOW_W1_port]; omega
  · have : p < 2 := by simp at hp; omega
    simp only [LINK_PORT_STAT_carrying]; omega
  · have : p < 2 := by simp at hp; omega
    simp only [LINK_PORT_STAT_role]; omega


theorem keepsJudged_checkHold (d : Dev) : KeepsJudged 0x500000 d (checkHold d) :=
  .ite _ (.modLink (.refl _ d) _) (.modLink (.refl _ d) _)

theorem keepsJudged_loseFrames {p : Nat} (hp : p < 2) (d : Dev) : KeepsJudged 0x500000 d (loseFrames p d) := by
  refine .regs (.link (.refl _ d) ?_ _) rfl rfl
  simp only [LINK_PORT_STAT_lost_frames]; omega

/-- The flows are refreshed after a change of the link's own state. -/
theorem KeepsJudged.flows {d e : Dev} (h : KeepsJudged 0x500000 d e) : KeepsJudged 0x500000 d (refreshFlows e) := h.trans (keepsJudged_refreshFlows e)

theorem keepsJudged_portGone {p : Nat} (hp : p < 2) (d : Dev) : KeepsJudged 0x500000 d (portGone p d) := by
  unfold portGone
  extract_lets o was d₁ d₂ d₃ d₄
  have h1 : KeepsJudged 0x500000 d d₁ := keepsJudged_loseFrames hp d
  have h2 : KeepsJudged 0x500000 d d₂ := .ite _ (h1.trans (keepsJudged_setTiming o d₁)) h1
  have h3 : KeepsJudged 0x500000 d d₃ := h2.modLink _
  have h4 : KeepsJudged 0x500000 d d₄ := by
    refine .ite _ (.raise0 (.ite _ (h3.modLink _).flows h3) ?_ ?_ ?_) (.ite _ (.ite _ (h3.modLink _) (h3.modLink _).flows) h3) <;> decide
  have h5 := h4.flows.trans (keepsJudged_checkHold (refreshFlows d₄))
  exact .ite _ (h5.modLink _) h5

theorem keepsJudged_portSwitch {p : Nat} (hp : p < 2) (on : Bool) (d : Dev) : KeepsJudged 0x500000 d (portSwitch p on d) := by
  have hseek : KeepsJudged 0x500000 d (d |> portSeeks p |> laneEnter (2 * p) 1 |> laneEnter (2 * p + 1) 1) :=
    ((keepsJudged_portSeeks hp d).trans (keepsJudged_laneEnter (by omega) 1 _)).trans (keepsJudged_laneEnter (by omega) 1 _)
  unfold portSwitch
  extract_lets was d₁
  have h1 : KeepsJudged 0x500000 d d₁ := by
    refine .each (.link (.refl _ d) ?_ _) fun l hl e => .link (.link (keepsJudged_laneEnter ?_ 0 e) ?_ _) ?_ _
    · simp only [LINK_PORT_STAT_state]; omega
    all_goals have hl4 : l < 4 := by simp only [List.mem_cons, List.not_mem_nil, or_false] at hl; omega
    · exact hl4
    · simp only [LINK_LANE_STAT_cdr_lock]; omega
    · simp only [LINK_LANE_STAT_sig_det]; omega
  exact .ite _ (.ite _ hseek (.refl _ d)) (.ite _ (.refl _ d) (.ite _ (h1.trans (keepsJudged_portGone hp d₁)) h1))

theorem keepsJudged_linkStart (d : Dev) : KeepsJudged 0x500000 d (linkStart d) :=
  (keepsJudged_portSwitch (by decide) (d.portEn 0) d).trans (keepsJudged_portSwitch (by decide) (d.portEn 1) _)


/-! ### The registers with RWL fields -/

/-- The offsets of the registers with RWL fields. -/
def lockedOffs : List Nat := [0x100040, 0x500000, 0xC00F00, 0xC00F04, 0xC00F08, 0xC00F0C, 0xC00F10, 0xC00F14]

theorem mem_lockedOffs {off : Nat} (h : off ∈ lockedOffs) : off = 0x100040 ∨ off = 0x500000 ∨ 0xC00F00 ≤ off ∧ off < 0xC00F18 := by
  simp only [lockedOffs, List.mem_cons, List.not_mem_nil, or_false] at h
  omega

theorem aligned_of_mem_lockedOffs {off : Nat} (h : off ∈ lockedOffs) : off % 4 = 0 := by
  simp only [lockedOffs, List.mem_cons, List.not_mem_nil, or_false] at h
  omega

/-- Their fields are RWL and RWG alone, and all but TL_ALIGN_CFG are governed. -/
theorem lockedBank {off : Nat} (h : off ∈ lockedOffs) {r : RegDef} (hr : findBank off = some r) :
    lockable r.fields = true ∧ (off ≠ 0x100040 → isGoverned r.fields = true) := by
  have hall : ∀ off ∈ lockedOffs, ((findBank off).all fun r => lockable r.fields && (off == 0x100040 || isGoverned r.fields)) = true := by
    decide +kernel
  have := hall off h
  simp only [hr, Option.all_some, Bool.and_eq_true, Bool.or_eq_true, beq_iff_eq] at this
  exact ⟨this.1, this.2.resolve_left⟩

theorem bayRel_below {off : Nat} (h : off < 0x3000000) : bayRel off = none := if_pos (.inl h)

theorem calWriteAfter_below {off : Nat} (h : off < 0x3000000) (v : Nat) (d : Dev) : calWriteAfter off v d = d := by
  have : ((List.range 8).find? fun b => off == bayBase b + 0x408) = none := by
    simp only [List.find?_eq_none, bayBase, beq_iff_eq]
    omega
  unfold calWriteAfter
  rw [this]

theorem calIgnores_below {off : Nat} (h : off < 0x3000000) (d : Dev) : d.calIgnores off = false := by
  have : ((List.range 8).any fun b => decide (bayBase b + 0x700 ≤ off ∧ off < bayBase b + 0x800)) = false :=
    List.any_eq_false.mpr fun b _ => by rw [decide_eq_true_iff, bayBase]; omega
  unfold Dev.calIgnores
  rw [this, Bool.and_false]

section
variable {off : Nat} (h : off ∈ lockedOffs)
include h

theorem substValue_locked (org : Origin) (v : Nat) (d : Dev) : d.substValue org off v = v := by
  have ho := mem_lockedOffs h
  have hb : bayRel off = none := bayRel_below (by omega)
  have htl : tlSubst off v = v := by unfold tlSubst; rw [if_neg (by omega), if_neg (by omega)]
  have hgir : girSubst off v = v := by unfold girSubst; rw [if_neg (by omega), if_neg (by omega)]
  have hlink : linkSubst off v = v := by unfold linkSubst; rw [if_neg (by omega), if_neg (by omega)]
  have hdma : dmaSubst off v = v := by unfold dmaSubst; rw [if_neg (by omega)]
  have hkey : keySubst off v = v := by unfold keySubst; rw [if_neg (by omega)]
  have hhk : hkSubst off v = v := by unfold hkSubst; rw [if_neg (by omega)]
  have hldg : ledgerSubst off v = v := by unfold ledgerSubst; rw [if_neg (by omega)]
  have hpwr : pwrSubst org off v d = v := by
    unfold pwrSubst; rw [if_neg (by omega), if_neg (by omega), if_neg (by omega), if_neg (by omega)]
  simp only [Dev.substValue, hb, htl, hgir, hlink, hdma, hkey, hhk, hldg, hpwr]

theorem ignoresWrite_locked (org : Origin) (d : Dev) : d.ignoresWrite org off = false := by
  have ho := mem_lockedOffs h
  have hb : bayRel off = none := bayRel_below (by omega)
  unfold Dev.ignoresWrite dmaIgnores Dev.hkIgnores Dev.pwrIgnores
  rw [hb, calIgnores_below (by omega)]
  simp
  omega

theorem refusesValue_locked {v : Nat} (hv : off = 0x100040 → v % 4 ≠ 3) (d : Dev) : d.refusesValue off v = none := by
  have ho := mem_lockedOffs h
  have hrole : ¬(off = 0x100040 ∧ bits v 1 0 = 3) := fun hc => hv hc.1 hc.2
  have hrest : off ≠ LINK_REST_rx_rest.off := by simp only [LINK_REST_rx_rest]; omega
  unfold Dev.refusesValue tlRefuses linkRefuses keyRefuses dmaRefuses pwrRefuses
  simp (disch := omega) only [if_neg, hrest, false_and]
  rfl

theorem regWrite_locked {v : Nat} (hv : off = 0x100040 → v % 4 ≠ 3) {r : RegDef} (hr : findBank off = some r) (org : Origin) (b : Blk) :
    regWrite org false off v b = regStore org false off v r b := by
  have ho := mem_lockedOffs h
  have hrail : railRel off = none := if_pos (by omega)
  unfold regWrite
  simp only [Bool.false_and, Bool.false_eq_true, if_false]
  rw [if_neg (by omega), if_neg (by omega), ignoresWrite_locked h, hrail, hr]
  simp only [Bool.false_eq_true, if_false, substValue_locked h, refusesValue_locked h hv]

theorem busWord_locked (org : Origin) (v : Nat) (b : Blk) : busWord org off v b = busRegister org off v b := by
  have ho := mem_lockedOffs h
  have h10 : off ≠ 0x10 := by omega
  have h9 : off ≠ 0x900000 := by omega
  unfold busWord
  simp (disch := omega) [h10, h9, offIn_false]

theorem keepsJudged_girWriteAfter (v : Nat) (b : Blk) : KeepsJudged off b.dev (girWriteAfter off v b).dev := by
  have ho := mem_lockedOffs h
  unfold girWriteAfter
  simp (disch := omega) only [if_neg]
  split
  · exact .regs (.refl _ _) rfl rfl
  · exact .refl _ _

theorem keepsJudged_tlWriteAfter (org : Origin) (v : Nat) (d : Dev) : KeepsJudged off d (tlWriteAfter org off v d) := by
  have ho := mem_lockedOffs h
  have hsel : off ≠ TL_REF_CFG_ref_sel.off := by simp only [TL_REF_CFG_ref_sel]; omega
  unfold tlWriteAfter
  rw [if_neg (by omega), if_neg (by omega), if_neg hsel]
  split
  next hrole => subst hrole; exact keepsJudged_alignRole d
  · exact .refl _ d

theorem keepsJudged_linkWriteAfter (v : Nat) (d : Dev) : KeepsJudged off d (linkWriteAfter off v d) := by
  have ho := mem_lockedOffs h
  unfold linkWriteAfter
  split
  next hcfg => subst hcfg; exact keepsJudged_linkStart d
  · rw [if_neg (by omega)]
    exact .refl _ d

/-- Beyond its fields such a register has the alignment, the ports or a later effect follow it. -/
theorem keepsJudged_writeAfter (org : Origin) (v : Nat) (was : Bool) (b : Blk) : KeepsJudged off b.dev (writeAfter org off v was b).dev := by
  have ho := mem_lockedOffs h
  have hb : bayRel off = none := bayRel_below (by omega)
  have hldg (b : Blk) : ledgerWriteAfter off v b = b := by unfold ledgerWriteAfter; rw [if_neg (by omega)]
  have hkey (b : Blk) : keyWriteAfter off v b = b := by unfold keyWriteAfter; rw [if_neg (by omega), if_neg (by omega), if_neg (by omega)]
  have hcal (b : Blk) : hkCalWrite off v b = b := by unfold hkCalWrite; rw [if_neg (by omega), if_neg (by omega)]
  have hdma (d : Dev) : dmaWriteAfter org off v d = d := by unfold dmaWriteAfter; rw [if_neg (by omega), if_neg (by omega), if_neg (by omega)]
  have hmem (d : Dev) : memWriteAfter off v d = d := by unfold memWriteAfter; rw [if_neg (by omega)]
  have hhk (d : Dev) : hkWriteAfter org off v d = d := by unfold hkWriteAfter; simp (disch := omega) only [if_neg]
  have hpath (d : Dev) : calWriteAfter off v d = d := calWriteAfter_below (by omega) v d
  have htruss (d : Dev) : trussWriteAfter org off v d = d := by unfold trussWriteAfter; rw [if_neg (by omega), if_neg (by omega)]
  have havs (d : Dev) : avsWriteAfter off d = d := by
    have : (off == 0x900054) = false := by simp only [beq_eq_false_iff_ne]; omega
    unfold avsWriteAfter; rw [this]; rfl
  have hrest : off ≠ LINK_REST_rx_rest.off := by simp only [LINK_REST_rx_rest]; omega
  have hspan : off ≠ 0x200000 := by omega
  have hlast := keepsJudged_linkWriteAfter h v (tlWriteAfter org off v (girWriteAfter off v b).dev)
  simp only [writeAfter, hldg, hkey, hcal, hdma, hmem, hhk, hpath, htruss, havs, hb, if_neg hrest, if_neg hspan, onDev_dev]
  exact ((keepsJudged_girWriteAfter h v b).trans (keepsJudged_tlWriteAfter h org v _)).trans hlast

end

/-! ### The register under a committed map -/

/-- What O9 says of the fields and of E149: d is the device before the write of v, and e after it. -/
structure Judged (off v : Nat) (fs : List FieldDef) (d e : Dev) : Prop where
  fields : FieldsJudged off v fs d e
  changed : d.changesLocked off v fs = true →
    e.evPending 149 = true ∧ e.f (DECK_EVT_CFG_count 149) = min (d.f (DECK_EVT_CFG_count 149) + 1) 255
  unchanged : d.changesLocked off v fs = false → LeavesEvent 149 d e

theorem Judged.trans {off v : Nat} {fs : List FieldDef} {d e g : Dev} (h : Judged off v fs d e)
    (hf : ∀ x ∈ fs, g.f (x.at off) = e.f (x.at off)) (he : LeavesEvent 149 e g) : Judged off v fs d g where
  fields := ⟨fun x hx ha => (hf x hx).trans (h.fields.locked x hx ha), fun x hx ha => (hf x hx).trans (h.fields.free x hx ha)⟩
  changed hc := ⟨he.1.trans (h.changed hc).1, he.2.trans (h.changed hc).2⟩
  unchanged hc := (h.unchanged hc).trans he

theorem lockable_iff {fs : List FieldDef} : lockable fs = true ↔
    (∀ x ∈ fs, (x.acc = .rwl ∨ x.acc = .rwg) ∧ x.lo < 32) ∧ fs.Pairwise fun x y => x.lo ≠ y.lo := by
  simp [lockable]

section
variable {off : Nat} (h : off ∈ lockedOffs) {fs : List FieldDef} (hl : lockable fs = true)
include h hl

theorem evFree_at {x : FieldDef} (hx : x ∈ fs) : evFree (x.at off) := by
  have ho := mem_lockedOffs h
  have hlo := ((lockable_iff.mp hl).1 x hx).2
  unfold evFree FieldDef.at
  dsimp only
  omega

/-- A committed map bars the change of an RWL field, and E149 tells of it (R482). -/
theorem storeReg_locked (v : Nat) {d : Dev} (hf : d.formed = true) :
    Judged off v fs d (storeReg off v false fs d) ∧ (storeReg off v false fs d).ldg = d.ldg := by
  obtain ⟨hacc, hlo⟩ := lockable_iff.mp hl
  obtain ⟨e, he, ⟨r, hr⟩, hj, hot⟩ := storeFields_locked off v fs (fun x hx => (hacc x hx).1) hlo d false
  have hst : storeReg off v false fs d = onlyIf (d.changesLocked off v fs) (raise0 149) e := by
    unfold storeReg
    rw [hf, show (true && !false) = true from rfl, he, Bool.false_or]
  have hout (x : Fld) (hx : ¬OutsideEvents x) : e.f x = d.f x := hot x fun y hy hk => hx <| by
    have ho := mem_lockedOffs h
    have := (hacc y hy).2
    unfold OutsideEvents
    rw [hk, y.at_key]
    omega
  have hev : LeavesEvent 149 d e := by
    refine ⟨?_, hout _ (by unfold OutsideEvents; decide)⟩
    unfold Dev.evPending Dev.fb
    rw [hout _ (by unfold OutsideEvents; decide)]
  have hldg : e.ldg = d.ldg := by rw [hr]
  rw [hst]
  cases hc : d.changesLocked off v fs with
  | false => exact ⟨⟨hj, fun h => by rw [h] at hc; exact absurd hc (by decide), fun _ => hev⟩, hldg⟩
  | true =>
    have hfld (x : FieldDef) (hx : x ∈ fs) : (raise0 149 e).f (x.at off) = e.f (x.at off) := f_raise0 (evFree_at h hl hx) (by decide) e
    refine ⟨⟨⟨fun x hx ha => (hfld x hx).trans (hj.locked x hx ha), fun x hx ha => (hfld x hx).trans (hj.free x hx ha)⟩,
      fun _ => ⟨(evPending_raise 149 (by decide) _ _ _ e).1, ?_⟩, fun h => by rw [h] at hc; exact absurd hc (by decide)⟩,
      (raise0_ldg (e := 149) (by decide) e).trans hldg⟩
    rw [← hev.2]
    exact f_count_raise (by decide) (by decide) (by decide) ..

end

/-- An accepted write to a governed register while the ledger is open is one more record waiting (R413). -/
theorem governed_queue {org : Origin} (ho : org ≠ .loop) {d : Dev} (hc : d.ldg.closed = false) (off old new : Nat) :
    (governed org off old new d).ldg.queue.length = d.ldg.queue.length + 1 := by
  unfold governed
  rw [if_neg ho]
  show (ledgerPut org 1 0 off old new (advanceEpoch d)).ldg.queue.length = _
  unfold ledgerPut
  rw [if_neg (by rw [show (advanceEpoch d).ldg = d.ldg from rfl, hc]; decide)]
  exact List.length_append

theorem f_governed {x : Fld} (hx : x.key ≠ DECK_SEAL_STAT_busy.key) (org : Origin) (off old new : Nat) (d : Dev) :
    (governed org off old new d).f x = d.f x := by
  unfold governed
  split
  · rfl
  · refine (f_congr ?_ x).trans (f_setB_other hx true d)
    unfold ledgerPut
    split <;> rfl

theorem leavesEvent_governed (org : Origin) (off old new : Nat) (d : Dev) : LeavesEvent 149 d (governed org off old new d) := by
  refine ⟨?_, f_governed (by decide) ..⟩
  unfold Dev.evPending Dev.fb
  rw [f_governed (by decide)]

/-- The write of a register with RWL fields under a committed map (R482): the fields are judged, and where the register is governed the write is
one more record of the ledger. -/
theorem regStore_locked {off : Nat} (h : off ∈ lockedOffs) {r : RegDef} (hr : findBank off = some r) {org : Origin} (ho : org ≠ .loop) (v : Nat)
    {b : Blk} (hf : b.dev.formed = true) (hc : b.dev.ldg.closed = false) :
    Judged off v r.fields b.dev (regStore org false off v r b).dev ∧
      (off ≠ 0x100040 → (regStore org false off v r b).dev.ldg.queue.length = b.dev.ldg.queue.length + 1) := by
  obtain ⟨hl, hgov⟩ := lockedBank h hr
  have hlo := mem_lockedOffs h
  obtain ⟨hj, hldg⟩ := storeReg_locked h hl v hf
  unfold regStore
  extract_lets old was b₁ b₂
  have hj1 : Judged off v r.fields b.dev b₁.dev := hj
  have hldg1 : b₁.dev.ldg = b.dev.ldg := hldg
  have hj2 : Judged off v r.fields b.dev b₂.dev := by
    by_cases hg : isGoverned r.fields = true
    · have hb : b₂.dev = governed org off old (b₁.dev.rwgWord off r.fields) b₁.dev := by simp only [b₂, hg, if_true]; rfl
      rw [hb]
      refine hj1.trans (fun x hx => f_governed ?_ ..) (leavesEvent_governed ..)
      have := ((lockable_iff.mp hl).1 x hx).2
      rw [x.at_key]
      simp only [Fld.key, DECK_SEAL_STAT_busy]
      omega
    · have hb : b₂ = b₁ := if_neg hg
      rw [hb]; exact hj1
  have hk := keepsJudged_writeAfter h org v was b₂
  refine ⟨hj2.trans (fun x hx => hk.field _ rfl ((lockable_iff.mp hl).1 x hx).2) hk.event, fun hn => ?_⟩
  have hb : b₂.dev = governed org off old (b₁.dev.rwgWord off r.fields) b₁.dev := by simp only [b₂, hgov hn, if_true]; rfl
  rw [hk.queue, hb, governed_queue ho (by rw [hldg1, hc]), hldg1]

/-! ### The bus (O9) -/

/-- The write of a locked register by the host or by firmware reaches its fields. -/
theorem exec_registerWrite_locked {s : State} {org : Origin} {off : Nat} (h : off ∈ lockedOffs) (v : Word) {r : RegDef}
    (hr : findBank off = some r) (hv : off = 0x100040 → v.toNat % 4 ≠ 3) (horg : org = .host ∨ org = .firmware)
    (hhost : org = .host → s.d.hostWaits = false) (hfw : org = .firmware → s.d.key.fwStopped = false) (hup : s.d.deckUp = true)
    (hrun : s.d.running = true) (hroom : s.d.ledgerHolds = false) :
    exec (.registerWrite org off 4 [v]) s = .next (s.act fun b => regStore org false off v.toNat r (onDev fresh b)) := by
  have hlo := mem_lockedOffs h
  have hbus : busWrite org off 4 [v] s.blk = regStore org false off v.toNat r (onDev fresh s.blk) := by
    rw [busWrite_word hup (by omega) (writeAllowed_aligned (aligned_of_mem_lockedOffs h)),
      busTake_answered (b := onDev fresh s.blk) (answers_running (d := fresh s.d) hrun off) (offIn_false (by omega)) hhost, busWord_locked h]
    unfold busRegister
    rw [show (onDev fresh s.blk).dev.ledgerHolds = false from hroom, Bool.and_false, if_neg (by decide), regWrite_locked h hv hr]
  have hwords : wordsFrom org off 4 [v] s.blk = busWrite org off 4 [v] s.blk := by
    obtain rfl | rfl := horg
    · rfl
    · exact if_neg (by rw [show s.blk.dev.key.fwStopped = false from hfw rfl]; decide)
  exact (whileUp_up _ hup).trans (congrArg (fun b => Host.Outcome.next { s with blk := b }) (hwords.trans hbus))

theorem changesLocked_iff {d : Dev} {off v : Nat} {fs : List FieldDef} :
    d.changesLocked off v fs = true ↔ ∃ x ∈ fs, x.acc = .rwl ∧ d.f (x.at off) ≠ bits v x.hi x.lo := by
  simp [Dev.changesLocked]

/-- Settles O9: the fields are judged one by one, the ledger takes the record, and what the register does beyond them touches none of it. -/
theorem lockedRegistersAreJudgedFieldByField : Obligations.LockedRegistersAreJudgedFieldByField := by
  rintro s org off v r ⟨hhost, hfw⟩ ⟨hup, hrun, horg, hf, hroom, hoff, hr, hv⟩
  have hclosed : s.d.ldg.closed = false := by
    have := hroom
    simp only [Dev.ledgerHolds, Bool.or_eq_false_iff] at this
    exact this.1
  have hloop : org ≠ .loop := by obtain rfl | rfl := horg <;> decide
  obtain ⟨hj, hq⟩ := regStore_locked hoff hr hloop v.toNat (b := onDev fresh s.blk) hf hclosed
  refine ⟨_, exec_registerWrite_locked hoff v hr hv horg hhost hfw hup hrun hroom,
    fun x hx => ⟨hj.fields.locked x hx, hj.fields.free x hx⟩, ?_, hq⟩
  split
  next hc => exact hj.changed (changesLocked_iff.mpr hc)
  next hc => exact hj.unchanged (Bool.eq_false_iff.mpr fun h => hc (changesLocked_iff.mp h))

end Sys2Proof.Machine
end
section
/-!
PROOF. The end of the shutdown ramp (O43): the ledger that it opens again lets held writes take effect, and a DECK_RESET among them resets the
device, so that its outputs leave their safe levels.
-/
namespace Sys2Proof.Machine

/-- A deck in service whose shutdown ramp ends now, with the ledger closed by an entry and the host's DECK_RESET waiting behind it (R419). -/
def rampOverHeldReset : State :=
  inService.actDev fun d =>
    { d with now := 200000, hk := { d.hk with ramp := some 0 }, ldg := { d.ldg with closed := true, held := [⟨.host, 0x10, 0xC301⟩] } }

/-- The reset that the opened ledger releases ends the safe levels of the stay outputs. -/
theorem shutdownRampEnd_heldReset_safeOut : (rampOverHeldReset.act shutdownRampEnd).d.hk.safeOut = false := by decide +kernel

/-- Refutes O43: after the ramp's end the outputs are not safe where the ledger held a DECK_RESET, which takes effect as it opens again (R393). -/
theorem not_theParapetActs : ¬ Obligations.TheParapetActs := by
  intro h
  have hup : rampOverHeldReset.d.deckUp = true := by decide +kernel
  have hrun : rampOverHeldReset.d.running = true := by decide +kernel
  obtain ⟨-, -, -, -, hramp, -⟩ := h rampOverHeldReset ⟨hup, hrun⟩
  obtain ⟨t, ht, -, -, -, hsafe, -⟩ := hramp 0 (by decide +kernel)
  have hexec : exec .shutdownRampEnd rampOverHeldReset = .next (rampOverHeldReset.act shutdownRampEnd) := whileRunning_running _ hup hrun
  obtain rfl : rampOverHeldReset.act shutdownRampEnd = t := Host.Outcome.next.inj (hexec.symm.trans ht)
  exact absurd (shutdownRampEnd_heldReset_safeOut.symm.trans hsafe) (by decide)

end Sys2Proof.Machine
end
section
/-!
PROOF. Pier seals, the interface level, the adaptation modes and the crossings (O23): what a path fault, a bay's way down to Off and a change of
modes leave alone, and what each command does by these.
-/
namespace Sys2Proof.Machine

/-! ### What a step leaves alone -/

/-- A step keeps the state of the span map, that of the seals, and every register field of a set. -/
structure KeepsFields (P : Fld → Prop) (d e : Dev) : Prop where
  span : e.span = d.span
  seals : e.seals = d.seals
  field : ∀ x, P x → e.f x = d.f x

section
variable {P : Fld → Prop} {d e g : Dev}

theorem KeepsFields.refl (P : Fld → Prop) (d : Dev) : KeepsFields P d d := ⟨rfl, rfl, fun _ _ => rfl⟩

theorem KeepsFields.trans (h : KeepsFields P d e) (k : KeepsFields P e g) : KeepsFields P d g :=
  ⟨k.span.trans h.span, k.seals.trans h.seals, fun x hx => (k.field x hx).trans (h.field x hx)⟩

theorem KeepsFields.regs (h : KeepsFields P d e) (hr : g.regs = e.regs) (hs : g.span = e.span) (hl : g.seals = e.seals) :
    KeepsFields P d g := h.trans ⟨hs, hl, fun x _ => f_congr hr x⟩

theorem KeepsFields.set (h : KeepsFields P d e) {x : Fld} (hx : ∀ y, P y → y.key ≠ x.key) (v : Nat) : KeepsFields P d (setF x v e) :=
  h.trans ⟨rfl, rfl, fun y hy => f_setF_other (hx y hy) v e⟩

theorem KeepsFields.modBay (h : KeepsFields P d e) (b : Nat) (u : BaySt → BaySt) : KeepsFields P d (modBay b u e) := h.regs rfl rfl rfl

theorem KeepsFields.modDpd (h : KeepsFields P d e) (n : Nat) (u : DpdSt → DpdSt) : KeepsFields P d (modDpd n u e) := h.regs rfl rfl rfl

theorem KeepsFields.inc (h : KeepsFields P d e) {x : Fld} (hx : ∀ y, P y → y.key ≠ x.key) : KeepsFields P d (incF x e) := h.set hx _

theorem KeepsFields.clrBit (h : KeepsFields P d e) {x : Fld} (hx : ∀ y, P y → y.key ≠ x.key) (i : Nat) : KeepsFields P d (clrBitF x i e) := by
  unfold clrBitF
  split
  · exact h.set hx _
  · exact h

theorem KeepsFields.ite (c : Prop) [Decidable c] (h : KeepsFields P d e) (k : KeepsFields P d g) :
    KeepsFields P d (if c then e else g) := by
  split
  · exact h
  · exact k

theorem KeepsFields.when (h : KeepsFields P d e) (c : Bool) {u : Dev → Dev} (hu : KeepsFields P e (u e)) : KeepsFields P d (onlyIf c u e) :=
  .ite _ (h.trans hu) h

theorem KeepsFields.each {α : Type} (h : KeepsFields P d e) {u : α → Dev → Dev} (hu : ∀ a d, KeepsFields P d (u a d)) (l : List α) :
    KeepsFields P d (forAll l u e) :=
  foldl_keeps (KeepsFields P d) _ l (fun c a _ hc => hc.trans (hu a c)) e h

theorem KeepsFields.raise (h : KeepsFields P d e) (hP : ∀ y, P y → evFree y) {n : Nat} (hn : n < 160) (u c m : Nat) :
    KeepsFields P d (raise n u c m e) :=
  h.trans ⟨raise_span hn u c m e, raise_seals hn u c m e, fun y hy => f_raise (hP y hy) hn u c m e⟩

/-- An event whose word is in the set stays pending, or not. -/
theorem KeepsFields.evPending (h : KeepsFields P d e) {a : Nat} (ha : P (DECK_EVT_PEND_pend (a / 32))) : e.evPending a = d.evPending a := by
  unfold Dev.evPending Dev.fb
  rw [h.field _ ha]

theorem KeepsFields.fb (h : KeepsFields P d e) {x : Fld} (hx : P x) (i : Nat) : e.fb x i = d.fb x i := by
  unfold Dev.fb
  rw [h.field x hx]

end

/-- What every step of a loop keeps, and the step of an element brings about, holds of each element after the loop. -/
theorem forAll_establishes {α : Type} {A Q : α → Dev → Prop} {u : α → Dev → Dev} (hA : ∀ a b d, A a d → A a (u b d))
    (hu : ∀ a d, A a d → Q a (u a d)) (hQ : ∀ a b d, Q a d → Q a (u b d)) (l : List α) (d : Dev) :
    ∀ a ∈ l, A a d → Q a (forAll l u d) := by
  induction l generalizing d with
  | nil => exact fun _ h => absurd h List.not_mem_nil
  | cons b r ih =>
    intro a ha had
    obtain rfl | har := List.mem_cons.mp ha
    · exact foldl_keeps (Q a) _ r (fun e c _ he => hQ a c e he) _ (hu a d had)
    · exact ih (u b d) a har (hA a b d had)

/-! ### The bits of masks -/

/-- A mask without the bits that it shares with another. -/
theorem testBit_sub_and (a s k : Nat) : (a - (a &&& s)).testBit k = (a.testBit k && !s.testBit k) := by
  induction k generalizing a s with
  | zero =>
    have hbit : (a &&& s).testBit 0 = (a.testBit 0 && s.testBit 0) := Nat.testBit_and ..
    have hle : a &&& s ≤ a := Nat.and_le_left
    rw [Bool.eq_iff_iff] at hbit ⊢
    simp only [Nat.testBit_zero, Bool.and_eq_true, Bool.not_eq_true', decide_eq_true_eq, decide_eq_false_iff_not] at hbit ⊢
    omega
  | succ k ih =>
    have hhalf : (a - (a &&& s)) / 2 = a / 2 - (a / 2 &&& s / 2) := by
      have hdiv : (a &&& s) / 2 = a / 2 &&& s / 2 := Nat.and_div_two
      have hmod : (a &&& s) % 2 = a % 2 &&& s % 2 := Nat.and_mod_two_pow (n := 1)
      have hle : a % 2 &&& s % 2 ≤ a % 2 := Nat.and_le_left
      omega
    rw [Nat.testBit_succ, hhalf, ih, ← Nat.testBit_succ, ← Nat.testBit_succ]

/-- A set bit that is taken from a number is gone. -/
theorem testBit_sub_two_pow {v i : Nat} (h : v.testBit i = true) : (v - 2 ^ i).testBit i = false := by
  have hand : v &&& 2 ^ i = 2 ^ i := by rw [Nat.and_two_pow, h]; simp
  have := testBit_sub_and v (2 ^ i) i
  rw [hand] at this
  simp [this]

theorem testBit_or_shift (v i : Nat) : (v ||| 1 <<< i).testBit i = true := by simp [Nat.testBit_shiftLeft]

theorem fb_setF_same {x : Fld} {i : Nat} (hi : i < x.hi + 1 - x.lo) (v : Nat) (d : Dev) : (setF x v d).fb x i = v.testBit i := by
  unfold Dev.fb
  rw [f_setF_same, Fld.size, Nat.testBit_mod_two_pow, decide_eq_true hi, Bool.true_and]

theorem fb_setBitF_same {x : Fld} {i : Nat} (hi : i < x.hi + 1 - x.lo) (d : Dev) : (setBitF x i d).fb x i = true :=
  (fb_setF_same hi _ d).trans (testBit_or_shift _ i)

theorem fb_clrBitF_same (x : Fld) (i : Nat) (d : Dev) : (clrBitF x i d).fb x i = false := by
  unfold clrBitF
  split
  · next h =>
    unfold Dev.fb
    rw [f_setF_same, Fld.size, Nat.testBit_mod_two_pow, testBit_sub_two_pow h, Bool.and_false]
  · next h => exact Bool.eq_false_iff.mpr h

/-! ### Path faults and their sheds -/

/-- The fields that a path fault leaves alone, among others: those below the pier windows, and the active masks of a bay. -/
def BesideFault (x : Fld) : Prop := x.lo < 32 ∧ (x.off < 0x3000000 ∨ x.off % 0x1000 = 0x1C ∧ x.lo < 16)

theorem posOf_lt (n : Nat) : posOf n < 8 := Nat.mod_lt _ (by decide)
theorem bayBase_mod (b : Nat) : bayBase b % 0x1000 = 0 := by unfold bayBase; omega
theorem bayBase_le (b : Nat) : 0x3000000 ≤ bayBase b := by unfold bayBase; omega

/-- A field of a bay's block, but for its active masks. -/
theorem BesideFault.key_ne {x : Fld} (h : BesideFault x) {b r hi lo rst : Nat} (hr : r < 0x1000 ∧ (r = 0x1C → 16 ≤ lo)) (hl : lo < 32) :
    x.key ≠ (⟨bayBase b + r, hi, lo, rst⟩ : Fld).key := by
  have hm := bayBase_mod b
  have hb := bayBase_le b
  unfold BesideFault at h
  simp only [Fld.key]
  omega

theorem besideFault_low {x : Fld} (hl : x.lo < 32) (ho : x.off < 0x3000000) : BesideFault x := ⟨hl, .inl ho⟩

theorem besideFault_active (b : Nat) : BesideFault (BAY_ACTIVE_tx_active b) := by
  have := bayBase_mod b
  unfold BesideFault BAY_ACTIVE_tx_active
  dsimp only
  omega

theorem bay_modBay_same (b : Nat) (u : BaySt → BaySt) (d : Dev) : (modBay b u d).bay b = u (d.bay b) := smGet_smPut_same ..

theorem bay_modBay_other {b c : Nat} (h : c ≠ b) (u : BaySt → BaySt) (d : Dev) : (modBay b u d).bay c = d.bay c := smGet_smPut_other _ _ h ..

/-- What a capture remembers lies in the state of its receiver alone. -/
theorem capTouch_only (b : Nat) (u : CapRun → CapRun) (d : Dev) : ∃ o, capTouch b u d = { d with obs := o } := by
  unfold capTouch
  dsimp only
  split
  · split
    · exact ⟨_, rfl⟩
    · exact ⟨d.obs, rfl⟩
  · exact ⟨d.obs, rfl⟩

theorem KeepsFields.capTouch {P : Fld → Prop} {d e : Dev} (h : KeepsFields P d e) (b : Nat) (u : CapRun → CapRun) :
    KeepsFields P d (capTouch b u e) := by
  obtain ⟨o, ho⟩ := capTouch_only b u e
  rw [ho]
  exact h.regs rfl rfl rfl

theorem keepsFields_refreshLive (b : Nat) (d : Dev) : KeepsFields BesideFault d (refreshLive b d) :=
  ((KeepsFields.refl _ d).set (fun _ hy => hy.key_ne (by decide) (by decide)) _).set (fun _ hy => hy.key_ne (by decide) (by decide)) _

theorem keepsFields_shedPath (n : Nat) (tx rx : Bool) (d : Dev) : KeepsFields BesideFault d (shedPath n tx rx d) := by
  have hcap : KeepsFields BesideFault d (onlyIf tx (capShed (bayOf n) (1 <<< posOf n)) d) := .when (.refl _ d) tx (.capTouch (.refl _ d) _ _)
  exact (hcap.modBay _ _).trans (keepsFields_refreshLive _ _)

theorem keepsFields_pathFault (n cause : Nat) (d : Dev) : KeepsFields BesideFault d (pathFault n cause d) := by
  unfold pathFault
  extract_lets b k tx rx
  have hmark : KeepsFields BesideFault d (divMark n cause tx rx d) := .regs (.refl _ d) rfl rfl rfl
  have htx := hmark.when tx (u := setBitF (BAY_SHED_tx_fault b) k) ((KeepsFields.refl _ _).set (fun _ hy => hy.key_ne (by decide) (by decide)) _)
  have hrx := htx.when rx (u := setBitF (BAY_SHED_rx_fault b) k) ((KeepsFields.refl _ _).set (fun _ hy => hy.key_ne (by decide) (by decide)) _)
  exact .ite _ (((hrx.trans (keepsFields_shedPath n tx rx _)).set (fun _ hy => hy.key_ne (by decide) (by decide)) _).modBay b _) (.refl _ d)

/-- A live mask, and a field of a bay's block that is none of that bay's masks. -/
theorem live_key_ne {n b r hi lo rst : Nat} (hr : r < 0x1000) (hne : r ≠ 0x1C ∨ b ≠ bayOf n) (hl : lo < 32) :
    (BAY_ACTIVE_tx_live (bayOf n)).key ≠ (⟨bayBase b + r, hi, lo, rst⟩ : Fld).key := by
  simp only [Fld.key, BAY_ACTIVE_tx_live, bayBase]
  omega

/-- Path n is shed in transmit, and not live. -/
def TxShed (n : Nat) (d : Dev) : Prop := (d.bay (bayOf n)).shedTx.testBit (posOf n) = true ∧ d.txLive n = false

section
variable {n : Nat} {d : Dev}

theorem TxShed.capTouch (h : TxShed n d) (b : Nat) (u : CapRun → CapRun) : TxShed n (capTouch b u d) := by
  obtain ⟨o, ho⟩ := capTouch_only b u d
  rw [ho]
  exact h

theorem TxShed.set (h : TxShed n d) {x : Fld} (hx : (BAY_ACTIVE_tx_live (bayOf n)).key ≠ x.key) (v : Nat) : TxShed n (setF x v d) := by
  unfold TxShed Dev.txLive Dev.fb at *
  rwa [f_setF_other hx]

theorem TxShed.when (h : TxShed n d) (c : Bool) {u : Dev → Dev} (hu : TxShed n (u d)) : TxShed n (onlyIf c u d) := by
  unfold onlyIf
  split
  · exact hu
  · exact h

/-- A change of a bay that keeps what it has shed. -/
theorem TxShed.modBay (h : TxShed n d) (b : Nat) {u : BaySt → BaySt}
    (hu : ∀ s i, s.shedTx.testBit i = true → (u s).shedTx.testBit i = true) : TxShed n (modBay b u d) := by
  refine ⟨?_, h.2⟩
  by_cases hb : bayOf n = b
  · subst hb
    rw [bay_modBay_same]
    exact hu _ _ h.1
  · rw [bay_modBay_other hb]
    exact h.1

/-- What a bay has shed is not live once its masks follow. -/
theorem txShed_refreshLive {b : Nat} (hb : bayOf n = b) (h : (d.bay b).shedTx.testBit (posOf n) = true) : TxShed n (refreshLive b d) := by
  subst hb
  refine ⟨h, ?_⟩
  have hother : (BAY_ACTIVE_tx_live (bayOf n)).key ≠ (BAY_ACTIVE_rx_live (bayOf n)).key := by
    simp only [Fld.key, BAY_ACTIVE_tx_live, BAY_ACTIVE_rx_live]; omega
  unfold refreshLive Dev.txLive
  extract_lets s
  unfold Dev.fb
  rw [f_setF_other hother]
  refine (fb_setF_same (x := BAY_ACTIVE_tx_live (bayOf n)) (posOf_lt n) _ d).trans ?_
  rw [testBit_sub_and, h, Bool.not_true, Bool.and_false]

theorem TxShed.refreshLive (h : TxShed n d) (b : Nat) : TxShed n (refreshLive b d) := by
  by_cases hb : bayOf n = b
  · exact txShed_refreshLive hb (hb ▸ h.1)
  · exact (h.set (live_key_ne (by decide) (.inr (Ne.symm hb)) (by decide)) _).set (live_key_ne (by decide) (.inr (Ne.symm hb)) (by decide)) _

theorem TxShed.shedPath (h : TxShed n d) (m : Nat) (tx rx : Bool) : TxShed n (shedPath m tx rx d) := by
  refine TxShed.refreshLive (.modBay (h.when tx (h.capTouch _ _)) _ fun s i hi => ?_) _
  cases tx
  · exact hi
  · exact (Nat.testBit_or ..).trans (by rw [hi, Bool.true_or])

theorem txShed_shedPath (n : Nat) (rx : Bool) (d : Dev) : TxShed n (shedPath n true rx d) := by
  refine txShed_refreshLive rfl ?_
  rw [bay_modBay_same]
  exact testBit_or_shift _ _

theorem TxShed.pathFault (h : TxShed n d) (m cause : Nat) : TxShed n (pathFault m cause d) := by
  unfold Machine.pathFault
  extract_lets b k tx rx
  have hmark : TxShed n (divMark m cause tx rx d) := h.modBay _ fun _ _ hi => hi
  have htx := hmark.when tx (u := setBitF (BAY_SHED_tx_fault b) k) (hmark.set (live_key_ne (by decide) (.inl (by decide)) (by decide)) _)
  have hrx := htx.when rx (u := setBitF (BAY_SHED_rx_fault b) k) (htx.set (live_key_ne (by decide) (.inl (by decide)) (by decide)) _)
  split
  · exact ((hrx.shedPath m tx rx).set (live_key_ne (by decide) (.inl (by decide)) (by decide)) _).modBay b fun _ _ hi => hi
  · exact h

/-- A divergence sheds an active path. -/
theorem txShed_pathFault (h : d.fb (BAY_ACTIVE_tx_active (bayOf n)) (posOf n) = true) : TxShed n (pathFault n 5 d) := by
  unfold Machine.pathFault
  simp only [h, Bool.and_true, show ((5 == 1 || 5 == 2 || 5 == 4 || 5 == 5 || 5 == 6) : Bool) = true from rfl, Bool.true_or, if_true]
  exact ((txShed_shedPath n _ _).set (live_key_ne (by decide) (.inl (by decide)) (by decide)) _).modBay _ fun _ _ hi => hi

end

/-- Every active path of a list is silent after the path faults of a divergence. -/
theorem txShed_forAll_pathFault (l : List Nat) (d : Dev) :
    ∀ n ∈ l, d.fb (BAY_ACTIVE_tx_active (bayOf n)) (posOf n) = true → TxShed n (forAll l (fun n => pathFault n 5) d) :=
  forAll_establishes (A := fun n d => d.fb (BAY_ACTIVE_tx_active (bayOf n)) (posOf n) = true) (Q := TxShed)
    (fun n m d h => ((keepsFields_pathFault m 5 d).fb (besideFault_active (bayOf n)) _).trans h)
    (fun _ _ h => txShed_pathFault h) (fun _ m _ h => h.pathFault m 5) l d

/-! ### The seal check and the reload of a pier (R90) -/

/-- A pier's seal disagrees with the deck's in the same epoch. -/
theorem pierSealCheck_disagrees {p : Nat} {d : Dev} (hp : p < 4) (hu : d.piersUp = true) (hb : d.on DECK_SEAL_STAT_busy = false)
    (hd : d.fb DECK_SEAL_STAT_diverged p = false) :
    pierSealCheck p false d = forAll (pierPaths p) (fun n => pathFault n 5) (setBitF DECK_SEAL_STAT_diverged p (raise 146 p 0 0 d)) := by
  unfold pierSealCheck
  rw [if_neg (by simp [hp, hu, hb, hd])]

theorem pierSealCheck_diverges {p : Nat} {d : Dev} (hp : p < 4) (hu : d.piersUp = true) (hb : d.on DECK_SEAL_STAT_busy = false)
    (hd : d.fb DECK_SEAL_STAT_diverged p = false) :
    (pierSealCheck p false d).fb DECK_SEAL_STAT_diverged p = true ∧ (pierSealCheck p false d).evPending 146 = true ∧
      ∀ n ∈ pierPaths p, d.fb (BAY_ACTIVE_tx_active (bayOf n)) (posOf n) = true → (pierSealCheck p false d).txLive n = false := by
  rw [pierSealCheck_disagrees hp hu hb hd]
  have hfaults := (KeepsFields.refl BesideFault (setBitF DECK_SEAL_STAT_diverged p (raise 146 p 0 0 d))).each
    (fun n e => keepsFields_pathFault n 5 e) (pierPaths p)
  refine ⟨?diverged, ?raised, fun n hn ha => ?silent⟩
  case diverged =>
    rw [hfaults.fb (besideFault_low (by decide) (by decide))]
    exact fb_setBitF_same (x := DECK_SEAL_STAT_diverged) hp _
  case raised =>
    rw [hfaults.evPending (besideFault_low (by decide) (by decide))]
    exact (evPending_setF_other (by decide) _ _).trans (evPending_raise 146 (by decide) ..).1
  case silent =>
    refine (txShed_forAll_pathFault _ _ n hn ?_).2
    unfold Dev.fb
    have hkey : (BAY_ACTIVE_tx_active (bayOf n)).key ≠ DECK_SEAL_STAT_diverged.key := by
      have := bayBase_le (bayOf n)
      simp only [Fld.key, BAY_ACTIVE_tx_active, DECK_SEAL_STAT_diverged]
      omega
    have hfree : evFree (BAY_ACTIVE_tx_active (bayOf n)) := by
      have := bayBase_le (bayOf n)
      unfold evFree BAY_ACTIVE_tx_active
      dsimp only
      omega
    rw [f_setBitF_other hkey, f_raise hfree (by decide)]
    exact ha

/-! ### A bay's way down to Off -/

/-- What bay b's way down leaves alone, among others: the fields below the span map's registers, and the states of the other bays. -/
def BesideBay (b : Nat) (x : Fld) : Prop := x.lo < 32 ∧ (x.off < 0x200000 ∨ x.off % 0x1000 = 4 ∧ x.off ≠ bayBase b + 4)

section
variable {b : Nat} {x : Fld} (h : BesideBay b x)
include h

/-- A field of a bay's block, of another bay none of its state. -/
theorem BesideBay.key_ne {c r hi lo rst : Nat} (hr : r < 0x1000) (hc : r ≠ 4 ∨ c = b) (hl : lo < 32) :
    x.key ≠ (⟨bayBase c + r, hi, lo, rst⟩ : Fld).key := by
  have hm := bayBase_mod c
  have hb := bayBase_le c
  unfold BesideBay at h
  simp only [Fld.key]
  obtain hr4 | rfl := hc <;> omega

theorem BesideBay.key_ne_word {c r k hi lo rst : Nat} (hr : 4 < r ∧ r + 4 * k < 0x1000) (hl : lo < 32) :
    x.key ≠ (⟨bayBase c + r + 4 * k, hi, lo, rst⟩ : Fld).key := by
  rw [Nat.add_assoc]
  exact h.key_ne hr.2 (.inl (by omega)) hl

theorem BesideBay.key_ne_dpdState (n : Nat) : x.key ≠ (BAY_DPD_state (bayOf n) (posOf n)).key :=
  h.key_ne_word (by have := posOf_lt n; omega) (by decide)

theorem BesideBay.key_ne_pending : x.key ≠ SPAN_ADAPT_MODE_pending.key := by
  unfold BesideBay at h
  simp only [Fld.key, SPAN_ADAPT_MODE_pending]
  omega

end

section
variable {P : Fld → Prop}

/-- A path's predistorter starts, or shows a mode: its state alone. -/
theorem keepsFields_dpdStart (hP : ∀ n y, P y → y.key ≠ (BAY_DPD_state (bayOf n) (posOf n)).key) (n : Nat) (d : Dev) :
    KeepsFields P d (dpdStart n d) := by
  unfold dpdStart
  extract_lets e
  have he : KeepsFields P d e := .regs (.refl P d) rfl rfl rfl
  have hset (v : Nat) : KeepsFields P d (setDpdState n v e) := he.set (hP n) v
  exact .ite _ (hset 0) (.ite _ (hset 1) (hset 6))

/-- A change of the mode of predistortion shows in the states of the predistorters alone (R156). -/
theorem keepsFields_dpdModeChanged (hP : ∀ n y, P y → y.key ≠ (BAY_DPD_state (bayOf n) (posOf n)).key) (d : Dev) :
    KeepsFields P d (dpdModeChanged d) := by
  refine (KeepsFields.refl P d).each (fun n e => ?_) _
  have hset (v : Nat) : KeepsFields P e (setDpdState n v e) := (KeepsFields.refl P e).set (hP n) v
  exact .ite _ (.ite _ (keepsFields_dpdStart hP n e) (.ite _ (hset 0) (.ite _ (hset 6) (.refl P e)))) (.refl P e)

end

section
variable (b : Nat) (d : Dev)

theorem keepsFields_dpdModeSettled : KeepsFields (BesideBay b) d (dpdModeSettled d) :=
  .ite _ (((KeepsFields.refl _ d).clrBit (fun _ h => h.key_ne_pending) 0).trans (keepsFields_dpdModeChanged (fun n _ h => h.key_ne_dpdState n) _))
    (.refl _ d)

theorem keepsFields_calModeSettled : KeepsFields (BesideBay b) d (calModeSettled d) :=
  .ite _ ((KeepsFields.refl _ d).clrBit (fun _ h => h.key_ne_pending) 1) (.refl _ d)

theorem keepsFields_calAbandoned (l : List (Nat × Nat)) : KeepsFields (BesideBay b) d (calAbandoned l d) :=
  (KeepsFields.refl _ d).each (fun p e => (KeepsFields.refl _ e).set
    (fun _ h => h.key_ne_word (by have := posOf_lt p.1; omega) (by decide)) _) l

theorem keepsFields_calRelease (lead kind : Nat) : KeepsFields (BesideBay b) d (calRelease lead kind d) :=
  .ite _ (.regs (.refl _ d) rfl rfl rfl) (.refl _ d)

theorem keepsFields_calAbandon : KeepsFields (BesideBay b) d (calAbandon b d) := by
  unfold calAbandon
  split
  · exact .refl _ d
  · next r _ =>
    have hset {e : Dev} (h : KeepsFields (BesideBay b) d e) : KeepsFields (BesideBay b) d (e
        |> setB (BAY_CAL_STAT_running b) false |> setB (BAY_SYNTH_STAT_cal_busy b) false
        |> setB (BAY_FE_STAT_lo_ready b) (d.on (BAY_SYNTH_STAT_locked b) && d.on (BAY_SYNTH_STAT_aligned b))) :=
      ((h.set (fun _ h => h.key_ne (by decide) (.inl (by decide)) (by decide)) _).set
        (fun _ h => h.key_ne (by decide) (.inl (by decide)) (by decide)) _).set (fun _ h => h.key_ne (by decide) (.inr rfl) (by decide)) _
    exact (((hset (keepsFields_calAbandoned b d r.pairs)).trans (keepsFields_calRelease b _ r.lead r.kind)).modBay b _).trans
      (keepsFields_calModeSettled b _)

theorem keepsFields_captureDiscard : KeepsFields (BesideBay b) d (captureDiscard b d) := by
  unfold captureDiscard
  split
  · exact .ite _ (.regs (.refl _ d) rfl rfl rfl) (.refl _ d)
  · next c _ =>
    have hobs : KeepsFields (BesideBay b) d (modObs b (fun s => { s with cap := none }) d) := .regs (.refl _ d) rfl rfl rfl
    have hbusy : KeepsFields (BesideBay b) d (modObs b (fun s => { s with cap := none }) d |> setB (BAY_OBS_STAT_busy b) false) :=
      hobs.set (fun _ h => h.key_ne (by decide) (.inl (by decide)) (by decide)) _
    have hfailed := hbusy.inc (x := BAY_OBS_STAT_cap_failed b) fun _ h => h.key_ne (by decide) (.inl (by decide)) (by decide)
    exact (hfailed.modDpd c.path _).trans (keepsFields_dpdModeSettled b _)

theorem keepsFields_leaveRf : KeepsFields (BesideBay b) d (leaveRf b d) :=
  ((((KeepsFields.refl _ d).modBay b _).modBay b _).capTouch b _)

theorem keepsFields_synthStop : KeepsFields (BesideBay b) d (synthStop b d) :=
  ((((KeepsFields.refl _ d).set (fun _ h => h.key_ne (by decide) (.inl (by decide)) (by decide)) _).set
    (fun _ h => h.key_ne (by decide) (.inl (by decide)) (by decide)) _).set (fun _ h => h.key_ne (by decide) (.inr rfl) (by decide)) _).modBay b _

theorem keepsFields_bayDown : KeepsFields (BesideBay b) d (bayDown b d) := by
  have hstop := (((keepsFields_calAbandon b d).trans (keepsFields_captureDiscard b _)).trans (keepsFields_leaveRf b _)).trans
    (keepsFields_synthStop b _)
  exact ((((hstop.set (fun _ h => h.key_ne (by decide) (.inr rfl) (by decide)) _).set
    (fun _ h => h.key_ne (by decide) (.inr rfl) (by decide)) _).set (fun _ h => h.key_ne (by decide) (.inr rfl) (by decide)) _).set
    (fun _ h => h.key_ne (by decide) (.inl (by decide)) (by decide)) _).modBay b _

/-- A bay that has passed down is in Off. -/
theorem fe_bayDown : (bayDown b d).fe b = 0 := by
  have hbit {x : Fld} (ho : x.off = bayBase b + 4 ∨ x.off = bayBase b + 0x404) (hl : 0 < x.lo ∧ x.lo < 32) :
      (BAY_FE_STAT_state b).key ≠ x.key := by
    simp only [Fld.key, BAY_FE_STAT_state]; omega
  unfold bayDown Dev.fe
  show (setB (BAY_CAL_STAT_running b) false _).f _ = 0
  rw [f_setB_other (hbit (.inr rfl) (by simp [BAY_CAL_STAT_running])), f_setB_other (hbit (.inl rfl) (by simp [BAY_FE_STAT_in_transition])),
    f_setF_other (hbit (.inl rfl) (by simp [BAY_FE_STAT_target])), f_setF_same]
  rfl

end

/-! ### The reload of a pier (R90) -/

/-- The fields below the pier windows. -/
def BelowPiers (x : Fld) : Prop := x.lo < 32 ∧ x.off < 0x3000000

theorem BelowPiers.key_ne {x : Fld} (h : BelowPiers x) {b r hi lo rst : Nat} (hl : lo < 32) :
    x.key ≠ (⟨bayBase b + r, hi, lo, rst⟩ : Fld).key := by
  have hb := bayBase_le b
  unfold BelowPiers at h
  simp only [Fld.key]
  omega

theorem keepsFields_divergenceOver (n : Nat) (d : Dev) : KeepsFields BelowPiers d (divergenceOver n d) := by
  unfold divergenceOver
  extract_lets b k s
  have htx := (KeepsFields.refl BelowPiers d).when (s.divTx.testBit k) (u := clrBitF (BAY_SHED_tx_fault b) k)
    ((KeepsFields.refl _ _).clrBit (fun _ h => h.key_ne (by decide)) _)
  exact (htx.when (s.divRx.testBit k) (u := clrBitF (BAY_SHED_rx_fault b) k)
    ((KeepsFields.refl _ _).clrBit (fun _ h => h.key_ne (by decide)) _)).modBay b _

/-- A reload that agrees ends the divergence. -/
theorem pierReloadDone_agrees {p : Nat} {d : Dev} (hp : p < 4) (hd : d.fb DECK_SEAL_STAT_diverged p = true) (hh : d.pierHeld p = false) :
    (pierReloadDone p true d).fb DECK_SEAL_STAT_diverged p = false ∧ (pierReloadDone p true d).evPending 147 = true := by
  have heq : pierReloadDone p true d =
      raise 147 p 0 0 (forAll (pierPaths p) divergenceOver (clrBitF DECK_SEAL_STAT_diverged p d)) := by
    unfold pierReloadDone
    rw [if_neg (by simp [hp, hd, hh]), if_pos rfl]
  have hover := (KeepsFields.refl BelowPiers (clrBitF DECK_SEAL_STAT_diverged p d)).each keepsFields_divergenceOver (pierPaths p)
  rw [heq]
  refine ⟨?_, (evPending_raise 147 (by decide) ..).1⟩
  unfold Dev.fb
  rw [f_raise (by decide) (by decide), hover.field _ ⟨by decide, by decide⟩]
  exact fb_clrBitF_same _ p d

/-- Both bays of a pier pass down. -/
theorem fe_bothDown {b c : Nat} (h : b ≠ c) (d : Dev) : (bayDown c (bayDown b d)).fe b = 0 ∧ (bayDown c (bayDown b d)).fe c = 0 := by
  refine ⟨((keepsFields_bayDown c _).field (BAY_FE_STAT_state b) ⟨by show 0 < 32; decide, .inr ?_⟩).trans (fe_bayDown b d), fe_bayDown c _⟩
  have hb := bayBase_mod b
  simp only [BAY_FE_STAT_state, bayBase] at hb ⊢
  omega

/-- A reload that does not agree holds the pier, both its bays in Off. -/
theorem pierReloadDone_disagrees {p : Nat} {d : Dev} (hp : p < 4) (hd : d.fb DECK_SEAL_STAT_diverged p = true) (hh : d.pierHeld p = false) :
    (pierReloadDone p false d).pierHeld p = true ∧ (pierReloadDone p false d).on DECK_SEAL_STAT_held = true ∧
      (pierReloadDone p false d).fe (2 * p) = 0 ∧ (pierReloadDone p false d).fe (2 * p + 1) = 0 ∧
      (pierReloadDone p false d).evPending 148 = true := by
  let held := setB DECK_SEAL_STAT_held true (modSpan (fun s => { s with heldPiers := s.heldPiers ||| 1 <<< p }) d)
  have heq : pierReloadDone p false d = raise 148 p 0 0 (bayDown (2 * p + 1) (bayDown (2 * p) held)) := by
    unfold pierReloadDone
    rw [if_neg (by simp [hp, hd, hh]), if_neg (by decide)]
  have hlow (b : Nat) : BesideBay b DECK_SEAL_STAT_held := ⟨by decide, .inl (by decide)⟩
  have h0 := keepsFields_bayDown (2 * p) held
  have h1 := keepsFields_bayDown (2 * p + 1) (bayDown (2 * p) held)
  have hfe (b : Nat) : evFree (BAY_FE_STAT_state b) := by
    have := bayBase_le b
    unfold evFree BAY_FE_STAT_state
    dsimp only
    omega
  obtain ⟨hfirst, hsecond⟩ := fe_bothDown (b := 2 * p) (c := 2 * p + 1) (by omega) held
  rw [heq]
  refine ⟨?_, ?_, (f_raise (hfe _) (by decide) ..).trans hfirst, (f_raise (hfe _) (by decide) ..).trans hsecond,
    (evPending_raise 148 (by decide) ..).1⟩
  · unfold Dev.pierHeld
    rw [raise_span (by decide), h1.span, h0.span]
    exact testBit_or_shift _ p
  · unfold Dev.on
    rw [f_raise (by decide) (by decide), h1.field _ (hlow _), h0.field _ (hlow _)]
    exact on_setB_same DECK_SEAL_STAT_held (by decide) true _

/-! ### Words that the host or firmware writes to a register with a rule of its own -/

/-- A word that waits behind no other reaches its range, the record of the last access cleared. -/
theorem wordFrom_taken {b : Blk} {org : Origin} {off : Nat} (horg : org = .host ∨ org = .firmware)
    (hq : (org = .host → b.dev.hostWaits = false) ∧ (org = .firmware → b.dev.key.fwStopped = false)) (hup : b.dev.deckUp = true)
    (hrun : b.dev.running = true) (ho : off < 0x4000000) (hw : writeAllowed off 4 = true) (hs : offIn off 0x410000 0x41FFF8 = false) (v : Word) :
    wordFrom org off v b = busWord org off v.toNat (onDev fresh b) := by
  obtain ⟨hhost, hfw⟩ := hq
  have hbus : busWrite org off 4 [v] b = busWord org off v.toNat (onDev fresh b) := by
    rw [busWrite_word hup ho hw, busTake_answered (b := onDev fresh b) (answers_running (d := fresh b.dev) hrun off) hs hhost]
  obtain rfl | rfl := horg
  · exact hbus
  · unfold wordFrom wordsFrom
    rw [hfw rfl]
    exact hbus

/-- A ledger that takes records holds no write back. -/
theorem busRegister_open {b : Blk} (h : b.dev.ledgerHolds = false) (org : Origin) (off v : Nat) :
    busRegister org off v b = regWrite org false off v b := by
  unfold busRegister
  rw [h, Bool.and_false, if_neg (by decide)]

theorem busWord_hostlevel {b : Blk} (h : b.dev.ledgerHolds = false) (org : Origin) (v : Nat) :
    busWord org 0xC v b = onDev (hostlevelWrite org false v) b := (busRegister_open h org 0xC v).trans rfl

theorem busWord_adaptMode {b : Blk} (h : b.dev.ledgerHolds = false) (org : Origin) (v : Nat) :
    busWord org 0x200020 v b = onDev (adaptModeWrite org false v) b := (busRegister_open h org 0x200020 v).trans rfl

section
variable {s : State} {org : Origin} (hrun : Running s) (horg : org = .host ∨ org = .firmware)
  (hq : (org = .host → s.d.hostWaits = false) ∧ (org = .firmware → s.d.key.fwStopped = false)) (hl : s.d.ledgerHolds = false)
include hrun horg hq hl

theorem exec_hostlevelWrite (v : Word) :
    exec (.hostlevelWrite org v) s = .next (s.act (onDev fun d => hostlevelWrite org false v.toNat (fresh d))) := by
  refine (whileUp_up _ hrun.1).trans (congrArg (fun b => Host.Outcome.next { s with blk := b }) ?_)
  rw [wordFrom_taken horg hq hrun.1 hrun.2 (by decide) (by decide) (by decide), busWord_hostlevel (b := onDev fresh s.blk) hl, onDev_onDev]

theorem exec_adaptModeWrite (v : Word) :
    exec (.adaptModeWrite org v) s = .next (s.act (onDev fun d => adaptModeWrite org false v.toNat (fresh d))) := by
  refine (whileUp_up _ hrun.1).trans (congrArg (fun b => Host.Outcome.next { s with blk := b }) ?_)
  rw [wordFrom_taken horg hq hrun.1 hrun.2 (by decide) (by decide) (by decide), busWord_adaptMode (b := onDev fresh s.blk) hl, onDev_onDev]

end

/-! ### The interface level (R91, R92) -/

/-- The fields that a new offer leaves alone: those that no event touches, but for the state of the capability exchange. -/
abbrev BesideOffer (x : Fld) : Prop := evFree x ∧ x.key ≠ LINK_XK_STAT_caps.key

theorem keepsFields_sendMsgs {P : Fld → Prop} (ports : List Nat) (fam kind : Nat) (body : List Nat) (d : Dev) :
    KeepsFields P d (forAll ports (fun p => sendMsg p fam kind body) d) :=
  (KeepsFields.refl P d).each (u := fun p => sendMsg p fam kind body) (fun _ e => .regs (.refl P e) rfl rfl rfl) ports

theorem keepsFields_sendOffer (ports : List Nat) (d : Dev) : KeepsFields BesideOffer d (sendOffer ports d) := by
  have hsent := keepsFields_sendMsgs (P := BesideOffer) ports 0x44 2 ([5] ++ d.ownOffer.flatMap fun x => [x.1, x.2.1, x.2.2, 0]) d
  exact .ite _ hsent (hsent.set (fun _ h => h.2) _)

theorem keepsFields_sendResult (ports : List Nat) (d : Dev) : KeepsFields BesideOffer d (sendResult ports d) := by
  unfold sendResult
  split
  · exact .refl _ d
  · extract_lets ok agree vers at_ frame body e
    have he : KeepsFields BesideOffer d e := (keepsFields_sendMsgs ports 0x44 3 body d).regs rfl rfl rfl
    exact .ite _ he ((he.set (fun _ h => h.2) _).raise (fun _ h => h.1) (by decide) _ _ _)

theorem keepsFields_offerChanged (d : Dev) : KeepsFields BesideOffer d (offerChanged d) :=
  (keepsFields_sendOffer _ d).trans (keepsFields_sendResult _ _)

/-- DECK_HOSTLEVEL takes a declaration and the level that it gives. -/
def storeLevel (x eff : Nat) (d : Dev) : Dev :=
  d |> setF DECK_HOSTLEVEL_host_major (x / 256) |> setF DECK_HOSTLEVEL_host_minor x |> setF DECK_HOSTLEVEL_eff_major (eff / 256)
    |> setF DECK_HOSTLEVEL_eff_minor eff

theorem storeLevel_levels {x eff : Nat} (hx : x < 0x10000) (he : eff < 0x10000) (d : Dev) :
    256 * (storeLevel x eff d).f DECK_HOSTLEVEL_host_major + (storeLevel x eff d).f DECK_HOSTLEVEL_host_minor = x ∧
      256 * (storeLevel x eff d).f DECK_HOSTLEVEL_eff_major + (storeLevel x eff d).f DECK_HOSTLEVEL_eff_minor = eff := by
  have hhostMajor : (storeLevel x eff d).f DECK_HOSTLEVEL_host_major = x / 256 % 256 := by
    unfold storeLevel
    rw [f_setF_other (by decide), f_setF_other (by decide), f_setF_other (by decide), f_setF_same]
    rfl
  have hhostMinor : (storeLevel x eff d).f DECK_HOSTLEVEL_host_minor = x % 256 := by
    unfold storeLevel
    rw [f_setF_other (by decide), f_setF_other (by decide), f_setF_same]
    rfl
  have heffMajor : (storeLevel x eff d).f DECK_HOSTLEVEL_eff_major = eff / 256 % 256 := by
    unfold storeLevel
    rw [f_setF_other (by decide), f_setF_same]
    rfl
  have heffMinor : (storeLevel x eff d).f DECK_HOSTLEVEL_eff_minor = eff % 256 := f_setF_same ..
  omega

theorem levelOfDecl_lt (x : Nat) : levelOfDecl x < 0x10000 := by unfold levelOfDecl; split <;> omega

section
variable {d : Dev} {v : Nat} (hr : d.inReady = true) (hx : v % 0x10000 = 0 ∨ 0x100 ≤ v % 0x10000)
  (hm : d.map.level ≤ levelOfDecl (v % 0x10000)) (org : Origin)
include hr hx hm

/-- A level that the map and the chapter admit is stored by one governed write, and a new effective level changes the offer. -/
theorem hostlevelWrite_stores :
    hostlevelWrite org false v d = onlyIf (levelOfDecl (v % 0x10000) != d.effLevel) offerChanged
      (governed org 0xC (256 * d.f DECK_HOSTLEVEL_host_major + d.f DECK_HOSTLEVEL_host_minor) (v % 0x10000)
        (storeLevel (v % 0x10000) (levelOfDecl (v % 0x10000)) d)) :=
  (if_neg (by simp only [hr, Bool.not_true, Bool.false_eq_true, false_or]; omega)).trans rfl

theorem hostlevelWrite_admitted :
    256 * (hostlevelWrite org false v d).f DECK_HOSTLEVEL_host_major + (hostlevelWrite org false v d).f DECK_HOSTLEVEL_host_minor = v % 0x10000 ∧
      256 * (hostlevelWrite org false v d).f DECK_HOSTLEVEL_eff_major + (hostlevelWrite org false v d).f DECK_HOSTLEVEL_eff_minor =
        levelOfDecl (v % 0x10000) := by
  have hfield (x : Fld) (hb : BesideOffer x) (hbusy : x.key ≠ DECK_SEAL_STAT_busy.key) :
      (hostlevelWrite org false v d).f x = (storeLevel (v % 0x10000) (levelOfDecl (v % 0x10000)) d).f x := by
    rw [hostlevelWrite_stores hr hx hm]
    exact (((KeepsFields.refl BesideOffer _).when _ (keepsFields_offerChanged _)).field x hb).trans (f_governed hbusy ..)
  rw [hfield _ (by decide) (by decide), hfield _ (by decide) (by decide), hfield _ (by decide) (by decide), hfield _ (by decide) (by decide)]
  exact storeLevel_levels (Nat.mod_lt _ (by decide)) (levelOfDecl_lt _) d

end

/-- A level out of Ready, malformed or below what the map needs is refused. -/
theorem hostlevelWrite_refused {d : Dev} {v : Nat}
    (h : d.inReady = false ∨ (0 < v % 0x10000 ∧ v % 0x10000 < 0x100) ∨ levelOfDecl (v % 0x10000) < d.map.level) (org : Origin) :
    hostlevelWrite org false v d = raise0 152 d := by
  unfold hostlevelWrite
  extract_lets x eff was old
  exact if_pos (by simpa [x, eff] using h)

/-! ### The adaptation modes (R24, R25) -/

/-- One mode bit takes its value, and its pending bit tells whether the old mode still governs. -/
def modeStore (v i : Nat) (d : Dev) : Dev :=
  let governs := d.hostMode i
  let wait := d.modeBusy i && v.testBit i != governs
  d |> setB (modeFld i) (v.testBit i) |> (if wait then setBitF else clrBitF) SPAN_ADAPT_MODE_pending i

theorem modesStore_eq (v : Nat) (d : Dev) : modesStore v d =
    if (forAll (List.range 6) (modeStore v) d).fb SPAN_ADAPT_MODE_pending 0 then forAll (List.range 6) (modeStore v) d
    else dpdModeChanged (forAll (List.range 6) (modeStore v) d) := rfl

theorem on_congr {d e : Dev} {x : Fld} (h : e.f x = d.f x) : e.on x = d.on x := by unfold Dev.on; rw [h]

theorem keepsFields_modeStore {P : Fld → Prop} (v i : Nat) (hi : ∀ y, P y → y.key ≠ (modeFld i).key)
    (hp : ∀ y, P y → y.key ≠ SPAN_ADAPT_MODE_pending.key) (d : Dev) : KeepsFields P d (modeStore v i d) := by
  have hset : KeepsFields P d (setB (modeFld i) (v.testBit i) d) := (KeepsFields.refl P d).set hi _
  unfold modeStore
  extract_lets governs wait
  cases wait
  · exact hset.clrBit hp i
  · exact hset.set hp _

theorem on_modeStore_same {i : Nat} (hi : i < 6) (v : Nat) (d : Dev) : (modeStore v i d).on (modeFld i) = v.testBit i := by
  have hkey : (modeFld i).key ≠ SPAN_ADAPT_MODE_pending.key := by
    simp only [Fld.key, modeFld, SPAN_ADAPT_MODE_dpd_mode, SPAN_ADAPT_MODE_pending]; omega
  refine Eq.trans (on_congr ?_) (on_setB_same (modeFld i) (Nat.le_refl i) (v.testBit i) d)
  unfold modeStore
  extract_lets governs wait
  cases wait
  · exact f_clrBitF_other hkey i _
  · exact f_setBitF_other hkey i _

theorem on_modeStore_other {i k : Nat} (hi : i < 6) (hk : i ≠ k) (v : Nat) (d : Dev) :
    (modeStore v k d).on (modeFld i) = d.on (modeFld i) := by
  refine on_congr ((keepsFields_modeStore (P := (· = modeFld i)) v k ?_ ?_ d).field _ rfl) <;> rintro _ rfl <;>
    simp only [Fld.key, modeFld, SPAN_ADAPT_MODE_dpd_mode, SPAN_ADAPT_MODE_pending] <;> omega

theorem modeFld_key_ne_dpdState {i : Nat} (hi : i < 6) (n : Nat) : (modeFld i).key ≠ (BAY_DPD_state (bayOf n) (posOf n)).key := by
  have := bayBase_le (bayOf n)
  simp only [Fld.key, modeFld, SPAN_ADAPT_MODE_dpd_mode, BAY_DPD_state]
  omega

/-- Every mode bit holds its bit of the word written. -/
theorem on_modesStore {i : Nat} (hi : i < 6) (v : Nat) (d : Dev) : (modesStore v d).on (modeFld i) = v.testBit i := by
  have hkeep (j k : Nat) (e : Dev) (hj : j < 6 ∧ e.on (modeFld j) = v.testBit j) :
      j < 6 ∧ (modeStore v k e).on (modeFld j) = v.testBit j := by
    refine ⟨hj.1, ?_⟩
    by_cases hk : j = k
    · exact hk ▸ on_modeStore_same hj.1 v e
    · exact (on_modeStore_other hj.1 hk v e).trans hj.2
  obtain ⟨-, hall⟩ := forAll_establishes (A := fun i _ => i < 6) (Q := fun i e => i < 6 ∧ e.on (modeFld i) = v.testBit i) (u := modeStore v)
    (fun _ _ _ h => h) (fun j e hj => ⟨hj, on_modeStore_same hj v e⟩) hkeep (List.range 6) d i (List.mem_range.mpr hi) hi
  rw [modesStore_eq]
  split
  · exact hall
  · refine (on_congr ((keepsFields_dpdModeChanged (P := (· = modeFld i)) ?_ _).field _ rfl)).trans hall
    rintro n _ rfl
    exact modeFld_key_ne_dpdState hi n

theorem modesStore_seals (v : Nat) (d : Dev) : (modesStore v d).seals = d.seals := by
  have hall := (KeepsFields.refl (fun _ => False) d).each (u := modeStore v) (fun i => keepsFields_modeStore v i nofun nofun) (List.range 6)
  rw [modesStore_eq]
  exact (KeepsFields.ite _ hall (hall.trans (keepsFields_dpdModeChanged (fun _ _ h => h.elim) _))).seals

theorem governed_epoch {org : Origin} (ho : org ≠ .loop) (off old new : Nat) (d : Dev) :
    (governed org off old new d).seals.epoch = (d.seals.epoch + 1) % 0x100000000 := by
  unfold governed
  rw [if_neg ho, ledgerPut_seals]
  rfl

/-- Modes out of Ready are refused. -/
theorem adaptModeWrite_refused {d : Dev} (h : d.inReady = false) (org : Origin) (v : Nat) :
    adaptModeWrite org false v d = setB SPAN_ADAPT_MODE_refused true d := by
  unfold adaptModeWrite
  rw [if_pos (by simp [h])]

/-- The modes of a word that is taken, with `refused` cleared by its bit 31. -/
def modesTaken (v : Nat) (d : Dev) : Dev := d |> onlyIf (v.testBit 31) (setB SPAN_ADAPT_MODE_refused false) |> modesStore v

/-- Modes written in Ready are one governed write; the events that may follow keep what no event touches. -/
theorem keepsFields_adaptModeWrite {d : Dev} (h : d.inReady = true) (org : Origin) (v : Nat) :
    KeepsFields evFree (governed org 0x200020 d.modes (modesTaken v d).modes (modesTaken v d)) (adaptModeWrite org false v d) := by
  unfold adaptModeWrite
  rw [if_neg (by simp [h])]
  exact (KeepsFields.refl evFree _).each
    (fun i e => .ite _ ((KeepsFields.refl evFree e).raise (fun _ h => h) (by decide) _ _ _) (.refl _ e)) _

/-- Modes written in Ready: every bit, and one advance of the seal epoch. -/
theorem adaptModeWrite_taken {d : Dev} (h : d.inReady = true) {org : Origin} (ho : org ≠ .loop) (v : Nat) :
    (∀ i, i < 6 → (adaptModeWrite org false v d).on (modeFld i) = v.testBit i) ∧
      (adaptModeWrite org false v d).seals.epoch = (d.seals.epoch + 1) % 0x100000000 := by
  have hkeep := keepsFields_adaptModeWrite h org v
  refine ⟨fun i hi => ?modes, ?epoch⟩
  case modes =>
    have hfree : evFree (modeFld i) := by unfold evFree modeFld SPAN_ADAPT_MODE_dpd_mode; dsimp only; omega
    have hbusy : (modeFld i).key ≠ DECK_SEAL_STAT_busy.key := by
      simp only [Fld.key, modeFld, SPAN_ADAPT_MODE_dpd_mode, DECK_SEAL_STAT_busy]; omega
    exact ((on_congr (hkeep.field _ hfree)).trans (on_congr (f_governed hbusy ..))).trans (on_modesStore hi v _)
  case epoch =>
    rw [hkeep.seals, governed_epoch ho, modesTaken, modesStore_seals]
    unfold onlyIf
    split <;> rfl

/-! ### The crossings (R17) -/

theorem crossing_corrected {p : Nat} {d : Dev} (hp : p < 4) (hu : d.piersUp = true) (up : Bool) :
    crossing p up 1 d = incF (PIER_XING_corrected p) d := by
  unfold crossing
  rw [if_neg (by simp [hp, hu]), if_pos rfl]

/-- An uncorrected transfer, where samples move on its pier, loses those of its direction's next crossing. -/
theorem crossing_uncorrected {p n : Nat} {d : Dev} (hp : p < 4) (hu : d.piersUp = true) (hn : 1 < n) (up : Bool) :
    crossing p up n d = raise (70 + 8 * p) p 0 0 (incF (PIER_XING_uncorrected p)
      (onlyIf (d.sampling && !d.map.pierIdle p) (loseTransfer (p + 4 * ofBool up)) d)) := by
  unfold crossing
  rw [if_neg (by simp [hu]; omega), if_neg (by omega)]

theorem xingLost_congr {d e : Dev} (hs : e.sig = d.sig) (hn : e.now = d.now) (p u : Nat) : e.xingLost p u = d.xingLost p u := by
  unfold Dev.xingLost; rw [hs, hn]

theorem xingLost_loseTransfer (x p u : Nat) (d : Dev) : (loseTransfer x d).xingLost p u = (d.xingLost p u || x == p + 4 * u) := by
  unfold Dev.xingLost loseTransfer
  rw [List.any_append]
  simp

section
variable {s : State} {p n : Nat} (up : Bool) (hp : p < 4) (hu : s.d.piersUp = true) (hn : 1 < n)
include hp hu hn

theorem setsEv_crossing_uncorrected :
    SetsEv [(PIER_XING_uncorrected p, min (s.d.f (PIER_XING_uncorrected p) + 1) 0xFFFF)] s (s.withDev (crossing p up n s.d)) := by
  have hlose (x : Fld) : (onlyIf (s.d.sampling && !s.d.map.pierIdle p) (loseTransfer (p + 4 * ofBool up)) s.d).f x = s.d.f x := by
    unfold onlyIf
    split <;> rfl
  have hf {x : Fld} (hx : evFree x) : (crossing p up n s.d).f x = (incF (PIER_XING_uncorrected p)
      (onlyIf (s.d.sampling && !s.d.map.pierIdle p) (loseTransfer (p + 4 * ofBool up)) s.d)).f x := by
    rw [crossing_uncorrected hp hu hn, f_raise hx (by omega)]
  refine ⟨fun q hq => ?_, fun x hx hq => ?_⟩
  · obtain rfl := List.mem_singleton.mp hq
    have hfree : evFree (PIER_XING_uncorrected p) := by unfold evFree PIER_XING_uncorrected; dsimp only; omega
    refine (hf hfree).trans ?_
    rw [f_incF_same, hlose]
    rfl
  · refine (hf hx).trans ?_
    rw [f_incF_other (hq _ (.head _)), hlose]

theorem xingLost_crossing_uncorrected {q : Nat} (hq : q < 4) (u : Nat) :
    (crossing p up n s.d).xingLost q u =
      (s.d.xingLost q u || (s.d.sampling && !s.d.map.pierIdle p) && decide ((q, u) = (p, ofBool up))) := by
  rw [crossing_uncorrected hp hu hn, xingLost_congr (raise_sig (by omega) ..) (raise_now (by omega) ..)]
  have hsame : (p + 4 * ofBool up == q + 4 * u) = decide ((q, u) = (p, ofBool up)) := by
    rw [Bool.eq_iff_iff, beq_iff_eq, decide_eq_true_eq, Prod.mk.injEq]
    omega
  refine (xingLost_congr (d := onlyIf (s.d.sampling && !s.d.map.pierIdle p) (loseTransfer (p + 4 * ofBool up)) s.d) rfl rfl q u).trans ?_
  unfold onlyIf
  split
  next h => rw [xingLost_loseTransfer, hsame, h, Bool.true_and]
  next h => rw [Bool.eq_false_iff.mpr h, Bool.false_and, Bool.or_false]

end

/-! ### The statement -/

theorem exec_pierSealCheck {s : State} (hrun : Running s) (p : Nat) (agree : Bool) :
    exec (.pierSealCheck p agree) s = .next (s.act (onDev (pierSealCheck p agree))) := whileRunning_running _ hrun.1 hrun.2

theorem exec_pierReloadDone {s : State} (hrun : Running s) (p : Nat) (agree : Bool) :
    exec (.pierReloadDone p agree) s = .next (s.act (onDev (pierReloadDone p agree))) := whileRunning_running _ hrun.1 hrun.2

theorem exec_crossingTransfer {s : State} (hrun : Running s) (p : Nat) (up : Bool) (n : Nat) :
    exec (.crossingTransfer p up n) s = .next (s.act (onDev (crossing p up n))) := whileUp_up _ hrun.1

/-- Settles O23: each command by what it does to the device, and by what a fault, a bay's way down and a change of modes leave alone. -/
theorem pierSealsAndLevel : Obligations.PierSealsAndLevel := by
  intro s hrun
  refine ⟨?sealCheck, ?reloadAgrees, ?reloadDisagrees, ?level, ?modes, ?levelRefused, ?modesRefused, ?corrected, ?uncorrected⟩
  case sealCheck =>
    rintro p agree ⟨hp, hu, rfl, hb, hd⟩
    exact does_of_dev (exec_pierSealCheck hrun p false) rfl (pierSealCheck_diverges hp hu hb hd)
  case reloadAgrees =>
    rintro p agree ⟨hp, rfl, hd, hh⟩
    exact does_of_dev (exec_pierReloadDone hrun p true) rfl (pierReloadDone_agrees hp hd hh)
  case reloadDisagrees =>
    rintro p agree ⟨hp, rfl, hd, hh⟩
    exact does_of_dev (exec_pierReloadDone hrun p false) rfl (pierReloadDone_disagrees hp hd hh)
  case level =>
    rintro org v x hq ⟨horg, hr, hl, rfl, hx, hm⟩
    exact does_of_dev (exec_hostlevelWrite hrun horg hq hl v) rfl (hostlevelWrite_admitted (d := fresh s.d) hr hx hm org)
  case modes =>
    rintro org v hq ⟨horg, hr, hl⟩
    have hloop : org ≠ .loop := by obtain rfl | rfl := horg <;> decide
    exact does_of_dev (exec_adaptModeWrite hrun horg hq hl v) rfl (adaptModeWrite_taken (d := fresh s.d) hr hloop v.toNat)
  case levelRefused =>
    rintro org v x hq ⟨horg, hl, rfl, hx⟩
    exact does_of_dev (exec_hostlevelWrite hrun horg hq hl v) (hostlevelWrite_refused (d := fresh s.d) hx org)
      ⟨⟨nofun, fun y hy _ => f_raise0 hy (by decide) (fresh s.d)⟩, (evPending_raise 152 (by decide) ..).1⟩
  case modesRefused =>
    rintro org v hq ⟨horg, hr, hl⟩
    refine does_of_dev (exec_adaptModeWrite hrun horg hq hl v) (adaptModeWrite_refused (d := fresh s.d) hr org v.toNat)
      ⟨⟨fun q hq => ?_, fun y hy => ?_⟩, rfl, rfl⟩
    · obtain rfl := List.mem_singleton.mp hq
      exact f_setB_same SPAN_ADAPT_MODE_refused true (fresh s.d)
    · exact f_setB_other (hy _ (.head _)) true (fresh s.d)
  case corrected =>
    rintro p up n ⟨hp, hu, rfl⟩
    exact doesDev_of_eq (exec_crossingTransfer hrun p up 1) (crossing_corrected hp hu up)
  case uncorrected =>
    rintro p up n ⟨hp, hu, hn⟩
    refine does_of_dev (exec_crossingTransfer hrun p up n) rfl ⟨setsEv_crossing_uncorrected up hp hu hn, ?_, ?_, fun q u hq _ hne => ?_⟩
    · show (crossing p up n s.d).evPending (70 + 8 * p) = true
      rw [crossing_uncorrected hp hu hn]
      exact (evPending_raise (70 + 8 * p) (by omega) ..).1
    · refine (xingLost_crossing_uncorrected up hp hu hn hp _).trans ?_
      rw [decide_eq_true rfl, Bool.and_true]
    · refine (xingLost_crossing_uncorrected up hp hu hn hq u).trans ?_
      rw [decide_eq_false hne, Bool.and_false, Bool.or_false]

end Sys2Proof.Machine
end
section
/-!
PROOF. What a SNAPSHOT lets through (O6, O18): its command ends with the writes that the ledger holds, so that a DECK_RESET among them resets the
device, whether or not the entry has its turn.
-/
namespace Sys2Proof.Machine

/-- A keyed write of DECK_RESET by the host, as the ledger holds it. -/
def heldReset : HeldWrite := ⟨.host, 0x10, 0xC301⟩

/-- A SNAPSHOT entry of the reference grid for frame 0, tick 0, armed and due at once. -/
def snapshotEntry : TtEntry := { w0 := 0x7000000, w1 := 0x200000 * 20, armed := true, status := 1 }

/-- A deck in service with an armed SNAPSHOT, entry 1, and a DECK_RESET of the host among the ledger's held writes. -/
def snapshotOverHeldReset : State :=
  inService.actDev fun d => { d with tt := [(1, snapshotEntry)], ldg := { d.ldg with held := [heldReset] } }

/-- The same with a NOTIFY, entry 0, armed for the same air time: it comes before the SNAPSHOT. -/
def snapshotOutOfTurn : State :=
  snapshotOverHeldReset.actDev fun d => { d with tt := (0, { snapshotEntry with w1 := 0x200000 * 19 }) :: d.tt }

theorem exec_snapshot {s : State} (hrun : Running s) (i : Nat) :
    exec (.snapshot i) s = .next (s.act fun b => releaseHeld (ttRun i 20 actSnapshot b)) := whileRunning_running _ hrun.1 hrun.2

/-- DECK_RESET is not a governed write. -/
theorem governedWrite_heldReset : governedWrite heldReset.off heldReset.val = false := by decide +kernel

theorem busWord_heldReset (b : Blk) : busWord heldReset.org heldReset.off heldReset.val b = onDev (deviceReset 0xC301) b := if_pos rfl

/-- Held alone, it takes effect in any condition of the ledger. -/
theorem releaseHeld_heldReset {b : Blk} (h : b.dev.ldg.held = [heldReset]) :
    (releaseHeld b).dev = leaveReset (resetDev 0 (modLdg (fun l => { l with held := [] }) b.dev)) := by
  unfold releaseHeld
  simp only [h, List.foldl_cons, List.foldl_nil, governedWrite_heldReset, Bool.false_and, Bool.false_eq_true, if_false, busWord_heldReset]
  exact deviceReset_keyed (v := 0xC301) (by decide) (by decide) _

theorem leaveReset_tt (d : Dev) : (leaveReset d).tt = d.tt := by
  unfold leaveReset
  split <;> rfl

theorem ttE_of_nil {d : Dev} (h : d.tt = []) (i : Nat) : d.ttE i = {} := by
  unfold Dev.ttE
  rw [h]; rfl

/-- After it the device does not run and its timetable is empty, where no OTP operation was under way. -/
theorem releaseHeld_resets {b : Blk} (h : b.dev.ldg.held = [heldReset]) (ho : b.dev.key.otpOp = none) :
    (releaseHeld b).dev.running = false ∧ (releaseHeld b).dev.tt = [] := by
  have ho' : (modLdg (fun l => { l with held := [] }) b.dev).key.otpOp = none := ho
  have hstage : (releaseHeld b).dev.f KEY_STATUS_stage = 0 := by
    rw [releaseHeld_heldReset h, f_leaveReset (by decide)]
    exact resetDev_stage ho' 0
  refine ⟨by rw [Dev.running, hstage]; rfl, ?_⟩
  rw [releaseHeld_heldReset h, leaveReset_tt, resetDev_tt_of_none ho']

/-- Refutes O6: a SNAPSHOT that has not its turn still lets the held DECK_RESET take effect, and the device leaves RUNNING. -/
theorem not_commandsWaitForTheirCondition : ¬ Obligations.CommandsWaitForTheirCondition := by
  intro h
  have hrun : Running snapshotOutOfTurn := by decide +kernel
  obtain ⟨-, -, hturn⟩ := h (.snapshot 1) snapshotOutOfTurn rfl
  have hsame := hturn 1 0 (by simp) (by decide) (by decide +kernel) (by decide +kernel) (by decide +kernel) rfl
  rw [exec_snapshot hrun] at hsame
  have hreset := (releaseHeld_resets (b := ttRun 1 20 actSnapshot snapshotOutOfTurn.blk) (by decide +kernel) (by decide +kernel)).1
  exact absurd (hrun.2.symm.trans ((congrArg (·.d.running) (Host.Outcome.next.inj hsame)).symm.trans hreset)) (by decide)

/-- Refutes O18: the SNAPSHOT has its turn, but the held DECK_RESET that follows it clears the timetable, so that its entry does not read DONE. -/
theorem not_dispatchingActionsExecute : ¬ Obligations.DispatchingActionsExecute := by
  intro h
  have hrun : Running snapshotOverHeldReset := by decide +kernel
  obtain ⟨-, -, -, -, -, -, -, -, hsnap⟩ := h snapshotOverHeldReset hrun
  obtain ⟨t, ht, ⟨hdone, -⟩, -⟩ := hsnap 1 (by decide +kernel)
  rw [exec_snapshot hrun] at ht
  obtain rfl := Host.Outcome.next.inj ht
  have hgone := (releaseHeld_resets (b := ttRun 1 20 actSnapshot snapshotOverHeldReset.blk) (by decide +kernel) (by decide +kernel)).2
  have hnone : (State.act (fun b => releaseHeld (ttRun 1 20 actSnapshot b)) snapshotOverHeldReset).d.ttE 1 = {} :=
    ttE_of_nil hgone 1
  rw [hnone] at hdone
  exact absurd (congrArg TtEntry.status hdone) (by decide)

end Sys2Proof.Machine
end
section
/-!
PROOF. The awaited result that nobody computes (O17): in hardware mode without an engine of class ACAL it is abandoned, and with it every awaited
result that the model does not tell from it.
-/
namespace Sys2Proof.Machine

/-- The result that a calibration run without a path leaves awaited, of the hardware mode. -/
def emptyAwait : CalAwait :=
  { kind := 0, pairs := [], host := false, lead := 0, temp := 0, bad := false, frame := 0, tick := 0, since := 0, eng := none }

/-- A deck in service, without a form and so without an engine of class ACAL, whose bay 0 awaits two results that are alike. -/
def alikeAwaits : State := inService.actDev (modCalBay 0 fun c => { c with awaits := [emptyAwait, emptyAwait] })

theorem exec_calResult {s : State} (hrun : Running s) (b : Nat) (ref : CalMeas) (l : List CalOutcome) :
    exec (.calResult b ref l) s = .next (s.act (calServed b ref l)) := whileRunning_running _ hrun.1 hrun.2

/-- Refutes O17: CAL_RESULT abandons both of the results that are alike, and not the one awaited longest alone. -/
theorem not_rfActionsExecute : ¬ Obligations.RfActionsExecute := by
  intro h
  have hrun : Running alikeAwaits := by decide +kernel
  obtain ⟨-, -, -, -, -, -, -, -, -, -, hresult, -⟩ := h alikeAwaits hrun
  obtain ⟨t, ht, htail⟩ := hresult 0 ⟨0, 0, 0⟩ [] (by decide +kernel)
  rw [exec_calResult hrun] at ht
  obtain rfl := Host.Outcome.next.inj ht
  have hgone : ((alikeAwaits.act (calServed 0 ⟨0, 0, 0⟩ [])).d.calBay 0).awaits = [] := by decide +kernel
  have hleft : (alikeAwaits.d.calBay 0).awaits.tail = [emptyAwait] := by decide +kernel
  rw [hgone, hleft] at htail
  exact absurd htail (by decide)

end Sys2Proof.Machine
end
section
/-!
PROOF. What a step writes: the register fields that it sets, with their values, and the others, which it leaves; and with it the reads that latch
(O15).
-/
namespace Sys2Proof.Machine

/-! ### The fields that a step writes -/

/-- Every field. -/
abbrev anyField (_ : Fld) : Prop := True

/-- After a step the fields of l hold the values named there, and every other that P picks is as it was. -/
def Wrote (P : Fld → Prop) (l : List (Fld × Nat)) (d e : Dev) : Prop :=
  (∀ p ∈ l, e.f p.1 = p.2) ∧ ∀ x, P x → (∀ p ∈ l, x.key ≠ p.1.key) → e.f x = d.f x

section
variable {P : Fld → Prop} {l : List (Fld × Nat)} {d e g : Dev}

theorem Wrote.none (P : Fld → Prop) (d : Dev) : Wrote P [] d d := ⟨by simp, fun _ _ _ => rfl⟩

theorem Wrote.regs (h : Wrote P l d e) (hr : g.regs = e.regs) : Wrote P l d g :=
  ⟨fun p hp => (f_congr hr _).trans (h.1 p hp), fun x hx hl => (f_congr hr _).trans (h.2 x hx hl)⟩

/-- A field that was not yet written. -/
theorem Wrote.set (h : Wrote P l d e) {x : Fld} (hx : ∀ p ∈ l, p.1.key ≠ x.key) (v : Nat) :
    Wrote P (l ++ [(x, v % x.size)]) d (setF x v e) := by
  refine ⟨fun p hp => ?_, fun y hy hl => ?_⟩
  · obtain hp | hp := List.mem_append.mp hp
    · exact (f_setF_other (hx p hp) v e).trans (h.1 p hp)
    · rw [List.mem_singleton.mp hp]; exact f_setF_same x v e
  · exact (f_setF_other (hl (x, v % x.size) (by simp)) v e).trans (h.2 y hy fun p hp => hl p (by simp [hp]))

theorem Wrote.raise (h : Wrote P l d e) (hP : ∀ x, P x → evFree x) (hl : ∀ p ∈ l, evFree p.1) {n : Nat} (hn : n < 160) (u c m : Nat) :
    Wrote P l d (raise n u c m e) :=
  ⟨fun p hp => (f_raise (hl p hp) hn ..).trans (h.1 p hp), fun x hx hk => (f_raise (hP x hx) hn ..).trans (h.2 x hx hk)⟩

theorem Wrote.f (h : Wrote P l d e) {x : Fld} {v : Nat} (hx : (x, v) ∈ l) : e.f x = v := h.1 (x, v) hx

end

theorem Wrote.sets {l : List (Fld × Nat)} {s t : State} (h : Wrote anyField l s.d t.d) : Sets l s t := ⟨h.1, fun x hx => h.2 x trivial hx⟩

theorem Wrote.setsEv {l : List (Fld × Nat)} {s t : State} (h : Wrote evFree l s.d t.d) : SetsEv l s t := h

/-! ### Reads that latch -/

/-- What every step of a loop keeps, the loop keeps. -/
theorem forAll_same {α β : Type} (π : Dev → β) (u : α → Dev → Dev) (hu : ∀ a d, π (u a d) = π d) (l : List α) (d : Dev) :
    π (forAll l u d) = π d :=
  foldl_keeps (fun e => π e = π d) _ l (fun e a _ he => (hu a e).trans he) d rfl

theorem wrote_latchSnap (d : Dev) : Wrote anyField
    [(TL_SNAP_TICK_tick_in_frame, d.t.tick % 0x1000000), (TL_SNAP_FRAME_frame_in_second, d.t.fis % 128), (TL_SNAP_FRAME_frame, d.t.frame % 1024)]
    d (latchSnap d) :=
  (((Wrote.none _ d).set (x := TL_SNAP_TICK_tick_in_frame) (by simp) _).set (x := TL_SNAP_FRAME_frame_in_second) (by simp +decide) _).set
    (x := TL_SNAP_FRAME_frame) (by simp +decide) _

theorem seal_key_ne {i j : Nat} (h : i ≠ j) : (DECK_SEAL_seal i).key ≠ (DECK_SEAL_seal j).key := by
  simp only [Fld.key, DECK_SEAL_seal]; omega

/-- The loop of a latching read: word i of a list of bytes shows in field i. -/
def showWords (x : Nat → Fld) (bytes : Dev → List Nat) (i : Nat) (d : Dev) : Dev := setF (x i) (ofLe (((bytes d).drop (4 * i)).take 4)) d

theorem sealEpochRead_eq (d : Dev) : sealEpochRead d =
    forAll (List.range 8) (showWords DECK_SEAL_seal (·.seals.pubSeal)) { d with seals := { d.seals with latched := d.seals.pubSeal } } := rfl

theorem wrSeqRead_eq (d : Dev) : wrSeqRead d = forAll (List.range 8) (showWords LEDGER_HEAD_head (·.ldg.head)) d := rfl

/-- DECK_SEAL shows the published seal, word by word. -/
theorem f_sealEpochRead {i : Nat} (hi : i < 8) (d : Dev) :
    (sealEpochRead d).f (DECK_SEAL_seal i) = ofLe ((d.seals.pubSeal.drop (4 * i)).take 4) % 0x100000000 := by
  have hword : ∀ k e, e.seals.pubSeal = d.seals.pubSeal → (showWords DECK_SEAL_seal (·.seals.pubSeal) k e).f (DECK_SEAL_seal k) =
      ofLe ((d.seals.pubSeal.drop (4 * k)).take 4) % 0x100000000 := fun k e he => by
    unfold showWords
    exact (f_setF_same ..).trans (by dsimp only; rw [he]; rfl)
  rw [sealEpochRead_eq]
  refine (forAll_establishes (u := showWords DECK_SEAL_seal (·.seals.pubSeal)) (A := fun _ e => e.seals.pubSeal = d.seals.pubSeal)
    (Q := fun j e => e.seals.pubSeal = d.seals.pubSeal ∧ e.f (DECK_SEAL_seal j) = ofLe ((d.seals.pubSeal.drop (4 * j)).take 4) % 0x100000000)
    (fun _ _ _ h => h) (fun j e he => ⟨he, hword j e he⟩) (fun j k e he => ⟨he.1, ?_⟩) _ _ i (List.mem_range.mpr hi) rfl).2
  by_cases hjk : j = k
  · rw [← hjk]; exact hword j e he.1
  · exact (f_setF_other (seal_key_ne hjk) ..).trans he.2

theorem sealEpochRead_seals (d : Dev) : (sealEpochRead d).seals = { d.seals with latched := d.seals.pubSeal } := by
  rw [sealEpochRead_eq]
  exact forAll_same Dev.seals (showWords _ _) (fun _ _ => rfl) _ _

theorem wrSeqRead_ldg (d : Dev) : (wrSeqRead d).ldg = d.ldg := by
  rw [wrSeqRead_eq]
  exact forAll_same Dev.ldg (showWords _ _) (fun _ _ => rfl) _ _

theorem f_wrSeqRead (d : Dev) : (wrSeqRead d).f LEDGER_WR_SEQ_seq = d.f LEDGER_WR_SEQ_seq :=
  f_forAll (fun _ _ => f_setF_other (by simp only [Fld.key, LEDGER_WR_SEQ_seq, LEDGER_HEAD_head]; omega) ..) _ _

/-- Settles O15: each read latches its registers and answers what the counter or register holds on that tick. -/
theorem latchedReads : Obligations.LatchedReads := by
  unfold Obligations.LatchedReads
  rintro s ⟨hup, hrun⟩
  refine ⟨does_of_dev (whileUp_up _ hup) (if_pos hrun) ⟨((wrote_latchSnap s.d).regs rfl).sets, rfl⟩,
    does_of_dev (whileUp_up _ hup) (if_pos hrun) ⟨?_, rfl, fun i hi => ?_⟩,
    does_of_dev (whileUp_up _ hup) (if_pos hrun) ⟨congrArg HostResp.data (f_wrSeqRead s.d).symm, wrSeqRead_ldg s.d⟩⟩
  · exact congrArg (·.latched) (sealEpochRead_seals s.d)
  · exact f_sealEpochRead hi s.d

end Sys2Proof.Machine
end
section
/-!
PROOF. The words of TL and LINK that commands write (O10, O13, O14, O30): each reaches its register, is judged by the chapter's rules, stored by its
access codes, recorded where it is governed, and acted on.
-/
namespace Sys2Proof.Machine

/-! ### A word of the two blocks -/

/-- The TL block below the timetable, and the LINK block below its ports and lanes. -/
def inTimeOrLink (off : Nat) : Prop := 0x100000 ≤ off ∧ off < 0x108000 ∨ 0x500000 ≤ off ∧ off < 0x500100

section
variable {off : Nat} (h : inTimeOrLink off)
include h

theorem busWord_timeOrLink (org : Origin) (v : Nat) (b : Blk) : busWord org off v b = busRegister org off v b := by
  unfold inTimeOrLink at h
  have h10 : off ≠ 0x10 := by omega
  have h9 : off ≠ 0x900000 := by omega
  unfold busWord
  simp (disch := omega) [h10, h9, offIn_false]

theorem substValue_timeOrLink (org : Origin) (v : Nat) (d : Dev) : d.substValue org off v = linkSubst off (tlSubst off v) := by
  unfold inTimeOrLink at h
  have hb : bayRel off = none := bayRel_below (by omega)
  have hgir (w : Nat) : girSubst off w = w := by unfold girSubst; rw [if_neg (by omega), if_neg (by omega)]
  have hdma (w : Nat) : dmaSubst off w = w := by unfold dmaSubst; rw [if_neg (by omega)]
  have hkey (w : Nat) : keySubst off w = w := by unfold keySubst; rw [if_neg (by omega)]
  have hhk (w : Nat) : hkSubst off w = w := by unfold hkSubst; rw [if_neg (by omega)]
  have hldg (w : Nat) : ledgerSubst off w = w := by unfold ledgerSubst; rw [if_neg (by omega)]
  have hpwr (w : Nat) : pwrSubst org off w d = w := by
    unfold pwrSubst; rw [if_neg (by omega), if_neg (by omega), if_neg (by omega), if_neg (by omega)]
  simp only [Dev.substValue, hb, hgir, hdma, hkey, hhk, hldg, hpwr]

theorem ignoresWrite_timeOrLink (org : Origin) (d : Dev) : d.ignoresWrite org off = false := by
  unfold inTimeOrLink at h
  have hb : bayRel off = none := bayRel_below (by omega)
  unfold Dev.ignoresWrite dmaIgnores Dev.hkIgnores Dev.pwrIgnores
  rw [hb, calIgnores_below (by omega)]
  simp
  omega

theorem refusesValue_timeOrLink (v : Nat) (d : Dev) : d.refusesValue off v = (tlRefuses off v d).or (linkRefuses off v d) := by
  unfold inTimeOrLink at h
  have hkey : keyRefuses off v d = none := if_neg (by omega)
  have hdma : dmaRefuses off v d = none := if_neg (by omega)
  have hpwr : pwrRefuses off v = none := if_neg (by omega)
  unfold Dev.refusesValue
  rw [hkey, hdma, hpwr]
  cases tlRefuses off v d <;> cases linkRefuses off v d <;> rfl

/-- The value that the register takes. -/
def taken (off v : Nat) : Nat := linkSubst off (tlSubst off v)

theorem regWrite_timeOrLink {r : RegDef} (hr : findBank off = some r) (org : Origin) (v : Nat) (b : Blk) :
    (∀ g, (tlRefuses off (taken off v) b.dev).or (linkRefuses off (taken off v) b.dev) = some g → regWrite org false off v b = onDev g b) ∧
    ((tlRefuses off (taken off v) b.dev).or (linkRefuses off (taken off v) b.dev) = none →
      regWrite org false off v b = regStore org false off (taken off v) r b) := by
  have hrail : railRel off = none := if_pos (by unfold inTimeOrLink at h; omega)
  have hreg : regWrite org false off v b = (b.dev.refusesValue off (b.dev.substValue org off v)).elim
      (regStore org false off (b.dev.substValue org off v) r b) (onDev · b) := by
    unfold regWrite
    simp only [Bool.false_and, Bool.false_eq_true, if_false]
    rw [if_neg (by unfold inTimeOrLink at h; omega), if_neg (by unfold inTimeOrLink at h; omega), ignoresWrite_timeOrLink h, hrail, hr]
    simp only [Bool.false_eq_true, if_false]
    cases b.dev.refusesValue off (b.dev.substValue org off v) <;> rfl
  rw [hreg, substValue_timeOrLink h, refusesValue_timeOrLink h]
  refine ⟨fun g hg => ?_, fun hn => ?_⟩
  · rw [taken] at hg; rw [hg]; rfl
  · rw [taken] at hn; rw [hn]; rfl

/-- What the two blocks do beyond the access codes of a register. -/
def timeOrLinkAfter (org : Origin) (off v : Nat) (d : Dev) : Dev :=
  d |> tlWriteAfter org off v |> linkWriteAfter off v |> onlyIf (off == LINK_REST_rx_rest.off) linkRest

theorem writeAfter_timeOrLink (org : Origin) (v : Nat) (was : Bool) (b : Blk) :
    writeAfter org off v was b = onDev (timeOrLinkAfter org off v) b := by
  unfold inTimeOrLink at h
  have hb : bayRel off = none := bayRel_below (by omega)
  have hgir (b : Blk) : girWriteAfter off v b = b := by unfold girWriteAfter; simp (disch := omega) only [if_neg]
  have hldg (b : Blk) : ledgerWriteAfter off v b = b := by unfold ledgerWriteAfter; rw [if_neg (by omega)]
  have hkey (b : Blk) : keyWriteAfter off v b = b := by unfold keyWriteAfter; rw [if_neg (by omega), if_neg (by omega), if_neg (by omega)]
  have hcal (b : Blk) : hkCalWrite off v b = b := by unfold hkCalWrite; rw [if_neg (by omega), if_neg (by omega)]
  have hdma (d : Dev) : dmaWriteAfter org off v d = d := by unfold dmaWriteAfter; rw [if_neg (by omega), if_neg (by omega), if_neg (by omega)]
  have hmem (d : Dev) : memWriteAfter off v d = d := by unfold memWriteAfter; rw [if_neg (by omega)]
  have hhk (d : Dev) : hkWriteAfter org off v d = d := by unfold hkWriteAfter; simp (disch := omega) only [if_neg]
  have hpath (d : Dev) : calWriteAfter off v d = d := calWriteAfter_below (by omega) v d
  have htruss (d : Dev) : trussWriteAfter org off v d = d := by unfold trussWriteAfter; rw [if_neg (by omega), if_neg (by omega)]
  have havs (d : Dev) : avsWriteAfter off d = d := by
    have : (off == 0x900054) = false := by simp only [beq_eq_false_iff_ne]; omega
    unfold avsWriteAfter; rw [this]; rfl
  have hspan : off ≠ 0x200000 := by omega
  simp only [writeAfter, hgir, hldg, hkey, hcal, hdma, hmem, hhk, hpath, htruss, havs, hb, if_neg hspan]
  unfold timeOrLinkAfter onlyIf
  simp only [beq_iff_eq]

theorem regStore_timeOrLink (r : RegDef) (org : Origin) (v : Nat) (b : Blk) :
    regStore org false off v r b = onDev (fun d =>
      let e := storeReg off v false r.fields d
      timeOrLinkAfter org off v (if isGoverned r.fields then governed org off (d.rwgWord off r.fields) (e.rwgWord off r.fields) e else e)) b := by
  unfold regStore
  simp only [writeAfter_timeOrLink h]
  generalize isGoverned r.fields = c
  cases c
  · simp only [Bool.false_eq_true, if_false]
    rw [onDev_onDev]
  · simp only [Bool.false_eq_true, if_false, if_true]
    simp only [onDev]

end

/-! ### The registers that the commands write -/

theorem findBank_rateLo : findBank 0x100014 = some ⟨0x100014, [], [⟨31, 0, .rwg, 0x0⟩]⟩ := by rfl
theorem findBank_frameOffset : findBank 0x100020 = some ⟨0x100020, [], [⟨23, 0, .rwg, 0x0⟩]⟩ := by rfl
theorem findBank_tlCmd : findBank 0x10002C = some ⟨0x10002C, [], [⟨2, 2, .wo, 0x0⟩, ⟨1, 1, .wo, 0x0⟩, ⟨0, 0, .wo, 0x0⟩]⟩ := by rfl
theorem findBank_linkCmd : findBank 0x500004 = some ⟨0x500004, [], [⟨2, 2, .wo, 0x0⟩, ⟨1, 1, .wo, 0x0⟩, ⟨0, 0, .wo, 0x0⟩]⟩ := by rfl
theorem findBank_linkRest : findBank 0x500018 = some ⟨0x500018, [], [⟨11, 8, .rw, 0x0⟩, ⟨3, 0, .rw, 0x0⟩]⟩ := by rfl

section
variable (org : Origin) (v : Nat) (d : Dev)

theorem storeReg_rateLo : storeReg 0x100014 v false [⟨31, 0, .rwg, 0x0⟩] d = setF TL_RATE_LO_rate_lo (bits v 31 0) d := rfl
theorem storeReg_frameOffset : storeReg 0x100020 v false [⟨23, 0, .rwg, 0x0⟩] d = setF TL_FRAME_OFFSET_ticks (bits v 23 0) d := rfl
theorem storeReg_cmd (off : Nat) : storeReg off v false [⟨2, 2, .wo, 0x0⟩, ⟨1, 1, .wo, 0x0⟩, ⟨0, 0, .wo, 0x0⟩] d = d := rfl
theorem storeReg_linkRest : storeReg 0x500018 v false [⟨11, 8, .rw, 0x0⟩, ⟨3, 0, .rw, 0x0⟩] d =
    setF LINK_REST_tx_rest (bits v 3 0) (setF LINK_REST_rx_rest (bits v 11 8) d) := rfl

end

/-! ### The commands -/

section
variable {s : State} (hrun : Running s)
include hrun

/-- A word of the two blocks reaches its register, where the ledger holds neither it nor one of the host's before it. -/
theorem wordFrom_timeOrLink {org : Origin} (horg : org = .host ∨ org = .firmware)
    (hq : (org = .host → s.d.hostWaits = false) ∧ (org = .firmware → s.d.key.fwStopped = false)) {off : Nat} (h : inTimeOrLink off)
    (h4 : off % 4 = 0) (v : Word) (hg : governedWrite off v.toNat = false ∨ s.d.ledgerHolds = false) :
    wordFrom org off v s.blk = regWrite org false off v.toNat (onDev fresh s.blk) := by
  have hreach : off < 0x4000000 ∧ offIn off 0x410000 0x41FFF8 = false := by
    unfold inTimeOrLink at h
    exact ⟨by omega, offIn_false (by omega)⟩
  rw [wordFrom_taken horg hq hrun.1 hrun.2 hreach.1 (writeAllowed_aligned h4) hreach.2, busWord_timeOrLink h]
  obtain hg | hl := hg
  · unfold busRegister
    rw [hg, Bool.false_and, if_neg (by decide)]
  · exact busRegister_open (b := onDev fresh s.blk) hl org off v.toNat

theorem hostWrite_timeOrLink (hq : s.d.hostWaits = false) {off : Nat} (h : inTimeOrLink off) (h4 : off % 4 = 0) (v : Nat)
    (hg : governedWrite off (v % 2 ^ 32) = false ∨ s.d.ledgerHolds = false) :
    hostWrite off v s.blk = regWrite .host false off (v % 2 ^ 32) (onDev fresh s.blk) :=
  wordFrom_timeOrLink hrun (.inl rfl) ⟨fun _ => hq, by simp⟩ h h4 (BitVec.ofNat 32 v) hg

end
end Sys2Proof.Machine
end
section
/-!
PROOF. Cancels (O10): of one entry by word 3 of the timetable, and of all by TL_CMD.
-/
namespace Sys2Proof.Machine

/-! ### TL_CMD -/

/-- What an accepted write of TL_CMD does. -/
def tlCmd (org : Origin) (v : Nat) (d : Dev) : Dev :=
  d |> onlyIf (v.testBit 0) (restep org v) |> onlyIf (v.testBit 1) alignCmd |> onlyIf (v.testBit 2) cancelAll

theorem tlCmd_inTimeOrLink : inTimeOrLink 0x10002C := .inl ⟨by decide, by decide⟩

theorem taken_tlCmd (v : Nat) : taken 0x10002C v = v := rfl

theorem regWrite_tlCmd {v : Nat} {b : Blk} (hr : b.dev.restepBad v = false) (ha : b.dev.alignCmdBad v = false) (org : Origin) :
    regWrite org false 0x10002C v b = onDev (tlCmd org v) b := by
  have htl : tlRefuses 0x10002C v b.dev = none := by
    unfold tlRefuses
    simp [hr, ha]
  rw [(regWrite_timeOrLink tlCmd_inTimeOrLink findBank_tlCmd org v b).2 (by rw [taken_tlCmd, htl]; rfl),
    regStore_timeOrLink tlCmd_inTimeOrLink]
  rfl

/-- A restep or an alignment out of its conditions refuses the whole write. -/
theorem regWrite_tlCmd_refused {v : Nat} {b : Blk} (h : (b.dev.restepBad v || b.dev.alignCmdBad v) = true) (org : Origin) :
    regWrite org false 0x10002C v b = onDev (fun d => d |> onlyIf (b.dev.restepBad v) (setB TL_STATUS_restep_refused true)
      |> onlyIf (b.dev.alignCmdBad v) (setB TL_STATUS_align_refused true)) b := by
  have htl : tlRefuses 0x10002C v b.dev = some fun d => d |> onlyIf (b.dev.restepBad v) (setB TL_STATUS_restep_refused true)
      |> onlyIf (b.dev.alignCmdBad v) (setB TL_STATUS_align_refused true) := by
    unfold tlRefuses
    simp [h]
  exact (regWrite_timeOrLink tlCmd_inTimeOrLink findBank_tlCmd org v b).1 _ (by rw [taken_tlCmd, htl]; rfl)

/-! ### One entry -/

/-- What a cancel makes of an entry at an instant. -/
def cancelled (now : Nat) (e : TtEntry) : TtEntry :=
  if e.isArmed = true ∧ (now : Int) + leadTicks ≤ e.due then { e with armed := false, status := 5 } else e

theorem cancelled_of_lead {now : Nat} {e : TtEntry} (ha : e.isArmed = true) (h : (now : Int) + leadTicks ≤ e.due) :
    cancelled now e = { e with armed := false, status := 5 } := if_pos ⟨ha, h⟩

theorem cancelled_of_late {now : Nat} {e : TtEntry} (h : e.due < (now : Int) + leadTicks) : cancelled now e = e := if_neg (by omega)

theorem cancelled_idem (now : Nat) (e : TtEntry) : cancelled now (cancelled now e) = cancelled now e := by
  by_cases h : e.isArmed = true ∧ (now : Int) + leadTicks ≤ e.due
  · rw [cancelled_of_lead h.1 h.2]
    exact if_neg fun hc => by simp [TtEntry.isArmed] at hc
  · rw [show cancelled now e = e from if_neg h, show cancelled now e = e from if_neg h]

theorem ttE_setTt_same (i : Nat) (e : TtEntry) (d : Dev) : (setTt i e d).ttE i = e := smGet_smPut_same ..
theorem ttE_setTt_other {i j : Nat} (h : j ≠ i) (e : TtEntry) (d : Dev) : (setTt i e d).ttE j = d.ttE j := smGet_smPut_other _ _ h ..

section
variable {i : Nat} {d : Dev}

theorem ttCancel_unarmed (h : (d.ttE i).isArmed = false) : ttCancel i d = d := by
  unfold ttCancel
  simp only [h, Bool.not_false, if_true]

theorem ttCancel_lead (h : (d.ttE i).isArmed = true) (hl : (d.now : Int) + leadTicks ≤ (d.ttE i).due) :
    ttCancel i d = setTt i { d.ttE i with armed := false, status := 5 } d := by
  unfold ttCancel
  simp only [h, Bool.not_true, Bool.false_eq_true, if_false, if_pos hl]

theorem ttCancel_late (h : (d.ttE i).isArmed = true) (hl : (d.ttE i).due < (d.now : Int) + leadTicks) :
    ttCancel i d = raise 14 i 0 0 (setB TL_STATUS_cancel_late true d) := by
  unfold ttCancel
  simp only [h, Bool.not_true, Bool.false_eq_true, if_false, if_neg (show ¬((d.now : Int) + leadTicks ≤ (d.ttE i).due) by omega)]

/-- A cancel does nothing, ends its entry, or is refused with E014. -/
theorem ttCancel_cases (i : Nat) (d : Dev) : ttCancel i d = d ∨ ttCancel i d = setTt i { d.ttE i with armed := false, status := 5 } d ∨
    ttCancel i d = raise 14 i 0 0 (setB TL_STATUS_cancel_late true d) := by
  by_cases h : (d.ttE i).isArmed = true
  · by_cases hl : (d.now : Int) + leadTicks ≤ (d.ttE i).due
    · exact .inr (.inl (ttCancel_lead h hl))
    · exact .inr (.inr (ttCancel_late h (by omega)))
  · exact .inl (ttCancel_unarmed (by simpa using h))

theorem ttCancel_now (i : Nat) (d : Dev) : (ttCancel i d).now = d.now := by
  obtain h | h | h := ttCancel_cases i d <;> rw [h]
  · rfl
  · exact raise_now (by decide) ..

theorem ttE_ttCancel_same (i : Nat) (d : Dev) : (ttCancel i d).ttE i = cancelled d.now (d.ttE i) := by
  by_cases h : (d.ttE i).isArmed = true
  · by_cases hl : (d.now : Int) + leadTicks ≤ (d.ttE i).due
    · rw [ttCancel_lead h hl, cancelled_of_lead h hl, ttE_setTt_same]
    · rw [ttCancel_late h (by omega), cancelled_of_late (by omega)]
      exact congrArg (smGet {} i) (raise_tt (e := 14) (by decide) ..)
  · rw [ttCancel_unarmed (by simpa using h)]
    exact (if_neg fun hc => h hc.1).symm

theorem ttE_ttCancel_other {j : Nat} (hj : j ≠ i) (d : Dev) : (ttCancel i d).ttE j = d.ttE j := by
  obtain h | h | h := ttCancel_cases i d <;> rw [h]
  · exact ttE_setTt_other hj ..
  · exact congrArg (smGet {} j) (raise_tt (e := 14) (by decide) ..)

theorem evFree_cancel_late : evFree TL_STATUS_cancel_late := by unfold evFree; decide

theorem late_refused (i : Nat) (d : Dev) : (raise 14 i 0 0 (setB TL_STATUS_cancel_late true d)).on TL_STATUS_cancel_late = true ∧
    (raise 14 i 0 0 (setB TL_STATUS_cancel_late true d)).evPending 14 = true :=
  ⟨(on_congr (f_raise evFree_cancel_late (by decide) ..)).trans (on_setB_same _ (by decide) true d), (evPending_raise 14 (by decide) ..).1⟩

/-- A cancel refused before stays refused: the flag is set and the event pending. -/
theorem ttCancel_keeps_late {d : Dev} (h : d.on TL_STATUS_cancel_late = true ∧ d.evPending 14 = true) (i : Nat) :
    (ttCancel i d).on TL_STATUS_cancel_late = true ∧ (ttCancel i d).evPending 14 = true := by
  obtain he | he | he := ttCancel_cases i d <;> rw [he]
  · exact h
  · exact h
  · exact late_refused i d

end

/-! ### Every entry -/

theorem ttE_forAll_ttCancel (i : Nat) (l : List Nat) (d : Dev) :
    (forAll l ttCancel d).ttE i = if i ∈ l then cancelled d.now (d.ttE i) else d.ttE i := by
  induction l generalizing d with
  | nil => rfl
  | cons a r ih =>
    refine (ih (ttCancel a d)).trans ?_
    rw [ttCancel_now]
    by_cases hi : i = a
    · subst hi
      rw [ttE_ttCancel_same, cancelled_idem, if_pos (List.mem_cons_self ..), ite_self]
    · rw [ttE_ttCancel_other hi]
      simp [hi]

/-- An entry that is not as an unlisted one reads is listed. -/
theorem mem_keys_of_ne {α : Type} {d : α} {k : Nat} {m : List (Nat × α)} (h : smGet d k m ≠ d) : k ∈ m.map Prod.fst := by
  induction m with
  | nil => exact absurd rfl h
  | cons x r ih =>
    by_cases hx : x.1 = k
    · simp [hx]
    · have : smGet d k (x :: r) = smGet d k r := if_neg hx
      exact List.mem_cons_of_mem _ (ih (this ▸ h))

theorem armed_mem {i : Nat} {d : Dev} (h : (d.ttE i).isArmed = true) : i ∈ d.tt.map Prod.fst :=
  mem_keys_of_ne fun hd => by rw [Dev.ttE, hd] at h; exact absurd h (by decide)

theorem ttE_cancelAll {i : Nat} {d : Dev} (h : (d.ttE i).isArmed = true) : (cancelAll d).ttE i = cancelled d.now (d.ttE i) := by
  rw [cancelAll, ttE_forAll_ttCancel, if_pos (armed_mem h)]

theorem cancelAll_late {i : Nat} {d : Dev} (h : (d.ttE i).isArmed = true) (hl : (d.ttE i).due < (d.now : Int) + leadTicks) :
    (cancelAll d).on TL_STATUS_cancel_late = true ∧ (cancelAll d).evPending 14 = true := by
  refine forAll_establishes (A := fun i e => e.now = d.now ∧ e.ttE i = d.ttE i ∧ (d.ttE i).isArmed = true ∧ (d.ttE i).due < (d.now : Int) + leadTicks)
    (Q := fun _ e => e.on TL_STATUS_cancel_late = true ∧ e.evPending 14 = true) (fun a b e he => ?_) (fun a e he => ?_)
    (fun _ b e he => ttCancel_keeps_late he b) _ d i (armed_mem h) ⟨rfl, rfl, h, hl⟩
  · obtain ⟨hn, ht, harm, hlate⟩ := he
    refine ⟨(ttCancel_now b e).trans hn, ?_, harm, hlate⟩
    by_cases hab : a = b
    · rw [hab] at ht hlate ⊢
      rw [ttE_ttCancel_same, ht, hn, cancelled_of_late hlate]
    · rw [ttE_ttCancel_other hab, ht]
  · obtain ⟨hn, ht, harm, hlate⟩ := he
    rw [ttCancel_late (ht ▸ harm) (by rw [ht, hn]; exact hlate)]
    exact late_refused a e

/-! ### The commands -/

theorem busWord_ttWord {i w : Nat} (hi : i < 2048) (hw : w < 4) (org : Origin) (v : Nat) (b : Blk) :
    busWord org (0x108000 + 16 * i + 4 * w) v b = onDev (ttWrite org i w v) b := by
  have hoff : offIn (0x108000 + 16 * i + 4 * w) 0x108000 0x110000 = true := offIn_true (by omega) (by omega)
  have hentry : (0x108000 + 16 * i + 4 * w - 0x108000) / 16 = i := by omega
  have hword : (0x108000 + 16 * i + 4 * w) % 16 / 4 = w := by omega
  unfold busWord
  rw [if_neg (by omega), hoff, hentry, hword]
  simp (disch := omega) [offIn_false]

/-- Bit 14 of word 3 of an armed entry alone is its cancel (R49, R56). -/
theorem ttWrite_cancel {i : Nat} {d : Dev} (ha : (d.ttE i).isArmed = true) (org : Origin) : ttWrite org i 3 0x4000 d = ttCancel i d := by
  unfold ttWrite
  simp only [ha, if_true]
  rfl

theorem exec_ttCancel {s : State} (hrun : Running s) {org : Origin} (horg : org = .host ∨ org = .firmware)
    (hq : (org = .host → s.d.hostWaits = false) ∧ (org = .firmware → s.d.key.fwStopped = false)) {i : Nat} (hi : i < 2048)
    (ha : (s.d.ttE i).isArmed = true) : exec (.ttCancel org i) s = .next (s.act (onDev fun d => ttCancel i (fresh d))) := by
  refine (whileUp_up _ hrun.1).trans (congrArg (fun b => Host.Outcome.next { s with blk := b }) ?_)
  unfold ttWordWrite
  rw [if_pos ⟨hi, by decide⟩, wordFrom_taken horg hq hrun.1 hrun.2 (by omega) (writeAllowed_aligned (by omega)) (offIn_false (by omega)),
    busWord_ttWord hi (by decide), onDev_onDev]
  exact congrArg (fun e => { s.blk with dev := e }) (ttWrite_cancel (d := fresh s.d) ha org)

theorem exec_cancelAll {s : State} (hrun : Running s) (hq : s.d.hostWaits = false) :
    exec .cancelAll s = .next (s.act (onDev fun d => cancelAll (fresh d))) := by
  refine (whileUp_up _ hrun.1).trans (congrArg (fun b => Host.Outcome.next { s with blk := b }) ?_)
  refine (hostWrite_timeOrLink hrun hq tlCmd_inTimeOrLink (by decide) 4 (.inl (by decide +kernel))).trans ?_
  exact regWrite_tlCmd rfl rfl .host

/-- Settles O10: a cancel ends an entry with the lead and refuses one without it, for one entry and for each of them. -/
theorem cancelsKeepTheLead : Obligations.CancelsKeepTheLead := by
  unfold Obligations.CancelsKeepTheLead
  intro s hrun
  refine ⟨fun org i hq ⟨horg, hi, ha, hl⟩ => ?_, fun org i hq ⟨horg, hi, ha, hl⟩ => ?_, fun hq => ?_⟩
  · refine does_of_dev (exec_ttCancel hrun horg hq hi ha) (ttCancel_lead (d := fresh s.d) ha hl) ?_
    have he := ttE_setTt_same i { s.d.ttE i with armed := false, status := 5 } (fresh s.d)
    exact ⟨congrArg (·.status) he, congrArg (·.armed) he, rfl⟩
  · refine does_of_dev (exec_ttCancel hrun horg hq hi ha) (ttCancel_late (d := fresh s.d) ha hl) ?_
    exact ⟨raise_tt (by decide) .., late_refused i (fresh s.d)⟩
  · refine does_of_dev (exec_cancelAll hrun hq) rfl fun i ha => ?_
    have he := ttE_cancelAll (d := fresh s.d) ha
    refine ⟨fun hl => ?_, fun hl => ⟨he.trans (cancelled_of_late hl), cancelAll_late (d := fresh s.d) ha hl⟩⟩
    rw [cancelled_of_lead (now := (fresh s.d).now) (e := (fresh s.d).ttE i) ha hl] at he
    exact ⟨congrArg (·.status) he, congrArg (·.armed) he⟩

end Sys2Proof.Machine
end
section
/-!
PROOF. The operations of the timeline: what the rate correction, the time quality, the estimate and a step write, and what they leave.
-/
namespace Sys2Proof.Machine

/-! ### The rate correction -/

/-- r as 36 bits. -/
def rateWord (r : Int) : Nat := (r % 0x1000000000).toNat

theorem rateWord_lt (r : Int) : rateWord r < 0x1000000000 := by unfold rateWord; omega

/-- What TL_RATE shows of a value of r. -/
def ratePairs (r : Int) : List (Fld × Nat) := [(TL_RATE_LO_rate_lo, rateWord r % 0x100000000), (TL_RATE_HI_rate_hi, rateWord r / 0x100000000)]

theorem rate_key_ne : TL_RATE_LO_rate_lo.key ≠ TL_RATE_HI_rate_hi.key := by decide

section
variable {P : Fld → Prop} {l : List (Fld × Nat)} {d e : Dev}

theorem Wrote.showRate (h : Wrote P l d e) (hl : ∀ p ∈ l, p.1.key ≠ TL_RATE_LO_rate_lo.key ∧ p.1.key ≠ TL_RATE_HI_rate_hi.key) (r : Int) :
    Wrote P (l ++ ratePairs r) d (showRate r e) := by
  have hlo : rateWord r % 0x100000000 % TL_RATE_LO_rate_lo.size = rateWord r % 0x100000000 := Nat.mod_mod ..
  have hhi : rateWord r / 0x100000000 % TL_RATE_HI_rate_hi.size = rateWord r / 0x100000000 :=
    Nat.mod_eq_of_lt (by have := rateWord_lt r; simp only [Fld.size, TL_RATE_HI_rate_hi]; omega)
  have hw := (h.set (x := TL_RATE_LO_rate_lo) (fun p hp => (hl p hp).1) (rateWord r % 0x100000000)).set (x := TL_RATE_HI_rate_hi)
    (fun p hp => (List.mem_append.mp hp).elim (fun hp => (hl p hp).2) fun hp => by rw [List.mem_singleton.mp hp]; exact rate_key_ne)
    (rateWord r / 0x100000000)
  rw [hlo, hhi, List.append_assoc] at hw
  exact hw

end

theorem f_showRate {x : Fld} (hl : x.key ≠ TL_RATE_LO_rate_lo.key) (hh : x.key ≠ TL_RATE_HI_rate_hi.key) (r : Int) (d : Dev) :
    (showRate r d).f x = d.f x := (f_setF_other hh ..).trans (f_setF_other hl ..)

/-- With role OFF a value is in force at once. -/
theorem putRate_off {d : Dev} (h : d.f TL_ALIGN_CFG_role = 0) (c : Int) :
    putRate c d = { showRate c d with t := { d.t with r := c, rPend := none, rCarried := none } } := by
  unfold putRate
  rw [if_pos ((f_showRate (by decide) (by decide) c d).trans h)]
  rfl

/-- A value shows in TL_RATE, and the rest of the timeline stays. -/
theorem putRate_only (c : Int) (d : Dev) : ∃ r p x, putRate c d = { showRate c d with t := { d.t with r := r, rPend := p, rCarried := x } } := by
  unfold putRate
  dsimp only
  split
  · exact ⟨_, _, _, rfl⟩
  · exact ⟨_, _, _, rfl⟩

/-- A value of r within 100 ppm. -/
def clampRate (v : Int) : Int := max (-rateLimit) (min rateLimit v)

/-- A value beyond 100 ppm is reported. -/
def noteClamp (v : Int) (d : Dev) : Dev := if clampRate v ≠ v then raise0 13 (setB TL_STATUS_rate_clamp true d) else d

theorem commitRate_eq (v : Int) (d : Dev) : commitRate v d = putRate (clampRate v) (noteClamp v d) := by
  unfold commitRate noteClamp clampRate
  dsimp only
  split <;> rfl

theorem clampRate_within {v : Int} (h : -rateLimit ≤ v ∧ v ≤ rateLimit) : clampRate v = v := by unfold clampRate; omega

theorem noteClamp_within {v : Int} (h : -rateLimit ≤ v ∧ v ≤ rateLimit) (d : Dev) : noteClamp v d = d := if_neg (not_not_intro (clampRate_within h))

theorem noteClamp_t (v : Int) (d : Dev) : (noteClamp v d).t = d.t := by
  unfold noteClamp
  split
  · exact raise0_t (by decide) _
  · rfl

theorem f_noteClamp {x : Fld} (hx : evFree x) (hk : x.key ≠ TL_STATUS_rate_clamp.key) (v : Int) (d : Dev) : (noteClamp v d).f x = d.f x := by
  unfold noteClamp
  split
  · exact (f_raise0 hx (by decide) _).trans (f_setB_other hk ..)
  · rfl

/-! ### The time quality -/

theorem wrote_clearTimeMutes {l : List (Fld × Nat)} {d e : Dev} (h : Wrote BelowPiers l d e) (hl : ∀ p ∈ l, BelowPiers p.1) :
    Wrote BelowPiers l d (clearTimeMutes e) := by
  have hf {x : Fld} (hx : BelowPiers x) : (clearTimeMutes e).f x = e.f x := f_forAll (fun b d => by
    split
    · exact f_setF_other (hx.key_ne (by decide)) ..
    · rfl) _ _
  exact ⟨fun p hp => (hf (hl p hp)).trans (h.1 p hp), fun x hx hk => (hf hx).trans (h.2 x hx hk)⟩

/-- A step that touches the registers alone. -/
def RegsOnly (d e : Dev) : Prop := ∃ r, e = { d with regs := r }

theorem RegsOnly.refl (d : Dev) : RegsOnly d d := ⟨d.regs, rfl⟩

theorem RegsOnly.set {d e : Dev} (h : RegsOnly d e) (x : Fld) (v : Nat) : RegsOnly d (setF x v e) := by
  obtain ⟨r, rfl⟩ := h
  exact ⟨_, rfl⟩

theorem regsOnly_clearTimeMutes (d : Dev) : RegsOnly d (clearTimeMutes d) :=
  foldl_keeps (RegsOnly d) (fun e b => if e.f (BAY_FE_STAT_mute_cause b) = 2 then setF (BAY_FE_STAT_mute_cause b) 0 e else e) _
    (fun e b _ he => by
      split
      · exact he.set ..
      · exact he) d (.refl d)

/-- The report that a new quality owes (R284). -/
def oweReport (q : Nat) (d : Dev) : Dev :=
  if d.quality = q ∧ d.txPermit = (q == 2 || q == 3) then d else { d with xk := { d.xk with owed := d.xk.owed + 1 } }

theorem oweReport_only (q : Nat) (d : Dev) : ∃ x, oweReport q d = { d with xk := x } := by
  unfold oweReport
  split
  · exact ⟨d.xk, rfl⟩
  · exact ⟨_, rfl⟩

/-- The fields of TL_QUALITY that a quality sets, and the run of good updates, which starts afresh. -/
def putQuality (q : Nat) (d : Dev) : Dev :=
  let e := d |> setF TL_QUALITY_state q |> setB TL_QUALITY_tx_permit (q == 2 || q == 3)
  { e with t := { e.t with goodRun := 0 } }

theorem setQuality_eq (q : Nat) (d : Dev) : setQuality q d =
    let e := if q = 0 then setB TL_QUALITY_stepped false (putQuality q (oweReport q d)) else putQuality q (oweReport q d)
    if (q == 2 || q == 3) = true then clearTimeMutes e else e := rfl

theorem wrote_putQuality {P : Fld → Prop} (q : Nat) (d : Dev) :
    Wrote P [(TL_QUALITY_state, q % 8), (TL_QUALITY_tx_permit, ofBool (q == 2 || q == 3) % 2)] d (putQuality q (oweReport q d)) := by
  obtain ⟨x, hx⟩ := oweReport_only q d
  rw [hx]
  exact (((Wrote.none P d).regs (g := { d with xk := x }) rfl |>.set (x := TL_QUALITY_state) (by simp) q).set (x := TL_QUALITY_tx_permit)
    (by simp +decide) (ofBool (q == 2 || q == 3))).regs rfl

/-- FREE ends the permission and the steps. -/
theorem wrote_setQuality_free {P : Fld → Prop} (d : Dev) :
    Wrote P [(TL_QUALITY_state, 0), (TL_QUALITY_tx_permit, 0), (TL_QUALITY_stepped, 0)] d (setQuality 0 d) :=
  (wrote_putQuality 0 d).set (x := TL_QUALITY_stepped) (by simp +decide) 0

theorem wrote_setQuality {q : Nat} (hq : 0 < q) (d : Dev) :
    Wrote BelowPiers [(TL_QUALITY_state, q % 8), (TL_QUALITY_tx_permit, ofBool (q == 2 || q == 3) % 2)] d (setQuality q d) := by
  rw [setQuality_eq]
  simp only [if_neg (show q ≠ 0 by omega)]
  split
  · refine wrote_clearTimeMutes (wrote_putQuality q d) ?_
    simp [BelowPiers, TL_QUALITY_state, TL_QUALITY_tx_permit]
  · exact wrote_putQuality q d

/-- Beside the registers a new quality touches the report that it owes and the run of good updates. -/
theorem setQuality_only (q : Nat) (d : Dev) : ∃ r x, setQuality q d = { d with regs := r, xk := x, t := { d.t with goodRun := 0 } } := by
  obtain ⟨x, hx⟩ := oweReport_only q d
  rw [setQuality_eq, hx]
  dsimp only
  split
  · split
    · obtain ⟨r, hr⟩ := regsOnly_clearTimeMutes (setB TL_QUALITY_stepped false (putQuality q { d with xk := x }))
      exact ⟨r, x, hr⟩
    · obtain ⟨r, hr⟩ := regsOnly_clearTimeMutes (putQuality q { d with xk := x })
      exact ⟨r, x, hr⟩
  · split <;> exact ⟨_, x, rfl⟩

end Sys2Proof.Machine
end
section
/-!
PROOF. Completed time measurements (O12): messages that are only counted, updates accepted and refused in LOCKED, and the edges of the 1PPS input.
-/
namespace Sys2Proof.Machine

/-! ### The timeline's other operations -/

theorem showErr_eq (d : Dev) : ∃ v, showErr d = setF TL_ERR_EST_err_ns v d := by
  unfold showErr
  split
  · exact ⟨_, rfl⟩
  · exact ⟨_, rfl⟩

theorem servoRate_eq (v : Int) (d : Dev) : servoRate v d = loopAct 1 0 (clampRate v / 256)
    { commitRate v d with t := { (commitRate v d).t with servoR := clampRate v :: (commitRate v d).t.servoR.take 15 } } := rfl

theorem servoRate_t (v : Int) (d : Dev) : (servoRate v d).t =
    { (commitRate v d).t with servoR := clampRate v :: (commitRate v d).t.servoR.take 15 } := by
  rw [servoRate_eq, loopAct_t]

/-- A refused update is noted and reported, and ends the run of good ones. -/
def noteRefused (d : Dev) : Dev :=
  let e := d |> setB TL_STATUS_jump_refused true |> incF TL_STATUS_refused_run |> raise0 6
  { e with t := { e.t with goodRun := 0 } }

theorem refuseUpdate_eq (d : Dev) : refuseUpdate d =
    if (noteRefused d).quality = 2 ∧ 8 ≤ (noteRefused d).f TL_STATUS_refused_run then enterHoldover (noteRefused d) else noteRefused d := rfl

/-- The residue that a step leaves to r. -/
def stepRest (off : Int) : Nat := (off - stepCycles off * 25000).natAbs

/-- A step, up to the value of r that goes with it. -/
def stepTime (off rate : Int) (d : Dev) : Dev :=
  let k := stepCycles off
  let d := { d with t := { d.t with frameOffset := d.f TL_FRAME_OFFSET_ticks } }
  d |> moveTime k |> setAirTime |> stepActions |> setB TL_QUALITY_stepped true |> noteAccepted (stepRest off) |> servoRate rate

/-- What a step makes of the time quality. -/
def stepQuality (rem : Nat) (coasted : Bool) (d : Dev) : Dev :=
  let d := if coasted then errFrom rem d.now { d with t := { d.t with coastFirst := false } }
    else setQuality 1 { d with t := { d.t with recent := [rem] } }
  let d := { d with t := { d.t with goodRun := 1 } }
  let d := if d.t.restepArmed then raise0 12 { d with t := { d.t with restepArmed := false } } else d
  if 1 ≥ d.f TL_REF_CFG_lock_count then enterLocked d else d

theorem makeStep_eq (off rate : Int) (d : Dev) :
    makeStep off rate d = stepQuality (stepRest off) (decide (d.quality = 4)) (stepTime off rate d) := by
  unfold stepQuality
  simp only [decide_eq_true_eq]
  rfl

theorem rephase_t (d : Dev) : (rephase d).t = d.t := by
  unfold rephase
  dsimp only
  exact forAll_same Dev.t (fun b e => if e.phaseWaits b then modBay b (fun s => { s with alignAt := e.nextSubframe 0 }) e else e)
    (fun b e => by split <;> rfl) _ _

theorem stepActions_t (d : Dev) : (stepActions d).t = d.t := by
  unfold stepActions
  exact ledgerPut_t ..

/-! ### The edges of the 1PPS input -/

/-- What the watch over the 1PPS input remembers is as it was. -/
def KeepsPps (d e : Dev) : Prop := e.t.lastPps = d.t.lastPps ∧ e.t.ppsLost = d.t.ppsLost

section
variable {d e g : Dev}

theorem KeepsPps.refl (d : Dev) : KeepsPps d d := ⟨rfl, rfl⟩
theorem KeepsPps.trans (h : KeepsPps d e) (k : KeepsPps e g) : KeepsPps d g := ⟨k.1.trans h.1, k.2.trans h.2⟩
theorem KeepsPps.of_t (h : e.t = d.t) : KeepsPps d e := ⟨congrArg (·.lastPps) h, congrArg (·.ppsLost) h⟩
theorem KeepsPps.ite (c : Prop) [Decidable c] (h : KeepsPps d e) (k : KeepsPps d g) : KeepsPps d (if c then e else g) := by
  split
  · exact h
  · exact k

end

section
variable (d : Dev)

theorem keepsPps_raise0 {n : Nat} (hn : n < 160) : KeepsPps d (raise0 n d) := .of_t (raise0_t hn d)

theorem keepsPps_setQuality (q : Nat) : KeepsPps d (setQuality q d) := by
  obtain ⟨r, x, h⟩ := setQuality_only q d
  rw [h]
  exact ⟨rfl, rfl⟩

theorem keepsPps_putRate (c : Int) : KeepsPps d (putRate c d) := by
  obtain ⟨r, p, x, h⟩ := putRate_only c d
  rw [h]
  exact ⟨rfl, rfl⟩

theorem keepsPps_commitRate (v : Int) : KeepsPps d (commitRate v d) := by
  rw [commitRate_eq]
  exact (KeepsPps.of_t (noteClamp_t v d)).trans (keepsPps_putRate _ _)

theorem keepsPps_servoRate (v : Int) : KeepsPps d (servoRate v d) := by
  have h := keepsPps_commitRate d v
  have ht := servoRate_t v d
  exact ⟨(congrArg (·.lastPps) ht).trans h.1, (congrArg (·.ppsLost) ht).trans h.2⟩

theorem keepsPps_holdMeanRate : KeepsPps d (holdMeanRate d) := by
  unfold holdMeanRate
  split
  · exact .refl d
  · exact (keepsPps_putRate _ _).trans (.of_t (loopAct_t ..))

theorem keepsPps_enterHoldover : KeepsPps d (enterHoldover d) := by
  unfold enterHoldover
  extract_lets e
  have h : KeepsPps d (errFrom e d.t.lastAccepted d) := ⟨rfl, rfl⟩
  exact ((h.trans (keepsPps_setQuality _ 3)).trans (keepsPps_holdMeanRate _)).trans (keepsPps_raise0 _ (by decide))

theorem keepsPps_enterLocked : KeepsPps d (enterLocked d) := (keepsPps_setQuality d 2).trans (keepsPps_raise0 _ (by decide))

theorem keepsPps_refuseUpdate : KeepsPps d (refuseUpdate d) := by
  have h : KeepsPps d (noteRefused d) := KeepsPps.of_t (e := raise0 6 (incF TL_STATUS_refused_run (setB TL_STATUS_jump_refused true d)))
    (raise0_t (by decide) _)
  rw [refuseUpdate_eq]
  exact .ite _ (h.trans (keepsPps_enterHoldover _)) h

theorem keepsPps_acceptUpdate (mag : Nat) (rate : Int) : KeepsPps d (acceptUpdate mag rate d) := by
  unfold acceptUpdate
  extract_lets d₁ _ d₂ good run _ d₃
  have h₁ : KeepsPps d d₁ := KeepsPps.trans ⟨rfl, rfl⟩ (keepsPps_servoRate (noteAccepted mag d) rate)
  have h₂ : KeepsPps d d₂ := .ite _ (h₁.trans ⟨rfl, rfl⟩) h₁
  have h₃ : KeepsPps d d₃ := h₂.trans ⟨rfl, rfl⟩
  exact .ite _ (h₃.trans (keepsPps_enterLocked _)) h₃

theorem keepsPps_setAirTime : KeepsPps d (setAirTime d) := by
  constructor <;> (unfold setAirTime; rw [rephase_t])

theorem keepsPps_stepActions : KeepsPps d (stepActions d) := .of_t (stepActions_t d)

theorem keepsPps_noteStep (mag : Nat) : KeepsPps d (noteAccepted mag (setB TL_QUALITY_stepped true d)) := ⟨rfl, rfl⟩

theorem keepsPps_stepTime (off rate : Int) : KeepsPps d (stepTime off rate d) := by
  unfold stepTime
  extract_lets k _ d₁
  have hmoved : KeepsPps d (moveTime k d₁) := ⟨rfl, rfl⟩
  have hsteps : KeepsPps d (stepActions (setAirTime (moveTime k d₁))) := (hmoved.trans (keepsPps_setAirTime _)).trans (keepsPps_stepActions _)
  exact (hsteps.trans (keepsPps_noteStep _ _)).trans (keepsPps_servoRate _ rate)

theorem keepsPps_stepQuality (rem : Nat) (coasted : Bool) : KeepsPps d (stepQuality rem coasted d) := by
  unfold stepQuality
  extract_lets _ d₁ _ d₂ _ d₃
  have h₁ : KeepsPps d d₁ := .ite _ ⟨rfl, rfl⟩ (KeepsPps.trans (e := { d with t := { d.t with recent := [rem] } }) ⟨rfl, rfl⟩ (keepsPps_setQuality _ 1))
  have h₂ : KeepsPps d d₂ := h₁.trans ⟨rfl, rfl⟩
  have h₃ : KeepsPps d d₃ := .ite _ ((h₂.trans (g := { d₂ with t := { d₂.t with restepArmed := false } }) ⟨rfl, rfl⟩).trans
    (keepsPps_raise0 _ (by decide))) h₂
  exact .ite _ (h₃.trans (keepsPps_enterLocked _)) h₃

theorem keepsPps_makeStep (off rate : Int) : KeepsPps d (makeStep off rate d) := by
  rw [makeStep_eq]
  exact (keepsPps_stepTime d off rate).trans (keepsPps_stepQuality _ _ _)

theorem keepsPps_tryStep (off rate : Int) : KeepsPps d (tryStep off rate d) := .ite _ (keepsPps_makeStep d off rate) ⟨rfl, rfl⟩

theorem keepsPps_servoUpdate (off rate : Int) : KeepsPps d (servoUpdate off rate d) := by
  unfold servoUpdate
  have hacc := keepsPps_acceptUpdate d off.natAbs rate
  have href := keepsPps_refuseUpdate d
  have hstep := keepsPps_tryStep d off rate
  exact .ite _ (.refl d) (.ite _ ⟨rfl, rfl⟩ (.ite _ (.ite _ hacc (.ite _ hstep href)) (.ite _ hstep (.ite _ href hacc))))

end

/-! ### Updates in LOCKED -/

theorem Wrote.raise0 {P : Fld → Prop} {l : List (Fld × Nat)} {d e : Dev} (h : Wrote P l d e) (hP : ∀ x, P x → evFree x) (hl : ∀ p ∈ l, evFree p.1)
    {n : Nat} (hn : n < 160) : Wrote P l d (raise0 n e) := h.raise hP hl hn ..

theorem evPending_raise0 {e : Nat} (he : e < 160) (d : Dev) : (raise0 e d).evPending e = true := (evPending_raise e he ..).1

/-- A refusal before the eighth in a row is counted and reported. -/
theorem noteRefused_spec {d : Dev} (hn : d.f TL_STATUS_refused_run < 7) :
    Wrote evFree [(TL_STATUS_jump_refused, 1), (TL_STATUS_refused_run, d.f TL_STATUS_refused_run + 1)] d (noteRefused d) ∧
      (noteRefused d).evPending 6 = true ∧ (noteRefused d).t = { d.t with goodRun := 0 } := by
  have hrun : (setB TL_STATUS_jump_refused true d).f TL_STATUS_refused_run = d.f TL_STATUS_refused_run := f_setB_other (by decide) ..
  have hcount : min ((setB TL_STATUS_jump_refused true d).f TL_STATUS_refused_run + 1) (TL_STATUS_refused_run.size - 1) % TL_STATUS_refused_run.size =
      d.f TL_STATUS_refused_run + 1 := by
    rw [hrun]
    simp only [Fld.size, TL_STATUS_refused_run] at hn ⊢
    omega
  have hw := (((Wrote.none evFree d).set (x := TL_STATUS_jump_refused) (by simp) 1).set (x := TL_STATUS_refused_run) (by simp +decide)
    (min ((setB TL_STATUS_jump_refused true d).f TL_STATUS_refused_run + 1) (TL_STATUS_refused_run.size - 1))).raise0 (fun _ h => h)
    (by simp +decide) (n := 6) (by decide)
  rw [hcount] at hw
  refine ⟨hw.regs rfl, evPending_raise0 (e := 6) (by decide) _, ?_⟩
  exact congrArg (fun t : TimeSt => { t with goodRun := 0 }) (raise0_t (e := 6) (by decide) _)

theorem Wrote.same {P : Fld → Prop} {l : List (Fld × Nat)} {d e g : Dev} (h : Wrote P l d e) (hf : ∀ x, g.f x = e.f x) : Wrote P l d g :=
  ⟨fun p hp => (hf _).trans (h.1 p hp), fun x hx hl => (hf _).trans (h.2 x hx hl)⟩

/-- Under role OFF a value within 100 ppm shows in TL_RATE and is in force. -/
theorem wrote_servoRate {P : Fld → Prop} {l : List (Fld × Nat)} {d e : Dev} {v : Int} (hv : -rateLimit ≤ v ∧ v ≤ rateLimit)
    (hrole : e.f TL_ALIGN_CFG_role = 0) (h : Wrote P l d e)
    (hl : ∀ p ∈ l, p.1.key ≠ TL_RATE_LO_rate_lo.key ∧ p.1.key ≠ TL_RATE_HI_rate_hi.key) :
    Wrote P (l ++ ratePairs v) d (servoRate v e) ∧ (servoRate v e).t = { e.t with
      r := v, rPend := none, rCarried := none, servoR := v :: e.t.servoR.take 15 } := by
  have hc : commitRate v e = { showRate v e with t := { e.t with r := v, rPend := none, rCarried := none } } := by
    rw [commitRate_eq, clampRate_within hv, noteClamp_within hv, putRate_off hrole]
  refine ⟨((h.showRate hl v).regs (g := commitRate v e) (by rw [hc])).same fun x => by rw [servoRate_eq]; exact f_loopAct .., ?_⟩
  rw [servoRate_t, hc, clampRate_within hv]

theorem servoRate_now (v : Int) (d : Dev) : (servoRate v d).now = d.now := by
  have hp : (commitRate v d).now = (noteClamp v d).now := by
    rw [commitRate_eq]
    obtain ⟨r, p, x, h⟩ := putRate_only (clampRate v) (noteClamp v d)
    rw [h]; rfl
  have hn : (noteClamp v d).now = d.now := by
    unfold noteClamp
    split
    · exact raise0_now (by decide) _
    · rfl
  rw [servoRate_eq, loopAct_now]
  exact hp.trans hn

/-- In LOCKED an accepted update is absorbed through r, and the quality stays. -/
theorem acceptUpdate_locked {mag : Nat} {rate : Int} {d : Dev} (h : (servoRate rate (noteAccepted mag d)).quality = 2) :
    ∃ n, acceptUpdate mag rate d =
      { servoRate rate (noteAccepted mag d) with t := { (servoRate rate (noteAccepted mag d)).t with goodRun := n } } := by
  unfold acceptUpdate
  generalize servoRate rate (noteAccepted mag d) = e at h ⊢
  have hlocked : ¬(e.quality = 3 ∨ e.quality = 4) := by omega
  simp only [if_neg hlocked]
  refine ⟨if decide (mag ≤ e.f TL_REF_CFG_lock_thresh * 3072) = true then e.t.goodRun + 1 else 0, if_neg ?_⟩
  rintro ⟨-, -, hq⟩
  have : e.quality = 1 ∨ e.quality = 3 ∨ e.quality = 4 := hq
  omega

section
variable {d : Dev} {off rate : Int} (hrun : d.running = true) (hrole : d.f TL_ALIGN_CFG_role = 0) (hskip : d.t.skip = 0) (hq : d.quality = 2)
  (hstep : d.on TL_QUALITY_stepped = true)
include hrun hrole hskip hq hstep

/-- In LOCKED after a step the jump limit alone decides on an update. -/
theorem servoUpdate_locked : servoUpdate off rate d =
    if max 20 (d.f TL_JUMP_MAX_ns) * 3072 < off.natAbs then refuseUpdate d else acceptUpdate off.natAbs rate d := by
  unfold servoUpdate
  simp [hrun, hrole, hskip, hq, hstep]

theorem servoUpdate_accepted (hj : off.natAbs ≤ max 20 (d.f TL_JUMP_MAX_ns) * 3072) (hr : -rateLimit ≤ rate ∧ rate ≤ rateLimit) :
    Wrote anyField [(TL_STATUS_refused_run, 0), (TL_RATE_LO_rate_lo, rateWord rate % 0x100000000), (TL_RATE_HI_rate_hi, rateWord rate / 0x100000000)]
      d (servoUpdate off rate d) ∧ (servoUpdate off rate d).t.r = rate ∧ (servoUpdate off rate d).t.lastAccepted = d.now ∧
      (servoUpdate off rate d).now = d.now := by
  rw [servoUpdate_locked hrun hrole hskip hq hstep, if_neg (by omega)]
  have hnote : Wrote anyField [(TL_STATUS_refused_run, 0)] d (noteAccepted off.natAbs d) :=
    ((Wrote.none anyField d).regs (g := { d with t := { d.t with recent := off.natAbs :: d.t.recent.take 254, lastAccepted := d.now } }) rfl).set
      (x := TL_STATUS_refused_run) (by simp) 0
  have hrole' : (noteAccepted off.natAbs d).f TL_ALIGN_CFG_role = 0 := (hnote.2 _ trivial (by decide)).trans hrole
  obtain ⟨hw, ht⟩ := wrote_servoRate hr hrole' hnote (by decide)
  have hq' : (servoRate rate (noteAccepted off.natAbs d)).quality = 2 := (hw.2 TL_QUALITY_state trivial (by simp +decide [ratePairs])).trans hq
  obtain ⟨n, he⟩ := acceptUpdate_locked hq'
  rw [he, ht]
  exact ⟨hw.regs rfl, rfl, rfl, servoRate_now ..⟩

theorem servoUpdate_refused (hj : max 20 (d.f TL_JUMP_MAX_ns) * 3072 < off.natAbs) (hn : d.f TL_STATUS_refused_run < 7) :
    Wrote evFree [(TL_STATUS_jump_refused, 1), (TL_STATUS_refused_run, d.f TL_STATUS_refused_run + 1)] d (servoUpdate off rate d) ∧
      (servoUpdate off rate d).evPending 6 = true ∧ (servoUpdate off rate d).t = { d.t with goodRun := 0 } := by
  obtain ⟨hw, hev, ht⟩ := noteRefused_spec hn
  have hrefused : ¬((noteRefused d).quality = 2 ∧ 8 ≤ (noteRefused d).f TL_STATUS_refused_run) := by
    rw [hw.f (x := TL_STATUS_refused_run) (v := d.f TL_STATUS_refused_run + 1) (by simp)]
    omega
  rw [servoUpdate_locked hrun hrole hskip hq hstep, if_pos hj, refuseUpdate_eq, if_neg hrefused]
  exact ⟨hw, hev, ht⟩

end

/-! ### The commands -/

/-- A message that completes a measurement on the timing port goes to the servo. -/
theorem ptpMessage_update {d : Dev} {m : PtpMsg} {u : Update} (hs : ptpSupported d m = true) (hu : m.update = some u)
    (hp : d.f LINK_STAT_timing_port = m.port) : ptpMessage m d = servoUpdate (u.offset16 * 192) u.rate d := by
  unfold ptpMessage
  rw [hs, hu]
  simp [hp]

theorem ppsEdge_watched {d : Dev} (h : d.f TL_REF_CFG_ref_sel = 1) (rate : Int) :
    ∃ off, ppsEdge rate d = servoUpdate off rate { d with t := { d.t with lastPps := d.now, ppsLost := false } } :=
  ⟨_, if_pos h⟩

/-- The watch notes a loss. -/
def noteLoss (d : Dev) : Dev := { d with t := { d.t with ppsLost := true } }

theorem noteLoss_spec (at_ : Nat) (d : Dev) : Wrote evFree [] d (raise0 7 (noteLoss (passTo at_ d))) ∧
    (raise0 7 (noteLoss (passTo at_ d))).evPending 7 = true ∧ (raise0 7 (noteLoss (passTo at_ d))).t.ppsLost = true ∧
    (raise0 7 (noteLoss (passTo at_ d))).now = max d.now at_ := by
  have hregs : (noteLoss (passTo at_ d)).regs = d.regs := passTo_regs at_ d
  exact ⟨((Wrote.none evFree d).regs hregs).raise0 (fun _ h => h) (by simp) (by decide), evPending_raise0 (by decide) _,
    congrArg TimeSt.ppsLost (raise0_t (by decide) (noteLoss (passTo at_ d))), (raise0_now (by decide) _).trans (passTo_now at_ d)⟩

theorem ppsLost_watched {d : Dev} (h : d.f TL_REF_CFG_ref_sel = 1) (hl : d.t.ppsLost = false) :
    ppsLost d = raise0 7 (noteLoss (passTo (d.t.lastPps + 2 * secTicks) d)) := by
  unfold ppsLost
  rw [if_pos ⟨h, by simp [hl]⟩]
  rfl

theorem ppsLost_spec {d : Dev} (h : d.f TL_REF_CFG_ref_sel = 1) (hl : d.t.ppsLost = false) : Wrote evFree [] d (ppsLost d) ∧
    (ppsLost d).evPending 7 = true ∧ (ppsLost d).t.ppsLost = true ∧ (ppsLost d).now = max d.now (d.t.lastPps + 2 * secTicks) := by
  rw [ppsLost_watched h hl]
  exact noteLoss_spec _ d

/-- Settles O12: each command by the branch that it takes, an update by what the servo makes of it in LOCKED. -/
theorem servoUpdatesFollowTheJumpLimit : Obligations.ServoUpdatesFollowTheJumpLimit := by
  unfold Obligations.ServoUpdatesFollowTheJumpLimit
  intro s hrun
  have hup := hrun.1
  have hdev := hrun.2
  refine ⟨fun m hs => ?_, fun m u hs hu hp ⟨hrole, hskip, hq, hst⟩ hj hr => ?_, fun m u hs hu hp ⟨hrole, hskip, hq, hst, hn⟩ hj => ?_,
    fun rate hsel => ?_, fun ⟨hsel, hl⟩ => ?_⟩
  · exact doesDev_of_eq (whileRunning_running _ hup hdev) (if_pos (by simp [hs]))
  · refine does_of_dev (whileRunning_running _ hup hdev) (ptpMessage_update hs hu hp) ?_
    obtain ⟨hw, hrate, hlast, hnow⟩ := servoUpdate_accepted hdev hrole hskip hq hst hj hr
    exact ⟨hw.sets, hrate, hlast, hnow⟩
  · refine does_of_dev (whileRunning_running _ hup hdev) (ptpMessage_update hs hu hp) ?_
    obtain ⟨hw, hev, ht⟩ := servoUpdate_refused (rate := u.rate) hdev hrole hskip hq hst hj hn
    exact ⟨hw.setsEv, hev, congrArg (·.r) ht, congrArg (·.lastAccepted) ht⟩
  · obtain ⟨off, hoff⟩ := ppsEdge_watched hsel rate
    refine does_of_dev (whileRunning_running _ hup hdev) hoff ?_
    exact keepsPps_servoUpdate _ off rate
  · obtain ⟨hw, hev, hlost, hnow⟩ := ppsLost_spec hsel hl
    exact does_of_dev (whileRunning_running _ hup hdev) rfl ⟨hw.setsEv, hev, hlost, hnow⟩

end Sys2Proof.Machine
end
section
/-!
PROOF. The moves of the time quality (O13): into HOLDOVER and FREE, what the 1PPS output and the muting for time do, and the restep.
-/
namespace Sys2Proof.Machine

/-! ### Holdover and its end -/

theorem putRate_now (c : Int) (d : Dev) : (putRate c d).now = d.now := by
  obtain ⟨r, p, x, h⟩ := putRate_only c d
  rw [h]; rfl

theorem f_putRate {x : Fld} (hl : x.key ≠ TL_RATE_LO_rate_lo.key) (hh : x.key ≠ TL_RATE_HI_rate_hi.key) (c : Int) (d : Dev) :
    (putRate c d).f x = d.f x := by
  obtain ⟨r, p, y, h⟩ := putRate_only c d
  rw [h]
  exact f_showRate hl hh c d

theorem holdMeanRate_now (d : Dev) : (holdMeanRate d).now = d.now := by
  unfold holdMeanRate
  split
  · rfl
  · exact (loopAct_now ..).trans (putRate_now ..)

theorem f_holdMeanRate {x : Fld} (hl : x.key ≠ TL_RATE_LO_rate_lo.key) (hh : x.key ≠ TL_RATE_HI_rate_hi.key) (d : Dev) :
    (holdMeanRate d).f x = d.f x := by
  unfold holdMeanRate
  split
  · rfl
  · exact (f_loopAct ..).trans (f_putRate hl hh ..)

theorem setQuality_now (q : Nat) (d : Dev) : (setQuality q d).now = d.now := by
  obtain ⟨r, x, h⟩ := setQuality_only q d
  rw [h]

theorem on_eq_of_f {d : Dev} {x : Fld} {v : Nat} (h : d.f x = v) : d.on x = (v == 1) := by rw [Dev.on, h]

/-- HOLDOVER keeps the permission to transmit. -/
theorem enterHoldover_spec (d : Dev) : (enterHoldover d).quality = 3 ∧ (enterHoldover d).txPermit = true ∧ (enterHoldover d).evPending 1 = true ∧
    (enterHoldover d).now = d.now := by
  unfold enterHoldover
  extract_lets e
  have hw := wrote_setQuality (q := 3) (by decide) (errFrom e d.t.lastAccepted d)
  have hf {x : Fld} (hx : evFree x) (hl : x.key ≠ TL_RATE_LO_rate_lo.key) (hh : x.key ≠ TL_RATE_HI_rate_hi.key) :=
    (f_raise0 hx (e := 1) (by decide) (holdMeanRate (setQuality 3 (errFrom e d.t.lastAccepted d)))).trans (f_holdMeanRate hl hh _)
  refine ⟨(hf (x := TL_QUALITY_state) (by decide) (by decide) (by decide)).trans (hw.f (by simp)),
    on_eq_of_f ((hf (x := TL_QUALITY_tx_permit) (by decide) (by decide) (by decide)).trans (hw.f (v := 1) (by simp [ofBool]))),
    evPending_raise0 (by decide) _, ?_⟩
  exact (raise0_now (e := 1) (by decide) _).trans ((holdMeanRate_now _).trans (setQuality_now ..))

/-- In FREE nothing is known of the error. -/
theorem showErr_free {d : Dev} (h : d.quality = 0) : showErr d = setF TL_ERR_EST_err_ns 0xFFFFFFFF d := by
  have herr : d.errNow = none := by
    unfold Dev.errNow
    simp [h]
  unfold showErr
  simp only [herr]

/-- FREE, with the estimate that it shows. -/
theorem wrote_free (d : Dev) : Wrote anyField
    [(TL_QUALITY_state, 0), (TL_QUALITY_tx_permit, 0), (TL_QUALITY_stepped, 0), (TL_ERR_EST_err_ns, 0xFFFFFFFF)] d (showErr (setQuality 0 d)) := by
  have hw := wrote_setQuality_free (P := anyField) d
  rw [showErr_free (hw.f (x := TL_QUALITY_state) (by simp))]
  exact hw.set (x := TL_ERR_EST_err_ns) (by simp +decide) 0xFFFFFFFF

theorem Wrote.weaken {P Q : Fld → Prop} {l : List (Fld × Nat)} {d e : Dev} (h : Wrote P l d e) (hQ : ∀ x, Q x → P x) : Wrote Q l d e :=
  ⟨h.1, fun x hx => h.2 x (hQ x hx)⟩

theorem free_of_wrote {P : Fld → Prop} {l : List (Fld × Nat)} {d e : Dev} (h : Wrote P l d e)
    (hl : (TL_QUALITY_state, 0) ∈ l ∧ (TL_QUALITY_tx_permit, 0) ∈ l ∧ (TL_QUALITY_stepped, 0) ∈ l) :
    e.quality = 0 ∧ e.txPermit = false ∧ e.on TL_QUALITY_stepped = false :=
  ⟨h.f hl.1, on_eq_of_f (h.f hl.2.1), on_eq_of_f (h.f hl.2.2)⟩

theorem expireHoldover_spec (d : Dev) : Wrote evFree
    [(TL_QUALITY_state, 0), (TL_QUALITY_tx_permit, 0), (TL_QUALITY_stepped, 0), (TL_ERR_EST_err_ns, 0xFFFFFFFF)] d (expireHoldover d) ∧
      (expireHoldover d).evPending 2 = true :=
  ⟨((wrote_free d).weaken fun _ _ => trivial).raise0 (fun _ h => h) (by simp +decide) (by decide), evPending_raise0 (by decide) _⟩

theorem following_of_own {d : Dev} (h : d.on TL_QUALITY_follower = false) : d.following = false := by unfold Dev.following; rw [h]; rfl

/-- No accepted update for the timeout takes a device that follows no leader to HOLDOVER. -/
theorem lossTimeout_spec {d : Dev} (hq : d.quality = 2) (hf : d.on TL_QUALITY_follower = false) : (lossTimeout d).quality = 3 ∧
    (lossTimeout d).txPermit = true ∧ (lossTimeout d).evPending 1 = true ∧
    (lossTimeout d).now = max d.now (d.t.lastAccepted + usTicks (1000 * d.f TL_HO_CFG_loss_timeout)) := by
  unfold lossTimeout
  rw [if_pos ⟨hq, by rw [following_of_own hf]; rfl⟩]
  obtain ⟨hq', hp, hev, hnow⟩ := enterHoldover_spec (passTo (d.t.lastAccepted + usTicks (1000 * d.f TL_HO_CFG_loss_timeout)) d)
  exact ⟨hq', hp, hev, hnow.trans (passTo_now ..)⟩

theorem errEstRecompute_free {d : Dev} (h : d.quality = 0) : errEstRecompute d = setF TL_ERR_EST_err_ns 0xFFFFFFFF d := by
  unfold errEstRecompute
  rw [h]
  exact showErr_free h

theorem errEstRecompute_expired {d : Dev} {e : Nat} (h : d.quality = 3) (he : d.errNow = some e) (hl : 1100 * fineNs < e)
    (hf : d.on TL_QUALITY_follower = false) : errEstRecompute d = expireHoldover d := by
  have hown := following_of_own hf
  unfold errEstRecompute
  rw [h, he]
  exact if_pos ⟨hl, by rw [hown]; rfl⟩

/-! ### The 1PPS output -/

theorem passTicks_ntU {d : Dev} (h : d.t.stopped = false) (n : Nat) : (passTicks n d).t.ntU = d.t.ntU + 3125 * n := by
  unfold passTicks
  rw [h]; rfl

/-- The air tick of a second boundary of network time, which it has passed by less than a tick. -/
theorem second_reached (u : Nat) :
    (u + 3125 * (((3072000000000 - u % 3072000000000) % 3072000000000 + 3124) / 3125)) % 3072000000000 < 3125 := by omega

/-- The output rises. -/
def risePps (d : Dev) : Dev := { d with t := { d.t with ppsOutAt := some d.now } }

theorem ppsOut_driven {d : Dev} (hen : d.on TL_REF_CFG_pps_out_en = true) (hq : d.quality = 2 ∨ d.quality = 3) : ppsOut d =
    risePps (passTicks (((3072000000000 - d.t.ntU % 3072000000000) % 3072000000000 + 3124) / 3125) d) := by
  unfold ppsOut
  exact if_pos (by rw [hen]; simpa using hq)

theorem risePps_high {d : Dev} (hen : d.on TL_REF_CFG_pps_out_en = true) (hq : d.quality = 2 ∨ d.quality = 3) : (risePps d).ppsHigh = true := by
  have hen' : (risePps d).on TL_REF_CFG_pps_out_en = true := hen
  have hq' : (risePps d).quality = 2 ∨ (risePps d).quality = 3 := hq
  show (decide (d.now < d.now + usTicks 10000) && (risePps d).on TL_REF_CFG_pps_out_en && ((risePps d).quality == 2 || (risePps d).quality == 3)) = true
  have hpos : 0 < usTicks 10000 := by decide
  rw [hen', decide_eq_true (show d.now < d.now + usTicks 10000 by omega)]
  simpa using hq'

theorem ppsOut_spec {d : Dev} (hen : d.on TL_REF_CFG_pps_out_en = true) (hq : d.quality = 2 ∨ d.quality = 3) (hs : d.t.stopped = false) :
    (ppsOut d).regs = d.regs ∧ (ppsOut d).t.ppsOutAt = some (ppsOut d).now ∧ (ppsOut d).ppsHigh = true ∧
      (ppsOut d).t.ntU % 3072000000000 < 3125 := by
  have hnt := second_reached d.t.ntU
  rw [ppsOut_driven hen hq]
  generalize ((3072000000000 - d.t.ntU % 3072000000000) % 3072000000000 + 3124) / 3125 = n at hnt ⊢
  refine ⟨passTicks_regs n d, rfl, risePps_high ((on_congr (f_passTicks n d _)).trans hen) ?_, ?_⟩
  · unfold Dev.quality
    rw [f_passTicks]
    exact hq
  · rw [← passTicks_ntU hs] at hnt
    exact hnt

/-! ### The muting for time -/

theorem feStat_key_ne {b lo lo' hi hi' rst rst' : Nat} (h : lo ≠ lo') :
    (⟨bayBase b + 4, hi, lo, rst⟩ : Fld).key ≠ (⟨bayBase b + 4, hi', lo', rst'⟩ : Fld).key := by
  simp only [Fld.key]
  omega

/-- A step that touches what the device remembers of bays and captures alone. -/
def BaysOnly (d e : Dev) : Prop := ∃ s o, e = { d with bays := s, obs := o }

section
variable {d e : Dev}

theorem BaysOnly.refl (d : Dev) : BaysOnly d d := ⟨d.bays, d.obs, rfl⟩

theorem BaysOnly.modBay (h : BaysOnly d e) (b : Nat) (u : BaySt → BaySt) : BaysOnly d (modBay b u e) := by
  obtain ⟨s, o, rfl⟩ := h
  exact ⟨_, o, rfl⟩

theorem BaysOnly.capTouch (h : BaysOnly d e) (b : Nat) (u : CapRun → CapRun) : BaysOnly d (capTouch b u e) := by
  obtain ⟨s, o, rfl⟩ := h
  obtain ⟨o', ho⟩ := capTouch_only b u { d with bays := s, obs := o }
  exact ⟨s, o', ho⟩

end

theorem baysOnly_leave (c : Bool) (b : Nat) (d : Dev) : BaysOnly d (leaveRx b (onlyIf c (leaveRf b) d)) := by
  cases c
  · exact (BaysOnly.refl d).modBay b _
  · exact ((((BaysOnly.refl d).modBay b _).modBay b _).capTouch b _).modBay b _

/-- No correction of the bay waits for its guard period. -/
def NothingPends (b : Nat) (d : Dev) : Prop := ∀ i < 8, (d.calPath (8 * b + i)).pend = 0

theorem calInForce_idle {b : Nat} {d : Dev} (h : NothingPends b d) : calInForce b d = d := by
  have hany : ((bayPaths b).any fun n => (d.calPath n).pend != 0) = false := by
    simp only [bayPaths, List.any_map, List.any_eq_false, List.mem_range]
    intro i hi
    simp [h i hi]
  unfold calInForce
  simp only [hany, Bool.not_false, if_true]

/-- A turnaround of a bay for which no correction waits. -/
theorem startTurn_spec {P : Fld → Prop} {l : List (Fld × Nat)} {d₀ d : Dev} {b st : Nat} (h : Wrote P l d₀ d)
    (hl : ∀ p ∈ l, p.1.key ≠ (BAY_FE_STAT_in_transition b).key ∧ p.1.key ≠ (BAY_FE_STAT_target b).key) (hp : NothingPends b d) :
    Wrote P (l ++ [(BAY_FE_STAT_in_transition b, 1)] ++ [(BAY_FE_STAT_target b, st % 8)]) d₀ (startTurn b st d) ∧
      ((startTurn b st d).bay b).turnEnd = d.now + 1573 ∧ ((startTurn b st d).bay b).dest = st ∧ (startTurn b st d).now = d.now := by
  obtain ⟨s, o, he⟩ := baysOnly_leave ((d.fe b == 4) && !d.inTransition b) b d
  have hturn : startTurn b st d = modBay b (fun s => { s with turning := true, turnEnd := d.now + 1573, dest := st })
      (setF (BAY_FE_STAT_target b) st (setB (BAY_FE_STAT_in_transition b) true { d with bays := s, obs := o })) := by
    have hidle : calInForce b { d with bays := s, obs := o } = { d with bays := s, obs := o } := calInForce_idle hp
    unfold startTurn
    rw [he]
    unfold onlyIf
    simp only [hidle, ite_self]
  have hw := ((h.regs (g := { d with bays := s, obs := o }) rfl).set (x := BAY_FE_STAT_in_transition b) (fun p hp => (hl p hp).1) 1).set
    (x := BAY_FE_STAT_target b) (fun p hp => (List.mem_append.mp hp).elim (fun hp => (hl p hp).2) fun hp => by
      rw [List.mem_singleton.mp hp]; exact feStat_key_ne (by decide)) st
  rw [hturn]
  refine ⟨hw.regs rfl, ?_, ?_, rfl⟩
  · rw [bay_modBay_same]
  · rw [bay_modBay_same]

theorem calAbandon_idle {b : Nat} {d : Dev} (h : (d.bay b).cal = none) : calAbandon b d = d := by
  unfold calAbandon
  simp only [h]

theorem inTurn_of_still {b : Nat} {d : Dev} (h : d.inTransition b = false) : d.inTurn b = false := by
  unfold Dev.inTurn
  rw [h, Bool.false_and]

theorem turnToWarm_still {b : Nat} {d : Dev} (h : d.inTransition b = false) : turnToWarm b d = startTurn b 2 d := by
  unfold turnToWarm
  rw [if_pos (by rw [inTurn_of_still h]; rfl)]

/-- The bay is muted for time. -/
def muteForTime (b : Nat) (d : Dev) : Dev := d |> setB (BAY_FE_STAT_muted b) true |> setF (BAY_FE_STAT_mute_cause b) 2

theorem timeMute_transmitting {b : Nat} {d : Dev} (hfe : d.fe b = 4 ∨ d.fe b = 5) (ht : d.inTransition b = false) (hn : d.txPermit = false)
    (hcal : (d.bay b).cal = none) : timeMute b d = startTurn b 2 (muteForTime b (passTo (d.nextSymbol (d.bayGrid15 b) 0) d)) := by
  have hidle : calAbandon b (passTo (d.nextSymbol (d.bayGrid15 b) 0) d) = passTo (d.nextSymbol (d.bayGrid15 b) 0) d :=
    calAbandon_idle (by unfold Dev.bay; rw [passTo_bays]; exact hcal)
  have hstill : (muteForTime b (passTo (d.nextSymbol (d.bayGrid15 b) 0) d)).inTransition b = false := by
    refine (on_congr ?_).trans ht
    exact (f_setF_other (feStat_key_ne (by decide)) ..).trans ((f_setB_other (feStat_key_ne (by decide)) ..).trans (f_passTo ..))
  have hfour : decide (d.fe b ≥ 4) = true := decide_eq_true (by omega)
  unfold timeMute
  rw [inTurn_of_still ht, hn]
  simp only [Bool.false_eq_true, if_false, hfour, Bool.not_false, Bool.and_self, if_true, hidle]
  exact turnToWarm_still hstill

/-- A muted bay, for which no correction waits, turns towards Warm. -/
theorem muteTurn_spec {b : Nat} {d : Dev} (hp : NothingPends b d) (at_ : Nat) :
    Wrote anyField [(BAY_FE_STAT_muted b, 1), (BAY_FE_STAT_mute_cause b, 2), (BAY_FE_STAT_in_transition b, 1), (BAY_FE_STAT_target b, 2)] d
      (startTurn b 2 (muteForTime b (passTo at_ d))) ∧ ((startTurn b 2 (muteForTime b (passTo at_ d))).bay b).turnEnd = max d.now at_ + 1573 ∧
      ((startTurn b 2 (muteForTime b (passTo at_ d))).bay b).dest = 2 ∧ (startTurn b 2 (muteForTime b (passTo at_ d))).now = max d.now at_ := by
  have hnow : (muteForTime b (passTo at_ d)).now = max d.now at_ := passTo_now at_ d
  have hp' : NothingPends b (muteForTime b (passTo at_ d)) := fun i hi => by
    have hcal : (muteForTime b (passTo at_ d)).cal = d.cal := passTo_cal at_ d
    unfold Dev.calPath
    rw [hcal]
    exact hp i hi
  have hmuted : Wrote anyField [(BAY_FE_STAT_muted b, 1), (BAY_FE_STAT_mute_cause b, 2)] d (muteForTime b (passTo at_ d)) :=
    (((Wrote.none anyField d).regs (passTo_regs at_ d)).set (x := BAY_FE_STAT_muted b) (by simp) 1).set (x := BAY_FE_STAT_mute_cause b)
      (fun p hp => by rw [List.mem_singleton.mp hp]; exact feStat_key_ne (by decide)) 2
  have hl : ∀ p ∈ [(BAY_FE_STAT_muted b, 1), (BAY_FE_STAT_mute_cause b, 2)],
      p.1.key ≠ (BAY_FE_STAT_in_transition b).key ∧ p.1.key ≠ (BAY_FE_STAT_target b).key := by
    simp only [List.forall_mem_cons]
    exact ⟨⟨feStat_key_ne (by decide), feStat_key_ne (by decide)⟩, ⟨feStat_key_ne (by decide), feStat_key_ne (by decide)⟩, by simp⟩
  obtain ⟨hw, hend, hdest, hsame⟩ := startTurn_spec (st := 2) hmuted hl hp'
  exact ⟨hw, by rw [hend, hnow], hdest, hsame.trans hnow⟩

theorem timeMute_spec {b : Nat} {d : Dev} (hfe : d.fe b = 4 ∨ d.fe b = 5) (ht : d.inTransition b = false) (hn : d.txPermit = false)
    (hcal : (d.bay b).cal = none) (hp : NothingPends b d) :
    Wrote anyField [(BAY_FE_STAT_muted b, 1), (BAY_FE_STAT_mute_cause b, 2), (BAY_FE_STAT_in_transition b, 1), (BAY_FE_STAT_target b, 2)] d
      (timeMute b d) ∧ ((timeMute b d).bay b).turnEnd = (timeMute b d).now + 1573 ∧ ((timeMute b d).bay b).dest = 2 ∧
      (timeMute b d).now = d.nextSymbol (d.bayGrid15 b) 0 := by
  have hafter : max d.now (d.nextSymbol (d.bayGrid15 b) 0) = d.nextSymbol (d.bayGrid15 b) 0 := Nat.max_eq_right (Nat.le_add_right ..)
  obtain ⟨hw, hend, hdest, hnow⟩ := muteTurn_spec hp (d.nextSymbol (d.bayGrid15 b) 0)
  rw [timeMute_transmitting hfe ht hn hcal]
  exact ⟨hw, by rw [hend, hnow], hdest, hnow.trans hafter⟩

/-! ### The restep -/

theorem exec_tlCmd {s : State} (hrun : Running s) (hq : s.d.hostWaits = false) {v : Nat} (hv : v < 2 ^ 32)
    (hg : governedWrite 0x10002C v = false ∨ s.d.ledgerHolds = false) :
    whileUp (hostWrite 0x10002C v) s = .next { s with blk := regWrite .host false 0x10002C v (onDev fresh s.blk) } := by
  refine (whileUp_up _ hrun.1).trans (congrArg (fun b => Host.Outcome.next { s with blk := b }) ?_)
  have h := hostWrite_timeOrLink hrun hq tlCmd_inTimeOrLink (by decide) v
  rw [Nat.mod_eq_of_lt hv] at h
  exact h hg

theorem exec_restep {s : State} (hrun : Running s) (hq : s.d.hostWaits = false) (hr : s.d.inReady = true) (hl : s.d.ledgerHolds = false) :
    exec .restep s = .next (s.act (onDev fun d => restep .host 1 (fresh d))) := by
  have hr' : (fresh s.d).inReady = true := hr
  have hw := regWrite_tlCmd (v := 1) (b := onDev fresh s.blk) (by unfold Dev.restepBad; rw [onDev_dev, hr']; rfl) rfl .host
  rw [show tlCmd .host 1 = restep .host 1 from rfl, onDev_onDev] at hw
  exact (exec_tlCmd hrun hq (by decide) (.inr hl)).trans (congrArg (fun b => Host.Outcome.next { s with blk := b }) hw)

theorem exec_restep_refused {s : State} (hrun : Running s) (hq : s.d.hostWaits = false) (hr : s.d.inReady = false) (hl : s.d.ledgerHolds = false) :
    exec .restep s = .next (s.act (onDev fun d => setB TL_STATUS_restep_refused true (fresh d))) := by
  have hr' : (fresh s.d).restepBad 1 = true := by
    unfold Dev.restepBad
    rw [show (fresh s.d).inReady = false from hr]; rfl
  have ha : (fresh s.d).alignCmdBad 1 = false := rfl
  have hw := regWrite_tlCmd_refused (v := 1) (b := onDev fresh s.blk) (by rw [onDev_dev, hr']; rfl) .host
  rw [onDev_dev, hr', ha, onDev_onDev] at hw
  simp only [onlyIf, if_true, Bool.false_eq_true, if_false] at hw
  exact (exec_tlCmd hrun hq (by decide) (.inr hl)).trans (congrArg (fun b => Host.Outcome.next { s with blk := b }) hw)

theorem Wrote.advanceEpoch {P : Fld → Prop} {l : List (Fld × Nat)} {d e : Dev} (h : Wrote P l d e)
    (hl : ∀ p ∈ l, p.1.key ≠ DECK_SEAL_STAT_busy.key) : Wrote P (l ++ [(DECK_SEAL_STAT_busy, 1)]) d (advanceEpoch e) :=
  (h.regs (g := { e with seals := { e.seals with epoch := (e.seals.epoch + 1) % 0x100000000 } }) rfl).set (x := DECK_SEAL_STAT_busy) hl 1

/-- The next step ends the restep (R41). -/
def armRestep (d : Dev) : Dev := { d with t := { d.t with restepArmed := true } }

theorem restep_eq (org : Origin) (v : Nat) (d : Dev) : restep org v d =
    ledgerPut org 1 0 0x10002C 0 v (advanceEpoch (armRestep (setB LEDGER_EPOCH_valid false (showErr (setQuality 0 d))))) := rfl

theorem showErr_seals (d : Dev) : (showErr d).seals = d.seals := by
  obtain ⟨v, h⟩ := showErr_eq d
  rw [h]; rfl

theorem setQuality_seals (q : Nat) (d : Dev) : (setQuality q d).seals = d.seals := by
  obtain ⟨r, x, h⟩ := setQuality_only q d
  rw [h]

theorem restep_spec (org : Origin) (v : Nat) (d : Dev) : Wrote anyField
    [(TL_QUALITY_state, 0), (TL_QUALITY_tx_permit, 0), (TL_QUALITY_stepped, 0), (TL_ERR_EST_err_ns, 0xFFFFFFFF), (LEDGER_EPOCH_valid, 0),
      (DECK_SEAL_STAT_busy, 1)] d (restep org v d) ∧ (restep org v d).t.restepArmed = true ∧
      (restep org v d).seals.epoch = (d.seals.epoch + 1) % 0x100000000 := by
  have hvalid := ((wrote_free d).set (x := LEDGER_EPOCH_valid) (by simp +decide) 0).regs
    (g := armRestep (setB LEDGER_EPOCH_valid false (showErr (setQuality 0 d)))) rfl
  have hseals : (setB LEDGER_EPOCH_valid false (showErr (setQuality 0 d))).seals = d.seals :=
    (setF_seals ..).trans ((showErr_seals _).trans (setQuality_seals 0 d))
  rw [restep_eq]
  refine ⟨(hvalid.advanceEpoch (by simp +decide)).regs (ledgerPut_regs ..), congrArg TimeSt.restepArmed (ledgerPut_t ..), ?_⟩
  rw [ledgerPut_seals]
  exact congrArg (fun x : SealSt => (x.epoch + 1) % 0x100000000) hseals

/-! ### The commands -/

/-- Settles O13: the loss timeout and the estimate by the moves that they make, the output, the muting and the restep by what they write. -/
theorem timeQualityMoves : Obligations.TimeQualityMoves := by
  unfold Obligations.TimeQualityMoves
  intro s hrun
  have hup := hrun.1
  have hdev := hrun.2
  refine ⟨fun ⟨hq, hf⟩ => ?_, fun hq => ?_, fun e ⟨hq, he, hl, hf⟩ => ?_, fun ⟨hen, hq, hst⟩ => ?_, fun b ⟨hb, hfe, ht, hn, hcal, hp⟩ => ?_,
    fun hw ⟨hr, hl⟩ => ?_, fun hw ⟨hr, hl⟩ => ?_⟩
  · obtain ⟨hq', hp, hev, hnow⟩ := lossTimeout_spec hq hf
    exact does_of_dev (whileRunning_running _ hup hdev) rfl ⟨hq', hp, hev, hnow⟩
  · exact doesDev_of_eq (whileRunning_running _ hup hdev) (errEstRecompute_free hq)
  · obtain ⟨hset, hev⟩ := expireHoldover_spec s.d
    generalize hx : expireHoldover s.d = x at hset hev
    obtain ⟨hfree, hpermit, hstep⟩ := free_of_wrote hset (by simp)
    exact does_of_dev (whileRunning_running _ hup hdev) ((errEstRecompute_expired hq he hl hf).trans hx)
      ⟨hfree, hpermit, hstep, hset.f (x := TL_ERR_EST_err_ns) (v := 0xFFFFFFFF) (by simp), hev⟩
  · obtain ⟨hregs, hat, hhigh, hnt⟩ := ppsOut_spec hen hq hst
    exact does_of_dev (whileRunning_running _ hup hdev) rfl ⟨((Wrote.none anyField s.d).regs hregs).sets, hat, hhigh, hnt⟩
  · obtain ⟨hset, hend, hdest, hnow⟩ := timeMute_spec hfe ht hn hcal hp
    exact does_of_dev (whileRunning_running _ hup hdev) rfl ⟨hset.sets, hend, hdest, hnow⟩
  · obtain ⟨hset, harm, hep⟩ := restep_spec .host 1 (fresh s.d)
    generalize hx : restep .host 1 (fresh s.d) = x at hset harm hep
    obtain ⟨hfree, hpermit, hstep⟩ := free_of_wrote hset (by simp)
    exact does_of_dev (exec_restep hrun hw hr hl) hx ⟨hfree, hpermit, hstep, hset.f (x := LEDGER_EPOCH_valid) (v := 0) (by simp),
      hset.f (x := TL_ERR_EST_err_ns) (v := 0xFFFFFFFF) (by simp), harm, hep⟩
  · refine does_of_dev (exec_restep_refused hrun hw hr hl) rfl (Wrote.sets ?_)
    exact ((Wrote.none anyField s.d).regs (g := fresh s.d) rfl).set (x := TL_STATUS_restep_refused) (by simp) 1

end Sys2Proof.Machine
end
section
/-!
PROOF. The rate correction and the frame offset as they are written (O14): values judged, recorded and in force.
-/
namespace Sys2Proof.Machine

/-! ### The governed registers of TL -/

theorem linkRefuses_time {off : Nat} (h : off < 0x500000) (v : Nat) (d : Dev) : linkRefuses off v d = none := by
  have hrest : off ≠ LINK_REST_rx_rest.off := by simp only [LINK_REST_rx_rest]; omega
  unfold linkRefuses
  rw [if_neg (by omega), if_neg fun hc => hrest hc.1, if_neg (by omega)]

theorem rateLo_inTimeOrLink : inTimeOrLink 0x100014 := .inl ⟨by decide, by decide⟩
theorem frameOffset_inTimeOrLink : inTimeOrLink 0x100020 := .inl ⟨by decide, by decide⟩

theorem governed_host {org : Origin} (horg : org = .host ∨ org = .firmware) (off old new : Nat) (d : Dev) :
    governed org off old new d = ledgerPut org 1 0 off old new (advanceEpoch d) := by
  unfold governed
  rw [if_neg (by rintro rfl; simp at horg)]

theorem bits_zero (v hi : Nat) : bits v hi 0 = v % 2 ^ (hi + 1) := rfl

theorem timeOrLinkAfter_time {off : Nat} (h : off < 0x500000) (org : Origin) (v : Nat) (d : Dev) :
    timeOrLinkAfter org off v d = tlWriteAfter org off v d := by
  have hrest : (off == LINK_REST_rx_rest.off) = false := by simp only [beq_eq_false_iff_ne, LINK_REST_rx_rest]; omega
  have hlink (e : Dev) : linkWriteAfter off v e = e := by unfold linkWriteAfter; rw [if_neg (by omega), if_neg (by omega)]
  unfold timeOrLinkAfter
  rw [hlink, hrest]
  rfl

theorem tlWriteAfter_rateLo {org : Origin} (horg : org = .host ∨ org = .firmware) (v : Nat) (d : Dev) :
    tlWriteAfter org 0x100014 v d = commitRate (signed 36 (d.f TL_RATE_HI_rate_hi * 0x100000000 + d.f TL_RATE_LO_rate_lo)) d := by
  have hloop : org ≠ .loop := by rintro rfl; simp at horg
  unfold tlWriteAfter
  simp only [if_true, if_neg hloop]

theorem tlWriteAfter_frameOffset (org : Origin) (v : Nat) (d : Dev) : tlWriteAfter org 0x100020 v d = d := by
  unfold tlWriteAfter
  simp [TL_REF_CFG_ref_sel, TL_ALIGN_CFG_role]

/-- The governed fields of a register of one field, as the ledger records them. -/
abbrev oneField (hi : Nat) : List FieldDef := [⟨hi, 0, .rwg, 0x0⟩]

/-- A word of TL_RATE_LO is stored and recorded, and the value of both words is committed (R32, R413). -/
theorem regWrite_rateLo {org : Origin} (horg : org = .host ∨ org = .firmware) {v : Nat} (hv : v < 2 ^ 32) (b : Blk) :
    ∃ old new, regWrite org false 0x100014 v b = onDev (fun d => commitRate (signed 36 (b.dev.f TL_RATE_HI_rate_hi * 0x100000000 + v))
      (governed org 0x100014 old new (setF TL_RATE_LO_rate_lo v d))) b := by
  have hbits : bits v 31 0 = v := by rw [bits_zero, Nat.mod_eq_of_lt hv]
  have htl : tlRefuses 0x100014 v b.dev = none := by unfold tlRefuses; simp
  have hregs := (regWrite_timeOrLink rateLo_inTimeOrLink findBank_rateLo org v b).2
    (by rw [show taken 0x100014 v = v from rfl, htl, linkRefuses_time (by decide)]; rfl)
  rw [show taken 0x100014 v = v from rfl, regStore_timeOrLink rateLo_inTimeOrLink] at hregs
  refine ⟨b.dev.rwgWord 0x100014 (oneField 31), (setF TL_RATE_LO_rate_lo v b.dev).rwgWord 0x100014 (oneField 31),
    hregs.trans (congrArg (fun e => { b with dev := e }) ?_)⟩
  have hlo : (setF TL_RATE_LO_rate_lo v b.dev).f TL_RATE_LO_rate_lo = v := (f_setF_same ..).trans (Nat.mod_eq_of_lt hv)
  have hhi : (setF TL_RATE_LO_rate_lo v b.dev).f TL_RATE_HI_rate_hi = b.dev.f TL_RATE_HI_rate_hi := f_setF_other (by decide) ..
  simp only [storeReg_rateLo, hbits, timeOrLinkAfter_time (show 0x100014 < 0x500000 by decide), tlWriteAfter_rateLo horg,
    show isGoverned (oneField 31) = true from rfl, if_true]
  rw [f_governed (by decide), f_governed (by decide), hlo, hhi]

/-- A frame offset up to 9,830,399 is stored and recorded (R30, R413). -/
theorem regWrite_frameOffset {org : Origin} {v : Nat} (hv : v ≤ 9830399) (b : Blk) :
    ∃ old new, regWrite org false 0x100020 v b = onDev (fun d => governed org 0x100020 old new (setF TL_FRAME_OFFSET_ticks v d)) b := by
  have hbits : bits v 23 0 = v := by rw [bits_zero, Nat.mod_eq_of_lt (by omega)]
  have htl : tlRefuses 0x100020 v b.dev = none := by
    unfold tlRefuses
    simp [hbits]
    omega
  have hregs := (regWrite_timeOrLink frameOffset_inTimeOrLink findBank_frameOffset org v b).2
    (by rw [show taken 0x100020 v = v from rfl, htl, linkRefuses_time (by decide)]; rfl)
  rw [show taken 0x100020 v = v from rfl, regStore_timeOrLink frameOffset_inTimeOrLink] at hregs
  refine ⟨b.dev.rwgWord 0x100020 (oneField 23), (setF TL_FRAME_OFFSET_ticks v b.dev).rwgWord 0x100020 (oneField 23),
    hregs.trans (congrArg (fun e => { b with dev := e }) ?_)⟩
  simp only [storeReg_frameOffset, hbits, timeOrLinkAfter_time (show 0x100020 < 0x500000 by decide), tlWriteAfter_frameOffset,
    show isGoverned (oneField 23) = true from rfl, if_true]

/-- A larger one is refused (R30). -/
theorem regWrite_frameOffset_refused {org : Origin} {v : Nat} (hv : 9830399 < v) (hm : v < 0x1000000) (b : Blk) :
    regWrite org false 0x100020 v b = onDev (setB TL_STATUS_param_refused true) b := by
  have hbits : bits v 23 0 = v := by rw [bits_zero, Nat.mod_eq_of_lt (by omega)]
  have htl : tlRefuses 0x100020 v b.dev = some (setB TL_STATUS_param_refused true) := by
    unfold tlRefuses
    rw [if_pos ⟨rfl, by rw [hbits]; exact hv⟩]
  exact (regWrite_timeOrLink frameOffset_inTimeOrLink findBank_frameOffset org v b).1 _
    (by rw [show taken 0x100020 v = v from rfl, htl]; rfl)

/-! ### The commands -/

section
variable {s : State} {org : Origin} (hrun : Running s) (horg : org = .host ∨ org = .firmware)
  (hq : (org = .host → s.d.hostWaits = false) ∧ (org = .firmware → s.d.key.fwStopped = false)) (hl : s.d.ledgerHolds = false)
include hrun horg hq hl

theorem exec_rateCommit (v : Word) : ∃ old new, exec (.rateCommit org v) s = .next (s.act (onDev fun d =>
    commitRate (signed 36 (s.d.f TL_RATE_HI_rate_hi * 0x100000000 + v.toNat))
      (governed org 0x100014 old new (setF TL_RATE_LO_rate_lo v.toNat (fresh d))))) := by
  obtain ⟨old, new, hw⟩ := regWrite_rateLo horg v.isLt (onDev fresh s.blk)
  refine ⟨old, new, (whileUp_up _ hrun.1).trans (congrArg (fun b => Host.Outcome.next { s with blk := b }) ?_)⟩
  rw [onDev_onDev] at hw
  exact (wordFrom_timeOrLink hrun horg hq rateLo_inTimeOrLink (by decide) v (.inr hl)).trans hw

theorem exec_frameOffsetWrite {v : Word} (hv : v.toNat ≤ 9830399) : ∃ old new, exec (.frameOffsetWrite org v) s = .next (s.act (onDev fun d =>
    governed org 0x100020 old new (setF TL_FRAME_OFFSET_ticks v.toNat (fresh d)))) := by
  obtain ⟨old, new, hw⟩ := regWrite_frameOffset (org := org) hv (onDev fresh s.blk)
  refine ⟨old, new, (whileUp_up _ hrun.1).trans (congrArg (fun b => Host.Outcome.next { s with blk := b }) ?_)⟩
  rw [onDev_onDev] at hw
  exact (wordFrom_timeOrLink hrun horg hq frameOffset_inTimeOrLink (by decide) v (.inr hl)).trans hw

theorem exec_frameOffsetWrite_refused {v : Word} (hv : 9830399 < v.toNat) (hm : v.toNat < 0x1000000) : exec (.frameOffsetWrite org v) s =
    .next (s.act (onDev fun d => setB TL_STATUS_param_refused true (fresh d))) := by
  have hw := regWrite_frameOffset_refused (org := org) hv hm (onDev fresh s.blk)
  refine (whileUp_up _ hrun.1).trans (congrArg (fun b => Host.Outcome.next { s with blk := b }) ?_)
  rw [onDev_onDev] at hw
  exact (wordFrom_timeOrLink hrun horg hq frameOffset_inTimeOrLink (by decide) v (.inr hl)).trans hw

end

/-- A committed value under role OFF shows in TL_RATE and is in force, within 100 ppm. -/
theorem commitRate_off {d : Dev} (h : d.f TL_ALIGN_CFG_role = 0) (v : Int) :
    (commitRate v d).f TL_RATE_LO_rate_lo = rateWord (clampRate v) % 0x100000000 ∧ (commitRate v d).t.r = clampRate v ∧
      (commitRate v d).t.rPend = none := by
  have hrole : (noteClamp v d).f TL_ALIGN_CFG_role = 0 := (f_noteClamp (by decide) (by decide) v d).trans h
  have hshow := (Wrote.none anyField (noteClamp v d)).showRate (by simp) (clampRate v)
  rw [commitRate_eq, putRate_off hrole]
  exact ⟨hshow.f (x := TL_RATE_LO_rate_lo) (by simp [ratePairs]), rfl, rfl⟩

theorem wrote_governed {P : Fld → Prop} {l : List (Fld × Nat)} {d e : Dev} {org : Origin} (horg : org = .host ∨ org = .firmware)
    (h : Wrote P l d e) (hl : ∀ p ∈ l, p.1.key ≠ DECK_SEAL_STAT_busy.key) (off old new : Nat) :
    Wrote P (l ++ [(DECK_SEAL_STAT_busy, 1)]) d (governed org off old new e) := by
  rw [governed_host horg]
  exact (h.advanceEpoch hl).regs (ledgerPut_regs ..)

end Sys2Proof.Machine
end
section
/-!
PROOF. The ALIGN frames (O14): what a leader sends, what a follower counts of a bad frame, takes from a good one, and records of a slip; and the wrap of
the ledger's epoch.
-/
namespace Sys2Proof.Machine

/-! ### A frame that is sent -/

theorem alignCrc_lt (payload : Nat) : alignCrc payload < 65536 := by
  unfold alignCrc
  refine foldl_keeps (fun c => c < 65536) _ _ (fun c i _ _ => ?_) _ (by decide)
  have hs : (c <<< 1) % 65536 < 2 ^ 16 := Nat.mod_lt _ (by decide)
  dsimp only
  split
  · exact Nat.xor_lt_two_pow hs (by decide)
  · exact hs

theorem rateDue_only (d : Dev) : ∃ r x, rateDue d = { d with t := { d.t with r := r, rCarried := x } } := by
  unfold rateDue
  split
  · split
    · exact ⟨_, _, rfl⟩
    · exact ⟨d.t.r, d.t.rCarried, rfl⟩
  · exact ⟨d.t.r, d.t.rCarried, rfl⟩

/-- A passage of time touches the instant and the counters of network and air time. -/
theorem passTo_air (at_ : Nat) (d : Dev) : ∃ n k f i, passTo at_ d =
    { d with now := max d.now at_, t := { d.t with ntU := n, tick := k, frame := f, fis := i } } := by
  unfold passTo
  split
  · unfold passTicks
    split
    · exact ⟨d.t.ntU, d.t.tick, d.t.frame, d.t.fis, by rw [show max d.now at_ = d.now + (at_ - d.now) by omega]⟩
    · exact ⟨_, _, _, _, by rw [show max d.now at_ = d.now + (at_ - d.now) by omega]⟩
  · exact ⟨d.t.ntU, d.t.tick, d.t.frame, d.t.fis, by rw [show max d.now at_ = d.now by omega]⟩

/-- The frame is sent at the leader's next frame boundary. -/
def sendBoundary (d : Dev) : Dev := rateDue (if d.t.tick = 0 then d else passTo d.nextFrame d)

theorem sendBoundary_only (d : Dev) : (sendBoundary d).regs = d.regs ∧ (sendBoundary d).t.alignSeq = d.t.alignSeq := by
  unfold sendBoundary
  obtain ⟨r, x, h⟩ := rateDue_only (if d.t.tick = 0 then d else passTo d.nextFrame d)
  obtain ⟨n, k, f, i, hp⟩ := passTo_air d.nextFrame d
  rw [h]
  split
  · exact ⟨rfl, rfl⟩
  · rw [hp]; exact ⟨rfl, rfl⟩

/-- The payload and its CRC go out, and the sequence counts. -/
def sendPayload (payload : Nat) (d : Dev) : Dev :=
  { d with t := { d.t with alignOut := payload <<< 16 ||| alignCrc payload, alignSeq := (d.t.alignSeq + 1) % 256 } }

/-- A committed value that waits for its ALIGN frame is carried by this one. -/
def carryRate (d : Dev) : Dev :=
  match d.t.rPend with
  | some v => { d with t := { d.t with rPend := none, rCarried := some (v, d.now + frameTicks) } }
  | none => d

theorem alignFrameSend_leader {d : Dev} (h : d.f TL_ALIGN_CFG_role = 1) : ∃ payload, alignFrameSend d = sendPayload payload (carryRate (sendBoundary d)) := by
  unfold alignFrameSend
  rw [if_pos h]
  exact ⟨_, rfl⟩

theorem carryRate_only (d : Dev) : (carryRate d).regs = d.regs ∧ (carryRate d).t.alignSeq = d.t.alignSeq := by
  unfold carryRate
  split <;> exact ⟨rfl, rfl⟩

theorem alignOut_crc (payload : Nat) : (payload <<< 16 ||| alignCrc payload) % 65536 = alignCrc ((payload <<< 16 ||| alignCrc payload) / 65536) := by
  have hc := alignCrc_lt payload
  rw [← Nat.shiftLeft_add_eq_or_of_lt (i := 16) hc, Nat.shiftLeft_eq]
  have hdiv : (payload * 2 ^ 16 + alignCrc payload) / 65536 = payload := by omega
  rw [hdiv]
  omega

theorem alignFrameSend_spec {d : Dev} (h : d.f TL_ALIGN_CFG_role = 1) : (alignFrameSend d).t.alignSeq = (d.t.alignSeq + 1) % 256 ∧
    (alignFrameSend d).t.alignOut % 65536 = alignCrc ((alignFrameSend d).t.alignOut / 65536) ∧ (alignFrameSend d).regs = d.regs := by
  obtain ⟨payload, hp⟩ := alignFrameSend_leader h
  obtain ⟨hregs, hseq⟩ := sendBoundary_only d
  obtain ⟨hregs', hseq'⟩ := carryRate_only (sendBoundary d)
  rw [hp]
  exact ⟨congrArg (fun n => (n + 1) % 256) (hseq'.trans hseq), alignOut_crc payload, hregs'.trans hregs⟩

/-! ### A bad frame -/

theorem alignBad_short {d : Dev} (h : d.t.alignRun < 2) : alignBad d = { d with t := { d.t with alignRun := d.t.alignRun + 1 } } := by
  unfold alignBad
  exact if_neg fun hc => by have : d.t.alignRun + 1 = 3 := hc.1; omega

theorem wrote_inc {P : Fld → Prop} {d e : Dev} (hr : e.regs = d.regs) {x : Fld} : Wrote P [(x, min (d.f x + 1) (x.size - 1))] d (incF x e) := by
  have hv : min (e.f x + 1) (x.size - 1) % x.size = min (d.f x + 1) (x.size - 1) := by
    have := x.size_pos
    rw [f_congr hr, Nat.mod_eq_of_lt (by omega)]
  have hw := ((Wrote.none P d).regs hr).set (x := x) (by simp) (min (e.f x + 1) (x.size - 1))
  rw [hv] at hw
  exact hw

/-- One bad frame, before the third in a row, is counted. -/
theorem badFrame_spec {d e : Dev} (hr : e.regs = d.regs) (ha : e.t.alignRun = d.t.alignRun) (h : d.t.alignRun < 2) (x : Fld) :
    Wrote anyField [(x, min (d.f x + 1) (x.size - 1))] d (alignBad (incF x e)) ∧ (alignBad (incF x e)).t.alignRun = d.t.alignRun + 1 := by
  rw [alignBad_short (d := incF x e) (by rw [show (incF x e).t = e.t from rfl, ha]; exact h)]
  exact ⟨(wrote_inc hr).regs rfl, congrArg (· + 1) ha⟩

theorem alignFrameMissed_spec {d : Dev} (hrole : d.f TL_ALIGN_CFG_role = 2) (h : d.t.alignRun < 2) :
    Wrote anyField [(TL_ALIGN_STAT_missing, min (d.f TL_ALIGN_STAT_missing + 1) 255)] d (alignFrameMissed d) ∧
      (alignFrameMissed d).t.alignRun = d.t.alignRun + 1 := by
  unfold alignFrameMissed
  rw [if_pos hrole]
  exact badFrame_spec rfl rfl h TL_ALIGN_STAT_missing

section
variable {d : Dev} (hrole : d.f TL_ALIGN_CFG_role = 2)
include hrole

/-- The follower at the base-clock edge that captures the frame's edge. -/
theorem captured_role : (passTo d.baseEdge d).f TL_ALIGN_CFG_role = 2 := (f_passTo ..).trans hrole

theorem alignFrameReceived_bad {payload crc : Nat} (hc : alignCrc payload ≠ crc) :
    alignFrameReceived payload crc d = alignBad (incF TL_ALIGN_STAT_crc_err (passTo d.baseEdge d)) := by
  unfold alignFrameReceived
  simp only [hrole, if_true, captured_role hrole, ne_eq, not_true_eq_false, if_false]
  exact if_pos hc

theorem alignFrameReceived_bad_spec {payload crc : Nat} (hc : alignCrc payload ≠ crc) (h : d.t.alignRun < 2) :
    Wrote anyField [(TL_ALIGN_STAT_crc_err, min (d.f TL_ALIGN_STAT_crc_err + 1) 255)] d (alignFrameReceived payload crc d) ∧
      (alignFrameReceived payload crc d).t.alignRun = d.t.alignRun + 1 := by
  obtain ⟨n, k, f, i, hp⟩ := passTo_air d.baseEdge d
  rw [alignFrameReceived_bad hrole hc]
  exact badFrame_spec (by rw [hp]) (by rw [hp]) h TL_ALIGN_STAT_crc_err

end

end Sys2Proof.Machine
end
section
/-!
PROOF. A good ALIGN frame (O14): the follower that tracks its leader, the slip of an edge, and the edge that TL_CMD.align waits for.
-/
namespace Sys2Proof.Machine

/-! ### The air timeline is placed -/

theorem phaseWaits_only (bs : List Nat) (d : Dev) : ∃ s, forAll bs (fun b e =>
    if e.phaseWaits b then modBay b (fun s => { s with alignAt := e.nextSubframe 0 }) e else e) d = { d with bays := s } := by
  refine foldl_keeps (fun e => ∃ s, e = { d with bays := s }) (fun (e : Dev) b => if e.phaseWaits b then
    modBay b (fun s => { s with alignAt := e.nextSubframe 0 }) e else e) _ (fun e b _ he => ?_) _ ⟨d.bays, rfl⟩
  obtain ⟨s, rfl⟩ := he
  split
  · exact ⟨_, rfl⟩
  · exact ⟨s, rfl⟩

theorem rephase_only (d : Dev) : ∃ l s, rephase d = { d with ldg := l, bays := s } := by
  unfold rephase
  obtain ⟨s, h⟩ := phaseWaits_only (List.range 8)
    { d with ldg := { d.ldg with loopsEnd := if d.now < d.ldg.loopsEnd then d.intervalEnd else d.ldg.loopsEnd } }
  exact ⟨_, s, h⟩

theorem placeAir_only (tick frame fis : Nat) (d : Dev) : ∃ u w l s, placeAir tick frame fis d =
    { d with t := { d.t with ntU := u, wraps := w, tick := tick, frame := frame, fis := fis }, ldg := l, bays := s } := by
  unfold placeAir
  extract_lets a b u
  obtain ⟨l, s, h⟩ := rephase_only { d with t := { d.t with
    ntU := u, wraps := u / wrapUnits - (d.t.ntU / wrapUnits - d.t.wraps), tick := tick, frame := frame, fis := fis } }
  exact ⟨u, _, l, s, h⟩

/-! ### What the later steps of a good frame leave -/

/-- The place of the air timeline, r in force and the instant are as they were. -/
structure KeepsAir (d e : Dev) : Prop where
  now : e.now = d.now
  tick : e.t.tick = d.t.tick
  frame : e.t.frame = d.t.frame
  fis : e.t.fis = d.t.fis
  r : e.t.r = d.t.r
  armed : e.t.alignArmed = d.t.alignArmed

theorem KeepsAir.of_t {d e : Dev} (hn : e.now = d.now) (ht : e.t = d.t) : KeepsAir d e :=
  ⟨hn, congrArg (·.tick) ht, congrArg (·.frame) ht, congrArg (·.fis) ht, congrArg (·.r) ht, congrArg (·.alignArmed) ht⟩

theorem KeepsAir.trans {d e g : Dev} (h : KeepsAir d e) (k : KeepsAir e g) : KeepsAir d g :=
  ⟨k.now.trans h.now, k.tick.trans h.tick, k.frame.trans h.frame, k.fis.trans h.fis, k.r.trans h.r, k.armed.trans h.armed⟩

theorem KeepsAir.ite {d e g : Dev} (c : Prop) [Decidable c] (h : KeepsAir d e) (k : KeepsAir d g) : KeepsAir d (if c then e else g) := by
  split
  · exact h
  · exact k

theorem keepsAir_setQuality (q : Nat) (d : Dev) : KeepsAir d (setQuality q d) := by
  obtain ⟨r, x, h⟩ := setQuality_only q d
  rw [h]
  exact ⟨rfl, rfl, rfl, rfl, rfl, rfl⟩

theorem pend_ne_quality {hi lo rst : Nat} (w : Nat) (hw : w < 5) :
    (DECK_EVT_PEND_pend w).key ≠ (⟨0x10000C, hi, lo, rst⟩ : Fld).key := by
  simp only [DECK_EVT_PEND_pend, Fld.key]
  omega

theorem mono_setQuality (q : Nat) (d : Dev) : EvMono d (setQuality q d) := by
  obtain ⟨x, hx⟩ := oweReport_only q d
  have hput : EvMono d (putQuality q (oweReport q d)) := by
    rw [hx]
    exact ((((EvMono.refl d).regs (g := { d with xk := x }) rfl).set TL_QUALITY_state pend_ne_quality _).set
      TL_QUALITY_tx_permit pend_ne_quality _).regs rfl
  have hstep : EvMono d (if q = 0 then setB TL_QUALITY_stepped false (putQuality q (oweReport q d)) else putQuality q (oweReport q d)) :=
    .ite _ (hput.set TL_QUALITY_stepped pend_ne_quality _) hput
  rw [setQuality_eq]
  refine .ite _ (hstep.trans ?_) hstep
  refine mono_forAll _ _ (fun b _ e => .ite _ ((EvMono.refl e).set _ (fun w hw => ?_) _) (.refl e)) _
  have hb := bayBase_le b
  simp only [DECK_EVT_PEND_pend, BAY_FE_STAT_mute_cause, Fld.key]
  omega

/-- A move that the leader reports raises at most one event. -/
theorem carriedEvent_cases (old new : Nat) (d : Dev) : carriedEvent old new d = d ∨ ∃ n, n < 160 ∧ carriedEvent old new d = raise0 n d := by
  unfold carriedEvent
  split
  · exact .inr ⟨0, by decide, rfl⟩
  · exact .inr ⟨0, by decide, rfl⟩
  · exact .inr ⟨0, by decide, rfl⟩
  · exact .inr ⟨1, by decide, rfl⟩
  · exact .inr ⟨2, by decide, rfl⟩
  · exact .inr ⟨8, by decide, rfl⟩
  · exact .inl rfl

/-- The follower notes what its leader carries. -/
def noteLeader (q : Nat) (d : Dev) : Dev :=
  let first := q == 3 && !(d.t.alignLive && d.t.alignCarried == 3)
  let e := { d with t := { d.t with alignCarried := q, alignLive := true } } |> setB TL_QUALITY_follower true
  if first then errFrom 0 e.now e else e

theorem carryQuality_eq (q : Nat) (d : Dev) : carryQuality q d =
    if d.quality = q then noteLeader q d else carriedEvent d.quality q (setQuality q (noteLeader q d)) := rfl

theorem noteLeader_regs (q : Nat) (d : Dev) : (noteLeader q d).regs = (setB TL_QUALITY_follower true d).regs := by
  unfold noteLeader
  dsimp only
  split <;> rfl

theorem errFrom_only (m a : Nat) (d : Dev) : ∃ l, errFrom m a d = { d with t := { d.t with eLast := l, eAt := a } } := ⟨_, rfl⟩

/-- What it notes lies beside the place of its timeline. -/
theorem keepsAir_noteLeader (q : Nat) (d : Dev) : KeepsAir d (noteLeader q d) ∧ (noteLeader q d).t.alignLive = true ∧
    (noteLeader q d).t.rCarried = d.t.rCarried ∧ (noteLeader q d).t.alignRun = d.t.alignRun := by
  unfold noteLeader
  extract_lets first _ e
  obtain ⟨l, h⟩ := errFrom_only 0 e.now e
  rw [h]
  split <;> exact ⟨⟨rfl, rfl, rfl, rfl, rfl, rfl⟩, rfl, rfl, rfl⟩

/-- The fields that a carried quality leaves: those below the pier windows that no event touches, but for TL_QUALITY's. -/
structure BesideQuality (x : Fld) : Prop where
  free : evFree x
  low : x.off < 0x3000000
  other : x.off ≠ 0x10000C

theorem BesideQuality.ne_quality {x : Fld} (h : BesideQuality x) {hi lo rst : Nat} (hl : lo < 32) : x.key ≠ (⟨0x10000C, hi, lo, rst⟩ : Fld).key := by
  have hx := h.free.1
  have ho := h.other
  simp only [Fld.key]
  omega

theorem f_setQuality {x : Fld} (h : BesideQuality x) (q : Nat) (d : Dev) : (setQuality q d).f x = d.f x := by
  have hlow : BelowPiers x := ⟨h.free.1, h.low⟩
  by_cases hq : q = 0
  · subst hq
    refine (wrote_setQuality_free (P := anyField) d).2 x trivial ?_
    simp only [List.forall_mem_cons]
    exact ⟨h.ne_quality (by decide), h.ne_quality (by decide), h.ne_quality (by decide), by simp⟩
  · refine (wrote_setQuality (by omega) d).2 x hlow ?_
    simp only [List.forall_mem_cons]
    exact ⟨h.ne_quality (by decide), h.ne_quality (by decide), by simp⟩

theorem f_carryQuality {x : Fld} (h : BesideQuality x) (q : Nat) (d : Dev) : (carryQuality q d).f x = d.f x := by
  have hnote : (noteLeader q d).f x = d.f x := (f_congr (noteLeader_regs q d) x).trans (f_setB_other (h.ne_quality (by decide)) ..)
  rw [carryQuality_eq]
  split
  · exact hnote
  · refine Eq.trans ?_ ((f_setQuality h q _).trans hnote)
    obtain he | ⟨n, hn, he⟩ := carriedEvent_cases d.quality q (setQuality q (noteLeader q d))
    · rw [he]
    · rw [he]; exact f_raise0 h.free hn _

theorem keepsAir_carryQuality (q : Nat) (d : Dev) : KeepsAir d (carryQuality q d) := by
  have hnote := (keepsAir_noteLeader q d).1
  rw [carryQuality_eq]
  refine .ite _ hnote ((hnote.trans (keepsAir_setQuality q _)).trans ?_)
  obtain he | ⟨n, hn, he⟩ := carriedEvent_cases d.quality q (setQuality q (noteLeader q d))
  · rw [he]; exact .of_t rfl rfl
  · rw [he]; exact .of_t (raise0_now hn _) (raise0_t hn _)

theorem mono_carryQuality (q : Nat) (d : Dev) : EvMono d (carryQuality q d) := by
  have hnote : EvMono d (noteLeader q d) := ((EvMono.refl d).set TL_QUALITY_follower pend_ne_quality 1).regs (noteLeader_regs q d)
  rw [carryQuality_eq]
  refine .ite _ hnote ((hnote.trans (mono_setQuality q _)).trans ?_)
  obtain he | ⟨n, hn, he⟩ := carriedEvent_cases d.quality q (setQuality q (noteLeader q d))
  · rw [he]; exact .refl _
  · rw [he]; exact (evPending_raise n hn ..).2

theorem quality_setQuality {q : Nat} (hq : q < 8) (d : Dev) : (setQuality q d).quality = q := by
  obtain rfl | h := Nat.eq_zero_or_pos q
  · exact (wrote_setQuality_free (P := anyField) d).f (x := TL_QUALITY_state) (by simp)
  · exact (wrote_setQuality h d).f (x := TL_QUALITY_state) (v := q) (by simp [Nat.mod_eq_of_lt hq])

theorem quality_carryQuality {q : Nat} (hq : q < 8) (d : Dev) : (carryQuality q d).quality = q := by
  rw [carryQuality_eq]
  split
  next h =>
    refine Eq.trans ?_ h
    exact (f_congr (noteLeader_regs q d) _).trans (f_setB_other (by decide) ..)
  next h =>
    refine Eq.trans ?_ (quality_setQuality hq (noteLeader q d))
    obtain he | ⟨n, hn, he⟩ := carriedEvent_cases d.quality q (setQuality q (noteLeader q d))
    · rw [he]
    · rw [he]; exact f_raise0 (by decide) hn _

end Sys2Proof.Machine
end
section
/-!
PROOF. A good ALIGN frame at each follower (O14), the commands of the alignment, and the wrap of the ledger's epoch.
-/
namespace Sys2Proof.Machine

/-! ### The rate that a frame carries -/

theorem rateWord_signed {v : Nat} (h : v < 2 ^ 36) : rateWord (signed 36 v) = v := by
  unfold rateWord signed
  split <;> omega

theorem bits_lt (w hi lo : Nat) : bits w hi lo < 2 ^ (hi + 1 - lo) := Nat.mod_lt _ (by positivity)

/-- TL_RATE shows the payload's own bits. -/
theorem ratePairs_payload (payload : Nat) : ratePairs (signed 36 (bits payload 35 0)) =
    [(TL_RATE_LO_rate_lo, payload % 0x100000000), (TL_RATE_HI_rate_hi, bits payload 35 32)] := by
  have hlow : bits payload 35 0 % 0x100000000 = payload % 0x100000000 := by
    show payload % 2 ^ 36 % 0x100000000 = _
    omega
  have hhigh : bits payload 35 0 / 0x100000000 = bits payload 35 32 := by
    show payload % 2 ^ 36 / 0x100000000 = (payload >>> 32) % 2 ^ 4
    rw [Nat.shiftRight_eq_div_pow]
    omega
  unfold ratePairs
  rw [rateWord_signed (bits_lt ..), hlow, hhigh]

/-- The value of r that the boundary at this instant leaves in force depends on what is carried and on the instant alone. -/
theorem rateDue_r {d e : Dev} (hx : e.t.rCarried = d.t.rCarried) (hr : e.t.r = d.t.r) (hn : e.now = d.now) : (rateDue e).t.r = (rateDue d).t.r := by
  unfold rateDue
  rw [hx]
  obtain _ | ⟨v, t⟩ := d.t.rCarried
  · exact hr
  · dsimp only
    rw [hn]
    split
    · rfl
    · exact hr

/-- A value of r is carried from a boundary on, and shows. -/
def loadRate (v : Int) (d : Dev) : Dev :=
  showRate v { d with t := { d.t with rCarried := some (v, ((d.now : Int) - d.fromBoundary).toNat + frameTicks), alignRun := 0 } }

theorem alignLoad_eq (payload : Nat) (d : Dev) : alignLoad payload d = loadRate (signed 36 (bits payload 35 0)) (rateDue d) := rfl

theorem loadRate_only (v : Int) (d : Dev) : (loadRate v d).regs = (showRate v d).regs ∧ (loadRate v d).now = d.now ∧
    (loadRate v d).t = { d.t with rCarried := some (v, ((d.now : Int) - d.fromBoundary).toNat + frameTicks), alignRun := 0 } := ⟨rfl, rfl, rfl⟩

/-- A frame's r is carried; the timeline's place stays. -/
theorem alignLoad_only (payload : Nat) (d : Dev) : (alignLoad payload d).regs = (showRate (signed 36 (bits payload 35 0)) d).regs ∧
    (alignLoad payload d).now = d.now ∧ (alignLoad payload d).t = { d.t with
      r := (rateDue d).t.r
      rCarried := some (signed 36 (bits payload 35 0), ((d.now : Int) - d.fromBoundary).toNat + frameTicks)
      alignRun := 0 } := by
  obtain ⟨r, x, h⟩ := rateDue_only d
  obtain ⟨hregs, hnow, ht⟩ := loadRate_only (signed 36 (bits payload 35 0)) (rateDue d)
  rw [alignLoad_eq, hregs, hnow, ht, h]
  exact ⟨rfl, rfl, rfl⟩

/-! ### The frame at its follower -/

/-- The slip of an edge is recorded and reported. -/
def noteSlip (d : Dev) : Dev := raise0 10 (setF TL_ALIGN_STAT_last_dev ((max (-8) (min 7 d.alignSlip)) % 16).toNat d)

/-- The frame that the payload names is placed at the edge's distance from the follower's own boundary. -/
def placeFrame (payload : Nat) (back : Bool) (tick : Nat) (d : Dev) : Dev :=
  alignLoad payload (placeAir tick (alignFrames payload back).1 (alignFrames payload back).2 d)

/-- The alignment itself: the timeline is placed, r carried and the actions of a step made. -/
def alignHere (payload : Nat) (d : Dev) : Dev :=
  setB TL_QUALITY_stepped true (stepActions (placeFrame payload (decide (0 < d.alignComp)) ((-8 * d.alignComp) % 9830400).toNat
    { d with t := { d.t with alignArmed := false } }))

section
variable {d : Dev} {payload crc : Nat} (hrole : d.f TL_ALIGN_CFG_role = 2) (hc : alignCrc payload = crc)
include hrole hc

theorem alignFrameReceived_tracked (harm : d.t.alignArmed = false) (hon : d.on TL_ALIGN_STAT_aligned = true) :
    alignFrameReceived payload crc d = carryQuality (bits payload 48 46) (placeFrame payload (decide ((passTo d.baseEdge d).fromBoundary < 0))
      (passTo d.baseEdge d).t.tick (onlyIf ((passTo d.baseEdge d).alignSlip != 0) noteSlip (passTo d.baseEdge d))) := by
  have harm' : (passTo d.baseEdge d).t.alignArmed = false := by
    obtain ⟨n, k, f, i, hp⟩ := passTo_air d.baseEdge d
    rw [hp]; exact harm
  have hon' : (passTo d.baseEdge d).on TL_ALIGN_STAT_aligned = true := (congrArg (· == 1) (f_passTo ..)).trans hon
  unfold alignFrameReceived
  simp only [hrole, if_true, captured_role hrole, ne_eq, not_true_eq_false, if_false, hc, harm', hon', Bool.false_eq_true]
  rfl

theorem alignFrameReceived_armed (harm : d.t.alignArmed = true) : alignFrameReceived payload crc d =
    setB TL_ALIGN_STAT_aligned true (carryQuality (bits payload 48 46) (alignHere payload (passTo d.baseEdge d))) := by
  have harm' : (passTo d.baseEdge d).t.alignArmed = true := by
    obtain ⟨n, k, f, i, hp⟩ := passTo_air d.baseEdge d
    rw [hp]; exact harm
  unfold alignFrameReceived
  simp only [hrole, if_true, captured_role hrole, ne_eq, not_true_eq_false, if_false, hc, harm']
  rfl

end

/-! ### What the frame leaves of its follower -/

theorem fromBoundary_congr {d e : Dev} (h : e.t.tick = d.t.tick) : e.fromBoundary = d.fromBoundary := by
  unfold Dev.fromBoundary
  rw [h]

theorem alignComp_congr {d e : Dev} (h : e.regs = d.regs) : e.alignComp = d.alignComp := congrArg (signed 4) (f_congr h _)

/-- A frame placed at a tick shows its r, carries it to the boundary after that tick, and moves frame and second with it. -/
structure Placed (payload : Nat) (back : Bool) (tick : Nat) (d e : Dev) : Prop where
  regs : e.regs = (showRate (signed 36 (bits payload 35 0)) d).regs
  now : e.now = d.now
  tick : e.t.tick = tick
  frame : e.t.frame = (alignFrames payload back).1
  fis : e.t.fis = (alignFrames payload back).2
  r : e.t.r = (rateDue d).t.r
  carried : e.t.rCarried = some (signed 36 (bits payload 35 0), ((e.now : Int) - e.fromBoundary).toNat + frameTicks)
  run : e.t.alignRun = 0
  armed : e.t.alignArmed = d.t.alignArmed

/-- A frame's load, once its follower stands at a place of the timeline. -/
theorem placed_alignLoad {payload tick : Nat} {back : Bool} {d p : Dev} {u w : Nat} {l : LedgerSt} {s : List (Nat × BaySt)}
    (h : p = { d with
      t := { d.t with ntU := u, wraps := w, tick := tick, frame := (alignFrames payload back).1, fis := (alignFrames payload back).2 }, ldg := l, bays := s }) :
    Placed payload back tick d (alignLoad payload p) := by
  obtain ⟨hregs, hnow, ht⟩ := alignLoad_only payload p
  have hr : (rateDue p).t.r = (rateDue d).t.r := rateDue_r (by rw [h]) (by rw [h]) (by rw [h])
  have hback : (alignLoad payload p).fromBoundary = p.fromBoundary := fromBoundary_congr ((congrArg TimeSt.tick ht).trans rfl)
  refine ⟨hregs.trans ?_, hnow.trans (by rw [h]), (congrArg TimeSt.tick ht).trans (by rw [h]), (congrArg TimeSt.frame ht).trans (by rw [h]),
    (congrArg TimeSt.fis ht).trans (by rw [h]), (congrArg TimeSt.r ht).trans hr, ?_, congrArg TimeSt.alignRun ht,
    (congrArg TimeSt.alignArmed ht).trans (by rw [h])⟩
  · unfold showRate setF
    rw [h]
  · rw [hback, hnow]
    exact congrArg TimeSt.rCarried ht

theorem placed_placeFrame (payload : Nat) (back : Bool) (tick : Nat) (d : Dev) : Placed payload back tick d (placeFrame payload back tick d) := by
  obtain ⟨u, w, l, s, h⟩ := placeAir_only tick (alignFrames payload back).1 (alignFrames payload back).2 d
  exact placed_alignLoad h

theorem Placed.f {payload tick : Nat} {back : Bool} {d e : Dev} (h : Placed payload back tick d e) {x : Fld}
    (hl : x.key ≠ TL_RATE_LO_rate_lo.key) (hh : x.key ≠ TL_RATE_HI_rate_hi.key) : e.f x = d.f x :=
  (f_congr h.regs x).trans (f_showRate hl hh ..)

/-- The frame's own numbers, where the follower's boundary is not ahead of the edge. -/
theorem Placed.numbers {payload tick : Nat} {d e : Dev} (h : Placed payload false tick d e) :
    e.t.frame = bits payload 45 36 % 1024 ∧ e.t.fis = bits payload 55 49 % 100 := ⟨h.frame, h.fis⟩

theorem mono_placed {payload tick : Nat} {back : Bool} {d e : Dev} (h : Placed payload back tick d e) : EvMono d e :=
  (((EvMono.refl d).set TL_RATE_LO_rate_lo (by decide) _).set TL_RATE_HI_rate_hi (by decide) _).regs h.regs

/-- A slip within last_dev's range is recorded as it is. -/
theorem lastDev_noteSlip {d : Dev} (hl : -8 ≤ d.alignSlip) (hu : d.alignSlip ≤ 7) :
    signed 4 ((noteSlip d).f TL_ALIGN_STAT_last_dev) = d.alignSlip := by
  have hf : (noteSlip d).f TL_ALIGN_STAT_last_dev = (d.alignSlip % 16).toNat := by
    refine (f_raise0 (by decide) (by decide) _).trans ((f_setF_same ..).trans ?_)
    rw [show max (-8) (min 7 d.alignSlip) = d.alignSlip by omega]
    exact Nat.mod_eq_of_lt (by show _ < 16; omega)
  rw [hf]
  unfold signed
  split <;> omega

end Sys2Proof.Machine
end
section
/-!
PROOF. The rate correction and the ALIGN frames (O14): each frame at its follower, the commands, and the obligation.
-/
namespace Sys2Proof.Machine

/-! ### The frame at a follower that tracks its leader -/

theorem passTo_baseEdge_now (d : Dev) : (passTo d.baseEdge d).now = d.baseEdge := by
  rw [passTo_now]
  unfold Dev.baseEdge
  omega

/-- A quality that is already the follower's own is only noted. -/
theorem carryQuality_same {q : Nat} {d : Dev} (h : d.quality = q) : carryQuality q d = noteLeader q d := by
  rw [carryQuality_eq, if_pos h]

theorem Wrote.noteLeader {P : Fld → Prop} {l : List (Fld × Nat)} {d e : Dev} (h : Wrote P l d e) (hl : ∀ p ∈ l, p.1.key ≠ TL_QUALITY_follower.key)
    (q : Nat) : Wrote P (l ++ [(TL_QUALITY_follower, 1)]) d (noteLeader q e) := (h.set hl 1).regs (noteLeader_regs q e)

theorem wrote_placed {payload tick : Nat} {back : Bool} {d e : Dev} (h : Placed payload back tick d e) :
    Wrote anyField [(TL_RATE_LO_rate_lo, payload % 0x100000000), (TL_RATE_HI_rate_hi, bits payload 35 32)] d e := by
  have hw := ((Wrote.none anyField d).showRate (by simp) (signed 36 (bits payload 35 0))).regs h.regs
  rw [ratePairs_payload] at hw
  exact hw

section
variable {d u : Dev} {payload crc : Nat} (hrole : d.f TL_ALIGN_CFG_role = 2) (hc : alignCrc payload = crc) (hu : u = passTo d.baseEdge d)
include hrole hc hu

/-- An edge on the follower's own boundary, from a leader of its own quality. -/
theorem tracked_onBoundary (harm : d.t.alignArmed = false) (hon : d.on TL_ALIGN_STAT_aligned = true) (hs : u.alignSlip = 0)
    (hq : bits payload 48 46 = d.quality) : ∃ p, Placed payload (decide (u.fromBoundary < 0)) u.t.tick u p ∧
      alignFrameReceived payload crc d = noteLeader (bits payload 48 46) p := by
  subst hu
  have hplaced := placed_placeFrame payload (decide ((passTo d.baseEdge d).fromBoundary < 0)) (passTo d.baseEdge d).t.tick (passTo d.baseEdge d)
  refine ⟨_, hplaced, ?_⟩
  have hquality := (hplaced.f (x := TL_QUALITY_state) (by decide) (by decide)).trans (f_passTo ..)
  rw [alignFrameReceived_tracked hrole hc harm hon, hs]
  exact carryQuality_same (hquality.trans hq.symm)

/-- A slip is recorded and reported, and the timeline keeps its own place. -/
theorem tracked_slipped (harm : d.t.alignArmed = false) (hon : d.on TL_ALIGN_STAT_aligned = true) (hs : u.alignSlip ≠ 0)
    (hl : -8 ≤ u.alignSlip) (hh : u.alignSlip ≤ 7) : signed 4 ((alignFrameReceived payload crc d).f TL_ALIGN_STAT_last_dev) = u.alignSlip ∧
      (alignFrameReceived payload crc d).evPending 10 = true ∧ (alignFrameReceived payload crc d).t.tick = u.t.tick := by
  rw [alignFrameReceived_tracked hrole hc harm hon, ← hu]
  rw [show onlyIf (u.alignSlip != 0) noteSlip u = noteSlip u from if_pos (bne_iff_ne.mpr hs)]
  have hplaced := placed_placeFrame payload (decide (u.fromBoundary < 0)) u.t.tick (noteSlip u)
  refine ⟨?_, ?_, (keepsAir_carryQuality ..).tick.trans hplaced.tick⟩
  · rw [f_carryQuality ⟨by decide, by decide, by decide⟩, hplaced.f (by decide) (by decide)]
    exact lastDev_noteSlip hl hh
  · exact (mono_placed hplaced).trans (mono_carryQuality _ _) 10 (by decide) (evPending_raise0 (by decide) _)

end

/-! ### The edge that an alignment waits for -/

theorem stepActions_now (d : Dev) : (stepActions d).now = d.now := by
  unfold stepActions
  exact ledgerPut_now ..

/-- The frame boundary comes comp base cycles after the edge. -/
theorem alignTick {d : Dev} (h : d.alignComp ≤ 0) : (((-8 * d.alignComp) % 9830400).toNat : Int) = -8 * d.alignComp := by
  have hlow : -8 ≤ d.alignComp := by
    have hf : d.f TL_ALIGN_CFG_comp < 16 := f_lt d TL_ALIGN_CFG_comp
    unfold Dev.alignComp signed
    split <;> omega
  omega

theorem alignHere_spec {d : Dev} (payload : Nat) (h : d.alignComp ≤ 0) : (alignHere payload d).t.alignArmed = false ∧
    ((alignHere payload d).t.tick : Int) = -8 * d.alignComp ∧ (alignHere payload d).t.frame = bits payload 45 36 % 1024 ∧
    (alignHere payload d).t.fis = bits payload 55 49 % 100 ∧ (alignHere payload d).t.r = (rateDue d).t.r ∧ (alignHere payload d).now = d.now := by
  unfold alignHere
  rw [show decide (0 < d.alignComp) = false from decide_eq_false (by omega)]
  have hplaced := placed_placeFrame payload false ((-8 * d.alignComp) % 9830400).toNat { d with t := { d.t with alignArmed := false } }
  generalize placeFrame payload false ((-8 * d.alignComp) % 9830400).toNat { d with t := { d.t with alignArmed := false } } = p at hplaced
  have ht : (setB TL_QUALITY_stepped true (stepActions p)).t = p.t := stepActions_t p
  have hn : (setB TL_QUALITY_stepped true (stepActions p)).now = p.now := stepActions_now p
  rw [ht, hn, hplaced.tick, alignTick h]
  exact ⟨hplaced.armed, rfl, hplaced.numbers.1, hplaced.numbers.2, hplaced.r.trans (rateDue_r rfl rfl rfl), hplaced.now⟩

/-- The edge places the timeline, and the follower is aligned. -/
theorem armed_spec {d : Dev} {payload crc : Nat} (hrole : d.f TL_ALIGN_CFG_role = 2) (hc : alignCrc payload = crc) (harm : d.t.alignArmed = true)
    (h : d.alignComp ≤ 0) : (alignFrameReceived payload crc d).t.alignArmed = false ∧
      (alignFrameReceived payload crc d).on TL_ALIGN_STAT_aligned = true ∧
      ((alignFrameReceived payload crc d).t.tick : Int) = -8 * d.alignComp ∧
      (alignFrameReceived payload crc d).t.frame = bits payload 45 36 % 1024 ∧
      (alignFrameReceived payload crc d).t.fis = bits payload 55 49 % 100 ∧
      (alignFrameReceived payload crc d).quality = bits payload 48 46 ∧
      (alignFrameReceived payload crc d).t.r = (rateDue (passTo d.baseEdge d)).t.r ∧
      (alignFrameReceived payload crc d).now = d.baseEdge := by
  have hcomp : (passTo d.baseEdge d).alignComp = d.alignComp := alignComp_congr (passTo_regs ..)
  obtain ⟨hoff, htick, hframe, hfis, hr, hnow⟩ := alignHere_spec payload (hcomp.trans_le h)
  rw [alignFrameReceived_armed hrole hc harm]
  have hkeep := keepsAir_carryQuality (bits payload 48 46) (alignHere payload (passTo d.baseEdge d))
  have hq := quality_carryQuality (bits_lt payload 48 46) (alignHere payload (passTo d.baseEdge d))
  generalize carryQuality (bits payload 48 46) (alignHere payload (passTo d.baseEdge d)) = c at hkeep hq
  have hquality : (setB TL_ALIGN_STAT_aligned true c).quality = c.quality := f_setB_other (by decide) ..
  have haligned : (setB TL_ALIGN_STAT_aligned true c).on TL_ALIGN_STAT_aligned = true := on_eq_of_f (v := 1) (f_setF_same ..)
  exact ⟨hkeep.armed.trans hoff, haligned, by rw [← hcomp, ← htick]; exact congrArg Nat.cast hkeep.tick, hkeep.frame.trans hframe,
    hkeep.fis.trans hfis, hquality.trans hq, hkeep.r.trans hr, hkeep.now.trans (hnow.trans (passTo_baseEdge_now d))⟩

/-! ### TL_CMD.align -/

section
variable {s : State} (hrun : Running s) (hq : s.d.hostWaits = false)
include hrun hq

theorem exec_align (hr : s.d.inReady = true) (hrole : s.d.f TL_ALIGN_CFG_role = 2) : exec .align s =
    .next (s.act (onDev fun d => alignCmd (fresh d))) := by
  have hbad : (fresh s.d).alignCmdBad 2 = false := by
    unfold Dev.alignCmdBad
    rw [show (fresh s.d).inReady = true from hr, show (fresh s.d).f TL_ALIGN_CFG_role = 2 from hrole]; rfl
  have hw := regWrite_tlCmd (v := 2) (b := onDev fresh s.blk) rfl (by rw [onDev_dev, hbad]) .host
  rw [show tlCmd .host 2 = alignCmd from rfl, onDev_onDev] at hw
  exact (exec_tlCmd hrun hq (by decide) (.inl (by decide +kernel))).trans (congrArg (fun b => Host.Outcome.next { s with blk := b }) hw)

theorem exec_align_refused (hr : s.d.inReady = false ∨ s.d.f TL_ALIGN_CFG_role ≠ 2) : exec .align s =
    .next (s.act (onDev fun d => setB TL_STATUS_align_refused true (fresh d))) := by
  have hbad : (fresh s.d).alignCmdBad 2 = true := by
    have hcond : (s.d.inReady && s.d.f TL_ALIGN_CFG_role == 2) = false := by
      obtain hr | hr := hr
      · rw [hr]; rfl
      · rw [beq_eq_false_iff_ne.mpr hr, Bool.and_false]
    show (true && !(s.d.inReady && s.d.f TL_ALIGN_CFG_role == 2)) = true
    rw [hcond]; rfl
  have hstep : (fresh s.d).restepBad 2 = false := rfl
  have hw := regWrite_tlCmd_refused (v := 2) (b := onDev fresh s.blk) (by rw [onDev_dev, hbad]; rfl) .host
  rw [onDev_dev, hbad, hstep, onDev_onDev] at hw
  simp only [onlyIf, if_true, Bool.false_eq_true, if_false] at hw
  exact (exec_tlCmd hrun hq (by decide) (.inl (by decide +kernel))).trans (congrArg (fun b => Host.Outcome.next { s with blk := b }) hw)

end

/-! ### The wrap of the ledger's epoch -/

/-- The air tick of a wrap of TL_NT is passed by less than a tick. -/
theorem wrap_reached (u : Nat) : (u + 3125 * ((wrapUnits - u % wrapUnits + 3124) / 3125)) / wrapUnits = u / wrapUnits + 1 ∧
    (u + 3125 * ((wrapUnits - u % wrapUnits + 3124) / 3125)) % wrapUnits < 3125 := by
  unfold wrapUnits
  omega

/-- The epoch counts the wraps that TL_NT has passed, one at a time. -/
def countWrap (d : Dev) : Dev :=
  setF LEDGER_EPOCH_epoch (d.f LEDGER_EPOCH_epoch + 1) { d with t := { d.t with wraps := min (d.t.wraps + 1) (d.t.ntU / wrapUnits) } }

theorem ledgerEpochWrap_counted {d : Dev} (h : d.t.wraps = d.t.ntU / wrapUnits) :
    ledgerEpochWrap d = countWrap (passTicks ((wrapUnits - d.t.ntU % wrapUnits + 3124) / 3125) d) := by
  unfold ledgerEpochWrap
  rw [if_neg (by omega)]
  rfl

theorem passTicks_wraps (n : Nat) (d : Dev) : (passTicks n d).t.wraps = d.t.wraps ∧ (passTicks n d).regs = d.regs := by
  unfold passTicks
  split <;> exact ⟨rfl, rfl⟩

theorem ledgerEpochWrap_spec {d : Dev} (hs : d.t.stopped = false) (h : d.t.wraps = d.t.ntU / wrapUnits) :
    (ledgerEpochWrap d).f LEDGER_EPOCH_epoch = (d.f LEDGER_EPOCH_epoch + 1) % LEDGER_EPOCH_epoch.size ∧ (ledgerEpochWrap d).nt < 4 ∧
      (ledgerEpochWrap d).t.ntU / wrapUnits = d.t.ntU / wrapUnits + 1 ∧
      (ledgerEpochWrap d).t.wraps = (ledgerEpochWrap d).t.ntU / wrapUnits := by
  rw [ledgerEpochWrap_counted h]
  obtain ⟨hdiv, hmod⟩ := wrap_reached d.t.ntU
  have hnt := passTicks_ntU hs ((wrapUnits - d.t.ntU % wrapUnits + 3124) / 3125)
  obtain ⟨hw, hregs⟩ := passTicks_wraps ((wrapUnits - d.t.ntU % wrapUnits + 3124) / 3125) d
  generalize passTicks ((wrapUnits - d.t.ntU % wrapUnits + 3124) / 3125) d = e at hnt hw hregs
  rw [← hnt] at hdiv hmod
  have hcount : (countWrap e).t.wraps = min (e.t.wraps + 1) (e.t.ntU / wrapUnits) := rfl
  have htime : (countWrap e).t.ntU = e.t.ntU := rfl
  refine ⟨(f_setF_same ..).trans (by rw [f_congr hregs]), ?_, by rw [htime, hdiv], by rw [hcount, htime, hw, h, hdiv]; omega⟩
  show (countWrap e).t.ntU / 3072 % 0x100000000 < 4
  rw [htime]
  unfold wrapUnits at hmod
  omega

end Sys2Proof.Machine
end
section
/-!
PROOF. The rate correction and the ALIGN frames: the obligation (O14).
-/
namespace Sys2Proof.Machine

theorem rateApply_carried {d : Dev} {v : Int} {at_ : Nat} (h : d.t.rCarried = some (v, at_)) :
    rateApply d = { passTo at_ d with t := { (passTo at_ d).t with r := v, rCarried := none } } := by
  unfold rateApply
  rw [h]

theorem governed_seals {org : Origin} (horg : org = .host ∨ org = .firmware) (off old new : Nat) (d : Dev) :
    (governed org off old new d).seals.epoch = (d.seals.epoch + 1) % 0x100000000 := by
  rw [governed_host horg, ledgerPut_seals]
  rfl

/-- A step is the same from a device of the same registers. -/
theorem Wrote.since {P : Fld → Prop} {l : List (Fld × Nat)} {d u e : Dev} (h : Wrote P l u e) (hr : u.regs = d.regs) : Wrote P l d e :=
  ⟨h.1, fun x hx hl => (h.2 x hx hl).trans (f_congr hr x)⟩

/-- Settles O14: the writes by what is stored, recorded and in force, the frames by what each leaves of its follower. -/
theorem rateAndAlignment : Obligations.RateAndAlignment := by
  unfold Obligations.RateAndAlignment
  intro s hrun
  have hup := hrun.1
  have hdev := hrun.2
  refine ⟨fun org v hq ⟨horg, hl, hrole⟩ => ?_, fun v at_ hr => ?_, fun org v hq ⟨horg, hl, hv⟩ => ?_, fun org v hq ⟨horg, hl, hv, hm⟩ => ?_,
    fun hq ⟨hr, hrole⟩ => ?_, fun hq hr => ?_, fun hrole => ?_, fun payload crc ⟨hrole, hc, ha⟩ => ?_,
    fun payload crc u ⟨hrole, hc, hu, harm, hon, hs, hq⟩ => ?_, fun payload crc u ⟨hrole, hc, hu, harm, hon, hs, hl, hh⟩ => ?_,
    fun payload crc ⟨hrole, hc, harm, h⟩ => ?_, fun ⟨hrole, ha⟩ => ?_, fun ⟨hst, hw⟩ => ?_⟩
  · obtain ⟨old, new, hex⟩ := exec_rateCommit hrun horg hq hl v
    have hrole' : (governed org 0x100014 old new (setF TL_RATE_LO_rate_lo v.toNat (fresh s.d))).f TL_ALIGN_CFG_role = 0 :=
      (f_governed (by decide) ..).trans ((f_setF_other (by decide) ..).trans hrole)
    obtain ⟨hlo, hr, hp⟩ := commitRate_off hrole' (signed 36 (s.d.f TL_RATE_HI_rate_hi * 0x100000000 + v.toNat))
    exact does_of_dev hex rfl ⟨hlo, hr, hp⟩
  · exact doesDev_of_eq (whileRunning_running _ hup hdev) (rateApply_carried hr)
  · obtain ⟨old, new, hex⟩ := exec_frameOffsetWrite hrun horg hq hl hv
    have hset := ((Wrote.none anyField s.d).regs (g := fresh s.d) rfl).set (x := TL_FRAME_OFFSET_ticks) (by simp) v.toNat
    rw [show v.toNat % TL_FRAME_OFFSET_ticks.size = v.toNat from Nat.mod_eq_of_lt (by show _ < 2 ^ 24; omega)] at hset
    exact does_of_dev hex rfl ⟨(wrote_governed horg hset (by simp +decide) ..).sets, governed_seals horg ..⟩
  · exact does_of_dev (exec_frameOffsetWrite_refused hrun horg hq hl hv hm) rfl
      (((Wrote.none anyField s.d).regs (g := fresh s.d) rfl).set (x := TL_STATUS_param_refused) (by simp) 1).sets
  · exact does_of_dev (exec_align hrun hq hr hrole) rfl
      ⟨rfl, (((Wrote.none anyField s.d).regs (g := { fresh s.d with t := { s.d.t with alignArmed := true } }) rfl).set
        (x := TL_ALIGN_STAT_aligned) (by simp) 0).sets⟩
  · exact does_of_dev (exec_align_refused hrun hq hr) rfl
      (((Wrote.none anyField s.d).regs (g := fresh s.d) rfl).set (x := TL_STATUS_align_refused) (by simp) 1).sets
  · obtain ⟨hseq, hcrc, hregs⟩ := alignFrameSend_spec hrole
    exact does_of_dev (whileRunning_running _ hup hdev) rfl ⟨hseq, hcrc, ((Wrote.none anyField s.d).regs hregs).sets⟩
  · obtain ⟨hset, hcount⟩ := alignFrameReceived_bad_spec hrole hc ha
    exact does_of_dev (whileRunning_running _ hup hdev) rfl ⟨hset.sets, hcount⟩
  · obtain ⟨p, hp, heq⟩ := tracked_onBoundary hrole hc hu harm hon hs hq
    obtain ⟨hair, hlive, hcarried, hcount⟩ := keepsAir_noteLeader (bits payload 48 46) p
    have hnow : u.now = s.d.baseEdge := by rw [hu]; exact passTo_baseEdge_now _
    have hregs : u.regs = s.d.regs := by rw [hu]; exact passTo_regs ..
    have hset : Wrote anyField [(TL_RATE_LO_rate_lo, payload % 0x100000000), (TL_RATE_HI_rate_hi, bits payload 35 32), (TL_QUALITY_follower, 1)]
        s.d (noteLeader (bits payload 48 46) p) :=
      ((wrote_placed hp).since hregs).noteLeader (by simp +decide) _
    refine does_of_dev (whileRunning_running _ hup hdev) heq ⟨(hset.weaken fun _ _ => trivial).setsEv, hair.now.trans (hp.now.trans hnow), ?_,
      hcount.trans hp.run, hlive, hair.tick.trans hp.tick, fun hb => ?_⟩
    · refine hcarried.trans (hp.carried.trans ?_)
      rw [fromBoundary_congr hp.tick, hp.now]
    · rw [show decide (u.fromBoundary < 0) = false from decide_eq_false (by omega)] at hp
      exact ⟨hair.frame.trans hp.numbers.1, hair.fis.trans hp.numbers.2⟩
  · obtain ⟨hdev', hev, htick⟩ := tracked_slipped hrole hc hu harm hon hs hl hh
    exact does_of_dev (whileRunning_running _ hup hdev) rfl ⟨hdev', hev, htick⟩
  · exact does_of_dev (whileRunning_running _ hup hdev) rfl (armed_spec hrole hc harm h)
  · obtain ⟨hset, hcount⟩ := alignFrameMissed_spec hrole ha
    exact does_of_dev (whileRunning_running _ hup hdev) rfl ⟨hset.sets, hcount⟩
  · exact does_of_dev (whileRunning_running _ hup hdev) rfl (ledgerEpochWrap_spec hst hw)

end Sys2Proof.Machine
end
section
/-!
PROOF. Sleep and wake (O47): the pin, the timer and the sleep clock in Dormant, and the restart of the deck when its supplies are back.
-/
namespace Sys2Proof.Machine

/-! ### The fields that the always-on domain keeps -/

/-- A field is taken over from the device that slept. -/
def keepField (d : Dev) (x : Fld) (n : Dev) : Dev := setF x (d.f x) n

theorem keepFields_same (d : Dev) (l : List Fld) (n : Dev) : (forAll l (keepField d) n).now = n.now ∧ (forAll l (keepField d) n).key = n.key :=
  ⟨forAll_same Dev.now (keepField d) (fun _ _ => rfl) l n, forAll_same Dev.key (keepField d) (fun _ _ => rfl) l n⟩

theorem f_keepFields_other {d : Dev} {l : List Fld} {x : Fld} (h : ∀ y ∈ l, y.key ≠ x.key) (n : Dev) : (forAll l (keepField d) n).f x = n.f x :=
  foldl_keeps (fun e => e.f x = n.f x) _ l (fun _ y hy he => (f_setF_other (h y hy).symm ..).trans he) n rfl

/-- A field kept holds the value that it slept with. -/
theorem f_keepFields {d : Dev} {l : List Fld} {x : Fld} (hx : x ∈ l) (huniq : ∀ y ∈ l, y.key = x.key → y = x) (n : Dev) :
    (forAll l (keepField d) n).f x = d.f x := by
  induction l generalizing n with
  | nil => simp at hx
  | cons y r ih =>
    by_cases hr : x ∈ r
    · exact ih hr (fun z hz => huniq z (by simp [hz])) _
    · have hy : x = y := (List.mem_cons.mp hx).resolve_right hr
      have hrest : ∀ z ∈ r, z.key ≠ x.key := fun z hz hk => hr (huniq z (by simp [hz]) hk ▸ hz)
      subst hy
      exact (f_keepFields_other hrest _).trans ((f_setF_same ..).trans (Nat.mod_eq_of_lt (f_lt ..)))

/-! ### The restart -/

/-- What a sleep of so many counts leaves of the device, before the fields that the always-on domain keeps. -/
def sleptDev (count : Nat) (d : Dev) : Dev :=
  { now := d.now, draws := d.draws, otp := d.otp, el := d.el, ev := { haltCount := d.ev.haltCount }
    key := { bootAt := d.now, cause := 1 }, mp := { spares := d.mp.spares.filter fun s => decide (s.1 ≥ 120) }
    t := wakeTime d.t d.now count d.ps.rcSlept }

/-- The wake is counted, with its source and the sleep's counts. -/
def noteWake (count : Nat) (d n : Dev) : Dev :=
  n |> incF PWR_COUNT_wakes |> setF PWR_STAT_wake_src d.ps.waking |> setF PWR_STAT_target (if d.on PWR_RET_CFG_wake_to then 1 else 2)
    |> setF MEM_SPARE_soft_used (d.mp.spares.filter fun s => decide (s.1 ≥ 120)).length
    |> setF TL_SLEEP_CNT_LO_count_lo (count % 0x100000000) |> setF TL_SLEEP_CNT_HI_count_hi (count / 0x100000000)

/-- The time quality after a sleep within the counter's range: COASTED. -/
def coast (changed stepped : Bool) (n : Dev) : Dev :=
  n |> setB TL_QUALITY_source_changed changed |> onlyIf changed (raise0 9) |> setQuality 4 |> setB TL_QUALITY_stepped stepped |> raise0 8
    |> showErr |> stayUpdate

/-- The restart of a device that has slept so many counts. -/
def wakeAfter (count : Nat) (d : Dev) : Dev :=
  coast (d.on TL_QUALITY_source_changed) (d.on TL_QUALITY_stepped) (noteWake count d (forAll aonFields (keepField d) (sleptDev count d)))

/-- The same with the end of the counter's range in it. -/
def wakeRun (full : Bool) (count : Nat) (d : Dev) : Dev :=
  noteWake count d (forAll aonFields (keepField d) (sleptDev count d)) |> setB TL_QUALITY_source_changed (d.on TL_QUALITY_source_changed)
    |> onlyIf (d.on TL_QUALITY_source_changed) (raise0 9)
    |> (fun n => if full then { n with t := { n.t with coastFirst := false } } |> setQuality 0
                 else n |> setQuality 4 |> setB TL_QUALITY_stepped (d.on TL_QUALITY_stepped) |> raise0 8)
    |> showErr |> stayUpdate

theorem wakePowerUp_run {d : Dev} (h : ¬(d.pwr ≠ 3 ∨ d.ps.waking = 0 ∨ !d.el.pwrOk ∨ !d.el.resetN ∨ !d.el.vaon)) :
    wakePowerUp d = wakeRun (decide ((d.now - d.ps.sleepAt + 29999) / 30000 ≥ 2 ^ 40 - 1)) (min ((d.now - d.ps.sleepAt + 29999) / 30000) (2 ^ 40 - 1))
      (passTo (d.ps.sleepAt + 30000 * ((d.now - d.ps.sleepAt + 29999) / 30000)) d) := by
  unfold wakePowerUp
  rw [if_neg h]
  rfl

theorem wakeRun_short (count : Nat) (d : Dev) : wakeRun false count d = wakeAfter count d := rfl

theorem wakePowerUp_short {d : Dev} {n : Nat} (hp : d.pwr = 3) (hw : d.ps.waking ≠ 0) (hok : d.el.pwrOk = true) (hr : d.el.resetN = true)
    (hv : d.el.vaon = true) (hn : n = (d.now - d.ps.sleepAt + 29999) / 30000) (hs : n < 2 ^ 40 - 1) :
    wakePowerUp d = wakeAfter n (passTo (d.ps.sleepAt + 30000 * n) d) := by
  rw [wakePowerUp_run (by simp [hp, hw, hok, hr, hv]), ← hn, show min n (2 ^ 40 - 1) = n by omega,
    show decide (n ≥ 2 ^ 40 - 1) = false from decide_eq_false (by omega), wakeRun_short]

/-! ### The quality after a sleep -/

/-- The fields that the moves of the quality at a wake leave. -/
structure BesideWake (x : Fld) : Prop where
  quality : BesideQuality x
  err : x.key ≠ TL_ERR_EST_err_ns.key
  stay : x.key ∉ stayKeys

theorem f_showErr {x : Fld} (h : x.key ≠ TL_ERR_EST_err_ns.key) (d : Dev) : (showErr d).f x = d.f x := by
  obtain ⟨v, hv⟩ := showErr_eq d
  rw [hv]
  exact f_setF_other h ..

theorem f_onlyIf_raise0 {x : Fld} (hx : evFree x) {n : Nat} (hn : n < 160) (c : Bool) (d : Dev) : (onlyIf c (raise0 n) d).f x = d.f x := by
  cases c
  · rfl
  · exact f_raise0 hx hn d

theorem f_coast {x : Fld} (h : BesideWake x) (changed stepped : Bool) (n : Dev) : (coast changed stepped n).f x = n.f x := by
  have hstep : x.key ≠ TL_QUALITY_stepped.key := h.quality.ne_quality (by decide)
  have hsource : x.key ≠ TL_QUALITY_source_changed.key := h.quality.ne_quality (by decide)
  unfold coast
  rw [f_stayUpdate h.stay, f_showErr h.err, f_raise0 h.quality.free (by decide), f_setB_other hstep, f_setQuality h.quality,
    f_onlyIf_raise0 h.quality.free (by decide), f_setB_other hsource]

theorem quality_coast (changed stepped : Bool) (n : Dev) : (coast changed stepped n).quality = 4 := by
  unfold coast Dev.quality
  rw [f_stayUpdate (by decide), f_showErr (by decide), f_raise0 (by decide) (by decide), f_setB_other (by decide)]
  exact quality_setQuality (by decide) _

/-- E008 stays pending behind it. -/
theorem raised_coast (changed stepped : Bool) (n : Dev) : (coast changed stepped n).evPending 8 = true := by
  have hpend : (DECK_EVT_PEND_pend (8 / 32)).key ∉ stayKeys ∧ (DECK_EVT_PEND_pend (8 / 32)).key ≠ TL_ERR_EST_err_ns.key := by decide
  unfold coast Dev.evPending Dev.fb
  rw [f_stayUpdate hpend.1, f_showErr hpend.2]
  exact evPending_raise0 (by decide) _

theorem onlyIf_raise0_same {n : Nat} (hn : n < 160) (c : Bool) (d : Dev) : (onlyIf c (raise0 n) d).now = d.now ∧ (onlyIf c (raise0 n) d).key = d.key := by
  cases c
  · exact ⟨rfl, rfl⟩
  · exact ⟨raise0_now hn d, raise0_key hn d⟩

theorem showErr_same (d : Dev) : (showErr d).now = d.now ∧ (showErr d).key = d.key := by
  obtain ⟨v, h⟩ := showErr_eq d
  rw [h]
  exact ⟨rfl, rfl⟩

theorem setQuality_same (q : Nat) (d : Dev) : (setQuality q d).now = d.now ∧ (setQuality q d).key = d.key := by
  obtain ⟨r, x, h⟩ := setQuality_only q d
  rw [h]
  exact ⟨rfl, rfl⟩

theorem coast_same (changed stepped : Bool) (n : Dev) : (coast changed stepped n).now = n.now ∧ (coast changed stepped n).key = n.key := by
  unfold coast
  obtain ⟨hsn, hsk⟩ := onlyIf_raise0_same (n := 9) (by decide) changed (setB TL_QUALITY_source_changed changed n)
  generalize onlyIf changed (raise0 9) (setB TL_QUALITY_source_changed changed n) = e at hsn hsk
  obtain ⟨hqn, hqk⟩ := setQuality_same 4 e
  obtain ⟨hen, hek⟩ := showErr_same (raise0 8 (setB TL_QUALITY_stepped stepped (setQuality 4 e)))
  have hn : (raise0 8 (setB TL_QUALITY_stepped stepped (setQuality 4 e))).now = (setQuality 4 e).now := raise0_now (by decide) _
  have hk : (raise0 8 (setB TL_QUALITY_stepped stepped (setQuality 4 e))).key = (setQuality 4 e).key := raise0_key (by decide) _
  exact ⟨hen.trans (hn.trans (hqn.trans hsn)), hek.trans (hk.trans (hqk.trans hsk))⟩

/-! ### What the host finds after the wake -/

theorem noteWake_same (count : Nat) (d n : Dev) : (noteWake count d n).now = n.now ∧ (noteWake count d n).key = n.key := ⟨rfl, rfl⟩

/-- The wake, its source and the counts of the sleep. -/
theorem wrote_noteWake (count : Nat) (d n : Dev) : Wrote anyField
    [(PWR_COUNT_wakes, min (n.f PWR_COUNT_wakes + 1) (PWR_COUNT_wakes.size - 1)), (PWR_STAT_wake_src, d.ps.waking % 4),
      (PWR_STAT_target, (if d.on PWR_RET_CFG_wake_to then 1 else 2) % PWR_STAT_target.size),
      (MEM_SPARE_soft_used, (d.mp.spares.filter fun s => decide (s.1 ≥ 120)).length % MEM_SPARE_soft_used.size),
      (TL_SLEEP_CNT_LO_count_lo, count % 0x100000000 % 0x100000000), (TL_SLEEP_CNT_HI_count_hi, count / 0x100000000 % 256)]
    n (noteWake count d n) :=
  (((((wrote_inc rfl).set (x := PWR_STAT_wake_src) (by simp +decide) d.ps.waking).set (x := PWR_STAT_target) (by simp +decide)
    (if d.on PWR_RET_CFG_wake_to then 1 else 2)).set (x := MEM_SPARE_soft_used) (by simp +decide) _).set (x := TL_SLEEP_CNT_LO_count_lo)
    (by simp +decide) (count % 0x100000000)).set (x := TL_SLEEP_CNT_HI_count_hi) (by simp +decide) (count / 0x100000000)

theorem besideWake_of {x : Fld} (hk : x.key ∉ stayKeys ∧ x.key ≠ TL_ERR_EST_err_ns.key ∧ evFree x) (ho : x.off < 0x3000000 ∧ x.off ≠ 0x10000C) :
    BesideWake x := ⟨⟨hk.2.2, ho.1, ho.2⟩, hk.2.1, hk.1⟩

theorem wakeAfter_spec {d : Dev} {count : Nat} (h : count < 2 ^ 40) (hw : d.ps.waking < 4) : (wakeAfter count d).stage = 0 ∧
    (wakeAfter count d).key.cause = 1 ∧ (wakeAfter count d).f PWR_STAT_wake_src = d.ps.waking ∧
    (wakeAfter count d).f PWR_COUNT_wakes = min (d.f PWR_COUNT_wakes + 1) (PWR_COUNT_wakes.size - 1) ∧ (wakeAfter count d).now = d.now ∧
    (wakeAfter count d).quality = 4 ∧ (wakeAfter count d).evPending 8 = true ∧
    (wakeAfter count d).f TL_SLEEP_CNT_LO_count_lo + 2 ^ 32 * (wakeAfter count d).f TL_SLEEP_CNT_HI_count_hi = count := by
  have hwakes : (forAll aonFields (keepField d) (sleptDev count d)).f PWR_COUNT_wakes = d.f PWR_COUNT_wakes :=
    f_keepFields (by decide) (by decide) _
  have hstage : (forAll aonFields (keepField d) (sleptDev count d)).f KEY_STATUS_stage = 0 := f_keepFields_other (by decide) _
  obtain ⟨hkeptNow, hkeptKey⟩ := keepFields_same d aonFields (sleptDev count d)
  unfold wakeAfter
  generalize forAll aonFields (keepField d) (sleptDev count d) = n at hwakes hstage hkeptNow hkeptKey
  obtain ⟨hnotedNow, hnotedKey⟩ := noteWake_same count d n
  have hset := wrote_noteWake count d n
  generalize noteWake count d n = m at hset hnotedNow hnotedKey
  obtain ⟨hnow, hkey⟩ := coast_same (d.on TL_QUALITY_source_changed) (d.on TL_QUALITY_stepped) m
  have hbeside {x : Fld} (hx : BesideWake x) := f_coast hx (d.on TL_QUALITY_source_changed) (d.on TL_QUALITY_stepped) m
  have hcount : count % 0x100000000 % 0x100000000 + 2 ^ 32 * (count / 0x100000000 % 256) = count := by omega
  refine ⟨?_, ?_, ?_, ?_, ?_, quality_coast .., raised_coast .., ?_⟩
  · exact (hbeside (besideWake_of (by decide) (by decide))).trans ((hset.2 _ trivial (by simp +decide)).trans hstage)
  · exact congrArg KeySt.cause (hkey.trans (hnotedKey.trans hkeptKey))
  · exact (hbeside (besideWake_of (by decide) (by decide))).trans ((hset.f (x := PWR_STAT_wake_src) (by simp)).trans (Nat.mod_eq_of_lt hw))
  · rw [← hwakes]
    exact (hbeside (besideWake_of (by decide) (by decide))).trans (hset.1 (PWR_COUNT_wakes, _) (List.mem_cons_self ..))
  · exact hnow.trans (hnotedNow.trans hkeptNow)
  · refine Eq.trans ?_ hcount
    rw [← hset.f (x := TL_SLEEP_CNT_LO_count_lo) (v := count % 0x100000000 % 0x100000000) (by simp),
      ← hset.f (x := TL_SLEEP_CNT_HI_count_hi) (v := count / 0x100000000 % 256) (by simp)]
    exact congrArg₂ (fun a b => a + 2 ^ 32 * b) (hbeside (besideWake_of (by decide) (by decide))) (hbeside (besideWake_of (by decide) (by decide)))

/-! ### The wakes in Dormant -/

theorem wakePin_dormant {d : Dev} (hp : d.pwr = 3) (hw : d.ps.waking = 0) (hr : d.el.resetN = true) (hv : d.el.vaon = true) :
    wakePin d = modPs (fun p => { p with waking := 1 }) d := by
  unfold wakePin
  simp only [hp, hw, hr, hv, Bool.not_true, Bool.false_eq_true, or_self, if_false, if_true]

/-- The device pulls WAKE_N low itself. -/
def drivePin (d : Dev) : Dev := modEl (fun e => { e with wakeDriven := some d.now }) d

/-- The timer wakes the device and drives the pin. -/
def timerWakes (d : Dev) : Dev := drivePin (modPs (fun p => { p with waking := 2 }) d)

theorem timerWakes_spec (at_ : Nat) (d : Dev) : (timerWakes (passTo at_ d)).ps.waking = 2 ∧
    (timerWakes (passTo at_ d)).el.wakeDriven = some (timerWakes (passTo at_ d)).now ∧ (timerWakes (passTo at_ d)).now = max d.now at_ ∧
    (timerWakes (passTo at_ d)).regs = d.regs := ⟨rfl, rfl, passTo_now .., passTo_regs ..⟩

theorem wakeTimer_dormant {d : Dev} (hp : d.pwr = 3) (hw : d.ps.waking = 0) (ht : d.wakeTimer ≠ 0) :
    wakeTimer d = timerWakes (passTo (d.ps.sleepAt + 30000 * d.wakeTimer) d) := by
  unfold wakeTimer timerWakes drivePin
  exact if_pos ⟨hp, hw, ht⟩

/-- The RC oscillator has taken over from the crystal. -/
def sourceChanges (d : Dev) : Dev :=
  modPs (fun p => { p with rcSlept := true }) (setB TL_QUALITY_source_changed true (setB TL_SLEEP_xtal_ok false d))

theorem sleepSourceChanged_dormant {d : Dev} (hp : d.pwr = 3) (hrc : d.ps.rcSlept = false) : sleepSourceChanged d = sourceChanges d := by
  unfold sleepSourceChanged
  rw [if_pos ⟨hp, by rw [hrc]; rfl⟩]
  rfl

theorem wrote_sleepSource (d : Dev) : Wrote anyField [(TL_SLEEP_xtal_ok, 0), (TL_QUALITY_source_changed, 1)] d (sourceChanges d) :=
  (((Wrote.none _ d).set (x := TL_SLEEP_xtal_ok) (by simp) 0).set (x := TL_QUALITY_source_changed) (by simp +decide) 1).regs rfl

/-! ### The commands -/

/-- Settles O47: the wakes and the sleep clock by what they write, the power-up by what its restart leaves of the device that slept. -/
theorem sleepAndWake : Obligations.SleepAndWake := by
  unfold Obligations.SleepAndWake
  intro s
  refine ⟨fun ⟨hp, hw, hr, hv⟩ => ?_, fun ⟨hp, hw, ht⟩ => ?_, fun ⟨hp, hrc⟩ => ?_, fun n ⟨hp, hw, hok, hr, hv, hn, hs⟩ => ?_⟩
  · exact doesDev_of_eq (always_eq ..) (wakePin_dormant hp hw hr hv)
  · obtain ⟨hwaking, hdriven, hnow, hregs⟩ := timerWakes_spec (s.d.ps.sleepAt + 30000 * s.d.wakeTimer) s.d
    have heq := wakeTimer_dormant hp hw ht
    generalize timerWakes (passTo (s.d.ps.sleepAt + 30000 * s.d.wakeTimer) s.d) = x at hwaking hdriven hnow hregs heq
    exact does_of_dev (always_eq ..) heq ⟨hwaking, hdriven, hnow, ((Wrote.none anyField s.d).regs hregs).sets⟩
  · exact does_of_dev (always_eq ..) (sleepSourceChanged_dormant hp hrc) ⟨(wrote_sleepSource s.d).sets, rfl⟩
  · have hsrc : s.d.ps.waking ≠ 0 ∧ s.d.ps.waking < 4 := by omega
    obtain ⟨hstage, hcause, hwake, hwakes, hnow, hquality, hev, hcount⟩ :=
      wakeAfter_spec (d := passTo (s.d.ps.sleepAt + 30000 * n) s.d) (count := n) (by omega) (by rw [passTo_ps]; exact hsrc.2)
    rw [passTo_ps] at hwake
    rw [f_passTo] at hwakes
    rw [passTo_now] at hnow
    have heq := wakePowerUp_short hp hsrc.1 hok hr hv hn hs
    generalize wakeAfter n (passTo (s.d.ps.sleepAt + 30000 * n) s.d) = x at hstage hcause hwake hwakes hnow hquality hev hcount heq
    exact does_of_dev (always_eq ..) heq ⟨hstage, hcause, hwake, hwakes, hnow, hquality, hev, hcount⟩

end Sys2Proof.Machine
end
section
/-!
PROOF. What the steps of ports and lanes leave (O30): the flows' registers, the traffic and the timing port, the lanes.
-/
namespace Sys2Proof.Machine

/-! ### Steps that keep fields and pending events -/

/-- A step keeps every register field of a set, and every pending event. -/
structure KeepsLink (P : Fld → Prop) (d e : Dev) : Prop where
  fields : KeepsFields P d e
  mono : EvMono d e

section
variable {P Q : Fld → Prop} {d e g : Dev}

theorem KeepsLink.refl (P : Fld → Prop) (d : Dev) : KeepsLink P d d := ⟨.refl P d, .refl d⟩

theorem KeepsLink.trans (h : KeepsLink P d e) (k : KeepsLink P e g) : KeepsLink P d g := ⟨h.fields.trans k.fields, h.mono.trans k.mono⟩

theorem KeepsLink.f (h : KeepsLink P d e) {x : Fld} (hx : P x) : e.f x = d.f x := h.fields.field x hx

theorem KeepsLink.weaken (h : KeepsLink P d e) (hQ : ∀ x, Q x → P x) : KeepsLink Q d e :=
  ⟨⟨h.fields.span, h.fields.seals, fun x hx => h.fields.field x (hQ x hx)⟩, h.mono⟩

theorem KeepsLink.regs (h : KeepsLink P d e) (hr : g.regs = e.regs) (hs : g.span = e.span) (hl : g.seals = e.seals) : KeepsLink P d g :=
  ⟨h.fields.regs hr hs hl, h.mono.regs hr⟩

theorem KeepsLink.modLink (h : KeepsLink P d e) (u : LinkSt → LinkSt) : KeepsLink P d (modLink u e) := h.regs rfl rfl rfl

/-- A field above the event registers. -/
theorem KeepsLink.set (h : KeepsLink P d e) {x : Fld} (hx : ∀ y, P y → y.key ≠ x.key) (ho : 0x680 ≤ x.off ∧ x.lo < 32) (v : Nat) :
    KeepsLink P d (setF x v e) :=
  ⟨h.fields.set hx v, h.mono.set x (fun w hw => by simp only [DECK_EVT_PEND_pend, Fld.key]; omega) v⟩

theorem KeepsLink.raise (h : KeepsLink P d e) (hP : ∀ y, P y → evFree y) {n : Nat} (hn : n < 160) (u c m : Nat) : KeepsLink P d (raise n u c m e) :=
  ⟨h.fields.raise hP hn u c m, h.mono.trans (evPending_raise n hn u c m e).2⟩

theorem KeepsLink.ite (c : Prop) [Decidable c] (h : KeepsLink P d e) (k : KeepsLink P d g) : KeepsLink P d (if c then e else g) := by
  split
  · exact h
  · exact k

theorem KeepsLink.each {α : Type} {u : α → Dev → Dev} {l : List α} (h : KeepsLink P d e) (hu : ∀ a ∈ l, ∀ d, KeepsLink P d (u a d)) :
    KeepsLink P d (forAll l u e) :=
  foldl_keeps (KeepsLink P d) _ l (fun c a ha hc => hc.trans (hu a ha c)) e h

end

/-! ### The flows -/

/-- The fields that a refresh of the flows leaves. -/
structure BesideFlows (x : Fld) : Prop where
  free : evFree x
  flows : x.off < 0x508000 ∨ 0x509400 ≤ x.off
  ports : x.off ≠ 0x500100 ∧ x.off ≠ 0x500140 ∨ x.lo ≠ 3 ∧ x.lo ≠ 4
  active : x.key ≠ LINK_STAT_active.key

theorem BesideFlows.ne_flow {x : Fld} (h : BesideFlows x) {off hi lo rst : Nat} (ho : 0x508000 ≤ off ∧ off < 0x509400) (hl : lo < 32) :
    x.key ≠ (⟨off, hi, lo, rst⟩ : Fld).key := by
  have hfree := h.free.1
  have hflows := h.flows
  simp only [Fld.key]
  omega

theorem BesideFlows.ne_shown {x : Fld} (h : BesideFlows x) {p hi lo rst : Nat} (hp : p < 2) (hl : lo = 3 ∨ lo = 4) :
    x.key ≠ (⟨0x500100 + 0x40 * p, hi, lo, rst⟩ : Fld).key := by
  have hfree := h.free.1
  have hports := h.ports
  simp only [Fld.key]
  omega

/-- A flow's state and its port. -/
theorem keepsLink_showFlow {f : Nat} (hf : f < 320) (u v : Nat) (d : Dev) :
    KeepsLink BesideFlows d (setF (LINK_FLOW_W1_port f) u (setF (LINK_FLOW_W0_state f) v d)) :=
  .set (.set (.refl _ d) (fun _ hy => hy.ne_flow (by omega) (by decide)) ⟨by simp only [LINK_FLOW_W0_state]; omega, by simp [LINK_FLOW_W0_state]⟩ _)
    (fun _ hy => hy.ne_flow (by omega) (by decide)) ⟨by simp only [LINK_FLOW_W1_port]; omega, by simp [LINK_FLOW_W1_port]⟩ _

/-- Whether a port carries flows, and its role. -/
theorem keepsLink_showPort {p : Nat} (hp : p < 2) (u v : Nat) (d : Dev) :
    KeepsLink BesideFlows d (setF (LINK_PORT_STAT_role p) u (setF (LINK_PORT_STAT_carrying p) v d)) :=
  .set (.set (.refl _ d) (fun _ hy => hy.ne_shown hp (.inl rfl))
    ⟨by simp only [LINK_PORT_STAT_carrying]; omega, by simp [LINK_PORT_STAT_carrying]⟩ _)
    (fun _ hy => hy.ne_shown hp (.inr rfl)) ⟨by simp only [LINK_PORT_STAT_role]; omega, by simp [LINK_PORT_STAT_role]⟩ _

theorem port_lt {p : Nat} (h : p ∈ [0, 1]) : p < 2 := by simp only [List.mem_cons, List.not_mem_nil, or_false] at h; omega

theorem keepsLink_refreshFlows (d : Dev) : KeepsLink BesideFlows d (refreshFlows d) :=
  .set (.each (.each (.refl _ d) fun _ hf e => keepsLink_showFlow (List.mem_range.mp hf) _ _ e) fun _ hp e => keepsLink_showPort (port_lt hp) _ _ e)
    (fun _ hy => hy.active) (by decide) _

theorem refreshFlows_same {α : Type} (π : Dev → α) (h : ∀ x v d, π (setF x v d) = π d) (d : Dev) : π (refreshFlows d) = π d := by
  unfold refreshFlows setB
  refine (h ..).trans ((forAll_same π _ (fun p e => ?_) _ _).trans (forAll_same π _ (fun f e => ?_) _ _))
  · exact (h ..).trans (h ..)
  · exact (h ..).trans (h ..)

/-! ### The traffic and the timing port -/

/-- The fields that the moves of the traffic leave. -/
structure BesideTraffic (x : Fld) : Prop where
  flows : BesideFlows x
  lost : x.off ≠ 0x500100 ∧ x.off ≠ 0x500140 ∨ x.lo ≠ 16
  stat : x.off ≠ 0x500008
  count : x.off ≠ 0x500010

theorem BesideTraffic.ne_stat {x : Fld} (h : BesideTraffic x) {hi lo rst : Nat} (hl : lo < 32) : x.key ≠ (⟨0x500008, hi, lo, rst⟩ : Fld).key := by
  have hfree := h.flows.free.1
  have hstat := h.stat
  simp only [Fld.key]
  omega

theorem BesideTraffic.ne_count {x : Fld} (h : BesideTraffic x) {hi lo rst : Nat} (hl : lo < 32) : x.key ≠ (⟨0x500010, hi, lo, rst⟩ : Fld).key := by
  have hfree := h.flows.free.1
  have hcount := h.count
  simp only [Fld.key]
  omega

theorem BesideTraffic.ne_lost {x : Fld} (h : BesideTraffic x) {p : Nat} (hp : p < 2) : x.key ≠ (LINK_PORT_STAT_lost_frames p).key := by
  have hfree := h.flows.free.1
  have hlost := h.lost
  simp only [LINK_PORT_STAT_lost_frames, Fld.key]
  omega

section
variable {d e : Dev}

theorem KeepsLink.refresh (h : KeepsLink BesideTraffic d e) : KeepsLink BesideTraffic d (refreshFlows e) :=
  h.trans ((keepsLink_refreshFlows e).weaken fun _ hx => hx.flows)

theorem KeepsLink.hold {P : Fld → Prop} (h : KeepsLink P d e) : KeepsLink P d (checkHold e) :=
  h.trans (.ite _ (.modLink (.refl _ e) _) (.modLink (.refl _ e) _))

/-- The servo moves to a port, or stays. -/
theorem KeepsLink.timing {P : Fld → Prop} (h : KeepsLink P d e) (hP : ∀ x, P x → x.key ≠ LINK_STAT_timing_port.key) (p : Nat) :
    KeepsLink P d (setTiming p e) := by
  unfold setTiming
  extract_lets _ e₁
  have h1 : KeepsLink P d e₁ := .ite _ (h.regs rfl rfl rfl) h
  exact .ite _ h (.modLink (.set h1 hP (by decide) _) _)

theorem KeepsLink.carry (h : KeepsLink BesideTraffic d e) (mask : Nat) (fb : Bool) : KeepsLink BesideTraffic d (setCarry mask fb e) :=
  .refresh (.set (h.modLink _) (fun _ hy => hy.ne_stat (by decide)) (by decide) _)

theorem keepsLink_timingUp (p : Nat) (d : Dev) : KeepsLink BesideTraffic d (timingUp p d) := by
  have hstat : ∀ x, BesideTraffic x → x.key ≠ LINK_STAT_timing_port.key := fun _ hx => hx.ne_stat (by decide)
  exact .ite _ (.timing (.refl _ d) hstat _) (.ite _ (.set (.refl _ d) hstat (by decide) _) (.ite _ (.timing (.refl _ d) hstat _) (.refl _ d)))

theorem keepsTraffic_raise (h : KeepsLink BesideTraffic d e) {n : Nat} (hn : n < 160) (u c m : Nat) : KeepsLink BesideTraffic d (raise n u c m e) :=
  h.raise (fun _ hx => hx.flows.free) hn u c m

theorem keepsLink_trafficBack (p : Nat) (d : Dev) : KeepsLink BesideTraffic d (trafficBack p d) := by
  have h := KeepsLink.refl BesideTraffic d
  unfold trafficBack
  split
  · refine .ite _ (.ite _ (keepsTraffic_raise (h.carry _ _) (n := 20) (by decide) _ _ _) h) ?_
    exact keepsTraffic_raise ((h.carry _ _).set (x := LINK_FAILOVER_count) (fun _ hy => hy.ne_count (by decide)) (by decide) _) (n := 20) (by decide) _ _ _
  · exact h

theorem keepsLink_loseFrames {p : Nat} (hp : p < 2) (d : Dev) : KeepsLink BesideTraffic d (loseFrames p d) := by
  unfold loseFrames addF setTxq
  exact .modLink (.set (x := LINK_PORT_STAT_lost_frames p) (.refl _ d) (fun _ hy => BesideTraffic.ne_lost hy hp)
    ⟨by simp only [LINK_PORT_STAT_lost_frames]; omega, by simp [LINK_PORT_STAT_lost_frames]⟩ _) _

/-- A port that stops being UP takes flows, timing port and frames with it. -/
theorem keepsLink_portGone {p : Nat} (hp : p < 2) (d : Dev) : KeepsLink BesideTraffic d (portGone p d) := by
  unfold portGone
  extract_lets o was d₁ d₂ d₃ d₄
  have h1 : KeepsLink BesideTraffic d d₁ := keepsLink_loseFrames hp d
  have h2 : KeepsLink BesideTraffic d d₂ := .ite _ (h1.timing (fun _ hy => hy.ne_stat (by decide)) o) h1
  have h3 : KeepsLink BesideTraffic d d₃ := h2.modLink _
  have h4 : KeepsLink BesideTraffic d d₄ :=
    .ite _ (keepsTraffic_raise (.ite _ (h3.modLink _).refresh h3) (n := 22) (by decide) _ _ _) (.ite _ (.ite _ (h3.modLink _) (h3.modLink _).refresh) h3)
  exact .ite _ (h4.refresh.hold.modLink _) h4.refresh.hold

end

end Sys2Proof.Machine
end
section
/-!
PROOF. Lanes and ports as they seek, fault and rest (O30).
-/
namespace Sys2Proof.Machine

/-! ### Lanes -/

/-- The fields outside a lane's status. -/
structure OffLane (l : Nat) (x : Fld) : Prop where
  lo : x.lo < 32
  off : x.off ≠ 0x500200 + 0x40 * l

theorem OffLane.ne {l : Nat} {x : Fld} (h : OffLane l x) {hi lo rst : Nat} (hl : lo < 32) : x.key ≠ (⟨0x500200 + 0x40 * l, hi, lo, rst⟩ : Fld).key := by
  have hlo := h.lo
  have hoff := h.off
  simp only [Fld.key]
  omega

section
variable {l : Nat} {d e : Dev}

theorem KeepsLink.lane {P : Fld → Prop} (h : KeepsLink P d e) (hP : ∀ x, P x → OffLane l x) {hi lo rst : Nat} (hl : lo < 32) (v : Nat) :
    KeepsLink P d (setF ⟨0x500200 + 0x40 * l, hi, lo, rst⟩ v e) :=
  h.set (fun x hx => (hP x hx).ne hl) ⟨by show 0x680 ≤ 0x500200 + 0x40 * l; omega, hl⟩ v

theorem keepsLink_laneEnter (l st : Nat) (d : Dev) : KeepsLink (OffLane l) d (laneEnter l st d) := by
  have hback := KeepsLink.ite (P := OffLane l) ((d.lane l == 2 && st != 2) = true)
    (.lane (l := l) (hi := 11) (lo := 10) (rst := 0) (.refl _ d) (fun _ h => h) (by decide) ((d.f (LINK_LANE_STAT_backoff l) + 1) % 3)) (.refl _ d)
  exact .regs (.lane (l := l) (hi := 2) (lo := 0) (rst := 0) hback (fun _ h => h) (by decide) st) rfl rfl rfl

theorem keepsLink_laneSeek (l : Nat) (d : Dev) : KeepsLink (OffLane l) d (laneSeek l d) :=
  .ite _ (.refl _ d) (.lane (l := l) (hi := 7) (lo := 7) (rst := 0) (keepsLink_laneEnter l 1 d) (fun _ h => h) (by decide) _)

theorem laneEnter_state {st : Nat} (h : st < 8) (l : Nat) (d : Dev) : (laneEnter l st d).lane l = st :=
  (f_setF_same ..).trans (Nat.mod_eq_of_lt h)

theorem laneSeek_state (hl : d.lane l ≠ 0) (hr : d.rxRest l = false) : (laneSeek l d).lane l = 1 := by
  have hne : (LINK_LANE_STAT_state l).key ≠ (LINK_LANE_STAT_cdr_lock l).key := by
    simp only [LINK_LANE_STAT_state, LINK_LANE_STAT_cdr_lock, Fld.key]; omega
  unfold laneSeek
  rw [if_neg (by simp [hl, hr])]
  exact (f_setB_other hne ..).trans (laneEnter_state (by decide) l d)

theorem laneEnter_now (l st : Nat) (d : Dev) : (laneEnter l st d).now = d.now := by
  show (onlyIf (d.lane l == 2 && st != 2) (setF (LINK_LANE_STAT_backoff l) ((d.f (LINK_LANE_STAT_backoff l) + 1) % 3)) d).now = d.now
  unfold onlyIf
  split <;> rfl

theorem laneSeek_now (l : Nat) (d : Dev) : (laneSeek l d).now = d.now := by
  unfold laneSeek
  split
  · rfl
  · exact laneEnter_now l 1 d

theorem offLane_other {l m : Nat} (h : l ≠ m) : OffLane m (LINK_LANE_STAT_state l) :=
  ⟨by simp [LINK_LANE_STAT_state], by simp only [LINK_LANE_STAT_state]; omega⟩

end

/-! ### Both lanes of a port -/

/-- Both lanes of a port return to SEEK. -/
def seekBoth (p : Nat) (d : Dev) : Dev := laneSeek (2 * p + 1) (laneSeek (2 * p) d)

/-- The fields outside the lanes of a port. -/
structure OffLanes (p : Nat) (x : Fld) : Prop where
  even : OffLane (2 * p) x
  odd : OffLane (2 * p + 1) x

theorem keepsLink_seekBoth (p : Nat) (d : Dev) : KeepsLink (OffLanes p) d (seekBoth p d) :=
  ((keepsLink_laneSeek (2 * p) d).weaken fun _ hx => hx.even).trans ((keepsLink_laneSeek (2 * p + 1) _).weaken fun _ hx => hx.odd)

theorem offLanes_low {x : Fld} (hl : x.lo < 32) (ho : x.off < 0x500200) (p : Nat) : OffLanes p x := ⟨⟨hl, by omega⟩, ⟨hl, by omega⟩⟩

theorem seekBoth_now (p : Nat) (d : Dev) : (seekBoth p d).now = d.now := (laneSeek_now ..).trans (laneSeek_now ..)

theorem rxRest_of_portRest {p : Nat} {d : Dev} (h : d.portRest p = false) : d.rxRest (2 * p) = false ∧ d.rxRest (2 * p + 1) = false := by
  simp only [Dev.portRest, List.any_cons, List.any_nil, Bool.or_false, Bool.or_eq_false_iff] at h
  exact ⟨h.1.1, h.2.1⟩

/-- Lanes that are UP and not at rest seek. -/
theorem seekBoth_lanes {p : Nat} {d : Dev} (h0 : d.lane (2 * p) = 5) (h1 : d.lane (2 * p + 1) = 5) (hr : d.portRest p = false) :
    (seekBoth p d).lane (2 * p) = 1 ∧ (seekBoth p d).lane (2 * p + 1) = 1 := by
  obtain ⟨hr0, hr1⟩ := rxRest_of_portRest hr
  have hkeep := keepsLink_laneSeek (2 * p) d
  have hodd : (laneSeek (2 * p) d).lane (2 * p + 1) = 5 := (hkeep.f (offLane_other (by omega))).trans h1
  have hrest : (laneSeek (2 * p) d).rxRest (2 * p + 1) = false :=
    (congrArg (·.testBit (2 * p + 1)) (hkeep.f (x := LINK_REST_rx_rest) ⟨by decide, by simp only [LINK_REST_rx_rest]; omega⟩)).trans hr1
  refine ⟨((keepsLink_laneSeek (2 * p + 1) _).f (offLane_other (by omega))).trans (laneSeek_state (by omega) hr0), laneSeek_state (by omega) hrest⟩

/-! ### Ports that seek and fault -/

/-- A field of a port's status that no move of the traffic touches. -/
theorem besideTraffic_port {p : Nat} (hp : p < 2) {hi lo rst : Nat} (hl : lo < 32) (h : lo ≠ 3 ∧ lo ≠ 4 ∧ lo ≠ 16) :
    BesideTraffic ⟨0x500100 + 0x40 * p, hi, lo, rst⟩ := by
  refine ⟨⟨⟨hl, ?_, ?_, ?_⟩, ?_, .inr ⟨h.1, h.2.1⟩, ?_⟩, .inr h.2.2, ?_, ?_⟩
  all_goals
    simp only [LINK_STAT_active, Fld.key]
    omega

theorem besideTraffic_fec {p : Nat} (hp : p < 2) {hi lo rst : Nat} (hl : lo < 32) : BesideTraffic ⟨0x500104 + 0x40 * p, hi, lo, rst⟩ := by
  refine ⟨⟨⟨hl, ?_, ?_, ?_⟩, ?_, .inl ?_, ?_⟩, .inl ?_, ?_, ?_⟩
  all_goals
    simp only [LINK_STAT_active, Fld.key]
    omega

theorem besideTraffic_lane {l : Nat} (h : l < 4) {hi lo rst : Nat} (hl : lo < 32) : BesideTraffic ⟨0x500200 + 0x40 * l, hi, lo, rst⟩ := by
  refine ⟨⟨⟨hl, ?_, ?_, ?_⟩, ?_, .inl ?_, ?_⟩, .inl ?_, ?_, ?_⟩
  all_goals
    simp only [LINK_STAT_active, Fld.key]
    omega

theorem portState_ne_attempts (p : Nat) : (LINK_PORT_STAT_state p).key ≠ (LINK_PORT_STAT_attempts p).key := by
  simp only [LINK_PORT_STAT_state, LINK_PORT_STAT_attempts, Fld.key]
  omega

/-- An attempt before the third returns the port to STARTING. -/
theorem failedAttempt_few {p : Nat} {d : Dev} (h : d.f (LINK_PORT_STAT_attempts p) < 2) : failedAttempt p d =
    setF (LINK_PORT_STAT_state p) 1 (incF (LINK_PORT_STAT_attempts p) d) ∧
      (incF (LINK_PORT_STAT_attempts p) d).f (LINK_PORT_STAT_attempts p) = d.f (LINK_PORT_STAT_attempts p) + 1 := by
  have hsize : (LINK_PORT_STAT_attempts p).size = 16 := rfl
  have hcount : (incF (LINK_PORT_STAT_attempts p) d).f (LINK_PORT_STAT_attempts p) = d.f (LINK_PORT_STAT_attempts p) + 1 := by
    refine (f_setF_same ..).trans ?_
    rw [hsize, Nat.min_eq_left (by omega), Nat.mod_eq_of_lt (by omega)]
  refine ⟨?_, hcount⟩
  unfold failedAttempt portSeeks
  rw [if_pos (by rw [hcount]; omega)]

/-- Alignment that finds no lock. -/
def alignFails (p : Nat) (d : Dev) : Dev := failedAttempt p (seekBoth p (setF (LINK_PORT_STAT_state p) 1 d))

theorem aligningExpired_eq {p : Nat} {d : Dev} (h : d.port p = 2) :
    aligningExpired p d = alignFails p (passTo (smGet 0 p d.link.portAt + usTicks 1000) d) := by
  unfold aligningExpired
  exact if_pos h

theorem alignFails_spec {p : Nat} {d : Dev} (hp : p < 2) (ha : d.f (LINK_PORT_STAT_attempts p) < 2) (h0 : d.lane (2 * p) = 5)
    (h1 : d.lane (2 * p + 1) = 5) (hr : d.portRest p = false) : (alignFails p d).port p = 1 ∧ (alignFails p d).lane (2 * p) = 1 ∧
      (alignFails p d).lane (2 * p + 1) = 1 ∧ (alignFails p d).f (LINK_PORT_STAT_attempts p) = d.f (LINK_PORT_STAT_attempts p) + 1 ∧
      (alignFails p d).now = d.now := by
  have hne := portState_ne_attempts p
  have hset {x : Fld} (hx : x.key ≠ (LINK_PORT_STAT_state p).key) : (setF (LINK_PORT_STAT_state p) 1 d).f x = d.f x := f_setF_other hx ..
  have hlane (l : Nat) (hl : l < 4) : (LINK_LANE_STAT_state l).key ≠ (LINK_PORT_STAT_state p).key ∧
      (LINK_LANE_STAT_state l).key ≠ (LINK_PORT_STAT_attempts p).key := by
    simp only [LINK_LANE_STAT_state, LINK_PORT_STAT_state, LINK_PORT_STAT_attempts, Fld.key]
    omega
  have hrest : (setF (LINK_PORT_STAT_state p) 1 d).portRest p = false := by
    have hrx : LINK_REST_rx_rest.key ≠ (LINK_PORT_STAT_state p).key := by simp only [LINK_REST_rx_rest, LINK_PORT_STAT_state, Fld.key]; omega
    have htx : LINK_REST_tx_rest.key ≠ (LINK_PORT_STAT_state p).key := by simp only [LINK_REST_tx_rest, LINK_PORT_STAT_state, Fld.key]; omega
    unfold Dev.portRest Dev.fb at hr ⊢
    rw [hset hrx, hset htx]
    exact hr
  obtain ⟨hl0, hl1⟩ := seekBoth_lanes (d := setF (LINK_PORT_STAT_state p) 1 d) ((hset (hlane (2 * p) (by omega)).1).trans h0)
    ((hset (hlane (2 * p + 1) (by omega)).1).trans h1) hrest
  have hkeep := keepsLink_seekBoth p (setF (LINK_PORT_STAT_state p) 1 d)
  have hnow := seekBoth_now p (setF (LINK_PORT_STAT_state p) 1 d)
  unfold alignFails
  generalize seekBoth p (setF (LINK_PORT_STAT_state p) 1 d) = e at hl0 hl1 hkeep hnow
  have hattempts : e.f (LINK_PORT_STAT_attempts p) = d.f (LINK_PORT_STAT_attempts p) :=
    (hkeep.f (offLanes_low (by simp [LINK_PORT_STAT_attempts]) (by simp only [LINK_PORT_STAT_attempts]; omega) p)).trans (hset hne.symm)
  obtain ⟨heq, hcount⟩ := failedAttempt_few (hattempts.trans_lt ha)
  rw [heq]
  refine ⟨f_setF_same .., ?_, ?_, ?_, hnow⟩
  · exact (f_setF_other (hlane (2 * p) (by omega)).1 ..).trans ((f_setF_other (hlane (2 * p) (by omega)).2 ..).trans hl0)
  · exact (f_setF_other (hlane (2 * p + 1) (by omega)).1 ..).trans ((f_setF_other (hlane (2 * p + 1) (by omega)).2 ..).trans hl1)
  · exact (f_setF_other hne.symm ..).trans (hcount.trans (by rw [hattempts]))

/-! ### A port's fault -/

theorem portRestart_spec (p : Nat) (d : Dev) : (portRestart p d).port p = 1 ∧ (portRestart p d).f (LINK_PORT_STAT_attempts p) = 0 :=
  ⟨(f_setF_other (portState_ne_attempts p) ..).trans (f_setF_same ..), f_setF_same ..⟩

/-- The fields outside a port's status. -/
structure OffPort (p : Nat) (x : Fld) : Prop where
  free : evFree x
  off : x.off ≠ 0x500100 + 0x40 * p

theorem KeepsLink.port {P : Fld → Prop} {p : Nat} {d e : Dev} (h : KeepsLink P d e) (hP : ∀ x, P x → OffPort p x) {hi lo rst : Nat} (hl : lo < 32)
    (v : Nat) : KeepsLink P d (setF ⟨0x500100 + 0x40 * p, hi, lo, rst⟩ v e) := by
  refine h.set (fun x hx => ?_) ⟨by show 0x680 ≤ 0x500100 + 0x40 * p; omega, hl⟩ v
  have hlo := (hP x hx).free.1
  have hoff := (hP x hx).off
  simp only [Fld.key]
  omega

theorem keepsLink_portRestart (p : Nat) (d : Dev) : KeepsLink (OffPort p) d (portRestart p d) :=
  .port (p := p) (hi := 11) (lo := 8) (rst := 0) (.port (p := p) (hi := 2) (lo := 0) (rst := 0) (.refl _ d) (fun _ h => h) (by decide) 1)
    (fun _ h => h) (by decide) 0

/-- The lanes of a port remember that its fault returned them to SEEK. -/
def markFell (p : Nat) (d : Dev) : Dev := forAll [2 * p, 2 * p + 1] (fun l => modLane l fun x => { x with fell := true }) d

theorem markFell_regs (p : Nat) (d : Dev) : (markFell p d).regs = d.regs := rfl

theorem portFault_up {p : Nat} {d : Dev} (h : d.portUp p = true) : portFault p d = portGone p (markFell p (seekBoth p (portRestart p d))) := by
  unfold portFault
  rw [if_pos h]
  rfl

theorem portFault_spec {p : Nat} {d : Dev} (hp : p < 2) (h : d.portUp p = true) : (portFault p d).port p = 1 ∧
    (portFault p d).f (LINK_PORT_STAT_attempts p) = 0 ∧
    ∀ x, BesideTraffic x → x.off < 0x500200 → x.off ≠ 0x500100 + 0x40 * p → (portFault p d).f x = d.f x := by
  have hgone {x : Fld} (hx : BesideTraffic x) (hlow : x.off < 0x500200) : (portFault p d).f x = (portRestart p d).f x := by
    rw [portFault_up h]
    exact ((keepsLink_portGone hp _).f hx).trans ((f_congr (markFell_regs ..) x).trans
      ((keepsLink_seekBoth p _).f (offLanes_low hx.flows.free.1 hlow p)))
  obtain ⟨hstate, hattempts⟩ := portRestart_spec p d
  have hlow : 0x500100 + 0x40 * p < 0x500200 := by omega
  exact ⟨(hgone (besideTraffic_port hp (by decide) (by decide)) hlow).trans hstate,
    (hgone (besideTraffic_port hp (by decide) (by decide)) hlow).trans hattempts,
    fun x hx hl ho => (hgone hx hl).trans ((keepsLink_portRestart p d).f ⟨hx.flows.free, ho⟩)⟩

/-- Uncorrectable codewords are counted and reported. -/
def countCodewords (p n corr : Nat) (l : List (Nat × Nat)) (d : Dev) : Dev :=
  raiseSec 24 24 p 0 0 (addF (LINK_PORT_FEC_uncorrected p) n (modLink (fun k => { k with fec := smPut [] p l k.fec })
    (setF (LINK_PORT_FEC_corrected p) (min corr 65535) d)))

theorem fecUncorrected_eight {p n corr : Nat} {d : Dev} (h : d.portUp p = true) (hn : 8 ≤ n) :
    fecUncorrected p n corr d = portFault p (countCodewords p n corr [] d) := by
  have hup : (setF (LINK_PORT_FEC_corrected p) (min corr 65535) d).portUp p = true := by
    have hne : (LINK_PORT_STAT_state p).key ≠ (LINK_PORT_FEC_corrected p).key := by
      simp only [LINK_PORT_STAT_state, LINK_PORT_FEC_corrected, Fld.key]; omega
    exact (congrArg (· == 3) (f_setF_other hne ..)).trans h
  have hfault (l : List (Nat × Nat)) : decide (8 ≤ (((d.now, n) :: l).map Prod.snd).sum) = true := by
    simp only [List.map_cons, List.sum_cons, decide_eq_true_eq]
    omega
  unfold fecUncorrected
  extract_lets e l fault
  rw [if_pos ⟨hup, by omega⟩, show fault = true from hfault _]
  rfl

theorem countCodewords_spec {p n corr : Nat} (hp : p < 2) (l : List (Nat × Nat)) (d : Dev) : (countCodewords p n corr l d).port p = d.port p ∧
    (countCodewords p n corr l d).f (LINK_PORT_FEC_uncorrected p) = min (d.f (LINK_PORT_FEC_uncorrected p) + n) 65535 ∧
    (countCodewords p n corr l d).f (LINK_PORT_FEC_corrected p) = min corr 65535 := by
  have hraise {x : Fld} (hx : BesideTraffic x) : (countCodewords p n corr l d).f x = (addF (LINK_PORT_FEC_uncorrected p) n
      (setF (LINK_PORT_FEC_corrected p) (min corr 65535) d)).f x := f_raiseSec hx.flows.free 24 (by decide) ..
  have hstate : (LINK_PORT_STAT_state p).key ≠ (LINK_PORT_FEC_uncorrected p).key ∧ (LINK_PORT_STAT_state p).key ≠ (LINK_PORT_FEC_corrected p).key := by
    simp only [LINK_PORT_STAT_state, LINK_PORT_FEC_uncorrected, LINK_PORT_FEC_corrected, Fld.key]; omega
  have hwords : (LINK_PORT_FEC_corrected p).key ≠ (LINK_PORT_FEC_uncorrected p).key := by
    simp only [LINK_PORT_FEC_uncorrected, LINK_PORT_FEC_corrected, Fld.key]; omega
  have hsize : (LINK_PORT_FEC_uncorrected p).size = 65536 ∧ (LINK_PORT_FEC_corrected p).size = 65536 := ⟨rfl, rfl⟩
  refine ⟨(hraise (besideTraffic_port hp (by decide) (by decide))).trans ((f_setF_other hstate.1 ..).trans (f_setF_other hstate.2 ..)), ?_, ?_⟩
  · refine (hraise (besideTraffic_fec hp (by decide))).trans ((f_setF_same ..).trans ?_)
    rw [f_setF_other hwords.symm, hsize.1, Nat.mod_eq_of_lt (by omega)]
  · refine (hraise (besideTraffic_fec hp (by decide))).trans ((f_setF_other hwords ..).trans ((f_setF_same ..).trans ?_))
    rw [hsize.2, Nat.mod_eq_of_lt (by omega)]

theorem fecUncorrected_spec {p n corr : Nat} {d : Dev} (hp : p < 2) (h : d.portUp p = true) (hn : 8 ≤ n) :
    (fecUncorrected p n corr d).port p = 1 ∧
      (fecUncorrected p n corr d).f (LINK_PORT_FEC_uncorrected p) = min (d.f (LINK_PORT_FEC_uncorrected p) + n) 65535 ∧
      (fecUncorrected p n corr d).f (LINK_PORT_FEC_corrected p) = min corr 65535 := by
  rw [fecUncorrected_eight h hn]
  obtain ⟨hport, hunc, hcorr⟩ := countCodewords_spec (n := n) (corr := corr) hp [] d
  obtain ⟨hone, -, hkeep⟩ := portFault_spec (d := countCodewords p n corr [] d) hp ((congrArg (· == 3) hport).trans h)
  have hlow : 0x500104 + 0x40 * p < 0x500200 ∧ 0x500104 + 0x40 * p ≠ 0x500100 + 0x40 * p := by omega
  exact ⟨hone, (hkeep _ (besideTraffic_fec hp (by decide)) hlow.1 hlow.2).trans hunc,
    (hkeep _ (besideTraffic_fec hp (by decide)) hlow.1 hlow.2).trans hcorr⟩

/-! ### A port that is sought again -/

theorem keepsLink_portSeeks (p : Nat) (d : Dev) : KeepsLink (OffPort p) d (portSeeks p d) := by
  have hset (v : Nat) : KeepsLink (OffPort p) d (setF (LINK_PORT_STAT_state p) v d) :=
    .port (p := p) (hi := 2) (lo := 0) (rst := 0) (.refl _ d) (fun _ h => h) (by decide) v
  exact .ite _ (hset 1) (.ite _ (.refl _ d) ((hset 4).raise (fun _ h => h.free) (by decide) _ _ _))

theorem portSeeks_notUp {p : Nat} (hp : p < 2) (d : Dev) (h : d.portUp p = false) : (portSeeks p d).portUp p = false := by
  have hset {v : Nat} (hv : v % 8 ≠ 3) : (setF (LINK_PORT_STAT_state p) v d).portUp p = false := by
    unfold Dev.portUp Dev.port
    rw [f_setF_same]
    exact beq_eq_false_iff_ne.mpr hv
  unfold portSeeks
  split
  · exact hset (by decide)
  · split
    · exact h
    · refine Eq.trans ?_ (hset (v := 4) (by decide))
      exact congrArg (· == 3) (f_raise (besideTraffic_port hp (by decide) (by decide)).flows.free (by decide) ..)

/-- A port that is not UP follows lanes that seek. -/
theorem portFollow_seeking {p : Nat} {d : Dev} (hl : d.lane (2 * p) = 1) (hu : d.portUp p = false) :
    portFollow p d = if d.port p = 2 then portSeeks p d else d := by
  unfold portFollow
  simp [hl, hu]

theorem reseek_eq (p : Nat) (d : Dev) : reseek p d = if d.portUp p then portGone p (portRestart p (seekBoth p d)) else portFollow p (seekBoth p d) := rfl

theorem reseek_spec {p : Nat} {d : Dev} (hp : p < 2) (h0 : d.lane (2 * p) = 5) (h1 : d.lane (2 * p + 1) = 5) (hr : d.portRest p = false) :
    (reseek p d).lane (2 * p) = 1 ∧ (reseek p d).lane (2 * p + 1) = 1 ∧ (reseek p d).portUp p = false := by
  obtain ⟨hl0, hl1⟩ := seekBoth_lanes h0 h1 hr
  have hstate : (seekBoth p d).port p = d.port p :=
    (keepsLink_seekBoth p d).f (offLanes_low (by simp [LINK_PORT_STAT_state]) (by simp only [LINK_PORT_STAT_state]; omega) p)
  have hup : (seekBoth p d).portUp p = d.portUp p := congrArg (· == 3) hstate
  have hfree {l : Nat} (hl : l < 4) : OffPort p (LINK_LANE_STAT_state l) :=
    ⟨(besideTraffic_lane hl (by decide)).flows.free, by simp only [LINK_LANE_STAT_state]; omega⟩
  rw [reseek_eq]
  generalize seekBoth p d = e at hl0 hl1 hup
  split
  next =>
    have hgone {x : Fld} (hx : BesideTraffic x) := (keepsLink_portGone hp (portRestart p e)).f hx
    have hlane {l : Nat} (hl : l < 4) : (portGone p (portRestart p e)).lane l = e.lane l :=
      (hgone (besideTraffic_lane hl (by decide))).trans ((keepsLink_portRestart p e).f (hfree hl))
    have hport : (portGone p (portRestart p e)).port p = 1 :=
      (hgone (besideTraffic_port hp (by decide) (by decide))).trans (portRestart_spec p e).1
    exact ⟨(hlane (by omega)).trans hl0, (hlane (by omega)).trans hl1, by unfold Dev.portUp; rw [hport]; rfl⟩
  next h =>
    have hnot : e.portUp p = false := hup.trans (Bool.eq_false_iff.mpr h)
    rw [portFollow_seeking hl0 hnot]
    split
    · have hlane {l : Nat} (hl : l < 4) : (portSeeks p e).lane l = e.lane l := (keepsLink_portSeeks p e).f (hfree hl)
      exact ⟨(hlane (by omega)).trans hl0, (hlane (by omega)).trans hl1, portSeeks_notUp hp e hnot⟩
    · exact ⟨hl0, hl1, hnot⟩

/-! ### The rest of the lanes -/

/-- The fields below the registers of ports and lanes that no move of the traffic touches. -/
structure BelowPorts (x : Fld) : Prop where
  traffic : BesideTraffic x
  low : x.off < 0x500100

theorem BelowPorts.offPort {x : Fld} (h : BelowPorts x) (p : Nat) : OffPort p x := ⟨h.traffic.flows.free, by have := h.low; omega⟩
theorem BelowPorts.offLane {x : Fld} (h : BelowPorts x) (l : Nat) : OffLane l x := ⟨h.traffic.flows.free.1, by have := h.low; omega⟩

theorem keepsLink_portFollow {p : Nat} (hp : p < 2) (d : Dev) : KeepsLink BelowPorts d (portFollow p d) := by
  have h := KeepsLink.refl BelowPorts d
  have haligning : KeepsLink BelowPorts d (setF (LINK_PORT_STAT_state p) 2 d) :=
    .port (p := p) (hi := 2) (lo := 0) (rst := 0) h (fun _ hx => hx.offPort p) (by decide) 2
  have hrestart : KeepsLink BelowPorts d (portRestart p d) := (keepsLink_portRestart p d).weaken fun _ hx => hx.offPort p
  have hgone : KeepsLink BelowPorts d (portGone p (portRestart p d)) := hrestart.trans ((keepsLink_portGone hp _).weaken fun _ hx => hx.traffic)
  have hseeks : KeepsLink BelowPorts d (portSeeks p d) := (keepsLink_portSeeks p d).weaken fun _ hx => hx.offPort p
  exact .ite _ (.ite _ (haligning.modLink _) h) (.ite _ hgone (.ite _ hseeks h))

/-- A lane shows its rest bits. -/
def showRest (l : Nat) (d : Dev) : Dev :=
  d |> setB (LINK_LANE_STAT_rx_rest l) (d.rxRest l) |> setB (LINK_LANE_STAT_tx_rest l) (d.fb LINK_REST_tx_rest l)
    |> onlyIf (d.rxRest l) (setB (LINK_LANE_STAT_cdr_lock l) false)

theorem keepsLink_showRest (l : Nat) (d : Dev) : KeepsLink BelowPorts d (showRest l d) := by
  have hset {e : Dev} (h : KeepsLink BelowPorts d e) {hi lo : Nat} (hl : lo < 32) (v : Nat) :
      KeepsLink BelowPorts d (setF ⟨0x500200 + 0x40 * l, hi, lo, 0⟩ v e) := h.lane (fun _ hx => hx.offLane l) hl v
  have hshow := hset (hi := 8) (hset (hi := 9) (.refl _ d) (lo := 9) (by decide) (ofBool (d.rxRest l))) (lo := 8) (by decide)
    (ofBool (d.fb LINK_REST_tx_rest l))
  exact .ite _ (hset (hi := 7) hshow (lo := 7) (by decide) 0) hshow

/-- A lane whose rest ends acquires. -/
def wakeLane (l : Nat) (d : Dev) : Dev := if d.lane l = 0 then d else laneEnter l 3 d

theorem linkRest_eq (d : Dev) : linkRest d = portFollow 1 (portFollow 0
    (forAll ((List.range 4).filter fun l => d.on (LINK_LANE_STAT_rx_rest l) && !d.rxRest l) wakeLane (forAll (List.range 4) showRest d))) := rfl

/-- The lanes follow the rest bits, which stay as they were written. -/
theorem keepsLink_linkRest (d : Dev) : KeepsLink BelowPorts d (linkRest d) := by
  have hshow : KeepsLink BelowPorts d (forAll (List.range 4) showRest d) := .each (.refl _ d) fun l _ e => keepsLink_showRest l e
  have hwake (l : Nat) (e : Dev) : KeepsLink BelowPorts e (wakeLane l e) :=
    .ite _ (.refl _ e) ((keepsLink_laneEnter l 3 e).weaken fun _ hx => hx.offLane l)
  rw [linkRest_eq]
  exact ((hshow.each fun l _ e => hwake l e).trans (keepsLink_portFollow (by decide) _)).trans (keepsLink_portFollow (by decide) _)

end Sys2Proof.Machine
end
section
/-!
PROOF. Ports that come UP, the failover and the return (O30), and the obligation.
-/
namespace Sys2Proof.Machine

/-! ### A port that comes UP -/

/-- A port's measured timestamp latencies. -/
def ingressFld (p : Nat) : Fld := if p = 0 then TL_TS_LAT_A_ingress else TL_TS_LAT_B_ingress
def egressFld (p : Nat) : Fld := if p = 0 then TL_TS_LAT_A_egress else TL_TS_LAT_B_egress

/-- The port is UP, with its latencies, before the traffic follows. -/
def enterUp (p rx tx : Nat) (d : Dev) : Dev :=
  d |> setF (LINK_PORT_STAT_state p) 3 |> setF (LINK_PORT_STAT_attempts p) 0 |> incF (LINK_PORT_STAT_ups p)
    |> modLink (fun k => { k with portAt := smPut 0 p d.now k.portAt, fec := smPut [] p [] k.fec })
    |> setF (ingressFld p) (latMeasured rx) |> setF (egressFld p) (latMeasured tx)

/-- The traffic follows a port that came UP. -/
def upFollows (p : Nat) (d : Dev) : Dev := checkHold (trafficBack p (refreshFlows (timingUp p (raise 19 p 0 0 d))))

theorem portComesUp_eq (p rx tx : Nat) (d : Dev) : portComesUp p rx tx d = upFollows p (enterUp p rx tx d) := by
  unfold portComesUp upFollows enterUp ingressFld egressFld
  split <;> rfl

theorem keepsLink_upFollows (p : Nat) (d : Dev) : KeepsLink BesideTraffic (raise 19 p 0 0 d) (upFollows p d) :=
  ((keepsLink_timingUp p _).refresh.trans (keepsLink_trafficBack p _)).hold

theorem sendMsg_regs (p fam kind : Nat) (body : List Nat) (d : Dev) : (sendMsg p fam kind body d).regs = d.regs := rfl

theorem evMono_sendMsgs (ports : List Nat) (fam kind : Nat) (body : List Nat) (d : Dev) :
    EvMono d (forAll ports (fun p => sendMsg p fam kind body) d) :=
  mono_forAll ports (fun p => sendMsg p fam kind body) (fun p _ e => (EvMono.refl e).regs (sendMsg_regs p fam kind body e)) d

theorem evMono_sendOffer (ports : List Nat) (d : Dev) : EvMono d (sendOffer ports d) := by
  have hsent := evMono_sendMsgs ports 0x44 2 ([5] ++ d.ownOffer.flatMap fun x => [x.1, x.2.1, x.2.2, 0]) d
  exact .ite _ hsent (hsent.set LINK_XK_STAT_caps (by decide) 1)

/-- The first port that is UP starts the watch over the peer. -/
def watchPeer (first : Bool) (now : Nat) (d : Dev) : Dev := onlyIf first (modXk fun x => { x with lifeAt := max x.lifeAt now }) d

theorem watchPeer_regs (first : Bool) (now : Nat) (d : Dev) : (watchPeer first now d).regs = d.regs := by
  cases first <;> rfl

theorem portUpRow_eq {p rx tx : Nat} {d : Dev} (h : d.port p = 2) :
    portUpRow p rx tx d = sendOffer [p] (watchPeer d.upPorts.isEmpty d.now (upFollows p (enterUp p rx tx d))) := by
  unfold portUpRow watchPeer
  rw [if_pos h, ← portComesUp_eq]

/-- What a port's entry to UP leaves between its own fields and the end of its row. -/
theorem portUpRow_keeps {p rx tx : Nat} {d : Dev} (h : d.port p = 2) :
    (∀ x, BesideTraffic x → x.key ≠ LINK_XK_STAT_caps.key → (portUpRow p rx tx d).f x = (enterUp p rx tx d).f x) ∧
      (portUpRow p rx tx d).evPending 19 = true := by
  have hup := keepsLink_upFollows p (enterUp p rx tx d)
  rw [portUpRow_eq h]
  refine ⟨fun x hx hc => ?_, ?_⟩
  · refine ((keepsFields_sendOffer [p] _).field x ⟨hx.flows.free, hc⟩).trans ((f_congr (watchPeer_regs ..) x).trans ((hup.f hx).trans ?_))
    exact f_raise hx.flows.free (by decide) ..
  · exact ((hup.mono.regs (watchPeer_regs ..)).trans (evMono_sendOffer [p] _)) 19 (by decide) (evPending_raise 19 (by decide) ..).1

theorem latMeasured_within {x : Nat} (h : 320 ≤ x ∧ x ≤ 4000) : latMeasured x % 65536 = x := by
  unfold latMeasured
  omega

theorem enterUp_spec {p rx tx : Nat} (hp : p < 2) (hrx : 320 ≤ rx ∧ rx ≤ 4000) (htx : 320 ≤ tx ∧ tx ≤ 4000) (d : Dev) :
    (enterUp p rx tx d).port p = 3 ∧ (enterUp p rx tx d).f (LINK_PORT_STAT_attempts p) = 0 ∧ (enterUp p rx tx d).f (ingressFld p) = rx ∧
      (enterUp p rx tx d).f (egressFld p) = tx := by
  have hw := latMeasured_within hrx
  have hw' := latMeasured_within htx
  obtain rfl | rfl : p = 0 ∨ p = 1 := by omega
  all_goals
    refine ⟨(f_setF_other (by decide) ..).trans ((f_setF_other (by decide) ..).trans ((f_setF_other (by decide) ..).trans
        ((f_setF_other (by decide) ..).trans (f_setF_same ..)))),
      (f_setF_other (by decide) ..).trans ((f_setF_other (by decide) ..).trans ((f_setF_other (by decide) ..).trans (f_setF_same ..))),
      (f_setF_other (by decide) ..).trans ((f_setF_same ..).trans hw), (f_setF_same ..).trans hw'⟩

theorem besideTraffic_latencies (p : Nat) : BesideTraffic (ingressFld p) ∧ BesideTraffic (egressFld p) ∧
    (ingressFld p).key ≠ LINK_XK_STAT_caps.key ∧ (egressFld p).key ≠ LINK_XK_STAT_caps.key := by
  unfold ingressFld egressFld
  split <;> exact ⟨⟨⟨by decide, by decide, by decide, by decide⟩, by decide, by decide, by decide⟩,
    ⟨⟨by decide, by decide, by decide, by decide⟩, by decide, by decide, by decide⟩, by decide, by decide⟩

theorem portUpRow_spec {p rx tx : Nat} {d : Dev} (hp : p < 2) (hrx : 320 ≤ rx ∧ rx ≤ 4000) (htx : 320 ≤ tx ∧ tx ≤ 4000) (h : d.port p = 2) :
    (portUpRow p rx tx d).port p = 3 ∧ (portUpRow p rx tx d).f (LINK_PORT_STAT_attempts p) = 0 ∧ (portUpRow p rx tx d).evPending 19 = true ∧
      (portUpRow p rx tx d).f (ingressFld p) = rx ∧ (portUpRow p rx tx d).f (egressFld p) = tx := by
  obtain ⟨hstate, hattempts, hin, hout⟩ := enterUp_spec hp hrx htx d
  obtain ⟨hkeep, hev⟩ := portUpRow_keeps (rx := rx) (tx := tx) h
  obtain ⟨hbin, hbout, hcin, hcout⟩ := besideTraffic_latencies p
  have hcaps {hi lo rst : Nat} : (⟨0x500100 + 0x40 * p, hi, lo, rst⟩ : Fld).key ≠ LINK_XK_STAT_caps.key ∨ 32 ≤ lo := by
    simp only [LINK_XK_STAT_caps, Fld.key]
    omega
  exact ⟨(hkeep _ (besideTraffic_port hp (by decide) (by decide)) (hcaps.resolve_right (by decide))).trans hstate,
    (hkeep _ (besideTraffic_port hp (by decide) (by decide)) (hcaps.resolve_right (by decide))).trans hattempts, hev,
    (hkeep _ hbin hcin).trans hin, (hkeep _ hbout hcout).trans hout⟩

/-! ### The failover -/

theorem checkHold_only (d : Dev) : ∃ h, checkHold d = modLink (fun k => { k with holdAt := h }) d := by
  unfold checkHold
  split
  · exact ⟨_, rfl⟩
  · exact ⟨_, rfl⟩

theorem setCarry_link (mask : Nat) (fb : Bool) (d : Dev) : (setCarry mask fb d).link = { d.link with carry := some mask } :=
  refreshFlows_same Dev.link (fun _ _ _ => rfl) _

theorem setCarry_now (mask : Nat) (fb : Bool) (d : Dev) : (setCarry mask fb d).now = d.now := refreshFlows_same Dev.now (fun _ _ _ => rfl) _

/-- The flows' registers aside, a carry writes LINK_STAT.fallback alone. -/
theorem f_setCarry {x : Fld} (hx : BesideFlows x) (hk : x.key ≠ LINK_STAT_fallback.key) (mask : Nat) (fb : Bool) (d : Dev) :
    (setCarry mask fb d).f x = d.f x := ((keepsLink_refreshFlows _).f hx).trans (f_setB_other hk ..)

theorem besideFlows_fallback : BesideFlows LINK_STAT_fallback := ⟨by decide, by decide, by decide, by decide⟩

theorem fallback_setCarry (mask : Nat) (fb : Bool) (d : Dev) : (setCarry mask fb d).on LINK_STAT_fallback = fb := by
  unfold Dev.on
  rw [show (setCarry mask fb d).f LINK_STAT_fallback = _ from (keepsLink_refreshFlows _).f besideFlows_fallback]
  exact on_setB_same LINK_STAT_fallback (by decide) fb _

/-- The flows stand on the other port, and the failover is counted with its time. -/
def flowsMove (ns o : Nat) (d : Dev) : Dev :=
  setF LINK_FAILOVER_last_ns (min ns 65535) (incF LINK_FAILOVER_count (setCarry (2 ^ o) true (modLink (fun k => { k with moveTo := none }) d)))

/-- Its events: E020, and E154 when it took too long. -/
def noteFailover (ns o : Nat) (d : Dev) : Dev := onlyIf (decide (ns > 20000)) (raise 154 o 5 (min 65535 (ns / 1000))) (raise 20 o 0 0 d)

theorem failover_moves {ns o : Nat} {d : Dev} (h : d.link.moveTo = some o) (hu : d.portUp o = true) :
    failover ns d = checkHold (noteFailover ns o (flowsMove ns o d)) := by
  unfold failover
  rw [h]
  exact if_pos hu

theorem noteFailover_keeps (ns o : Nat) (d : Dev) : (∀ x, evFree x → (noteFailover ns o d).f x = d.f x) ∧
    (noteFailover ns o d).link = d.link ∧ (noteFailover ns o d).evPending 20 = true := by
  have hev : (raise 20 o 0 0 d).evPending 20 = true := (evPending_raise 20 (by decide) ..).1
  unfold noteFailover onlyIf
  split
  · exact ⟨fun x hx => (f_raise hx (by decide) ..).trans (f_raise hx (by decide) ..), (raise_link (by decide) ..).trans (raise_link (by decide) ..),
      (evPending_raise 154 (by decide) ..).2 20 (by decide) hev⟩
  · exact ⟨fun x hx => f_raise hx (by decide) .., raise_link (by decide) .., hev⟩

theorem flowsMove_spec (ns o : Nat) (d : Dev) : (flowsMove ns o d).link = { d.link with moveTo := none, carry := some (2 ^ o) } ∧
    (flowsMove ns o d).f LINK_STAT_fallback = 1 ∧ (flowsMove ns o d).f LINK_FAILOVER_last_ns = min ns 65535 ∧
    (flowsMove ns o d).f LINK_FAILOVER_count = min (d.f LINK_FAILOVER_count + 1) (LINK_FAILOVER_count.size - 1) := by
  have hcount : (setCarry (2 ^ o) true (modLink (fun k => { k with moveTo := none }) d)).f LINK_FAILOVER_count = d.f LINK_FAILOVER_count :=
    f_setCarry ⟨by decide, by decide, by decide, by decide⟩ (by decide) ..
  have hfallback : (setCarry (2 ^ o) true (modLink (fun k => { k with moveTo := none }) d)).f LINK_STAT_fallback = 1 :=
    eq_of_beq (fallback_setCarry ..)
  have hlink := setCarry_link (2 ^ o) true (modLink (fun k => { k with moveTo := none }) d)
  unfold flowsMove
  generalize setCarry (2 ^ o) true (modLink (fun k => { k with moveTo := none }) d) = e at hcount hfallback hlink
  have hsize : LINK_FAILOVER_count.size = 65536 ∧ LINK_FAILOVER_last_ns.size = 65536 := ⟨rfl, rfl⟩
  have hmoved : (setF LINK_FAILOVER_last_ns (min ns 65535) (incF LINK_FAILOVER_count e)).link = e.link := (setF_link ..).trans (setF_link ..)
  refine ⟨hmoved.trans hlink, (f_setF_other (by decide) ..).trans ((f_setF_other (by decide) ..).trans hfallback), (f_setF_same ..).trans ?_,
    (f_setF_other (by decide) ..).trans ((f_setF_same ..).trans ?_)⟩
  · rw [hsize.2]; omega
  · rw [hcount, hsize.1]; omega

theorem failover_spec {ns o : Nat} {d : Dev} (h : d.link.moveTo = some o) (hu : d.portUp o = true) :
    (failover ns d).link.carry = some (2 ^ o) ∧ (failover ns d).on LINK_STAT_fallback = true ∧ (failover ns d).evPending 20 = true ∧
      (failover ns d).f LINK_FAILOVER_last_ns = min ns 65535 ∧ (failover ns d).link.moveTo = none ∧
      (failover ns d).f LINK_FAILOVER_count = min (d.f LINK_FAILOVER_count + 1) (LINK_FAILOVER_count.size - 1) := by
  obtain ⟨hlink, hfallback, hns, hcount⟩ := flowsMove_spec ns o d
  obtain ⟨hf, hl, hev⟩ := noteFailover_keeps ns o (flowsMove ns o d)
  rw [failover_moves h hu]
  generalize noteFailover ns o (flowsMove ns o d) = e at hf hl hev
  obtain ⟨k, hk⟩ := checkHold_only e
  rw [hk]
  rw [hlink] at hl
  exact ⟨congrArg LinkSt.carry hl, on_eq_of_f ((hf _ (by decide)).trans hfallback), hev, (hf _ (by decide)).trans hns, congrArg LinkSt.moveTo hl,
    (hf _ (by decide)).trans hcount⟩

/-! ### The return -/

/-- The return is due at the next frame boundary with the lead. -/
def dueReturn (d : Dev) : Dev := modLink (fun k => { k with holdAt := none, failbackAt := some d.frameLead }) d

theorem revertHoldExpired_held {d : Dev} {at_ : Nat} (h : d.link.holdAt = some at_) :
    revertHoldExpired d = dueReturn (passTo (at_ + usTicks (100000 * d.map.hold)) d) := by
  unfold revertHoldExpired
  rw [h]
  rfl

theorem dueReturn_spec (at_ : Nat) (d : Dev) : (dueReturn (passTo at_ d)).link.failbackAt = some (dueReturn (passTo at_ d)).frameLead ∧
    (dueReturn (passTo at_ d)).link.holdAt = none ∧ (dueReturn (passTo at_ d)).now = max d.now at_ ∧ (dueReturn (passTo at_ d)).regs = d.regs :=
  ⟨rfl, rfl, passTo_now .., passTo_regs ..⟩

/-- The traffic returns to the arrangement of the map. -/
def trafficReturns (d : Dev) : Dev := setTiming d.map.timingPort (raise0 21 (setCarry d.map.arrangement false d))

/-- The return begins: nothing is due any more. -/
def returnBegins (at_ : Nat) (d : Dev) : Dev := modLink (fun k => { k with failbackAt := none }) (passTo at_ d)

theorem returnBegins_same (at_ : Nat) (d : Dev) : (returnBegins at_ d).moved = d.moved ∧ (returnBegins at_ d).arrangementUp = d.arrangementUp ∧
    (returnBegins at_ d).map = d.map ∧ (returnBegins at_ d).now = max d.now at_ ∧ (returnBegins at_ d).link.failbackAt = none := by
  obtain ⟨n, k, f, i, h⟩ := passTo_air at_ d
  unfold returnBegins
  rw [h]
  exact ⟨rfl, rfl, rfl, rfl, rfl⟩

theorem failback_returns {d : Dev} {at_ : Nat} (h : d.link.failbackAt = some at_) (hm : d.moved = true) (hu : d.arrangementUp = true) :
    failback d = checkHold (trafficReturns (returnBegins at_ d)) := by
  obtain ⟨hmoved, hup, -⟩ := returnBegins_same at_ d
  have hreturns : ((returnBegins at_ d).moved && (returnBegins at_ d).arrangementUp) = true := by rw [hmoved, hup, hm, hu]; rfl
  unfold failback
  rw [h]
  exact if_pos hreturns

theorem timingPort_lt (m : SpanImg) : m.timingPort < 2 := by
  unfold SpanImg.timingPort
  split <;> decide

/-- The servo is on the port named; the traffic and the instant stay. -/
theorem setTiming_spec {p : Nat} (hp : p < 2) (d : Dev) : (setTiming p d).f LINK_STAT_timing_port = p ∧ (setTiming p d).now = d.now ∧
    (setTiming p d).link.carry = d.link.carry ∧ (setTiming p d).link.failbackAt = d.link.failbackAt := by
  unfold setTiming
  split
  next h => exact ⟨h.2, rfl, rfl, rfl⟩
  next h =>
    have hsame : (LINK_STAT_timing_port).size = 2 := rfl
    split <;> exact ⟨(f_setF_same ..).trans (by rw [hsame]; exact Nat.mod_eq_of_lt hp), rfl, rfl, rfl⟩

theorem trafficReturns_spec (d : Dev) : (trafficReturns d).link.carry = some d.map.arrangement ∧ (trafficReturns d).on LINK_STAT_fallback = false ∧
    (trafficReturns d).evPending 21 = true ∧ (trafficReturns d).now = d.now ∧ (trafficReturns d).link.failbackAt = d.link.failbackAt ∧
    (trafficReturns d).f LINK_STAT_timing_port = d.map.timingPort := by
  obtain ⟨hport, hnow, hcarry, hdue⟩ := setTiming_spec (timingPort_lt d.map) (raise0 21 (setCarry d.map.arrangement false d))
  have hkeep : KeepsLink (fun x => x.key ≠ LINK_STAT_timing_port.key) (raise0 21 (setCarry d.map.arrangement false d)) (trafficReturns d) :=
    .timing (.refl _ _) (fun _ hx => hx) _
  have hlink : (raise0 21 (setCarry d.map.arrangement false d)).link = { d.link with carry := some d.map.arrangement } :=
    (raise0_link (by decide) _).trans (setCarry_link ..)
  have hfallback : (raise0 21 (setCarry d.map.arrangement false d)).on LINK_STAT_fallback = false :=
    (congrArg (· == 1) (f_raise0 (by decide) (by decide) _)).trans (fallback_setCarry ..)
  exact ⟨hcarry.trans (congrArg LinkSt.carry hlink), (congrArg (· == 1) (hkeep.f (by decide))).trans hfallback,
    hkeep.mono 21 (by decide) (evPending_raise0 (by decide) _), hnow.trans ((raise0_now (by decide) _).trans (setCarry_now ..)),
    hdue.trans ((congrArg LinkSt.failbackAt hlink).trans rfl), hport⟩

theorem failback_spec {d : Dev} {at_ : Nat} (h : d.link.failbackAt = some at_) (hm : d.moved = true) (hu : d.arrangementUp = true) :
    (failback d).link.carry = some d.map.arrangement ∧ (failback d).on LINK_STAT_fallback = false ∧ (failback d).evPending 21 = true ∧
      (failback d).now = max d.now at_ ∧ (failback d).link.failbackAt = none ∧ (failback d).f LINK_STAT_timing_port = d.map.timingPort := by
  obtain ⟨-, -, hmap, hnow, hnone⟩ := returnBegins_same at_ d
  obtain ⟨hcarry, hfallback, hev, hkeep, hdue, hport⟩ := trafficReturns_spec (returnBegins at_ d)
  rw [failback_returns h hm hu]
  generalize trafficReturns (returnBegins at_ d) = e at hcarry hfallback hev hkeep hdue hport
  rw [hmap] at hcarry hport
  obtain ⟨k, hk⟩ := checkHold_only e
  rw [hk]
  exact ⟨hcarry, hfallback, hev, hkeep.trans hnow, hdue.trans hnone, hport⟩

/-! ### The host's words -/

theorem tlWriteAfter_link {off : Nat} (h : 0x500000 ≤ off) (org : Origin) (v : Nat) (d : Dev) : tlWriteAfter org off v d = d := by
  unfold tlWriteAfter
  rw [if_neg (by omega), if_neg (by omega), if_neg (by simp only [TL_REF_CFG_ref_sel]; omega), if_neg (by simp only [TL_ALIGN_CFG_role]; omega)]

theorem tlRefuses_link {off : Nat} (h : 0x500000 ≤ off) (v : Nat) (d : Dev) : tlRefuses off v d = none := by
  unfold tlRefuses
  rw [if_neg (by omega), if_neg (by omega), if_neg (by omega), if_neg (by omega)]

theorem linkRefuses_cmd {v : Nat} {d : Dev} (hr : d.reseekBad v = false) (hf : d.failbackBad v = false) : linkRefuses 0x500004 v d = none := by
  unfold linkRefuses
  simp [hr, hf, LINK_REST_rx_rest]

theorem linkRefuses_rest {v : Nat} {d : Dev} (h : d.restBad v = false) : linkRefuses 0x500018 v d = none := by
  unfold linkRefuses
  simp [h, LINK_REST_rx_rest]

section
variable {s : State} (hrun : Running s) (hq : s.d.hostWaits = false)
include hrun hq

/-- A word of a LINK register that is not governed and is not refused is stored and acted on. -/
theorem exec_linkWord {off v : Nat} {r : RegDef} (h : 0x500000 ≤ off ∧ off < 0x500100 ∧ off % 4 = 0) (hv : v < 2 ^ 32)
    (hg : governedWrite off v = false) (hb : findBank off = some r) (hr : isGoverned r.fields = false) (ht : taken off v = v)
    (ha : linkRefuses off v (fresh s.d) = none) {u : Dev → Dev}
    (hu : ∀ d, onlyIf (off == LINK_REST_rx_rest.off) linkRest (linkWriteAfter off v (storeReg off v false r.fields d)) = u d) :
    whileUp (hostWrite off v) s = .next (s.act (onDev fun d => u (fresh d))) := by
  have hlink : inTimeOrLink off := .inr ⟨h.1, h.2.1⟩
  have hafter (d : Dev) : timeOrLinkAfter .host off v d = onlyIf (off == LINK_REST_rx_rest.off) linkRest (linkWriteAfter off v d) := by
    unfold timeOrLinkAfter
    rw [tlWriteAfter_link h.1]
  have hrefuse : (tlRefuses off (taken off v) (onDev fresh s.blk).dev).or (linkRefuses off (taken off v) (onDev fresh s.blk).dev) = none := by
    rw [ht, tlRefuses_link h.1]
    exact ha
  have hw := hostWrite_timeOrLink hrun hq hlink h.2.2 v (by rw [Nat.mod_eq_of_lt hv]; exact .inl hg)
  rw [Nat.mod_eq_of_lt hv, (regWrite_timeOrLink hlink hb .host v _).2 hrefuse, regStore_timeOrLink hlink, ht, onDev_onDev] at hw
  refine (whileUp_up _ hrun.1).trans (congrArg (fun b => Host.Outcome.next { s with blk := b }) (hw.trans ?_))
  refine congrArg (fun e => { s.blk with dev := e }) ?_
  simp only [hafter, hr, hu, Bool.false_eq_true, if_false]

/-- An accepted word of LINK_CMD. -/
theorem exec_linkCmd {v : Nat} (hv : v < 2 ^ 32) (hg : governedWrite 0x500004 v = false) (hr : s.d.reseekBad v = false) (hf : s.d.failbackBad v = false) :
    whileUp (hostWrite 0x500004 v) s = .next (s.act (onDev fun d => linkWriteAfter 0x500004 v (fresh d))) :=
  exec_linkWord hrun hq ⟨by decide, by decide, by decide⟩ hv hg findBank_linkCmd rfl rfl (linkRefuses_cmd hr hf)
    (u := linkWriteAfter 0x500004 v) fun d => by rw [storeReg_cmd]; rfl

/-- An accepted word of LINK_REST. -/
theorem exec_linkRest {v : Nat} (hv : v < 2 ^ 32) (hr : s.d.restBad v = false) : whileUp (hostWrite 0x500018 v) s =
    .next (s.act (onDev fun d => linkRest (setF LINK_REST_tx_rest (bits v 3 0) (setF LINK_REST_rx_rest (bits v 11 8) (fresh d))))) := by
  have hg : governedWrite 0x500018 v = false := by
    have hoff : governedOff 0x500018 = false := by decide +kernel
    unfold governedWrite
    rw [hoff]
    rfl
  exact exec_linkWord hrun hq ⟨by decide, by decide, by decide⟩ hv hg findBank_linkRest rfl rfl (linkRefuses_rest hr)
    (u := fun d => linkRest (setF LINK_REST_tx_rest (bits v 3 0) (setF LINK_REST_rx_rest (bits v 11 8) d))) fun d => by
      rw [storeReg_linkRest]; rfl

end

theorem restBad_idle {d : Dev} (h0 : d.carries 0 = false) (h1 : d.carries 1 = false) (v : Nat) : d.restBad v = false := by
  refine List.any_eq_false.mpr fun l hl => ?_
  have hport : d.carries (l / 2) = false := by
    have hl4 := List.mem_range.mp hl
    obtain h | h : l / 2 = 0 ∨ l / 2 = 1 := by omega
    · rw [h]; exact h0
    · rw [h]; exact h1
  rw [hport, Bool.and_false]
  decide

/-- The rest bits hold what was written. -/
theorem linkRest_written (v : Nat) (d : Dev) :
    (linkRest (setF LINK_REST_tx_rest (bits v 3 0) (setF LINK_REST_rx_rest (bits v 11 8) d))).f LINK_REST_rx_rest = v / 256 % 16 ∧
    (linkRest (setF LINK_REST_tx_rest (bits v 3 0) (setF LINK_REST_rx_rest (bits v 11 8) d))).f LINK_REST_tx_rest = v % 16 := by
  have hkeep := keepsLink_linkRest (setF LINK_REST_tx_rest (bits v 3 0) (setF LINK_REST_rx_rest (bits v 11 8) d))
  have hrx : bits v 11 8 % 16 = v / 256 % 16 := by
    show (v >>> 8) % 16 % 16 = _
    rw [Nat.shiftRight_eq_div_pow]
    omega
  have htx : bits v 3 0 % 16 = v % 16 := Nat.mod_mod ..
  have hbelow : BelowPorts LINK_REST_rx_rest ∧ BelowPorts LINK_REST_tx_rest :=
    ⟨⟨⟨⟨by decide, by decide, by decide, by decide⟩, by decide, by decide, by decide⟩, by decide⟩,
      ⟨⟨⟨by decide, by decide, by decide, by decide⟩, by decide, by decide, by decide⟩, by decide⟩⟩
  exact ⟨(hkeep.f hbelow.1).trans ((f_setF_other (by decide) ..).trans ((f_setF_same ..).trans hrx)),
    (hkeep.f hbelow.2).trans ((f_setF_same ..).trans htx)⟩

theorem testBit_restBits (v : Nat) {l : Nat} (h : l < 4) : (v / 256 % 16).testBit l = v.testBit (8 + l) := by
  rw [show 16 = 2 ^ 4 from rfl, show 256 = 2 ^ 8 from rfl, Nat.testBit_mod_two_pow, Nat.testBit_div_two_pow]
  simp [h, Nat.add_comm]

/-- A commanded return is due where none is yet. -/
theorem failbackCmd_due {d : Dev} (hm : d.moved = true) (hd : d.link.failbackAt = none) (hr : d.map.revert = false) :
    failbackCmd d = modLink (fun k => { k with failbackAt := some d.frameLead }) d := by
  have hdue : d.link.failbackAt.getD d.frameLead = d.frameLead := by rw [hd]; rfl
  unfold failbackCmd modLink
  rw [if_pos (by rw [hm, hr]; rfl)]
  dsimp only
  rw [hdue]

theorem linkWriteAfter_failback (d : Dev) : linkWriteAfter 0x500004 1 d = failbackCmd d := rfl

/-- The word of LINK_CMD that reseeks a port. -/
theorem linkWriteAfter_reseek {p : Nat} (hp : p < 2) (d : Dev) : linkWriteAfter 0x500004 (if p = 0 then 2 else 4) d = reseek p d := by
  obtain rfl | rfl : p = 0 ∨ p = 1 := by omega
  · rfl
  · rfl

theorem reseekBad_idle {p : Nat} (hp : p < 2) {d : Dev} (h : d.carries p = false) : d.reseekBad (if p = 0 then 2 else 4) = false := by
  unfold Dev.reseekBad
  obtain rfl | rfl : p = 0 ∨ p = 1 := by omega
  · rw [h, Bool.and_false]; rfl
  · rw [h, Bool.and_false]; rfl

theorem portRest_passTo (at_ : Nat) (d : Dev) (p : Nat) : (passTo at_ d).portRest p = d.portRest p := by
  unfold Dev.portRest Dev.fb
  simp only [f_passTo]

/-- Settles O30: each port's step by what it writes, and by what the traffic that follows it leaves. -/
theorem portsAlignFailOverAndReturn : Obligations.PortsAlignFailOverAndReturn := by
  unfold Obligations.PortsAlignFailOverAndReturn
  intro s hrun
  have hup := hrun.1
  have hdev := hrun.2
  refine ⟨fun p rx tx ⟨hp, hrx, hrx', htx, htx', h⟩ => ?_, fun p ⟨hp, h, ha, h0, h1, hr⟩ => ?_, fun p n corr ⟨hp, hu, hn⟩ => ?_,
    fun p ⟨hp, hu⟩ => ?_, fun ns o ⟨ho, hm, hu⟩ => ?_, fun at_ ⟨hh, hnow⟩ => ?_, fun at_ ⟨hf, hm, hu⟩ => ?_,
    fun hq ⟨h0, h1, hm, hf, hr⟩ => ?_, fun p hq ⟨hp, hc, h0, h1, hr⟩ => ?_, fun v hq ⟨h0, h1⟩ => ?_⟩
  · obtain ⟨hstate, hattempts, hev, hin, hout⟩ := portUpRow_spec hp ⟨hrx, hrx'⟩ ⟨htx, htx'⟩ h
    exact does_of_dev (whileRunning_running _ hup hdev) rfl ⟨hstate, hattempts, hev, hin, hout⟩
  · have heq := aligningExpired_eq h
    have hspec := fun at_ => alignFails_spec (d := passTo at_ s.d) hp (by rw [f_passTo]; exact ha) ((f_passTo ..).trans h0) ((f_passTo ..).trans h1)
      ((portRest_passTo ..).trans hr)
    obtain ⟨hstate, hl0, hl1, hattempts, hnow⟩ := hspec (smGet 0 p s.d.link.portAt + usTicks 1000)
    rw [f_passTo] at hattempts
    rw [passTo_now] at hnow
    generalize alignFails p (passTo (smGet 0 p s.d.link.portAt + usTicks 1000) s.d) = x at heq hstate hl0 hl1 hattempts hnow
    exact does_of_dev (whileRunning_running _ hup hdev) heq ⟨hstate, hl0, hl1, hattempts, hnow⟩
  · exact does_of_dev (whileRunning_running _ hup hdev) rfl (fecUncorrected_spec hp hu hn)
  · obtain ⟨hstate, hattempts, -⟩ := portFault_spec hp hu
    exact does_of_dev (whileRunning_running _ hup hdev) (if_pos hu) ⟨hstate, hattempts⟩
  · exact does_of_dev (whileRunning_running _ hup hdev) rfl (failover_spec hm hu)
  · have heq := revertHoldExpired_held hh
    obtain ⟨hdue, hnone, hthen, hregs⟩ := dueReturn_spec (at_ + usTicks (100000 * s.d.map.hold)) s.d
    rw [Nat.max_eq_right hnow] at hthen
    generalize dueReturn (passTo (at_ + usTicks (100000 * s.d.map.hold)) s.d) = x at heq hdue hnone hthen hregs
    exact does_of_dev (whileRunning_running _ hup hdev) heq ⟨hdue, hnone, hthen, ((Wrote.none anyField s.d).regs hregs).sets⟩
  · exact does_of_dev (whileRunning_running _ hup hdev) rfl (failback_spec hf hm hu)
  · have hbad : s.d.failbackBad 1 = false := by unfold Dev.failbackBad; rw [h0, h1]; rfl
    have heq : linkWriteAfter 0x500004 1 (fresh s.d) = _ := (linkWriteAfter_failback _).trans (failbackCmd_due (d := fresh s.d) hm hf hr)
    exact does_of_dev (exec_linkCmd hrun hq (by decide) (by decide +kernel) rfl hbad) heq ⟨rfl, ((Wrote.none anyField s.d).regs rfl).sets⟩
  · have hword : (if p = 0 then 2 else 4) < 2 ^ 32 ∧ governedWrite 0x500004 (if p = 0 then 2 else 4) = false ∧
        s.d.failbackBad (if p = 0 then 2 else 4) = false := by
      have hg2 : governedWrite 0x500004 2 = false := by decide +kernel
      have hg4 : governedWrite 0x500004 4 = false := by decide +kernel
      split
      · exact ⟨by decide, hg2, rfl⟩
      · exact ⟨by decide, hg4, rfl⟩
    exact does_of_dev (exec_linkCmd hrun hq hword.1 hword.2.1 (reseekBad_idle hp hc) hword.2.2) (linkWriteAfter_reseek hp _)
      (reseek_spec (d := fresh s.d) hp h0 h1 hr)
  · obtain ⟨hrx, htx⟩ := linkRest_written v.toNat (fresh s.d)
    refine does_of_dev (exec_linkRest hrun hq v.isLt (restBad_idle h0 h1 v.toNat)) rfl ⟨hrx, htx, fun l hl => ?_⟩
    exact (congrArg (·.testBit l) hrx).trans (testBit_restBits v.toNat hl)

end Sys2Proof.Machine
end
section
/-!
PROOF. A load of rail weights that the loading bit does not show (O28): the buffer that it is to fill takes no word all the same.
-/
namespace Sys2Proof.Machine

/-- A deck in service, in Ready, where a load into buffer 1 of path 0 is incomplete and the path's loading bit does not show it. -/
def unseenLoad : State := inService.actDev fun d => modGir (fun g => { g with loads := [⟨0, 1, [(0, 0)]⟩] }) (setF PWR_STAT_state 1 d)

theorem exec_railWrite {s : State} (hup : s.d.deckUp = true) (org : Origin) (p i set : Nat) (v : Word) :
    exec (.railWrite org p i set v) s =
      .next (s.act (wordFrom org (0x3004000 + 0x400000 * (p % 4) + 8 * (i % 16) + 4 * (set % 2)) v)) := whileUp_up _ hup

/-- Refutes O28: a load of which the loading bit does not tell is incomplete all the same, and the word for its buffer is refused. -/
theorem not_beamCommandsActOnTheGirders : ¬ Obligations.BeamCommandsActOnTheGirders := by
  intro h
  have hrun : Running unseenLoad := by decide +kernel
  obtain ⟨-, -, -, -, -, -, -, -, hrail, -⟩ := h unseenLoad hrun
  obtain ⟨t, ht, ⟨hset, -⟩, -⟩ := hrail .host 0 0 1 1#32 (by decide +kernel) (by decide +kernel)
  rw [exec_railWrite hrun.1] at ht
  obtain rfl := Host.Outcome.next.inj ht
  have hkept : (wordFrom .host 0x3004004 1#32 unseenLoad.blk).dev.f (PIER_RAIL_i 0 0 1) = 0x4000 := by decide +kernel
  exact absurd (hkept.symm.trans (hset (PIER_RAIL_i 0 0 1, 1) (by simp))) (by decide)

end Sys2Proof.Machine
end
section
/-!
PROOF. The words of SPAN_CMD (O20, O21): which command a word asks for, and what a refused formation leaves.
-/
namespace Sys2Proof.Machine

/-! ### A word of SPAN_CMD reaches the command -/

theorem ignoresWrite_spanCmd (d : Dev) : d.ignoresWrite .host 0x200000 = false := by
  unfold Dev.ignoresWrite dmaIgnores Dev.hkIgnores Dev.pwrIgnores
  rw [calIgnores_below (by decide)]
  rfl

/-- SPAN_CMD stores nothing: its fields are write-only. -/
theorem regWrite_spanCmd (v : Nat) (b : Blk) : regWrite .host false 0x200000 v b = onDev (spanCmd .host v) b := by
  unfold regWrite
  simp only [Bool.false_and, Bool.false_eq_true, if_false]
  rw [ignoresWrite_spanCmd]
  rfl

theorem busWord_spanCmd (v : Nat) (b : Blk) : busWord .host 0x200000 v b = onDev (spanCmd .host v) b := by
  have hg : governedWrite 0x200000 v = false := by
    have hoff : governedOff 0x200000 = false := by decide +kernel
    unfold governedWrite
    rw [hoff]
    rfl
  have hreg : busWord .host 0x200000 v b = busRegister .host 0x200000 v b := rfl
  rw [hreg, busRegister, hg, Bool.false_and, if_neg (by decide), regWrite_spanCmd]

section
variable {s : State} (hrun : Running s) (hq : s.d.hostWaits = false)
include hrun hq

theorem hostWrite_spanCmd {v : Nat} (hv : v < 2 ^ 32) :
    whileUp (hostWrite 0x200000 v) s = .next (s.act (onDev fun d => spanCmd .host v (fresh d))) := by
  refine (whileUp_up _ hrun.1).trans (congrArg (fun b => Host.Outcome.next { s with blk := b }) ?_)
  rw [hostWrite_running _ _ _ hrun.1 hrun.2 (by decide) (by decide) (by decide) hq, Nat.mod_eq_of_lt hv, busWord_spanCmd, onDev_onDev]

theorem exec_registerWrite_spanCmd (v : Word) :
    exec (.registerWrite .host 0x200000 4 [v]) s = .next (s.act (onDev fun d => spanCmd .host v.toNat (fresh d))) := by
  rw [exec_hostRegisterWrite hrun.1 (by decide) (by decide), State.act,
    busTake_answered (b := onDev fresh s.blk) (answers_running (d := fresh s.d) hrun.2 _) (by decide) (fun _ => hq), busWord_spanCmd, onDev_onDev]
  rfl

/-- A command of the span map writes its bit beside those of its word. -/
theorem exec_spanBit (v : Word) {k : Nat} (hk : k < 16) :
    whileUp (hostWrite 0x200000 (v.toNat ||| k)) s = .next (s.act (onDev fun d => spanCmd .host (v.toNat ||| k) (fresh d))) :=
  hostWrite_spanCmd hrun hq (Nat.or_lt_two_pow v.isLt (by omega))

end

/-! ### The command that a word asks for (R490) -/

/-- A word with one command bit, or none, becomes that command. -/
theorem or_command {v k : Nat} (hk : k < 16) (hv : v % 16 = 0 ∨ v % 16 = k) : (v ||| k) % 16 = k := by
  rw [show 16 = 2 ^ 4 from rfl] at *
  rw [Nat.or_mod_two_pow, Nat.mod_eq_of_lt hk]
  obtain h | h := hv
  · rw [h, Nat.zero_or]
  · rw [h, Nat.or_self]

theorem bits_or_command (v : Nat) {k : Nat} (hk : k < 16) : bits (v ||| k) 5 4 = bits v 5 4 := by
  unfold bits
  rw [Nat.shiftRight_or_distrib, Nat.shiftRight_eq_div_pow k, Nat.div_eq_of_lt (show k < 2 ^ 4 from hk), Nat.or_zero]

section
variable {v : Nat} (org : Origin) (d : Dev)

theorem spanCmd_form (h : v % 16 = 1) : spanCmd org v d = spanForm (bits v 5 4) d := if_pos h

theorem spanCmd_abort (h : v % 16 = 2) : spanCmd org v d = spanAbort d := by
  unfold spanCmd
  simp only [h]
  rfl

theorem spanCmd_commit (h : v % 16 = 4) : spanCmd org v d = deferTo (.commit org) d.refBoundary d := by
  unfold spanCmd
  simp only [h]
  rfl

theorem spanCmd_unform (h : v % 16 = 8) : spanCmd org v d = spanUnform org d := by
  unfold spanCmd
  simp only [h]
  rfl

theorem spanCmd_several (h : v % 16 ∉ [0, 1, 2, 4, 8]) : spanCmd org v d = setB SPAN_STATUS_cmd_refused true d := by
  simp only [List.mem_cons, List.not_mem_nil, or_false, not_or] at h
  obtain ⟨h0, h1, h2, h4, h8⟩ := h
  unfold spanCmd
  rw [if_neg h1, if_neg h2, if_neg h4, if_neg h8, if_neg h0]

/-- Without form a word asks by its command bits alone. -/
theorem spanCmd_congr {u : Nat} (h : u % 16 = v % 16) (hv : v % 16 ≠ 1) : spanCmd org u d = spanCmd org v d := by
  unfold spanCmd
  rw [h]
  simp only [if_neg hv]

end

theorem and_image_mod (v : Word) : (v &&& 0xFFFFFFCF#32).toNat % 16 = v.toNat % 16 := by
  rw [BitVec.toNat_and, show 16 = 2 ^ 4 from rfl, Nat.and_mod_two_pow]
  exact (Nat.and_two_pow_sub_one_eq_mod _ 4).trans (Nat.mod_mod _ _)

theorem only_regs_host (s : State) {r : List (Nat × Nat)} {h : HostSt} : Only [.regs, .host] s (s.withDev { s.d with regs := r, host := h }) := by
  intro p hp
  cases p
  case regs | host => simp at hp
  all_goals rfl

/-- Settles O21: a word with several commands sets one bit, and one without form is read by its command bits. -/
theorem spanCommandsAreTakenOneByOne : Obligations.SpanCommandsAreTakenOneByOne := by
  unfold Obligations.SpanCommandsAreTakenOneByOne
  intro s hrun
  refine ⟨fun v hq hv => ?_, fun v hq hv => ⟨_, exec_registerWrite_spanCmd hrun hq v, ?_⟩⟩
  · refine does_of_dev (exec_registerWrite_spanCmd hrun hq v) (spanCmd_several .host (fresh s.d) hv) ⟨only_regs_host s, ?_⟩
    exact Wrote.sets (s := s) (t := s.withDev _) ((((Wrote.none anyField s.d).regs (g := fresh s.d) rfl).set (x := SPAN_STATUS_cmd_refused) (by simp) 1))
  · rw [exec_registerWrite_spanCmd hrun hq]
    refine congrArg (fun g => Host.Outcome.next (s.act (onDev g))) (funext fun d => ?_)
    exact spanCmd_congr .host (fresh d) (and_image_mod v) (by omega)

end Sys2Proof.Machine
end
section
/-!
PROOF. The stages of a formation (O19) and its abort (O20): what each stage writes, and what a refusal leaves of the shadow.
-/
namespace Sys2Proof.Machine

/-! ### A formation is refused (R77) -/

/-- What a refusal of a formation leaves: the shadow is gone, the structure in force is as it was, SPAN_REFUSE tells why. -/
structure FormationRefused (reason off : Nat) (d e : Dev) : Prop where
  state : e.formState = 0
  reason : e.f SPAN_REFUSE_reason = reason
  offset : e.f SPAN_REFUSE_offset = off
  raised : e.evPending 144 = true
  span : e.span = { d.span with shadow := none, loaded := [] }
  now : e.now = d.now

theorem spanRefuse_spec {reason off : Nat} (hr : reason < 256) (ho : off < 0x1000000) (d : Dev) :
    FormationRefused reason off d (spanRefuse reason off d) := by
  have htime : (onlyIf (decide (d.formState < 4)) noteFormTime d).span = d.span ∧ (onlyIf (decide (d.formState < 4)) noteFormTime d).now = d.now := by
    unfold onlyIf
    split <;> exact ⟨rfl, rfl⟩
  unfold spanRefuse
  generalize onlyIf (decide (d.formState < 4)) noteFormTime d = u at htime ⊢
  obtain ⟨hspan, hnow⟩ := htime
  unfold spanNote
  refine ⟨?_, ?_, ?_, (evPending_raise 144 (by decide) ..).1, ?_, (raise_now (by decide) ..).trans hnow⟩
  · unfold Dev.formState
    rw [f_raise (by decide) (by decide), f_setF_other (by decide), f_setF_other (by decide), f_setF_other (by decide), f_setF_same]
    rfl
  · rw [f_raise (by decide) (by decide), f_setF_other (by decide), f_setF_same]
    exact Nat.mod_eq_of_lt hr
  · rw [f_raise (by decide) (by decide), f_setF_same]
    exact Nat.mod_eq_of_lt ho
  · rw [raise_span (by decide), ← hspan]
    rfl

theorem FormationRefused.shadow {reason off : Nat} {d e : Dev} (h : FormationRefused reason off d e) : e.span.shadow = none := by rw [h.span]

theorem FormationRefused.committed {reason off : Nat} {d e : Dev} (h : FormationRefused reason off d e) :
    e.span.committed = d.span.committed := by rw [h.span]

theorem spanAbort_forming {d : Dev} (h : 1 ≤ d.formState ∧ d.formState ≤ 4) : spanAbort d = spanRefuse 11 0 d := if_pos h

theorem spanAbort_frozen {d : Dev} (h : d.formState = 5) : spanAbort d = d := if_neg (by omega)

theorem exec_abort {s : State} (hrun : Running s) (hq : s.d.hostWaits = false) {v : Word} (hv : v.toNat % 16 = 0 ∨ v.toNat % 16 = 2) :
    exec (.abort v) s = .next (s.act (onDev fun d => spanAbort (fresh d))) := by
  refine (exec_spanBit hrun hq v (k := 2) (by decide)).trans ?_
  simp only [spanCmd_abort .host _ (or_command (k := 2) (by decide) hv)]

/-- Settles O20: before the freeze window an abort refuses the formation, and from then on it does nothing. -/
theorem abortDiscardsTheShadow : Obligations.AbortDiscardsTheShadow := by
  unfold Obligations.AbortDiscardsTheShadow
  intro s hrun
  refine ⟨fun v hq ⟨hv, hstate⟩ => ?_, fun v hq ⟨hv, hstate⟩ => ?_⟩
  · have hr := spanRefuse_spec (reason := 11) (off := 0) (by decide) (by decide) (fresh s.d)
    exact does_of_dev (exec_abort hrun hq hv) (spanAbort_forming (d := fresh s.d) hstate)
      ⟨hr.state, hr.shadow, hr.now, hr.reason, hr.offset, hr.raised, hr.committed⟩
  · refine does_of_dev (exec_abort hrun hq hv) (spanAbort_frozen (d := fresh s.d) hstate) fun p hp => ?_
    cases p
    case host => simp at hp
    all_goals rfl

/-! ### The image is loaded (R66) -/

theorem touch_clean {b : Blk} {a : Nat} (hp : b.mem.poisoned a = false) (hf : b.mem.flipped a = 0) (src : Nat) : touch src a b = b := by
  unfold touch
  rw [hp, hf]
  rfl

theorem touchRange_clean {b : Blk} {n : Nat} (src : Nat) {a : Nat}
    (h : ∀ i < n, b.mem.poisoned (a + 8 * i) = false ∧ b.mem.flipped (a + 8 * i) = 0) : touchRange src a n b = b := by
  induction n generalizing a with
  | zero => rfl
  | succ n ih =>
    obtain ⟨hp, hf⟩ := h 0 (Nat.succ_pos n)
    rw [Nat.mul_zero, Nat.add_zero] at hp hf
    rw [touchRange, touch_clean hp hf]
    exact ih fun i hi => by
      rw [show a + 8 + 8 * i = a + 8 * (i + 1) by omega]
      exact h (i + 1) (by omega)

theorem readable_clean {b : Blk} {a n : Nat} (h : ∀ i < n, b.mem.poisoned (a + 8 * i) = false ∧ b.mem.flipped (a + 8 * i) = 0) :
    b.readable a n = true :=
  List.all_eq_true.mpr fun i hi => by
    obtain ⟨hp, hf⟩ := h i (List.mem_range.mp hi)
    unfold Mem.bad
    rw [hp, hf]
    rfl

/-- What is read depends on the memories and the merge buffer alone. -/
theorem read8_onDev {g : Dev → Dev} {b : Blk} (h : (g b.dev).mp = b.dev.mp) (a n : Nat) : (onDev g b).read8 a n = b.read8 a n := by
  induction n generalizing a with
  | zero => rfl
  | succ n ih =>
    have hword : (onDev g b).word8 a = b.word8 a := by
      unfold Blk.word8
      rw [onDev_dev, onDev_mem, h]
    rw [Blk.read8, Blk.read8, hword, ih]

/-- The image that the span map is formed from: len bytes at a. -/
def Blk.image (b : Blk) (a len : Nat) : List Nat := (b.read8 a ((len + 7) / 8)).take len

/-- An image of clean words with the manifest's hash is loaded. -/
theorem loadingDone_matches {b : Blk} (hs : b.dev.formState = 1) (hfit : b.dev.span.formAddr + b.dev.span.formLen ≤ 0x4000000)
    (hclean : ∀ i < (b.dev.span.formLen + 7) / 8, b.mem.poisoned (b.dev.span.formAddr + 8 * i) = false ∧
      b.mem.flipped (b.dev.span.formAddr + 8 * i) = 0)
    (hhash : b.dev.imageHash b.dev.span.formImage = some (sha256 (b.image b.dev.span.formAddr b.dev.span.formLen))) :
    loadingDone b = onDev (fun d => d
        |> modSpan (fun s => { s with loaded := b.image b.dev.span.formAddr b.dev.span.formLen }) |> setF SPAN_STATUS_form_state 2)
      (errorResps b.dev.span.formAddr ((b.dev.span.formLen + 7) / 8) b) := by
  unfold loadingDone
  rw [if_neg (by simp [hs])]
  simp only [touchRange_clean 1 hclean]
  rw [if_neg (by omega)]
  have hread : (errorResps b.dev.span.formAddr ((b.dev.span.formLen + 7) / 8) b).read8 b.dev.span.formAddr ((b.dev.span.formLen + 7) / 8) =
      b.read8 b.dev.span.formAddr ((b.dev.span.formLen + 7) / 8) := read8_onDev rfl ..
  have hok : ((errorResps b.dev.span.formAddr ((b.dev.span.formLen + 7) / 8) b).readable b.dev.span.formAddr ((b.dev.span.formLen + 7) / 8) &&
      (errorResps b.dev.span.formAddr ((b.dev.span.formLen + 7) / 8) b).dev.imageHash
        (errorResps b.dev.span.formAddr ((b.dev.span.formLen + 7) / 8) b).dev.span.formImage ==
        some (sha256 (b.image b.dev.span.formAddr b.dev.span.formLen))) = true := by
    refine Bool.and_eq_true_iff.mpr ⟨readable_clean (b := errorResps _ _ b) hclean, beq_iff_eq.mpr hhash⟩
  unfold Blk.image at hok ⊢
  rw [hread, if_pos hok]

/-! ### The other stages -/

theorem inRest_of_inReady {d : Dev} (h : d.inReady = true) : d.inRest = false := by
  unfold Dev.inReady Dev.inRest at *
  rw [beq_iff_eq.mp h]
  rfl

/-- A full formation starts in Ready. -/
theorem spanForm_ready {d : Dev} (hs : d.formState = 0) (hr : d.inReady = true) (image : Nat) :
    spanForm image d = (d
      |> modSpan (fun s => { s with
          formAt := d.now, formPartial := false, formImage := image, formAddr := 64 * d.f SPAN_SRC_ADDR_addr
          formLen := d.f SPAN_SRC_LEN_len, shadow := none, loaded := [] })
      |> setF SPAN_STATUS_form_state 1 |> setF SPAN_STATUS_image image) := by
  unfold spanForm
  rw [if_neg (by simp [hs]), if_pos (by simp [hr]), inRest_of_inReady hr]

theorem exec_form {s : State} (hrun : Running s) (hq : s.d.hostWaits = false) {v : Word} (hv : v.toNat % 16 ≤ 1) :
    exec (.form v) s = .next (s.act (onDev fun d => spanForm (bits v.toNat 5 4) (fresh d))) := by
  have hcmd : (v.toNat ||| 1) % 16 = 1 := or_command (by decide) (by omega)
  refine (exec_spanBit hrun hq v (k := 1) (by decide)).trans ?_
  simp only [spanCmd_form .host _ hcmd, bits_or_command v.toNat (k := 1) (by decide)]

theorem checkingDone_passes {d : Dev} (hs : d.formState = 2) (hp : d.span.formPartial = false) {m : SpanImg}
    (hm : (checkImage d.span.loaded d.span.formImage d.span.loaded.length d.effLevel d.otp.fused none).toOption = some m) :
    checkingDone d = (d |> modSpan (fun s => { s with shadow := some m, loaded := [] }) |> setF SPAN_STATUS_form_state 3) := by
  unfold checkingDone
  rw [if_neg (by simp [hs])]
  simp only [hp, Bool.false_eq_true, if_false]
  split
  next h => rw [h] at hm; exact absurd hm (by simp [Except.toOption])
  next h =>
    rw [h] at hm
    obtain rfl := Option.some.inj hm
    rfl

/-- The shadow is ready: SPAN_REFUSE reads NONE, and E145 tells. -/
theorem shadowReady_spec {d : Dev} (hs : d.formState = 3) :
    (shadowReady d).formState = 4 ∧ (shadowReady d).f SPAN_REFUSE_reason = 0 ∧ (shadowReady d).f SPAN_REFUSE_offset = 0 ∧
      (shadowReady d).evPending 145 = true ∧ (shadowReady d).span = d.span := by
  have heq : shadowReady d = raise0 145 (setF SPAN_REFUSE_offset 0 (setF SPAN_REFUSE_reason 0 (setF SPAN_STATUS_form_state 4 (noteFormTime d)))) :=
    if_neg (by simp [hs])
  rw [heq]
  refine ⟨?_, ?_, ?_, (evPending_raise 145 (by decide) ..).1, raise0_span (by decide) _⟩
  · unfold Dev.formState
    rw [f_raise0 (by decide) (by decide), f_setF_other (by decide), f_setF_other (by decide), f_setF_same]
    rfl
  · rw [f_raise0 (by decide) (by decide), f_setF_other (by decide), f_setF_same]
    rfl
  · rw [f_raise0 (by decide) (by decide), f_setF_same]
    rfl

theorem wrote_publishSeal (d : Dev) :
    Wrote anyField [(DECK_SEAL_EPOCH_epoch, d.seals.epoch % 0x100000000), (DECK_SEAL_STAT_busy, 0)] d (publishSeal d) :=
  (((Wrote.none anyField d).regs (g := { d with seals := { d.seals with
      pubEpoch := d.seals.epoch, pubSeal := sealOf d.leaves, pubLeaves := (List.range 8).map fun i => (i, d.leaves.getD i []) } }) rfl).set
    (x := DECK_SEAL_EPOCH_epoch) (by simp) d.seals.epoch).set (x := DECK_SEAL_STAT_busy) (by simp +decide) 0

/-- Settles O19: each stage by what it writes. -/
theorem formationMovesToItsShadow : Obligations.FormationMovesToItsShadow := by
  unfold Obligations.FormationMovesToItsShadow
  intro s hrun
  refine ⟨fun v hq ⟨hv, hs, hr⟩ => ?form, fun a n ⟨hs, ha, hn, hfit, hclean⟩ hhash => ?loading, fun m ⟨hs, hp⟩ hm => ?checking,
    fun hs => ?ready, fun hs => ?memErr, fun hb => ?published⟩
  case form =>
    refine does_of_dev (exec_form hrun hq hv) (spanForm_ready (d := fresh s.d) hs hr _) ⟨?_, ?_, rfl, rfl, rfl, rfl, rfl⟩
    · exact (f_setF_other (x := SPAN_STATUS_image) (by decide) ..).trans (f_setF_same ..)
    · exact (f_setF_same ..).trans (Nat.mod_mod ..)
  case loading =>
    subst ha hn
    refine ⟨_, whileRunning_running _ hrun.1 hrun.2, ?_⟩
    rw [State.act, loadingDone_matches hs hfit hclean hhash]
    exact ⟨f_setF_same .., rfl⟩
  case checking =>
    exact does_of_dev (whileRunning_running _ hrun.1 hrun.2) (checkingDone_passes hs hp hm) ⟨f_setF_same .., rfl, rfl⟩
  case ready => exact does_of_dev (whileRunning_running _ hrun.1 hrun.2) rfl (shadowReady_spec hs)
  case memErr =>
    have hr := spanRefuse_spec (reason := 12) (off := 0) (by decide) (by decide) s.d
    exact does_of_dev (whileRunning_running _ hrun.1 hrun.2) (if_pos hs)
      ⟨hr.state, hr.reason, hr.shadow, hr.raised, hr.committed⟩
  case published =>
    exact does_of_dev (whileRunning_running _ hrun.1 hrun.2) (if_pos hb) ⟨rfl, rfl, (wrote_publishSeal s.d).sets⟩

end Sys2Proof.Machine
end
section
/-!
PROOF. What a release changes beside the structure in force (O22): the blocks that follow the structure keep the state of the span map, the
clock, the ledger and the fields in which the release shows.
-/
namespace Sys2Proof.Machine

/-! ### Steps that the release does not show in -/

/-- The fields in which a release shows, and the one that a pair of REG_INIT writes here. -/
def shownFields : List Fld :=
  [SPAN_STATUS_form_state, SPAN_STATUS_partial, SPAN_REFUSE_reason, SPAN_REFUSE_offset, TL_JUMP_MAX_ns]

/-- None of these fields. -/
abbrev Unshown (x : Fld) : Prop := ∀ y ∈ shownFields, y.key ≠ x.key

/-- A field of another block than DECK, TL and SPAN. -/
theorem unshown_high {x : Fld} (ho : 0x300000 ≤ x.off) : Unshown x := by
  intro y hy
  have hlow : ∀ y ∈ shownFields, y.key < 0x300000 * 32 := by decide
  have hkey := hlow y hy
  unfold Fld.key at hkey ⊢
  omega

theorem unshown_word {n i hi lo rst : Nat} : Unshown ⟨n + 0x300000 + i, hi, lo, rst⟩ :=
  unshown_high (by show 0x300000 ≤ n + 0x300000 + i; omega)

theorem unshown_path {b r k hi lo rst : Nat} : Unshown ⟨bayBase b + r + k, hi, lo, rst⟩ :=
  unshown_high (by have := bayBase_le b; show 0x300000 ≤ bayBase b + r + k; omega)

/-- A step keeps the state of the span map, the clock, the ledger and the shown fields. -/
structure KeepsShown (d e : Dev) : Prop where
  span : e.span = d.span
  now : e.now = d.now
  ldg : e.ldg = d.ldg
  field : ∀ x ∈ shownFields, e.f x = d.f x

namespace KeepsShown
variable {d e g : Dev}

theorem refl (d : Dev) : KeepsShown d d := ⟨rfl, rfl, rfl, fun _ _ => rfl⟩

theorem trans (h : KeepsShown d e) (k : KeepsShown e g) : KeepsShown d g :=
  ⟨k.span.trans h.span, k.now.trans h.now, k.ldg.trans h.ldg, fun x hx => (k.field x hx).trans (h.field x hx)⟩

/-- What lies beside registers, span map, clock and ledger does not count. -/
theorem same (h : KeepsShown d e) (hg : g.regs = e.regs ∧ g.span = e.span ∧ g.now = e.now ∧ g.ldg = e.ldg) : KeepsShown d g := by
  obtain ⟨hr, hs, hn, hl⟩ := hg
  exact h.trans ⟨hs, hn, hl, fun x _ => f_congr hr x⟩

theorem modBay (h : KeepsShown d e) {b : Nat} {u : BaySt → BaySt} : KeepsShown d (modBay b u e) := h.same ⟨rfl, rfl, rfl, rfl⟩

theorem modDpd (h : KeepsShown d e) {n : Nat} {u : DpdSt → DpdSt} : KeepsShown d (modDpd n u e) := h.same ⟨rfl, rfl, rfl, rfl⟩

theorem modObs (h : KeepsShown d e) {b : Nat} {u : ObsSt → ObsSt} : KeepsShown d (modObs b u e) := h.same ⟨rfl, rfl, rfl, rfl⟩

theorem set (h : KeepsShown d e) {x : Fld} (hx : Unshown x) {v : Nat} : KeepsShown d (setF x v e) :=
  h.trans ⟨rfl, rfl, rfl, fun y hy => f_setF_other (hx y hy) v e⟩

/-- A register at a fixed offset above the SPAN block. -/
theorem high (h : KeepsShown d e) {n hi lo rst v : Nat} : KeepsShown d (setF ⟨n + 0x300000, hi, lo, rst⟩ v e) :=
  h.set (unshown_high (Nat.le_add_left ..))

/-- One of a row of registers above the SPAN block. -/
theorem word (h : KeepsShown d e) {n i hi lo rst v : Nat} : KeepsShown d (setF ⟨n + 0x300000 + i, hi, lo, rst⟩ v e) := h.set unshown_word

/-- A register of a bay. -/
theorem bay (h : KeepsShown d e) {b r hi lo rst v : Nat} : KeepsShown d (setF ⟨bayBase b + r, hi, lo, rst⟩ v e) :=
  h.set (unshown_path (k := 0))

/-- A register of a path. -/
theorem path (h : KeepsShown d e) {b r k hi lo rst v : Nat} : KeepsShown d (setF ⟨bayBase b + r + k, hi, lo, rst⟩ v e) := h.set unshown_path

theorem ite (c : Prop) [Decidable c] (h : KeepsShown d e) (k : KeepsShown d g) : KeepsShown d (if c then e else g) := by
  split
  · exact h
  · exact k

theorem when (h : KeepsShown d e) {c : Bool} {u : Dev → Dev} (hu : KeepsShown e (u e)) : KeepsShown d (onlyIf c u e) :=
  .ite _ (h.trans hu) h

theorem either (h : KeepsShown d e) {c : Prop} [Decidable c] {u v : Dev → Dev} (hu : KeepsShown e (u e)) (hv : KeepsShown e (v e)) :
    KeepsShown d ((if c then u else v) e) := by
  split
  · exact h.trans hu
  · exact h.trans hv

theorem each {α : Type} (h : KeepsShown d e) {u : α → Dev → Dev} {l : List α} (hu : ∀ a d, KeepsShown d (u a d)) :
    KeepsShown d (forAll l u e) :=
  foldl_keeps (KeepsShown d) _ l (fun c a _ hc => hc.trans (hu a c)) e h

theorem clear (h : KeepsShown d e) {x : Fld} {i : Nat} (hx : Unshown x) : KeepsShown d (clrBitF x i e) :=
  .ite _ (h.set hx) h

theorem setBit (h : KeepsShown d e) {x : Fld} {i : Nat} (hx : Unshown x) : KeepsShown d (setBitF x i e) := h.set hx

theorem quiet (h : KeepsShown d e) (k : Quiet e g) : KeepsShown d g := by
  obtain ⟨⟨r, v, w, rfl⟩, hf⟩ := k
  exact h.trans ⟨rfl, rfl, rfl, fun x hx => hf x ((by decide : ∀ y ∈ shownFields, evFree y) x hx)⟩

theorem raise (h : KeepsShown d e) {n u c m : Nat} (hn : n < 160) : KeepsShown d (raise n u c m e) :=
  h.quiet (quiet_raise n hn u c m e)

theorem capTouch (h : KeepsShown d e) {b : Nat} {u : CapRun → CapRun} : KeepsShown d (capTouch b u e) := by
  obtain ⟨o, ho⟩ := capTouch_only b u e
  rw [ho]
  exact h.same ⟨rfl, rfl, rfl, rfl⟩

end KeepsShown

section
variable {d e : Dev}

/-! ### Predistortion and calibration -/

theorem KeepsShown.dpdStart (h : KeepsShown d e) {n : Nat} : KeepsShown d (dpdStart n e) := by
  unfold Machine.dpdStart
  extract_lets g
  have hg : KeepsShown d g := h.same ⟨rfl, rfl, rfl, rfl⟩
  exact .ite _ hg.path (.ite _ hg.path hg.path)

theorem KeepsShown.dpdModeChanged (h : KeepsShown d e) : KeepsShown d (dpdModeChanged e) :=
  h.each fun _ g => .ite _ (.ite _ (refl g).dpdStart (.ite _ (refl g).path (.ite _ (refl g).path (refl g)))) (refl g)

theorem KeepsShown.dpdModeSettled (h : KeepsShown d e) : KeepsShown d (dpdModeSettled e) :=
  .ite _ (h.clear (by decide)).dpdModeChanged h

theorem KeepsShown.dpdInstallLinear (h : KeepsShown d e) {n : Nat} : KeepsShown d (dpdInstallLinear n e) := by
  have hready (s : Nat) : Unshown (readyFld n s) := by unfold readyFld; split <;> exact unshown_path
  have hbad (s : Nat) : Unshown (badFld n s) := by unfold badFld; split <;> exact unshown_path
  exact ((((h.modDpd.set (hready 0)).set (hready 1)).set (hbad 0)).set (hbad 1)).path.path.path.dpdStart.dpdModeSettled

theorem KeepsShown.calModeSettled (h : KeepsShown d e) : KeepsShown d (calModeSettled e) := .ite _ (h.clear (by decide)) h

theorem KeepsShown.calAbandoned (h : KeepsShown d e) {l : List (Nat × Nat)} : KeepsShown d (calAbandoned l e) :=
  h.each fun _ g => (refl g).path

theorem KeepsShown.calRelease (h : KeepsShown d e) {lead kind : Nat} : KeepsShown d (calRelease lead kind e) :=
  .ite _ (h.same ⟨rfl, rfl, rfl, rfl⟩) h

theorem KeepsShown.calAbandon (h : KeepsShown d e) {b : Nat} : KeepsShown d (calAbandon b e) := by
  unfold Machine.calAbandon
  split
  · exact h
  · exact h.calAbandoned.bay.bay.bay.calRelease.modBay.calModeSettled

theorem KeepsShown.modCalPath (h : KeepsShown d e) {n : Nat} {u : CalPath → CalPath} : KeepsShown d (modCalPath n u e) :=
  h.same ⟨rfl, rfl, rfl, rfl⟩

theorem KeepsShown.calDue (h : KeepsShown d e) {n kind : Nat} : KeepsShown d (calDue n kind e) := by
  unfold Machine.calDue
  extract_lets b was g
  have hg : KeepsShown d g := h.modCalPath.bay
  exact hg.when ((refl g).raise (by decide))

theorem KeepsShown.calDueAll (h : KeepsShown d e) {b : Nat} : KeepsShown d (calDueAll b e) :=
  h.each fun _ g => (refl g).each fun _ g => (refl g).calDue

theorem KeepsShown.captureDiscard (h : KeepsShown d e) {b : Nat} : KeepsShown d (captureDiscard b e) := by
  unfold Machine.captureDiscard
  split
  · exact .ite _ (h.same ⟨rfl, rfl, rfl, rfl⟩) h
  · exact h.modObs.bay.bay.modDpd.dpdModeSettled

/-! ### Bays, chains and paths -/

theorem KeepsShown.refreshLive (h : KeepsShown d e) {b : Nat} : KeepsShown d (refreshLive b e) := h.bay.bay

theorem KeepsShown.leaveRf (h : KeepsShown d e) {b : Nat} : KeepsShown d (leaveRf b e) := h.modBay.modBay.capTouch

theorem KeepsShown.synthStop (h : KeepsShown d e) {b : Nat} : KeepsShown d (synthStop b e) := h.bay.bay.bay.modBay

theorem KeepsShown.bayDown (h : KeepsShown d e) {b : Nat} : KeepsShown d (bayDown b e) :=
  h.calAbandon.captureDiscard.leaveRf.synthStop.bay.bay.bay.bay.modBay

theorem unshown_respFld (n dir stage : Nat) : Unshown (respFld n dir stage) := by
  unfold respFld
  split <;> exact unshown_path

theorem unshown_fadingFld (n dir : Nat) : Unshown (fadingFld n dir) := by
  unfold fadingFld
  split <;> exact unshown_path

theorem unshown_queuedFld (n dir : Nat) : Unshown (queuedFld n dir) := by
  unfold queuedFld
  split <;> exact unshown_path

theorem unshown_shiftFlds (n dir : Nat) : ∀ x ∈ shiftFlds n dir, Unshown x := by
  unfold shiftFlds
  split <;> simp only [List.mem_cons, List.not_mem_nil, or_false] <;> rintro _ (rfl | rfl | rfl) <;> exact unshown_path

theorem unshown_shift (n dir i : Nat) : Unshown ((shiftFlds n dir).getD i (respFld n dir i)) := by
  rw [List.getD_eq_getElem?_getD]
  cases h : (shiftFlds n dir)[i]? with
  | none => exact unshown_respFld n dir i
  | some x => exact unshown_shiftFlds n dir x (List.mem_of_getElem? h)

theorem KeepsShown.setChain (h : KeepsShown d e) {n dir : Nat} {c : ChainSt} : KeepsShown d (setChain n dir c e) :=
  h.same ⟨rfl, rfl, rfl, rfl⟩

/-- A chain restarts: its swaps are gone. -/
theorem KeepsShown.chain (h : KeepsShown d e) {n dir : Nat} {c : ChainSt} :
    KeepsShown d (setB (queuedFld n dir) false (setB (fadingFld n dir) false (Machine.setChain n dir c e))) :=
  KeepsShown.set (KeepsShown.set h.setChain (unshown_fadingFld n dir)) (unshown_queuedFld n dir)

theorem KeepsShown.endSwaps (h : KeepsShown d e) {n dir : Nat} : KeepsShown d (endSwaps n dir e) := by
  unfold Machine.endSwaps
  extract_lets c g
  have hg : KeepsShown d g := by
    unfold g
    split
    · exact h.set (unshown_respFld _ _ _)
    · exact h
  exact hg.chain

theorem KeepsShown.loadChain (h : KeepsShown d e) {n dir : Nat} : KeepsShown d (loadChain n dir e) := by
  unfold Machine.loadChain
  extract_lets g
  have hg : KeepsShown d g := h.chain
  split
  · exact hg
  · exact hg.each fun i k =>
      ((KeepsShown.set (refl k) (unshown_respFld n dir i)).set (unshown_shift n dir i)).same ⟨rfl, rfl, rfl, rfl⟩

theorem unshown_rail (p i s : Nat) : Unshown (PIER_RAIL_q p i s) ∧ Unshown (PIER_RAIL_i p i s) := by
  have ho : 0x300000 ≤ 0x3004000 + 0x400000 * p + 0x8 * i + 0x4 * s := by omega
  exact ⟨unshown_high ho, unshown_high ho⟩

theorem KeepsShown.railReset (h : KeepsShown d e) {n : Nat} : KeepsShown d (railReset n e) := by
  have hone {d e : Dev} (h : KeepsShown d e) (s : Nat) :
      KeepsShown d (e |> rstF (PIER_RAIL_q (pierOf n) (n % 16) s) |> rstF (PIER_RAIL_i (pierOf n) (n % 16) s)) :=
    (h.set (unshown_rail _ _ s).1).set (unshown_rail _ _ s).2
  exact ((hone (hone h 0) 1).clear unshown_word).clear unshown_word

end

end Sys2Proof.Machine
end
section
/-!
PROOF. What a release changes beside the structure in force (O22): the records of the new structure, the modes and the girders' weights.
-/
namespace Sys2Proof.Machine

section
variable {d e : Dev}

/-! ### The records take effect (R130, R147, R165, R170, R272) -/

theorem KeepsShown.formBayState (h : KeepsShown d e) {old new : SpanImg} {b : Nat} : KeepsShown d (formBayState old new b e) :=
  .ite _ h.bayDown (.ite _ h.bayDown (.ite _ h.bayDown.bay.modBay h))

theorem KeepsShown.formBay (h : KeepsShown d e) {old new : SpanImg} {b : Nat} : KeepsShown d (formBay old new b e) :=
  h.formBayState.bay.bay.bay.bay.bay.bay.bay.modBay.refreshLive.when (refl _).calDueAll

theorem KeepsShown.bayCounts (h : KeepsShown d e) {new : SpanImg} {b : Nat} : KeepsShown d (bayCounts new b e) :=
  h.bay.bay.bay.bay.bay.bay.bay.each fun _ g => (refl g).path.path.path.path.path.path

theorem KeepsShown.formPath (h : KeepsShown d e) {old new : SpanImg} {n : Nat} : KeepsShown d (formPath old new n e) := by
  unfold Machine.formPath
  extract_lets anew g
  have hg : KeepsShown d g := h.loadChain.loadChain.when (refl _).railReset
  exact .ite _ hg.dpdInstallLinear (.ite _ hg hg.dpdStart.dpdModeSettled)

theorem KeepsShown.setForced (h : KeepsShown d e) {x : Fld} {v : Nat} : KeepsShown d (setForced x v e) := h.same ⟨rfl, rfl, rfl, rfl⟩

theorem KeepsShown.formCarrier (h : KeepsShown d e) {new : SpanImg} {c : Nat} : KeepsShown d (formCarrier new c e) :=
  h.word.setForced.word.setForced.word.word.word.word.word

theorem KeepsShown.formGirders (h : KeepsShown d e) : KeepsShown d (formGirders e) := by
  have hgir : KeepsShown d (modGir (fun g => { g with done := (2 ^ 64, 0) }) (dynEmptyAll e)) := h.same ⟨rfl, rfl, rfl, rfl⟩
  exact hgir.high.high.high.high.high.high.high.each fun _ g => (refl g).word.word

theorem KeepsShown.formFlow (h : KeepsShown d e) {new : SpanImg} {f : Nat} : KeepsShown d (formFlow new f e) :=
  h.word.word.word.word.word.word.word.word.word.word.word

theorem KeepsShown.formTraffic (h : KeepsShown d e) {old new : SpanImg} : KeepsShown d (formTraffic old new e) :=
  h.same ⟨rfl, rfl, rfl, rfl⟩

theorem KeepsShown.loadStructure (h : KeepsShown d e) {old new : SpanImg} {p : Bool} : KeepsShown d (loadStructure old new p e) := by
  unfold Machine.loadStructure
  extract_lets g
  have hg : KeepsShown d g := .ite _ h ((h.each fun _ k => (refl k).formBay).each fun _ k => (refl k).formPath)
  exact (((hg.each fun _ k => (refl k).bayCounts).each fun _ k => (refl k).formCarrier).formGirders.each fun _ k => (refl k).formFlow).formTraffic

theorem KeepsShown.loadLatencies (h : KeepsShown d e) : KeepsShown d (loadLatencies e) := h.each fun _ g => (refl g).word.word

/-! ### Modes (R25) -/

theorem unshown_modeFld {i : Nat} (hi : i < 6) : Unshown (modeFld i) := by
  interval_cases i <;> decide

theorem KeepsShown.modesStore (h : KeepsShown d e) {v : Nat} : KeepsShown d (modesStore v e) := by
  rw [modesStore_eq]
  have hall : KeepsShown d (forAll (List.range 6) (modeStore v) e) := by
    refine foldl_keeps (KeepsShown d) _ _ (fun g i hi hg => ?_) e h
    have hmode := hg.set (v := ofBool (v.testBit i)) (unshown_modeFld (List.mem_range.mp hi))
    unfold modeStore
    extract_lets governs wait
    cases wait
    · exact hmode.clear (by decide)
    · exact hmode.set (by decide)
  exact .ite _ hall hall.dpdModeChanged

/-! ### Errors of deck SRAM (R335, R336, R340) -/

theorem KeepsShown.modMp (h : KeepsShown d e) {u : MemProtSt → MemProtSt} : KeepsShown d (modMp u e) := h.same ⟨rfl, rfl, rfl, rfl⟩

theorem KeepsShown.cbInvalidate (h : KeepsShown d e) {k : Nat} : KeepsShown d (cbInvalidate k e) :=
  .ite _ h (h.word.high.high)

theorem KeepsShown.poisonFalls (h : KeepsShown d e) {a : Nat} : KeepsShown d (poisonFalls a e) :=
  (h.when (refl _).cbInvalidate).when ((refl _).same ⟨rfl, rfl, rfl, rfl⟩)

theorem KeepsShown.markRecurrence (h : KeepsShown d e) {w : Nat} : KeepsShown d (markRecurrence w e) := by
  unfold Machine.markRecurrence
  extract_lets old table hist row g k
  have hg : KeepsShown d g := h.modMp.raise (by decide)
  have hk : KeepsShown d k := .ite _ (.ite _ hg hg.modMp.high) h.modMp
  exact hk.high

theorem KeepsShown.corrected (h : KeepsShown d e) {src a : Nat} : KeepsShown d (corrected src a e) :=
  (h.high.high.high.high.when ((refl _).quiet (quiet_raiseLimited _ _ 32 (by decide) ..))).modMp.markRecurrence

theorem KeepsShown.uncorrectable (h : KeepsShown d e) {src a : Nat} : KeepsShown d (uncorrectable src a e) :=
  (h.high.high.high.high.modMp.raise (by decide)).poisonFalls

end

section
variable {d : Dev} {b : Blk}

theorem KeepsShown.touch (h : KeepsShown d b.dev) (src a : Nat) : KeepsShown d (touch src a b).dev := by
  unfold Machine.touch
  split
  · exact h.when (refl _).poisonFalls
  · split
    · exact h.uncorrectable
    · split
      · exact h.corrected
      · exact h

theorem KeepsShown.touchSpan (h : KeepsShown d b.dev) (src lo hi : Nat) : KeepsShown d (touchSpan src lo hi b).dev :=
  foldl_keeps (fun x : Blk => KeepsShown d x.dev) _ _ (fun _ w _ hx => hx.touch src (8 * w)) b h

/-! ### The girders' weights (R176) -/

theorem KeepsShown.recomputeRho (h : KeepsShown d b.dev) : KeepsShown d (recomputeRho b).dev := by
  unfold Machine.recomputeRho
  extract_lets now c t tx rx
  have hc : KeepsShown d c.dev := h.same ⟨rfl, rfl, rfl, rfl⟩
  split
  · exact h
  · split
    · exact (hc.touchSpan 1 _ _).high.high.when ((refl _).raise (by decide))
    · exact hc

theorem KeepsShown.renormHere (h : KeepsShown d b.dev) : KeepsShown d (renormHere b).dev := h.recomputeRho.same ⟨rfl, rfl, rfl, rfl⟩

end

end Sys2Proof.Machine
end
section
/-!
PROOF. What a release changes beside the structure in force (O22): the ports, the engines, the throttle and the timetable.
-/
namespace Sys2Proof.Machine

section
variable {d e : Dev}

/-! ### Ports and flows (R261, R272) -/

theorem KeepsShown.modLink (h : KeepsShown d e) {u : LinkSt → LinkSt} : KeepsShown d (modLink u e) := h.same ⟨rfl, rfl, rfl, rfl⟩

theorem KeepsShown.refreshFlows (h : KeepsShown d e) : KeepsShown d (refreshFlows e) := by
  unfold Machine.refreshFlows
  exact ((h.each fun _ g => (refl g).word.word).each fun _ g => (refl g).word.word).high

theorem KeepsShown.checkHold (h : KeepsShown d e) : KeepsShown d (checkHold e) := .ite _ h.modLink h.modLink

theorem KeepsShown.setTiming (h : KeepsShown d e) {p : Nat} : KeepsShown d (setTiming p e) := by
  unfold Machine.setTiming
  extract_lets _ g
  have hg : KeepsShown d g := .ite _ (h.same ⟨rfl, rfl, rfl, rfl⟩) h
  exact .ite _ h hg.high.modLink

theorem KeepsShown.setCarry (h : KeepsShown d e) {mask : Nat} {fb : Bool} : KeepsShown d (setCarry mask fb e) := h.modLink.high.refreshFlows

theorem KeepsShown.commitPorts (h : KeepsShown d e) : KeepsShown d (commitPorts e) := by
  unfold Machine.commitPorts
  extract_lets g up arr k pref
  have hg : KeepsShown d g := h.modLink
  have hk : KeepsShown d k := .ite _ hg.setCarry (.ite _ hg.setCarry hg.setCarry)
  exact .ite _ hg.modLink.high.refreshFlows (KeepsShown.checkHold (.ite _ hk.setTiming hk))

/-! ### Engines (R192, R214, R216) -/

theorem KeepsShown.modTr (h : KeepsShown d e) {u : TrussSt → TrussSt} : KeepsShown d (modTr u e) := h.same ⟨rfl, rfl, rfl, rfl⟩

theorem KeepsShown.modEng (h : KeepsShown d e) {k : Nat} {u : EngSt → EngSt} : KeepsShown d (modEng k u e) := h.same ⟨rfl, rfl, rfl, rfl⟩

theorem KeepsShown.refreshEng (h : KeepsShown d e) {k : Nat} : KeepsShown d (refreshEng k e) :=
  (h.word.either ((refl _).setBit (by decide)) ((refl _).clear (by decide))).either ((refl _).setBit (by decide)) ((refl _).clear (by decide))

theorem KeepsShown.setEngState (h : KeepsShown d e) {k st : Nat} : KeepsShown d (setEngState k st e) := h.word.refreshEng

theorem KeepsShown.settleEng (h : KeepsShown d e) {k : Nat} : KeepsShown d (settleEng k e) :=
  .ite _ (.ite _ h.modEng.setEngState h.setEngState) h.refreshEng

theorem KeepsShown.setPhys (h : KeepsShown d e) {l k : Nat} : KeepsShown d (setPhys l k e) :=
  (h.either (refl _).high (refl _).high).word

theorem KeepsShown.setDescWord (h : KeepsShown d e) {j w v : Nat} : KeepsShown d (setDescWord j w v e) := h.same ⟨rfl, rfl, rfl, rfl⟩

theorem KeepsShown.writeStatus (h : KeepsShown d e) {k j status : Nat} {result : Option Nat} :
    KeepsShown d (writeStatus k j status result e) := by
  unfold Machine.writeStatus
  extract_lets seq g
  have hg : KeepsShown d g := by
    unfold g
    split
    · exact h.setDescWord
    · exact h
  have hcount : Unshown (if status = 1 then TRUSS_ENG_COUNT_done k else TRUSS_ENG_COUNT_failed k) := by
    split <;> exact unshown_word
  exact (hg.setDescWord.modEng.word.set hcount).when ((refl _).raise (by decide))

theorem KeepsShown.fitLost (h : KeepsShown d e) {k : Nat} : KeepsShown d (fitLost k e) := h.each fun _ g => (refl g).modDpd

theorem KeepsShown.ulwModeSettled (h : KeepsShown d e) : KeepsShown d (ulwModeSettled e) := .ite _ (h.clear (by decide)) h

theorem KeepsShown.abortJobs (h : KeepsShown d e) {k : Nat} {jobs : List Nat} : KeepsShown d (abortJobs k jobs e) :=
  (((h.each fun _ g => (refl g).writeStatus).when (refl _).fitLost).raise (by decide)).ulwModeSettled.dpdModeSettled

theorem KeepsShown.migrate (h : KeepsShown d e) {l k : Nat} {jobs : List Nat} : KeepsShown d (migrate l k jobs e) := by
  unfold Machine.migrate
  split
  · exact h.modTr
  · exact h.abortJobs

theorem KeepsShown.redirectMigs (h : KeepsShown d e) : KeepsShown d (redirectMigs e) := h.modTr.each fun _ g => (refl g).migrate

theorem KeepsShown.trussCommit (h : KeepsShown d e) {before : List (List Nat)} : KeepsShown d (trussCommit before e) := by
  unfold Machine.trussCommit
  refine KeepsShown.redirectMigs (.each (.each (.each (.each h fun l g => ?_) fun k g => ?_) fun k g => ?_) fun k g => (refl g).settleEng)
  · exact .ite _ (refl g) (refl g).setPhys
  · split
    · exact .ite _ (refl g) (refl g).modEng
    · exact refl g
  · exact .ite _ (refl g).modEng (refl g)

/-! ### A SYNC of a span whose records changed (R79, R133) -/

theorem KeepsShown.discardSamples (h : KeepsShown d e) {s : Nat} : KeepsShown d (discardSamples s e) := h.same ⟨rfl, rfl, rfl, rfl⟩

theorem KeepsShown.syncSpan (h : KeepsShown d e) {s : Nat} : KeepsShown d (syncSpan s e) := by
  unfold Machine.syncSpan
  extract_lets g k
  have hg : KeepsShown d g := .ite _ h.high h.high
  have hk : KeepsShown d k := hg.discardSamples.each fun _ m => (refl m).calAbandon
  exact .ite _ (hk.each fun _ m => (refl m).endSwaps.endSwaps) hk

theorem KeepsShown.syncNow (h : KeepsShown d e) {s : Nat} : KeepsShown d (syncNow s e) :=
  (h.each fun _ g => (refl g).captureDiscard).syncSpan

theorem KeepsShown.endWindow (h : KeepsShown d e) {z : Freeze} : KeepsShown d (endWindow z e) :=
  (h.set (by decide)).when ((refl _).raise (by decide))

end

/-! ### Records enter the ledger -/

/-- As far as the release shows, a step only adds records to the ledger's queue. -/
structure AddsRecords (d e : Dev) : Prop where
  span : e.span = d.span
  now : e.now = d.now
  queue : ∀ x ∈ d.ldg.queue, x ∈ e.ldg.queue
  field : ∀ x ∈ shownFields, e.f x = d.f x

section
variable {d e g : Dev}

theorem AddsRecords.trans (h : AddsRecords d e) (k : AddsRecords e g) : AddsRecords d g :=
  ⟨k.span.trans h.span, k.now.trans h.now, fun x hx => k.queue x (h.queue x hx), fun x hx => (k.field x hx).trans (h.field x hx)⟩

theorem KeepsShown.adds (h : KeepsShown d e) : AddsRecords d e := ⟨h.span, h.now, fun x hx => by rw [h.ldg]; exact hx, h.field⟩

theorem AddsRecords.keeps (h : AddsRecords d e) (k : KeepsShown e g) : AddsRecords d g := h.trans k.adds

theorem ledgerPut_queue_open {d : Dev} (h : d.ldg.closed = false) (org : Origin) (k a p u v : Nat) :
    (ledgerPut org k a p u v d).ldg.queue = d.ldg.queue ++ [⟨d.nt, d.ledgerEpoch, org, k, a % 65536, p, w32 u, w32 v, d.seals.epoch⟩] := by
  unfold ledgerPut
  rw [if_neg (by simp [h])]

theorem addsRecords_ledgerPut (org : Origin) (k a p u v : Nat) (d : Dev) : AddsRecords d (ledgerPut org k a p u v d) := by
  refine ⟨ledgerPut_span .., ledgerPut_now .., fun x hx => ?_, fun x _ => f_ledgerPut ..⟩
  cases h : d.ldg.closed with
  | true => unfold ledgerPut; rw [if_pos h]; exact hx
  | false => rw [ledgerPut_queue_open h]; exact List.mem_append_left _ hx

theorem addsRecords_loopsClose (d : Dev) : AddsRecords d (loopsClose d) := by
  refine ⟨rfl, rfl, fun x hx => ?_, fun _ _ => rfl⟩
  unfold loopsClose
  dsimp only
  split
  · exact hx
  · exact List.mem_append_left _ hx

theorem addsRecords_loopAct (code unit : Nat) (v : Int) (d : Dev) : AddsRecords d (loopAct code unit v d) := by
  unfold loopAct
  extract_lets e upd
  have he : AddsRecords d e := by
    unfold e
    split
    · exact addsRecords_loopsClose d
    · exact (KeepsShown.refl d).adds
  exact ⟨he.span, he.now, he.queue, he.field⟩

/-- The throttle starts anew: at most its loop acts once more, and its registers are those of housekeeping (R371). -/
theorem addsRecords_throttleCommit (d : Dev) : AddsRecords d (throttleCommit d) := by
  have hloop : AddsRecords d (onlyIf (!d.hk.therm && d.hk.capRed != 0) (loopAct 6 0 0) d) := by
    unfold onlyIf
    split
    · exact addsRecords_loopAct 6 0 0 d
    · exact (KeepsShown.refl d).adds
  have hmod (e : Dev) : KeepsShown e (modLink (fun l => { l with drop := [] }) (modHk (fun h => { h with
      sched := none, loopSteps := 0, capRed := 0, spent := false, waiting := [], att := [], bayOff := 0 }) e)) :=
    (KeepsShown.refl e).same ⟨rfl, rfl, rfl, rfl⟩
  exact hloop.keeps ((hmod _).high.high.high.high.when ((KeepsShown.refl _).raise (by decide)))

theorem addsRecords_cancelUnformed (d : Dev) : AddsRecords d (cancelUnformed d) := by
  have hcancel : KeepsShown d (cancelArmed (fun _ e => !d.entryFormed e) d).1 := (KeepsShown.refl d).same ⟨rfl, rfl, rfl, rfl⟩
  exact hcancel.adds.trans (addsRecords_ledgerPut ..)

/-- The layers that the new structure leaves enabled (R175). -/
def enableLayers (c : Nat) (d : Dev) : Dev :=
  d |> setF (GIRDER_LAYERS_dl_enabled c) (d.layersWanted c 0) |> setF (GIRDER_LAYERS_ul_enabled c) (d.layersWanted c 1)

theorem KeepsShown.enableLayers (h : KeepsShown d e) {c : Nat} : KeepsShown d (enableLayers c e) := h.word.word

theorem settleStructure_eq (before : List (List Nat)) (b : Blk) : settleStructure before b = renormHere (onDev (fun d =>
    d |> throttleCommit |> commitPorts |> forAll (List.range 6) Machine.enableLayers |> refreshFlows |> trussCommit before) b) := rfl

/-- What follows the structure in the other blocks. -/
theorem addsRecords_settleStructure (before : List (List Nat)) (b : Blk) : AddsRecords b.dev (settleStructure before b).dev := by
  rw [settleStructure_eq]
  refine AddsRecords.keeps ?_ (KeepsShown.renormHere (KeepsShown.refl _))
  rw [onDev_dev]
  generalize b.dev = d
  refine (addsRecords_throttleCommit d).keeps ?_
  exact ((KeepsShown.refl _).commitPorts.each fun _ g => (KeepsShown.refl g).enableLayers).refreshFlows.trussCommit

end

end Sys2Proof.Machine
end
section
/-!
PROOF. What a release shows (O22): SPAN_STATUS, its record, and the image that comes into force with a pair of REG_INIT.
-/
namespace Sys2Proof.Machine

/-! ### What a release shows -/

/-- A release of a structure has shown: SPAN_STATUS reads form_state IDLE and whether the release was partial, and the ledger's queue has only
grown. -/
structure Released (part : Bool) (d e : Dev) : Prop where
  span : e.span = d.span
  now : e.now = d.now
  queue : ∀ x ∈ d.ldg.queue, x ∈ e.ldg.queue
  jump : e.f TL_JUMP_MAX_ns = d.f TL_JUMP_MAX_ns
  state : e.formState = 0
  partial_ : e.on SPAN_STATUS_partial = part

section
variable {part : Bool} {d e g : Dev}

theorem Released.adds (h : Released part d e) (k : AddsRecords e g) : Released part d g :=
  ⟨k.span.trans h.span, k.now.trans h.now, fun x hx => k.queue x (h.queue x hx), (k.field _ (by decide)).trans h.jump,
    (k.field SPAN_STATUS_form_state (by decide)).trans h.state, (on_congr (k.field _ (by decide))).trans h.partial_⟩

theorem Released.keeps (h : Released part d e) (k : KeepsShown e g) : Released part d g := h.adds k.adds

theorem released_showMap (part : Bool) (d : Dev) : Released part d (showMap part d) := by
  refine ⟨rfl, rfl, fun _ hx => hx, ?_, (f_setF_same ..).trans rfl, ?_⟩
  · unfold showMap
    simp +decide only [f_setF_other, f_setB_other]
  · have hlast (e : Dev) : (e |> setB SPAN_STATUS_partial part |> setF SPAN_STATUS_image d.map.image |> setF SPAN_STATUS_form_state 0).f
        SPAN_STATUS_partial = ofBool part % SPAN_STATUS_partial.size := by
      rw [f_setF_other (by decide), f_setF_other (by decide), f_setB_same]
    unfold Dev.on showMap
    rw [hlast]
    cases part <;> rfl

/-- The release is shown, recorded, and covered by an advance of the seal epoch (R79, R84, R87). -/
theorem released_recorded (part : Bool) (org : Origin) (k a p u v : Nat) (d : Dev) :
    Released part d (d |> advanceEpoch |> showMap part |> ledgerPut org k a p u v) := by
  have hepoch : KeepsShown d (advanceEpoch d) := by
    have hnext : KeepsShown d { d with seals := { d.seals with epoch := (d.seals.epoch + 1) % 0x100000000 } } :=
      (KeepsShown.refl d).same ⟨rfl, rfl, rfl, rfl⟩
    exact hnext.set (by decide)
  have hshow := released_showMap part (advanceEpoch d)
  have hall : Released part d (showMap part (advanceEpoch d)) :=
    ⟨hshow.span.trans hepoch.span, hshow.now.trans hepoch.now, fun x hx => hshow.queue x (by rw [hepoch.ldg]; exact hx),
      hshow.jump.trans (hepoch.field _ (by decide)), hshow.state, hshow.partial_⟩
  exact hall.adds (addsRecords_ledgerPut ..)

end

/-! ### The image comes into force (R76, R79) -/

theorem KeepsShown.modSpan {d e : Dev} (h : KeepsShown d e) (u : SpanSt → SpanSt) : KeepsShown (modSpan u d) (modSpan u e) :=
  ⟨congrArg u h.span, h.now, h.ldg, h.field⟩

/-- Between the structure and the modes the pairs are written; nothing else of an installation shows. -/
theorem installImage_around (m : SpanImg) (part : Bool) (b : Blk) :
    ∃ c : Blk, KeepsShown (modSpan (fun s => { s with committed := some m }) b.dev) c.dev ∧
      KeepsShown (writePairs (m.initPairs part) c).dev (installImage m part b).dev :=
  ⟨onDev (fun d => d |> modSpan (fun s => { s with committed := some m }) |> loadStructure b.dev.map m part) b,
    (KeepsShown.refl _).loadStructure, (KeepsShown.refl _).modesStore.loadLatencies⟩

theorem keepsShown_writePairs_nil (b : Blk) : KeepsShown b.dev (writePairs [] b).dev := (KeepsShown.refl b.dev).same ⟨rfl, rfl, rfl, rfl⟩

theorem findBank_jumpMax : findBank 0x10001C = some ⟨0x10001C, [], [⟨31, 0, .rwg, 0xfa⟩]⟩ := by rfl

/-- A release writes TL_JUMP_MAX and records it. -/
def jumpMaxWritten (v : Nat) (d : Dev) : Dev :=
  ledgerPut .firmware 1 0 0x10001C (d.f TL_JUMP_MAX_ns) v (setF TL_JUMP_MAX_ns v d)

section
variable {v : Nat} (hv : v < 2 ^ 32) {b : Blk}
include hv

theorem pairValue_jumpMax : pairValue 0x10001C v = v := by
  have hval : pairValue 0x10001C v = 0 + bits v 31 0 <<< 0 := by unfold pairValue; rw [findBank_jumpMax]; rfl
  rw [hval, bits_zero, Nat.mod_eq_of_lt hv, Nat.shiftLeft_zero, Nat.zero_add]

theorem regWrite_jumpMax (h20 : 20 ≤ v) (hf : b.dev.ledgerFull = false) : regWrite .firmware true 0x10001C v b = onDev (jumpMaxWritten v) b := by
  have htl : inTimeOrLink 0x10001C := .inl ⟨by decide, by decide⟩
  have hsubst : b.dev.substValue .firmware 0x10001C v = v := by
    rw [substValue_timeOrLink htl]
    exact Nat.max_eq_right h20
  have hrefuse : b.dev.refusesValue 0x10001C v = none := by rw [refusesValue_timeOrLink htl]; rfl
  have hstore : storeReg 0x10001C v true [⟨31, 0, .rwg, 0xfa⟩] b.dev = setF TL_JUMP_MAX_ns (bits v 31 0) b.dev := by
    unfold storeReg
    rfl
  have hafter (d : Dev) : timeOrLinkAfter .firmware 0x10001C v d = d := by
    rw [timeOrLinkAfter_time (by decide)]
    rfl
  have hword (d : Dev) : d.rwgWord 0x10001C [⟨31, 0, .rwg, 0xfa⟩] = d.f TL_JUMP_MAX_ns := by
    show 0 + d.f TL_JUMP_MAX_ns <<< 0 = _
    rw [Nat.shiftLeft_zero, Nat.zero_add]
  have hreg : regWrite .firmware true 0x10001C v b = regStore .firmware true 0x10001C v ⟨0x10001C, [], [⟨31, 0, .rwg, 0xfa⟩]⟩ b := by
    have hrail : railRel 0x10001C = none := rfl
    unfold regWrite
    simp only [hf, Bool.and_false, Bool.false_eq_true, if_false, ignoresWrite_timeOrLink htl, hrail, findBank_jumpMax, hsubst, hrefuse]
    rfl
  have hfield : bits v 31 0 = v := by rw [bits_zero, Nat.mod_eq_of_lt hv]
  have hnew : (setF TL_JUMP_MAX_ns v b.dev).f TL_JUMP_MAX_ns = v := (f_setF_same ..).trans (Nat.mod_eq_of_lt hv)
  have hgov : isGoverned [⟨31, 0, .rwg, 0xfa⟩] = true := rfl
  rw [hreg, regStore]
  simp only [writeAfter_timeOrLink htl, hgov, if_true, hword]
  refine congrArg (fun e => { b with dev := e }) ?_
  simp only [onDev_dev, hafter, hstore, hfield, hnew]
  rfl

/-- The pair is written while the ledger takes records; nothing that waited before is lost. -/
theorem writePairs_jumpMax (h20 : 20 ≤ v) (hc : b.dev.ldg.closed = false) (hf : b.dev.ledgerFull = false) :
    ∃ l, (writePairs [(0x10001C, v)] b).dev = { jumpMaxWritten v { b.dev with deferred := [] } with deferred := l } := by
  let c := onDev (fun d => { d with deferred := [] }) b
  have hone : (if c.dev.ldg.closed && governedWrite 0x10001C v then onDev (holdWrite .firmware 0x10001C v) c
      else regWrite .firmware true 0x10001C v c) = onDev (jumpMaxWritten v) c := by
    rw [show c.dev.ldg.closed = false from hc, Bool.false_and, if_neg (by decide), regWrite_jumpMax hv h20 (b := c) hf]
  have hnone : (onDev (jumpMaxWritten v) c).dev.deferred = [] := ledgerPut_deferred ..
  unfold writePairs
  simp only [List.foldl_cons, List.foldl_nil, pairValue_jumpMax hv]
  rw [show onDev (fun d => { d with deferred := [] }) b = c from rfl, hone, hnone]
  exact ⟨_, rfl⟩

/-- The field holds the pair's value, and its record what it held before (R413). -/
theorem writePairs_jumpMax_spec (h20 : 20 ≤ v) (hc : b.dev.ldg.closed = false) (hf : b.dev.ledgerFull = false) :
    let e := (writePairs [(0x10001C, v)] b).dev
    e.span = b.dev.span ∧ e.f TL_JUMP_MAX_ns = v ∧
      ∃ x ∈ e.ldg.queue, x.kind = 1 ∧ x.origin = .firmware ∧ x.addr = 0x10001C ∧ x.old = b.dev.f TL_JUMP_MAX_ns ∧ x.new = v := by
  obtain ⟨l, hl⟩ := writePairs_jumpMax hv h20 hc hf
  have hw (n : Nat) (hn : n < 2 ^ 32) : w32 n = n := Nat.mod_eq_of_lt hn
  have hqueue := ledgerPut_queue_open (d := setF TL_JUMP_MAX_ns v { b.dev with deferred := [] }) hc .firmware 1 0 0x10001C
    (b.dev.f TL_JUMP_MAX_ns) v
  rw [hl]
  refine ⟨ledgerPut_span .., (f_ledgerPut ..).trans ((f_setF_same ..).trans (Nat.mod_eq_of_lt hv)), _,
    hqueue ▸ List.mem_append_right _ (List.mem_singleton_self _), rfl, rfl, rfl, hw _ (f_lt ..), hw v hv⟩

end

end Sys2Proof.Machine
end
section
/-!
PROOF. Commit and unform (O22): both come due at a boundary, the dies acknowledge, and the release changes the structure in force or leaves it.
-/
namespace Sys2Proof.Machine

/-! ### The end of a window -/

theorem runWindow_nil (b : Blk) : runWindow [] b = b := rfl

/-- No entry was deferred: the window ends with its count and E150 (R79, R81, R84). -/
def windowOver (z : Freeze) (d : Dev) : Dev := d |> cancelUnformed |> endWindow z |> raise0 150

theorem addsRecords_windowOver (z : Freeze) (d : Dev) : AddsRecords d (windowOver z d) :=
  ((addsRecords_cancelUnformed d).keeps (KeepsShown.refl _).endWindow).keeps ((KeepsShown.refl _).raise (n := 150) (by decide))

theorem evPending_windowOver (z : Freeze) (d : Dev) : (windowOver z d).evPending 150 = true := (evPending_raise 150 (by decide) ..).1

/-! ### A commit's release (R79) -/

/-- The window closes as the shadow takes force; of a device that was not formed no pier is held or diverged any more. -/
def windowClosed (b : Blk) : Blk :=
  b |> onDev (modSpan fun s => { s with freeze := none, shadow := none, heldPiers := if !b.dev.formed then 0 else s.heldPiers })
    |> onDev (onlyIf (!b.dev.formed) fun d => d |> setB DECK_SEAL_STAT_held false |> setF DECK_SEAL_STAT_diverged 0)

theorem keepsShown_windowClosed (b : Blk) : KeepsShown (modSpan (fun s =>
    { s with freeze := none, shadow := none, heldPiers := if !b.dev.formed then 0 else s.heldPiers }) b.dev) (windowClosed b).dev :=
  (KeepsShown.refl _).when (u := fun d => d |> setB DECK_SEAL_STAT_held false |> setF DECK_SEAL_STAT_diverged 0)
    (((KeepsShown.refl _).set (by decide)).set (by decide))

/-- What the release of a commit leaves in every other block, and its record. -/
def commitFollowed (z : Freeze) (m : SpanImg) (b c : Blk) : Blk :=
  c |> onDev (fun d => d |> advanceEpoch |> showMap b.dev.span.formPartial
        |> ledgerPut z.org 6 m.image 0x200000 b.dev.map.mapId m.mapId)
    |> settleStructure b.dev.assignments
    |> onDev (forAll [0, 1] fun s d => onlyIf (d.inReady && spanChanged b.dev.map m s) (syncNow s) d)

theorem commitSucceeds_eq {z : Freeze} (hz : z.deferred = []) (m : SpanImg) (b : Blk) : commitSucceeds z m b =
    onDev (windowOver z) (commitFollowed z m b (installImage m b.dev.span.formPartial (windowClosed b))) := by
  unfold commitSucceeds commitFollowed windowOver windowClosed
  simp only [hz, runWindow_nil, onDev_onDev]

theorem released_commitFollowed (z : Freeze) (m : SpanImg) (b c : Blk) :
    Released b.dev.span.formPartial c.dev (commitFollowed z m b c).dev := by
  have hsync (e : Dev) : KeepsShown e (forAll [0, 1] (fun s d => onlyIf (d.inReady && spanChanged b.dev.map m s) (syncNow s) d) e) :=
    (KeepsShown.refl e).each fun s d => (KeepsShown.refl d).when (KeepsShown.refl d).syncNow
  unfold commitFollowed
  rw [onDev_dev]
  refine Released.keeps ?_ (hsync _)
  refine Released.adds ?_ (addsRecords_settleStructure ..)
  exact released_recorded b.dev.span.formPartial z.org 6 m.image 0x200000 b.dev.map.mapId m.mapId c.dev

/-- What a commit's release leaves, by the block in which its pairs are written. -/
theorem commitSucceeds_spec {z : Freeze} (hz : z.deferred = []) (m : SpanImg) (b : Blk) :
    ∃ c : Blk, KeepsShown (modSpan (fun s => { s with
        freeze := none, shadow := none, heldPiers := if !b.dev.formed then 0 else s.heldPiers, committed := some m }) b.dev) c.dev ∧
      Released b.dev.span.formPartial (writePairs (m.initPairs b.dev.span.formPartial) c).dev (commitSucceeds z m b).dev ∧
      (commitSucceeds z m b).dev.evPending 150 = true := by
  obtain ⟨c, hc, hpairs⟩ := installImage_around m b.dev.span.formPartial (windowClosed b)
  refine ⟨c, ((keepsShown_windowClosed b).modSpan fun s => { s with committed := some m }).trans hc, ?_, ?_⟩
  · have hrel := (released_commitFollowed z m b (installImage m b.dev.span.formPartial (windowClosed b))).adds (addsRecords_windowOver z _)
    rw [commitSucceeds_eq hz]
    exact ⟨hrel.span.trans hpairs.span, hrel.now.trans hpairs.now, fun x hx => hrel.queue x (by rw [hpairs.ldg]; exact hx),
      hrel.jump.trans (hpairs.field _ (by decide)), hrel.state, hrel.partial_⟩
  · rw [commitSucceeds_eq hz]
    exact evPending_windowOver z _

/-! ### The dies -/

/-- The dies whose acknowledgement the release waits for (R79, R83). -/
def swapDies (part : Bool) : Nat := if part then 0x30 else 0x3F

theorem maskOff_eq_zero {want acks : Nat} : maskOff want acks = 0 ↔ acks &&& want = want := by
  have hle : want &&& acks ≤ want := Nat.and_le_left
  unfold maskOff
  rw [Nat.and_comm acks want]
  omega

theorem swapDies_maskOff_lt (part : Bool) (acks : Nat) : maskOff (swapDies part) acks < 0x1000000 := by
  have hle : swapDies part ≤ 0x3F := by cases part <;> decide
  unfold maskOff
  omega

section
variable {z : Freeze} {b : Blk} (hf : b.dev.span.freeze = some z) (hu : z.unform = false)
include hf hu

theorem commitRelease_acked {m : SpanImg} (hs : b.dev.span.shadow = some m)
    (ha : z.acks &&& swapDies b.dev.span.formPartial = swapDies b.dev.span.formPartial) :
    commitRelease b = commitSucceeds z m (onDev (passTo (z.start + leadTicks)) b) := by
  have hnone : maskOff (swapDies b.dev.span.formPartial) z.acks = 0 := maskOff_eq_zero.mpr ha
  unfold swapDies at hnone
  unfold commitRelease
  simp only [hf, hu, onDev_dev, passTo_span, hs, Bool.false_eq_true, if_false, hnone, ne_eq, not_true_eq_false]

theorem commitRelease_missed {m : SpanImg} (hs : b.dev.span.shadow = some m)
    (ha : z.acks &&& swapDies b.dev.span.formPartial ≠ swapDies b.dev.span.formPartial) :
    commitRelease b = swapFail z (maskOff (swapDies b.dev.span.formPartial) z.acks) (onDev (passTo (z.start + leadTicks)) b) := by
  have hsome : maskOff (swapDies b.dev.span.formPartial) z.acks ≠ 0 := fun h => ha (maskOff_eq_zero.mp h)
  unfold swapDies at hsome ⊢
  unfold commitRelease
  simp only [hf, hu, onDev_dev, passTo_span, hs, Bool.false_eq_true, if_false]
  rw [if_pos hsome]

end

/-- A structure has come into force at an instant; what a pair would change is as before. -/
structure InForce (m : SpanImg) (t : Nat) (d e : Dev) : Prop where
  committed : e.span.committed = some m
  freeze : e.span.freeze = none
  shadow : e.span.shadow = none
  now : e.now = t
  ldg : e.ldg = d.ldg
  jump : e.f TL_JUMP_MAX_ns = d.f TL_JUMP_MAX_ns

theorem InForce.after {m : SpanImg} {t : Nat} {d e g : Dev} (h : InForce m t d e) (hs : g.span = e.span) :
    g.span.committed = some m ∧ g.span.freeze = none ∧ g.span.shadow = none := by
  rw [hs]
  exact ⟨h.committed, h.freeze, h.shadow⟩

/-- The release of a commit whose dies acknowledged, by the block in which its pairs are written. -/
theorem commitRelease_spec {z : Freeze} {m : SpanImg} {b : Blk} (hf : b.dev.span.freeze = some z) (hu : z.unform = false)
    (hz : z.deferred = []) (hs : b.dev.span.shadow = some m)
    (ha : z.acks &&& swapDies b.dev.span.formPartial = swapDies b.dev.span.formPartial) :
    ∃ c : Blk, InForce m (max b.dev.now (z.start + leadTicks)) b.dev c.dev ∧
      Released b.dev.span.formPartial (writePairs (m.initPairs b.dev.span.formPartial) c).dev (commitRelease b).dev ∧
      (commitRelease b).dev.evPending 150 = true := by
  obtain ⟨c, hc, hrel, hev⟩ := commitSucceeds_spec hz m (onDev (passTo (z.start + leadTicks)) b)
  rw [onDev_dev, passTo_span] at hrel
  rw [commitRelease_acked hf hu hs ha]
  refine ⟨c, ⟨?_, ?_, ?_, hc.now.trans (passTo_now ..), hc.ldg.trans (passTo_ldg ..), ?_⟩, hrel, hev⟩
  case refine_4 => exact (hc.field _ (by decide)).trans (passTo_f ..)
  all_goals
    rw [hc.span]
    rfl

/-- A die is missing: the shadow is refused, with the missing dies as the offset (R80). -/
theorem swapFail_spec {z : Freeze} (hz : z.deferred = []) {missing : Nat} (hm : missing < 0x1000000) (b : Blk) :
    let e := (swapFail z missing b).dev
    e.span = { b.dev.span with freeze := none, shadow := none, loaded := [] } ∧ e.formState = 0 ∧ e.evPending 144 = true ∧
      e.f SPAN_REFUSE_reason = 14 ∧ e.f SPAN_REFUSE_offset = missing := by
  have hr := spanRefuse_spec (reason := 14) (by decide) hm (modSpan (fun s => { s with freeze := none }) b.dev)
  generalize hd : spanRefuse 14 missing (modSpan (fun s => { s with freeze := none }) b.dev) = d at hr
  have heq : (swapFail z missing b).dev = endWindow z d := by
    rw [← hd]
    unfold swapFail
    rw [hz]
    rfl
  have hkeep : KeepsShown d (endWindow z d) := (KeepsShown.refl d).endWindow
  have hmono : EvMono d (endWindow z d) := by
    have hset : EvMono d (setF SPAN_STATUS_win_failed (min z.failed 255) d) :=
      (EvMono.refl d).set _ (fun w hw => by simp only [DECK_EVT_PEND_pend, SPAN_STATUS_win_failed, Fld.key]; omega) _
    exact .ite _ (hset.trans (evPending_raise 151 (by decide) ..).2) hset
  rw [heq]
  refine ⟨hkeep.span.trans hr.span, (hkeep.field SPAN_STATUS_form_state (by decide)).trans hr.state, hmono 144 (by decide) hr.raised,
    (hkeep.field _ (by decide)).trans hr.reason, (hkeep.field _ (by decide)).trans hr.offset⟩

/-! ### An unform's release (R84) -/

/-- The structure is taken away, and what follows it in every other block. -/
def unformFollowed (z : Freeze) (b : Blk) : Blk :=
  b |> onDev (fun d => d |> passTo (z.start + leadTicks) |> modSpan (fun s => { s with freeze := none, committed := none })
        |> forAll (List.range 8) bayDown |> loadStructure b.dev.map {} false |> loadLatencies
        |> advanceEpoch |> showMap false |> ledgerPut z.org 12 b.dev.map.image 0x200000 b.dev.map.mapId 0)
    |> settleStructure b.dev.assignments

theorem unformRelease_eq {z : Freeze} {b : Blk} (hf : b.dev.span.freeze = some z) (hu : z.unform = true) (hz : z.deferred = []) :
    unformRelease b = onDev (windowOver z) (unformFollowed z b) := by
  unfold unformRelease unformFollowed windowOver
  simp only [hf, hu, hz, runWindow_nil, onDev_onDev, Bool.not_true, Bool.false_eq_true, if_false]

theorem released_unformFollowed (z : Freeze) (b : Blk) : ∃ c : Dev,
    KeepsShown (b.dev |> passTo (z.start + leadTicks) |> modSpan (fun s => { s with freeze := none, committed := none })) c ∧
    Released false c (unformFollowed z b).dev := by
  have hc := ((KeepsShown.refl (b.dev |> passTo (z.start + leadTicks) |> modSpan (fun s => { s with freeze := none, committed := none }))).each
    (l := List.range 8) fun k d => (KeepsShown.refl d).bayDown (b := k)).loadStructure (old := b.dev.map) (new := {}) (p := false)
  refine ⟨_, hc.loadLatencies, ?_⟩
  unfold unformFollowed
  refine Released.adds ?_ (addsRecords_settleStructure ..)
  rw [onDev_dev]
  exact released_recorded false z.org 12 b.dev.map.image 0x200000 b.dev.map.mapId 0 _

/-- An unform's release leaves no structure in force. -/
theorem unformRelease_spec {z : Freeze} {b : Blk} (hf : b.dev.span.freeze = some z) (hu : z.unform = true) (hz : z.deferred = []) :
    (unformRelease b).dev.span.committed = none ∧ (unformRelease b).dev.span.freeze = none ∧
      (unformRelease b).dev.evPending 150 = true ∧ (unformRelease b).dev.now = max b.dev.now (z.start + leadTicks) := by
  obtain ⟨c, hc, hrel⟩ := released_unformFollowed z b
  have hover := hrel.adds (addsRecords_windowOver z _)
  rw [unformRelease_eq hf hu hz, onDev_dev]
  refine ⟨?_, ?_, evPending_windowOver z _, (hover.now.trans hc.now).trans (passTo_now ..)⟩ <;> rw [hover.span, hc.span] <;> rfl

/-! ### The commands -/

theorem exec_spanCmdCommit {s : State} (hrun : Running s) (hq : s.d.hostWaits = false) {v : Word} (hv : v.toNat % 16 = 0 ∨ v.toNat % 16 = 4) :
    exec (.spanCmdCommit v) s = .next (s.act (onDev fun d => deferTo (.commit .host) (fresh d).refBoundary (fresh d))) := by
  refine (exec_spanBit hrun hq v (k := 4) (by decide)).trans ?_
  simp only [spanCmd_commit .host _ (or_command (k := 4) (by decide) hv)]

theorem exec_unform {s : State} (hrun : Running s) (hq : s.d.hostWaits = false) {v : Word} (hv : v.toNat % 16 = 0 ∨ v.toNat % 16 = 8) :
    exec (.unform v) s = .next (s.act (onDev fun d => spanUnform .host (fresh d))) := by
  refine (exec_spanBit hrun hq v (k := 8) (by decide)).trans ?_
  simp only [spanCmd_unform .host _ (or_command (k := 8) (by decide) hv)]

theorem spanUnform_ready {d : Dev} (hr : d.inReady = true) (hs : d.formState = 0) (org : Origin) :
    spanUnform org d = deferTo (.unform org) d.refBoundary d := if_pos (by simp [hr, hs])

theorem only_deferred_host (s : State) {l : List Deferred} {h : HostSt} :
    Only [.deferred, .host] s (s.withDev { s.d with deferred := l, host := h }) := by
  intro p hp
  cases p
  case deferred | host => simp at hp
  all_goals rfl

theorem swapAck_window {die : Nat} {z : Freeze} {d : Dev} (hd : die < 6) (hf : d.span.freeze = some z) :
    swapAck die d = modSpan (fun x => { x with freeze := some { z with acks := z.acks ||| 1 <<< die } }) d := by
  have hmap : (d.span.freeze.map fun y : Freeze => { y with acks := y.acks ||| 1 <<< die }) =
      some { z with acks := z.acks ||| 1 <<< die } := by
    rw [hf]
    rfl
  exact (if_pos hd).trans (congrArg (fun o => modSpan (fun x => { x with freeze := o }) d) hmap)

/-- Settles O22: a commit and an unform wait for their boundary; at the release the shadow takes force, is refused for the dies that are missing, or
the structure goes. -/
theorem commitAndUnformAreReleased : Obligations.CommitAndUnformAreReleased := by
  unfold Obligations.CommitAndUnformAreReleased
  intro s hrun
  refine ⟨fun v hq hv => ?commit, fun v hq ⟨hv, hr, hs⟩ => ?unform, fun die z ⟨hd, hf⟩ => ?ack,
    fun z m want ⟨hf, hu, hw, ha, hz⟩ ⟨hs, hp⟩ => ?released, fun z m want v ⟨hf, hu, hw, ha, hz⟩ ⟨hs, hp, h20, hv, hc, hl⟩ => ?pair,
    fun z m want ⟨hf, hu, hw, ha, hz⟩ hs => ?missed, fun z ⟨hf, hu, hz⟩ => ?unformed⟩
  case commit => exact does_of_dev (exec_spanCmdCommit hrun hq hv) rfl ⟨rfl, only_deferred_host s⟩
  case unform => exact does_of_dev (exec_unform hrun hq hv) (spanUnform_ready (d := fresh s.d) hr hs .host) ⟨rfl, only_deferred_host s⟩
  case ack => exact doesDev_of_eq (whileRunning_running _ hrun.1 hrun.2) (swapAck_window hd hf)
  case released =>
    replace hw : want = swapDies s.d.span.formPartial := hw
    subst hw
    obtain ⟨c, hin, hrel, hev⟩ := commitRelease_spec hf hu hz hs ha
    rw [hp] at hrel
    have hnil := keepsShown_writePairs_nil c
    obtain ⟨hm, hopen, hshadow⟩ := hin.after (hrel.span.trans hnil.span)
    exact ⟨_, whileRunning_running _ hrun.1 hrun.2, hm, hopen, hshadow, hrel.state, hrel.partial_, hev,
      (hrel.now.trans hnil.now).trans hin.now⟩
  case pair =>
    replace hw : want = swapDies s.d.span.formPartial := hw
    subst hw
    obtain ⟨c, hin, hrel, hev⟩ := commitRelease_spec hf hu hz hs ha
    rw [hp] at hrel
    have hroom : c.dev.ledgerFull = false := by
      unfold Dev.ledgerFull at *
      rw [hin.ldg]
      exact hl
    obtain ⟨hspan, hjump, hrecord⟩ := writePairs_jumpMax_spec hv h20 (hin.ldg ▸ hc) hroom
    rw [hin.jump] at hrecord
    obtain ⟨x, hx, hwhat⟩ := hrecord
    obtain ⟨hm, hopen, hshadow⟩ := hin.after (hrel.span.trans hspan)
    exact ⟨_, whileRunning_running _ hrun.1 hrun.2, hm, hopen, hshadow, hev, hrel.jump.trans hjump, x, hrel.queue x hx, hwhat⟩
  case missed =>
    replace hw : want = swapDies s.d.span.formPartial := hw
    subst hw
    obtain ⟨hspan, hstate, hev, hreason, hoff⟩ := swapFail_spec hz (swapDies_maskOff_lt s.d.span.formPartial z.acks)
      (onDev (passTo (z.start + leadTicks)) s.blk)
    rw [← commitRelease_missed hf hu hs ha] at hspan hstate hev hreason hoff
    refine ⟨_, whileRunning_running _ hrun.1 hrun.2, ?_, ?_, ?_, hstate, hev, hreason, fun i _ => ?_⟩
    · have hkept : (passTo (z.start + leadTicks) s.d).span.committed = s.d.span.committed := by rw [passTo_span]
      exact (congrArg SpanSt.committed hspan).trans hkept
    · exact congrArg SpanSt.freeze hspan
    · exact congrArg SpanSt.shadow hspan
    · exact (congrArg (Nat.testBit · i) hoff).trans (testBit_sub_and ..)
  case unformed => exact ⟨_, whileRunning_running _ hrun.1 hrun.2, unformRelease_spec hf hu hz⟩

end Sys2Proof.Machine
end
section
/-!
PROOF. What the statements about bays leave out (O24 to O26): a bay that its idle pier holds in Off, a relock on the stored band, and the STAY output
of a path that a fault has shed.
-/
namespace Sys2Proof.Machine

/-! ### A bay of an idle pier (O24) -/

/-- A bay whose pier the span map leaves inactive stays in Off: a request for a state without RF has no effect (R27, log entry 59). -/
theorem feWrite_heldOff {b st : Nat} {d : Dev} (h : d.bayHeldOff b = true) (hst : st ≤ 2) : feWrite b st d = d :=
  if_pos (.inr (.inl ⟨h, hst⟩))

/-- A map of one record: BAY 1 is Narrow, and no path of its pier is active. -/
def idlePierMap : SpanImg := { recs := [⟨2, false, 1, 0, List.replicate 8 0 ++ [1]⟩] }

/-- A deck in service, in Ready, with that map committed. -/
def idlePier : State := inService.actDev fun d => setF PWR_STAT_state 1 { d with span := { d.span with committed := some idlePierMap } }

theorem exec_feRequest {s : State} (hup : s.d.deckUp = true) (b st : Nat) :
    exec (.feRequest b st) s = .next (s.act (hostWrite (bayBase b) st)) := whileUp_up _ hup

theorem hostWrite_idlePier : hostWrite (bayBase 1) 1 idlePier.blk = onDev (feWrite 1 1) (onDev fresh idlePier.blk) := by decide +kernel

/-- Refutes O24: bay 1 is formed, Off and still, but held in Off with its idle pier, so that the request for Standby begins no transition. -/
theorem not_frontEndRequestsTakeEffect : ¬ Obligations.FrontEndRequestsTakeEffect := by
  intro h
  have hrun : Running idlePier := by decide +kernel
  obtain ⟨-, hstandby, -⟩ := h idlePier hrun
  obtain ⟨t, ht, hbegun, -⟩ := hstandby 1 1 (by decide +kernel) (by decide +kernel)
  rw [exec_feRequest hrun.1] at ht
  obtain rfl := Host.Outcome.next.inj ht
  have hheld : (fresh idlePier.d).bayHeldOff 1 = true := by decide +kernel
  have hstill : (feWrite 1 1 (fresh idlePier.d)).inTransition 1 = false := by
    rw [feWrite_heldOff hheld (by decide)]
    decide +kernel
  rw [State.d, State.act_blk, hostWrite_idlePier] at hbegun
  exact absurd (hstill.symm.trans hbegun) (by decide)

/-! ### A relock (O25) -/

/-- After a loss of lock the synthesiser locks on its stored band, until the full search is repeated (R107). -/
theorem f_band_synthLock {b t : Nat} {d : Dev} (h : (d.bay b).unlockAt = some t) (hs : (d.bay b).searching = false) (band : Nat) :
    (synthLock b band d).f (BAY_SYNTH_STAT_band b) = d.f (BAY_SYNTH_STAT_band b) := by
  have hkey {hi lo rst : Nat} (hl : lo < 4) : (BAY_SYNTH_STAT_band b).key ≠ (⟨bayBase b + 8, hi, lo, rst⟩ : Fld).key := by
    simp only [Fld.key, BAY_SYNTH_STAT_band]; omega
  unfold synthLock
  split
  · have hstored : ((d.bay b).unlockAt.isNone || (d.bay b).searching) = false := by rw [h, hs]; rfl
    simp only [hstored]
    show (setB (BAY_SYNTH_STAT_aligned b) false (setB (BAY_SYNTH_STAT_locked b) true d)).f _ = _
    exact (f_setB_other (hkey (lo := 2) (by decide)) ..).trans (f_setB_other (hkey (lo := 0) (by decide)) ..)
  · rfl

/-- A deck in service whose bay 1 lost its lock on the way from Standby to Warm, in the wait for its phase. -/
def lockLostInWait : State := inService.actDev fun d =>
  d |> setF (BAY_FE_STAT_state 1) 1 |> setF (BAY_FE_STAT_target 1) 2 |> setB (BAY_FE_STAT_in_transition 1) true
    |> setB (BAY_SYNTH_STAT_locked 1) true |> synthUnlock 1

theorem exec_synthLock {s : State} (hrun : Running s) (b band : Nat) :
    exec (.synthLock b band) s = .next (s.act (onDev (synthLock b band))) := whileRunning_running _ hrun.1 hrun.2

/-- Refutes O25: the lock that follows a loss of lock is on the stored band, 0, and not on the operand's, 77. -/
theorem not_synthesiserLocksAndFails : ¬ Obligations.SynthesiserLocksAndFails := by
  intro h
  have hrun : Running lockLostInWait := by decide +kernel
  obtain ⟨hlock, -⟩ := h lockLostInWait hrun
  obtain ⟨t, ht, ⟨hset, -⟩, -⟩ := hlock 1 77 (by decide +kernel)
  rw [exec_synthLock hrun] at ht
  obtain rfl := Host.Outcome.next.inj ht
  have hband : (synthLock 1 77 lockLostInWait.d).f (BAY_SYNTH_STAT_band 1) = 77 := hset (BAY_SYNTH_STAT_band 1, 77) (by simp)
  rw [f_band_synthLock (t := 0) (by decide +kernel) (by decide +kernel)] at hband
  exact absurd hband (by decide +kernel)

/-! ### The STAY output of a path that is shed (O26) -/

section
variable {n : Nat} {d : Dev}

/-- The output of a silent path never drives its word (R378). -/
theorem stayLevel_shed (h : d.stayShed n = true) : (d.stayLevel n).2 = false := by
  unfold Dev.stayLevel
  rw [h, Bool.or_true, Bool.true_or, if_pos rfl]
  split_ifs <;> rfl

/-- What reads driven of it falls with its clear code (R115). -/
theorem fb_stayDrive_shed (hn : n < 32) (h : d.stayShed n = true) : (stayDrive n d).fb HK_STAY_DRV_LO_drv n = false := by
  unfold stayDrive
  simp only [stayLevel_shed h, if_pos hn, Nat.mod_eq_of_lt hn, Bool.false_eq_true, if_false]
  exact fb_clrBitF_same ..

/-- The events of a completed shed leave every other register field. -/
theorem f_shedComplete {x : Fld} (hx : evFree x) (hn : n < 64) (us : Nat) (d : Dev) : (shedComplete n us d).f x = d.f x := by
  have hfault : pierEvent 66 (bayOf n) < 160 := by unfold pierEvent bayOf; omega
  unfold shedComplete
  extract_lets b mine first own e
  refine (f_forAll (fun y g => ?_) _ _).trans ((f_forAll (fun y g => ?_) _ _).trans (f_congr rfl x))
  · unfold onlyIf
    split
    · exact f_raise hx (by decide) ..
    · rfl
  · unfold onlyIf
    split
    · exact (f_raise hx (by decide) ..).trans (f_raise hx hfault ..)
    · exact f_raise hx hfault ..

/-- SHED_COMPLETE of a path that is shed: its output drives the clear code, and the register shows it (R115, R378). -/
theorem fb_shedDone_shed (hn : n < 32) (us : Nat) (hf : d.faultsOf n ≠ []) (h : d.stayShed n = true) :
    (shedDone n us d).fb HK_STAY_DRV_LO_drv n = false := by
  unfold shedDone
  rw [if_neg (by simpa using hf)]
  unfold Dev.fb
  rw [f_shedComplete (by decide) (by omega)]
  exact fb_stayDrive_shed hn h

/-- Where the output drove its word, that is a register beside the events'. -/
theorem not_setsEv_shedDone {s : State} (hn : n < 32) (us : Nat) (hf : s.d.faultsOf n ≠ []) (h : s.d.stayShed n = true)
    (hdrove : s.d.fb HK_STAY_DRV_LO_drv n = true) : ¬ SetsEv [] s (s.act (onDev (shedDone n us))) := by
  rintro ⟨-, hkept⟩
  have hsame := congrArg (Nat.testBit · n) (hkept HK_STAY_DRV_LO_drv (by decide) (by simp))
  exact absurd ((fb_shedDone_shed hn us hf h).symm.trans (hsame.trans hdrove)) (by decide)

end

/-- A deck in service, in Ready, whose path 9 drove its STAY output's word when a fault of cause 2 shed it. -/
def shedWhileDriving : State := inService.actDev fun d =>
  d |> setF PWR_STAT_state 1 |> setF (BAY_ACTIVE_tx_active 1) 2 |> setBitF HK_STAY_DRV_LO_drv 9 |> pathFault 9 2

theorem exec_shedComplete {s : State} (hrun : Running s) (n us : Nat) :
    exec (.shedComplete n us) s = .next (s.act (onDev (shedDone n us))) := whileRunning_running _ hrun.1 hrun.2

/-- Refutes O26: the shed's completion takes STAY_9 from its word to its clear code, so that HK_STAY_DRV_LO changes beside the events. -/
theorem not_gainsAndSheds : ¬ Obligations.GainsAndSheds := by
  intro h
  have hrun : Running shedWhileDriving := by decide +kernel
  obtain ⟨-, -, -, -, hshed, -⟩ := h shedWhileDriving hrun
  obtain ⟨t, ht, ⟨-, -, -, hkept⟩, -⟩ := hshed 9 0 (by decide +kernel)
  rw [exec_shedComplete hrun] at ht
  obtain rfl := Host.Outcome.next.inj ht
  exact not_setsEv_shedDone (n := 9) (by decide) 0 (by decide +kernel) (by decide +kernel) (by decide +kernel) hkept

end Sys2Proof.Machine
end
section
/-!
PROOF. What two statements leave out: the trap of the bundle that holds a fit's HALT (O27), and the length of the chain head in an archive block
(O60).
-/
namespace Sys2Proof.Machine

/-! ### A bundle that traps (O27) -/

/-- JOB_END finds no job where the bundle of the HALT has ended it. -/
theorem haltEnd_of_bundleEnd_ends {e : Nat} {d : Dev} {r : RunJob} (hrun : (d.eng e).run = some r) (hhalt : r.ended.isSome = true)
    (hend : ((bundleEnd e d).eng e).run = none) (result : Nat) (fit : Option FitResult) : haltEnd e result fit d = bundleEnd e d := by
  unfold haltEnd
  simp only [hrun, hhalt]
  show jobEnd e result fit (bundleEnd e d) = _
  unfold jobEnd
  rw [hend]

/-- A map of one record: every path of pier 0 is active. -/
def pier0Map : SpanImg := { recs := [⟨1, false, 0, 0, List.replicate 8 0 ++ [255, 255, 255, 255]⟩] }

/-- A deck in service, in Ready, with that map committed. Path 9 waits for the fit of its bay's engine 1, whose program has halted in a bundle in
which an accumulator overflowed under ovf_trap (R197). -/
def fitTraps : State := inService.actDev fun d =>
  { d with span := { d.span with committed := some pier0Map } } |> setF PWR_STAT_state 1 |> setDpdState 9 2
    |> modDpd 9 (fun s => { s with step := 2 }) |> setF (TRUSS_ENG_STAT_logical 1) 1 |> setF (TRUSS_ENG_STAT_state 1) 2
    |> setEng 1 { run := some ⟨128, 0, true, some 1⟩, trap := true }

/-- A fit of path 9 with a solution. -/
def solvedFit : FitResult := ⟨9, (8192, -100), [(300, -200), (5, 7)], 10, 1000⟩

theorem fitTraps_running : Running fitTraps := by decide +kernel

/-- The trap ends the job, and with it the iteration. -/
theorem fitTraps_bundleEnd : ((bundleEnd 1 fitTraps.d).eng 1).run = none ∧ ((bundleEnd 1 fitTraps.d).dpdSt 9).step = 0 := by decide +kernel

theorem exec_jobEnd {s : State} (hrun : Running s) (e result : Nat) (fit : Option FitResult) :
    exec (.jobEnd e result fit) s = .next (s.act (onDev (haltEnd e result fit))) := whileRunning_running _ hrun.1 hrun.2

/-- Refutes O27: the bundle of the HALT traps, so that the job ends before its fit is taken, and no step follows. -/
theorem not_predistortionActsOnItsPaths : ¬ Obligations.PredistortionActsOnItsPaths := by
  intro h
  obtain ⟨-, -, -, -, -, -, hfit, -⟩ := h fitTraps fitTraps_running
  obtain ⟨t, ht, -, -, -, hstep, -⟩ :=
    hfit 1 0 128 0 1 9 0 solvedFit true (by decide +kernel) (by decide +kernel)
  rw [exec_jobEnd fitTraps_running] at ht
  obtain rfl := Host.Outcome.next.inj ht
  have hend : haltEnd 1 0 (some solvedFit) fitTraps.d = bundleEnd 1 fitTraps.d :=
    haltEnd_of_bundleEnd_ends (r := ⟨128, 0, true, some 1⟩) (by decide +kernel) rfl fitTraps_bundleEnd.1 ..
  rw [State.d, State.act_blk, onDev_dev, hend, fitTraps_bundleEnd.2] at hstep
  exact absurd hstep (by decide)

/-! ### An archive block that is too long for its sector (O60) -/

/-- A programmed byte keeps of its bits those that are 1 in what is programmed too (R451). -/
theorem sbyte_program_in {l : List Nat} {i v : Nat} (h : l[i]? = some v) (a : Nat) (m : Mem) :
    (m.program a l).sbyte (a + i) = m.sbyte (a + i) &&& v % 256 := by
  induction l generalizing a m i with
  | nil => simp at h
  | cons b r ih =>
    cases i with
    | zero =>
      obtain rfl : b = v := by simpa using h
      rw [Mem.program, sbyte_program_other _ _ _ _ (by omega)]
      simp [Mem.sbyte, smGet_smPut_same]
    | succ i =>
      rw [Mem.program, show a + (i + 1) = a + 1 + i by omega, ih (by simpa using h)]
      simp [Mem.sbyte, smGet_smPut_other _ _ (show a + 1 + i ≠ a by omega)]

/-- A part of a list stands where it was appended. -/
theorem getElem?_append_part {head p : List Nat} {i v : Nat} (h : p[i]? = some v) (rest : List Nat) :
    (head ++ p ++ rest)[head.length + i]? = some v := by
  have hi : i < p.length := (List.getElem?_eq_some_iff.1 h).1
  rw [List.append_assoc, List.getElem?_append_right (by omega), List.getElem?_append_left (by omega), Nat.add_sub_cancel_left, h]

/-- A record holds its payload behind a header of 16 bytes (R313). -/
theorem lamnik_payload (ty seq : Nat) {p : List Nat} {i v : Nat} (h : p[i]? = some v) : (lamnik ty seq p)[16 + i]? = some v := by
  unfold lamnik lamnikF
  rw [List.append_assoc _ (List.replicate _ 0)]
  exact getElem?_append_part h _

/-- The payload of an archive block: its first sequence and its count, the chain head that the device keeps, and its records (R420). -/
def archivePayload (j : ArcJob) (b : Blk) : List Nat :=
  leBytes 4 j.first ++ leBytes 2 j.count ++ [0, 0] ++ b.dev.ldg.arcHead ++ (drainRead (b.dev.f LEDGER_RD_SLOT_slot) j.count b).1.flatten

theorem archivePayload_head (j : ArcJob) {b : Blk} {i v : Nat} (h : b.dev.ldg.arcHead[i]? = some v) :
    (archivePayload j b)[8 + i]? = some v := getElem?_append_part h _

/-- A good read-back leaves the block's record programmed. -/
theorem mem_archiveBlockDone {b : Blk} {j : ArcJob} (hj : b.dev.ldg.arc = some j) (hrun : b.dev.running = true)
    (hfw : b.dev.key.fwStopped = false) (hstore : b.dev.key.storeAbsent = false) (hwant : b.dev.ldg.want = false) :
    (archiveBlockDone true b).mem = (drainRead (b.dev.f LEDGER_RD_SLOT_slot) j.count b).2.mem.program (arcAddr j.sector)
      (lamnik 5 j.first (archivePayload j b)) := by
  unfold archiveBlockDone
  simp only [hj, hrun, hfw, hstore, hwant]
  rfl

/-- A deck in service that writes an archive block of one record, and keeps a chain head of 4,073 bytes in place of 32. -/
def longHead : State := inService.actDev fun d =>
  modLdg (fun l => { l with arc := some ⟨0, 1, 0⟩, arcHead := List.replicate 4073 0 }) (setF LEDGER_STAT_fill 1 d)

theorem longHead_running : Running longHead := by decide +kernel

/-- The last byte of that head is the first of the next sector. -/
theorem longHead_spills : (archiveBlockDone true longHead.blk).mem.sbyte (arcAddr 0 + 4096) = 0 := by
  have hlast : longHead.blk.dev.ldg.arcHead[4072]? = some 0 :=
    (List.getElem?_replicate_of_lt (by decide) : (List.replicate 4073 0)[4072]? = some 0)
  rw [mem_archiveBlockDone (j := ⟨0, 1, 0⟩) rfl longHead_running.2 rfl rfl rfl,
    sbyte_program_in (i := 4096) (lamnik_payload _ _ (archivePayload_head _ hlast)), Nat.zero_mod, Nat.and_zero]

theorem exec_archiveBlockDone {s : State} (hrun : Running s) (ok : Bool) :
    exec (.archiveBlockDone ok) s = .next (s.act (archiveBlockDone ok)) := whileRunning_running _ hrun.1 hrun.2

/-- Refutes O60: no condition bounds the chain head that an archive block holds, and with one of 4,073 bytes the block's record reaches into the
next sector. -/
theorem not_storesChangeOnlyTheirBytes : ¬ Obligations.StoresChangeOnlyTheirBytes := by
  intro h
  obtain ⟨-, -, -, -, -, -, -, -, -, -, -, -, -, -, -, -, -, -, -, -, -, -, -, hblock⟩ := h longHead
  obtain ⟨t, ht, -, hkept⟩ := hblock true ⟨0, 1, 0⟩ ⟨rfl, by decide, rfl, rfl, rfl⟩
  rw [exec_archiveBlockDone longHead_running] at ht
  obtain rfl := Host.Outcome.next.inj ht
  have herased : longHead.blk.mem.sbyte (arcAddr 0 + 4096) = 255 := rfl
  exact absurd (longHead_spills.symm.trans ((hkept _ (.inr le_rfl)).trans herased)) (by decide)

end Sys2Proof.Machine
end
section
/-!
PROOF. A management write that takes its own port down (O31): LINK_CFG.en is a governed field that management may write (R286), and a port that
it disables is OFF, with its queue lost, before the request is answered.
-/
namespace Sys2Proof.Machine

/-- A request whose items are done gets no response on a port that is not UP any more. -/
theorem mgmtRun_portDown {q : MgmtReq} {b : Blk} (hdone : (mgmtItems q q.items b).2.held = none)
    (hdown : (mgmtItems q q.items b).1.dev.portUp q.port = false) : mgmtRun q b = (mgmtItems q q.items b).1 := by
  unfold mgmtRun
  simp only [hdone, Option.isSome_none, Bool.false_eq_true, if_false, hdown]
  rfl

/-- A deck in service whose port A is UP, with management agreed at version 1.1 and open for writes. -/
def managedOnPortA : State := inService.actDev fun d =>
  d |> setF (LINK_PORT_STAT_state 0) 3 |> setF LINK_XK_VER_LO_management 0x11 |> setF LINK_XK_CFG_mgmt 2

/-- A write request on port A of one item, with tag 9, 8: LINK_CFG becomes 0. -/
def disablePorts : XkFrame :=
  { port := 0, dst := 0, src := 7, tci := 0, etype := 0xAEFE
    payload := [0x10, 0x43, 0, 20, 0x11, 2, 0, 0, 0, 0, 0, 0] ++ [9, 8, 1, 0] ++ beBytes 4 LINK_CFG_en_a.off ++ [0, 0, 0, 0] }

/-- The request that this frame brings. -/
def disableRequest : MgmtReq :=
  { port := 0, dst := 7, tci := 0, tag := [9, 8], count := 1, write := true, done := [], held := none, items := [(LINK_CFG_en_a.off, 0)] }

/-- The deck as the request finds it: the frame has entered port A's expansion buffer, and its sequence number is noted. -/
def disableArrived : Blk :=
  managedOnPortA.blk |> onDev (expbEnter 0 (frameSpan 0 disablePorts.payload.length) disablePorts.payload)
    |> onDev (noteSeq 0 0x43 (xkMsg disablePorts))

theorem exec_mgmtWrite {s : State} (hrun : Running s) (f : XkFrame) (waiting : Nat) :
    exec (.mgmtWrite f waiting) s = .next (s.act (mgmtRequest true f waiting)) := whileRunning_running _ hrun.1 hrun.2

theorem mgmtRequest_disablePorts : mgmtRequest true disablePorts 0 managedOnPortA.blk = mgmtRun disableRequest disableArrived := by decide +kernel

/-- The write takes effect, and leaves port A down with nothing queued on it. -/
theorem mgmtItems_disableRequest :
    (mgmtItems disableRequest disableRequest.items disableArrived).2.held = none ∧
      (mgmtItems disableRequest disableRequest.items disableArrived).1.dev.portUp 0 = false ∧
      (mgmtItems disableRequest disableRequest.items disableArrived).1.dev.txq 0 = [] := by decide +kernel

/-- Refutes O31: the write of LINK_CFG disables the port that brought it, so that no response is queued there. -/
theorem not_linkMessagesTakeEffect : ¬ Obligations.LinkMessagesTakeEffect := by
  intro h
  have hrun : Running managedOnPortA := by decide +kernel
  obtain ⟨-, -, -, -, -, -, -, -, -, hwrite, -⟩ := h managedOnPortA hrun
  obtain ⟨t, ht, hanswer, -⟩ := hwrite disablePorts 0 (xkMsg disablePorts) LINK_CFG_en_a.off (by decide +kernel)
  rw [exec_mgmtWrite hrun] at ht
  obtain rfl := Host.Outcome.next.inj ht
  obtain ⟨hdone, hdown, hempty⟩ := mgmtItems_disableRequest
  have hnone : (managedOnPortA.act (mgmtRequest true disablePorts 0)).d.txq disablePorts.port = [] := by
    rw [State.d, State.act_blk, mgmtRequest_disablePorts, mgmtRun_portDown hdone hdown]
    exact hempty
  rw [hnone] at hanswer
  exact absurd hanswer (by simp)

end Sys2Proof.Machine
end
section
/-!
PROOF. What two statements about the engines leave out: the trap of the bundle that holds a program's HALT (O33), and the width of a word of local
memory (O36).
-/
namespace Sys2Proof.Machine

/-! ### A job whose last bundle traps (O33) -/

/-- The trap writes the status OVF, 2, and not the 1 of the HALT. -/
theorem descWord_fitTraps_bundleEnd : (bundleEnd 1 fitTraps.d).descWord 128 15 = 2 + 256 * 1 + 65536 * 1 := by decide +kernel

/-- Refutes O33: the bundle of the HALT traps, so that the job ends with the trap's status before JOB_END writes that of the HALT. -/
theorem not_jobsRunThroughTheEngines : ¬ Obligations.JobsRunThroughTheEngines := by
  intro h
  obtain ⟨-, -, -, -, hjobEnd, -⟩ := h fitTraps fitTraps_running
  obtain ⟨t, ht, -, hstatus, -⟩ := hjobEnd 1 0 none 128 0 1 true (by decide +kernel)
  rw [exec_jobEnd fitTraps_running] at ht
  obtain rfl := Host.Outcome.next.inj ht
  have hend : haltEnd 1 0 none fitTraps.d = bundleEnd 1 fitTraps.d :=
    haltEnd_of_bundleEnd_ends (r := ⟨128, 0, true, some 1⟩) (by decide +kernel) rfl fitTraps_bundleEnd.1 ..
  have hseq : (fitTraps.d.eng 1).seq = 0 := by decide +kernel
  rw [State.d, State.act_blk, onDev_dev, hend, descWord_fitTraps_bundleEnd, hseq] at hstatus
  exact absurd hstatus (by decide)

/-! ### A coefficient of more than 32 bits (O36) -/

/-- Engine 3 runs a job on a deck in service, with every path of pier 0 active, and word 0 of its local memory is 2^32: the model holds these words
as numbers, and no condition of the statement bounds them. -/
def wideLocalWord : State := inService.actDev fun d =>
  { d with span := { d.span with committed := some pier0Map } } |> setF (TRUSS_ENG_STAT_state 3) 2
    |> setF PWR_STAT_state 1 |> setEng 3 { run := some ⟨128, 0, false, none⟩, lm := [(0, 2 ^ 32)] }

theorem exec_wrcoef {s : State} (hrun : Running s) (e n set w l : Nat) (o : TBun) :
    exec (.wrcoef e n set w l o) s = .next (s.act (onDev (truOp e o (wrcoefOp e n set w l)))) := whileRunning_running _ hrun.1 hrun.2

/-- The coefficient takes the whole number. -/
theorem coef_wideLocalWord : (truOp 3 ⟨0, false⟩ (wrcoefOp 3 0 0 1 0) wideLocalWord.d).coef 0 0 1 = 2 ^ 32 := by decide +kernel

/-- Refutes O36: WRCOEF stores the word of local memory as it is, and not its lower 32 bits. -/
theorem not_controlAndPortOperations : ¬ Obligations.ControlAndPortOperations := by
  intro h
  have hrun : Running wideLocalWord := by decide +kernel
  obtain ⟨-, -, -, -, -, -, -, -, -, -, -, -, -, -, hwrcoef, -⟩ := h wideLocalWord hrun
  obtain ⟨t, ht, hcoef, -⟩ := hwrcoef 3 0 0 1 0 ⟨0, false⟩ (by decide +kernel)
  rw [exec_wrcoef hrun] at ht
  obtain rfl := Host.Outcome.next.inj ht
  have hword : w32 (smGet 0 (0 % 65536) (wideLocalWord.d.eng 3).lm) = 0 := by decide +kernel
  rw [State.d, State.act_blk, onDev_dev, coef_wideLocalWord, hword] at hcoef
  exact absurd hcoef (by decide)

end Sys2Proof.Machine
end
section
/-!
PROOF. A microcode operation stays on its engine (O59): which steps leave the state of the engines as it is, and which change that of one engine
alone.
-/
namespace Sys2Proof.Machine

/-! ### Steps that leave every engine -/

theorem onlyIf_tr {c : Bool} {u : Dev → Dev} {d : Dev} (h : (u d).tr = d.tr) : (onlyIf c u d).tr = d.tr := by
  unfold onlyIf
  split
  · exact h
  · rfl

theorem forAll_tr {α : Type} {l : List α} {u : α → Dev → Dev} (h : ∀ a d, (u a d).tr = d.tr) (d : Dev) : (forAll l u d).tr = d.tr :=
  foldl_keeps (fun e => e.tr = d.tr) _ l (fun e a _ he => (h a e).trans he) d rfl

theorem ite_tr {c : Prop} [Decidable c] {d e g : Dev} (he : e.tr = d.tr) (hg : g.tr = d.tr) : (if c then e else g).tr = d.tr := by
  split
  · exact he
  · exact hg

theorem clrBitF_tr (x : Fld) (i : Nat) (d : Dev) : (clrBitF x i d).tr = d.tr := ite_tr rfl rfl

theorem refreshEng_tr (e : Nat) (d : Dev) : (refreshEng e d).tr = d.tr := by
  have hmark (c : Prop) [Decidable c] (x : Fld) (d : Dev) : ((if c then setBitF x e else clrBitF x e) d).tr = d.tr := by
    split
    · rfl
    · exact clrBitF_tr ..
  exact (hmark ..).trans (hmark ..)

theorem setEngState_tr (e st : Nat) (d : Dev) : (setEngState e st d).tr = d.tr := refreshEng_tr ..

theorem ulwModeSettled_tr (d : Dev) : (ulwModeSettled d).tr = d.tr := ite_tr (clrBitF_tr ..) rfl

theorem dpdStart_tr (n : Nat) (d : Dev) : (dpdStart n d).tr = d.tr := ite_tr rfl (ite_tr rfl rfl)

theorem dpdModeChanged_tr (d : Dev) : (dpdModeChanged d).tr = d.tr := by
  refine forAll_tr (fun n e => ite_tr (ite_tr (dpdStart_tr n e) (ite_tr ?_ (ite_tr ?_ rfl))) rfl) d
  · exact setF_tr ..
  · exact setF_tr ..

theorem dpdModeSettled_tr (d : Dev) : (dpdModeSettled d).tr = d.tr := ite_tr ((dpdModeChanged_tr _).trans (clrBitF_tr ..)) rfl

theorem fitLost_tr (e : Nat) (d : Dev) : (fitLost e d).tr = d.tr := by
  unfold fitLost
  exact forAll_tr (fun _ _ => by rfl) d

theorem computedAwait_tr (e status : Nat) (d : Dev) : (computedAwait e status d).tr = d.tr := by
  unfold computedAwait
  exact forAll_tr (fun _ _ => by rfl) d

theorem coefWrite_tr (org : Origin) (n set w v : Nat) (d : Dev) : (coefWrite org n set w v d).tr = d.tr :=
  ite_tr rfl (ite_tr rfl (ite_tr rfl (ite_tr rfl rfl)))

/-! ### Deck SRAM -/

theorem markRecurrence_tr (w : Nat) (d : Dev) : (markRecurrence w d).tr = d.tr := by
  unfold markRecurrence
  extract_lets old table hist row g marked
  have hg : g.tr = d.tr := raise_tr (by decide) ..
  have hm : marked.tr = d.tr := ite_tr (ite_tr hg hg) rfl
  exact hm

theorem raiseSec_tr {n : Nat} (hn : n < 160) (key u c m : Nat) (d : Dev) : (raiseSec key n u c m d).tr = d.tr := by
  obtain ⟨_, _, _, h⟩ := (quiet_raiseLimited secTicks key n hn u c m d).1
  rw [raiseSec, h]

theorem corrected_tr (src a : Nat) (d : Dev) : (corrected src a d).tr = d.tr := by
  unfold corrected
  extract_lets w
  exact (markRecurrence_tr ..).trans (onlyIf_tr (raiseSec_tr (by decide) ..))

theorem cbInvalidate_tr (e : Nat) (d : Dev) : (cbInvalidate e d).tr = d.tr := ite_tr rfl rfl

theorem poisonFalls_tr (a : Nat) (d : Dev) : (poisonFalls a d).tr = d.tr :=
  (onlyIf_tr rfl).trans (onlyIf_tr (cbInvalidate_tr ..))

theorem uncorrectable_tr (src a : Nat) (d : Dev) : (uncorrectable src a d).tr = d.tr :=
  (poisonFalls_tr ..).trans (raise_tr (by decide) ..)

theorem touch_tr (src a : Nat) (b : Blk) : (touch src a b).dev.tr = b.dev.tr := by
  unfold touch
  split
  · exact onlyIf_tr (poisonFalls_tr ..)
  · split
    · exact uncorrectable_tr ..
    · split
      · exact corrected_tr ..
      · rfl

theorem touchRange_tr (src a n : Nat) (b : Blk) : (touchRange src a n b).dev.tr = b.dev.tr := by
  induction n generalizing a b with
  | zero => rfl
  | succ n ih => exact (ih ..).trans (touch_tr ..)

theorem writeWord_tr (a : Nat) (l : List Nat) (b : Blk) : (writeWord a l b).dev.tr = b.dev.tr := onlyIf_tr rfl

theorem writeWords_tr (a : Nat) (l : List (List Nat)) (b : Blk) : (writeWords a l b).dev.tr = b.dev.tr := by
  induction l generalizing a b with
  | nil => rfl
  | cons w r ih => exact (ih ..).trans (writeWord_tr ..)

theorem retire_tr (e : MergeEnt) (b : Blk) : (retire e b).dev.tr = b.dev.tr := by
  unfold retire
  extract_lets a g t u
  have hu : u.dev.tr = b.dev.tr := touch_tr ..
  split
  · exact writeWord_tr ..
  · split
    · exact (raise_tr (by decide) ..).trans hu
    · exact (writeWord_tr ..).trans hu

theorem narrowWrite_tr (a : Nat) (l : List Nat) (b : Blk) : (narrowWrite a l b).dev.tr = b.dev.tr := by
  unfold narrowWrite
  dsimp only
  split
  · split
    · exact retire_tr ..
    · rfl
  · show (_ : Dev).tr = _
    split
    · split
      · exact retire_tr ..
      · rfl
    · rfl

theorem dynUpdate_tr (k carrier frame slot sym : Nat) (ws : List Nat) (b : Blk) : (dynUpdate k carrier frame slot sym ws b).dev.tr = b.dev.tr := by
  unfold dynUpdate
  extract_lets d t late e
  exact ((onlyIf_tr rfl).trans (onlyIf_tr rfl)).trans (writeWords_tr ..)

/-! ### Steps that change one engine alone -/

/-- Of the engines, a step changes none but engine e. -/
structure KeepsOthers (e : Nat) (d g : Dev) : Prop where
  other : ∀ k, k ≠ e → g.eng k = d.eng k

theorem eng_congr {d g : Dev} (h : g.tr = d.tr) (k : Nat) : g.eng k = d.eng k := by
  unfold Dev.eng
  rw [h]

theorem eng_setEng_same (e : Nat) (x : EngSt) (d : Dev) : (setEng e x d).eng e = x := smGet_smPut_same ..

theorem eng_setEng_other {e k : Nat} (h : k ≠ e) (x : EngSt) (d : Dev) : (setEng e x d).eng k = d.eng k := smGet_smPut_other _ _ h _ _

namespace KeepsOthers
variable {e : Nat} {d g h : Dev}

theorem refl (e : Nat) (d : Dev) : KeepsOthers e d d := ⟨fun _ _ => rfl⟩

theorem trans (hg : KeepsOthers e d g) (hh : KeepsOthers e g h) : KeepsOthers e d h :=
  ⟨fun k hk => (hh.other k hk).trans (hg.other k hk)⟩

theorem tr (hg : KeepsOthers e d g) (hh : h.tr = g.tr) : KeepsOthers e d h :=
  ⟨fun k hk => (eng_congr hh k).trans (hg.other k hk)⟩

theorem engine (hg : KeepsOthers e d g) (x : EngSt) : KeepsOthers e d (setEng e x g) :=
  ⟨fun k hk => (eng_setEng_other hk x g).trans (hg.other k hk)⟩

/-- A word of a job descriptor is no state of an engine. -/
theorem descriptor (hg : KeepsOthers e d g) (j w v : Nat) : KeepsOthers e d (setDescWord j w v g) := ⟨hg.other⟩

theorem ite (c : Prop) [Decidable c] (hg : KeepsOthers e d g) (hh : KeepsOthers e d h) : KeepsOthers e d (if c then g else h) := by
  split
  · exact hg
  · exact hh

theorem when (hg : KeepsOthers e d g) {c : Bool} {u : Dev → Dev} (hu : KeepsOthers e g (u g)) : KeepsOthers e d (onlyIf c u g) :=
  .ite _ (hg.trans hu) hg

theorem each {α : Type} (hg : KeepsOthers e d g) {u : α → Dev → Dev} (hu : ∀ a d, KeepsOthers e d (u a d)) (l : List α) :
    KeepsOthers e d (forAll l u g) :=
  foldl_keeps (KeepsOthers e d) _ l (fun _ a _ hc => hc.trans (hu a _)) g hg

end KeepsOthers

section
variable (e : Nat) (d : Dev)

/-! ### Jobs that end -/

theorem keepsOthers_settleEng : KeepsOthers e d (settleEng e d) :=
  .ite _ (.ite _ (((KeepsOthers.refl e d).engine _).tr (setEngState_tr ..)) ((KeepsOthers.refl e d).tr (setEngState_tr ..)))
    ((KeepsOthers.refl e d).tr (refreshEng_tr ..))

theorem keepsOthers_writeStatus (j status : Nat) (result : Option Nat) : KeepsOthers e d (writeStatus e j status result d) := by
  unfold writeStatus
  extract_lets seq g
  have hg : KeepsOthers e d g := by
    unfold g
    split
    · exact (KeepsOthers.refl e d).descriptor ..
    · exact .refl e d
  exact ((hg.descriptor ..).engine _).tr (onlyIf_tr (raise_tr (by decide) ..))

theorem keepsOthers_endJob (status : Nat) (result : Option Nat) : KeepsOthers e d (endJob e status result d) := by
  unfold endJob
  split
  · exact .refl e d
  · next r _ =>
    extract_lets g h
    have hg : KeepsOthers e d g := by
      refine KeepsOthers.engine (KeepsOthers.tr ?_ rfl) _
      exact (keepsOthers_writeStatus e d r.desc status result).tr ((onlyIf_tr (computedAwait_tr ..)).trans (onlyIf_tr (fitLost_tr ..)))
    have hh : KeepsOthers e d h := .ite _ (hg.trans (keepsOthers_settleEng e g)) (hg.tr (refreshEng_tr ..))
    exact hh.tr ((dpdModeSettled_tr _).trans (ulwModeSettled_tr _))

theorem keepsOthers_jobMemErr : KeepsOthers e d (jobMemErr e d) := by
  have hresp : KeepsOthers e d (errorResp d) := (KeepsOthers.refl e d).tr (setF_tr ..)
  exact (hresp.tr (raise_tr (by decide) ..)).trans (keepsOthers_endJob ..)

/-! ### Generators and bundles -/

theorem keepsOthers_agAccess (g n : Nat) : KeepsOthers e d (agAccess e g n d).2 := ((KeepsOthers.refl e d).engine _).tr (onlyIf_tr rfl)

theorem keepsOthers_interlock (k : Nat) : KeepsOthers e d (interlock e k d) :=
  .ite _ (((KeepsOthers.refl e d).engine _).tr rfl) (.refl e d)

theorem keepsOthers_agApply (c : AgChange) : KeepsOthers e d (agApply e c d) := by
  cases c with
  | set g f v =>
    cases f with
    | rrsize => exact .ite _ ((KeepsOthers.refl e d).engine _) (((KeepsOthers.refl e d).engine _).tr rfl)
    | _ => exact (KeepsOthers.refl e d).engine _
  | add g v => exact ((KeepsOthers.refl e d).engine _).tr (onlyIf_tr rfl)

theorem keepsOthers_bundleEnd : KeepsOthers e d (bundleEnd e d) := by
  unfold bundleEnd
  extract_lets x
  refine .ite _ (.refl e d) (KeepsOthers.when (((KeepsOthers.refl e d).engine _).each (fun c g => keepsOthers_agApply e g c) _) ?_)
  exact ((KeepsOthers.refl e _).tr (raise_tr (by decide) ..)).trans (keepsOthers_endJob ..)

/-- An operation on the device, and the end of its bundle. -/
theorem KeepsOthers.truOp {e : Nat} {d : Dev} {g : Dev → Dev} (hg : KeepsOthers e d (g d)) (o : TBun) : KeepsOthers e d (truOp e o g d) :=
  ((refl e d).when hg).when (keepsOthers_bundleEnd ..)

/-- An operation on the block, and the end of its bundle. -/
theorem KeepsOthers.truBlk {e : Nat} {b : Blk} {g : Blk → Blk} (hg : KeepsOthers e b.dev (g b).dev) (o : TBun) :
    KeepsOthers e b.dev (truBlk e o g b).dev := by
  unfold Machine.truBlk
  extract_lets on c
  have hc : KeepsOthers e b.dev c.dev := by
    unfold c
    split
    · exact hg
    · exact .refl e _
  split
  · exact hc.trans (keepsOthers_bundleEnd ..)
  · exact hc

/-! ### The operations -/

theorem keepsOthers_readSrc (x : TSrc) : KeepsOthers e d (readSrc e x d).2 := by
  cases x with
  | v k => exact keepsOthers_interlock ..
  | a k => exact .refl e d
  | kBus => exact keepsOthers_agAccess ..
  | kBroadcast => exact keepsOthers_agAccess ..

theorem keepsOthers_accWrite (i : Nat) (vals : List (Int × Int)) : KeepsOthers e d (accWrite e i vals d) :=
  ((((KeepsOthers.refl e d).engine _).tr (onlyIf_tr rfl)).tr (onlyIf_tr rfl)).when ((KeepsOthers.refl e _).engine _)

theorem keepsOthers_macOp (i : Nat) (f : Int × Int → Int × Int → Int × Int) (clear : Bool) (x y : TSrc) :
    KeepsOthers e d (macOp e i f clear x y d) :=
  (((keepsOthers_readSrc e d x).trans (keepsOthers_readSrc e _ y)).when ((KeepsOthers.refl e _).engine _)).trans (keepsOthers_accWrite ..)

theorem keepsOthers_dstWrite (t : TDst) (vals : List (Int × Int)) : KeepsOthers e d (dstWrite e t vals d) := by
  cases t with
  | v k => exact ((KeepsOthers.refl e d).engine _).tr rfl
  | a i => exact keepsOthers_accWrite ..

theorem keepsOthers_vecOp2 (f : Int × Int → Int × Int → Int × Int) (t : TDst) (x y : TSrc) : KeepsOthers e d (vecOp2 e f t x y d) :=
  ((keepsOthers_readSrc e d x).trans (keepsOthers_readSrc e _ y)).trans (keepsOthers_dstWrite ..)

theorem keepsOthers_vecOp1 (f : Int × Int → Int × Int) (t : TDst) (x : TSrc) : KeepsOthers e d (vecOp1 e f t x d) :=
  (keepsOthers_readSrc e d x).trans (keepsOthers_dstWrite ..)

theorem keepsOthers_loadOp (g k : Nat) (broadcast : Bool) : KeepsOthers e d (loadOp e g k broadcast d) := (keepsOthers_agAccess ..).engine _

theorem keepsOthers_storeOp (i s : Nat) (wide bx : Bool) : KeepsOthers e d (storeOp e i s wide bx d) := by
  unfold storeOp
  extract_lets w vals outs sats words r least bxv
  have hr : KeepsOthers e d r.2 := keepsOthers_agAccess ..
  exact (((hr.engine _).tr (setF_tr ..)).tr (onlyIf_tr rfl))

theorem keepsOthers_loopOp (kind n stages start after : Nat) : KeepsOthers e d (loopOp e kind n stages start after d) :=
  .ite _ ((KeepsOthers.refl e d).engine _) (.ite _ (keepsOthers_endJob ..) ((KeepsOthers.refl e d).engine _))

theorem keepsOthers_retOp : KeepsOthers e d (retOp e d) := by
  unfold retOp
  split
  · exact (KeepsOthers.refl e d).engine _
  · exact ((KeepsOthers.refl e d).engine _).tr rfl

theorem keepsOthers_endl : KeepsOthers e d (truMark e (endlOp e) d) :=
  .ite _ ((keepsOthers_bundleEnd e d).when ((KeepsOthers.refl e _).engine _)) (.refl e d)

/-- Words that come in through the port go to the local memory of the engine. -/
theorem keepsOthers_portRead (lm a n : Nat) (b : Blk) : KeepsOthers e b.dev (portRead e lm a n b).1.dev := by
  unfold portRead
  extract_lets w k c x l
  have hc : KeepsOthers e b.dev c.dev := (KeepsOthers.refl e _).tr (touchRange_tr ..)
  split
  · exact hc.engine _
  · exact hc

theorem keepsOthers_getOp (l a n : Nat) (b : Blk) : KeepsOthers e b.dev (getOp e l a n b).dev := by
  unfold getOp
  extract_lets r
  have hr : KeepsOthers e b.dev r.1.dev := keepsOthers_portRead ..
  split
  · exact hr
  · exact hr.trans (keepsOthers_jobMemErr ..)

theorem keepsOthers_putOp (l a n : Nat) (b : Blk) : KeepsOthers e b.dev (putOp e l a n b).dev := by
  unfold putOp
  extract_lets p
  split
  · exact (KeepsOthers.refl e b.dev).tr (setF_tr ..)
  · refine foldl_keeps (fun c : Blk => KeepsOthers e b.dev c.dev) _ _ (fun c i _ hc => ?_) b (.refl e _)
    split
    · exact hc.tr (narrowWrite_tr ..)
    · exact hc

theorem keepsOthers_wrdynOp (k carrier frame slot sym l : Nat) (b : Blk) : KeepsOthers e b.dev (wrdynOp e k carrier frame slot sym l b).dev := by
  unfold wrdynOp
  extract_lets d at_ base n
  split
  · exact (KeepsOthers.refl e _).tr (dynUpdate_tr ..)
  · exact (KeepsOthers.refl e b.dev).tr (setF_tr ..)

end

/-- What a command does while firmware runs, it does to engine e alone. -/
theorem KeepsOthers.whileRunning {e : Nat} {g : Blk → Blk} {s t : State} (h : whileRunning g s = .next t)
    (hg : ∀ b, KeepsOthers e b.dev (g b).dev) : KeepsOthers e s.d t.d := by
  obtain rfl | rfl := whileRunning_cases h
  · exact .refl e _
  · exact hg _

theorem KeepsOthers.operation {e : Nat} {o : TBun} {g : Dev → Dev} {s t : State} (h : Machine.whileRunning (onDev (Machine.truOp e o g)) s = .next t)
    (hg : ∀ d, KeepsOthers e d (g d)) : KeepsOthers e s.d t.d := .whileRunning h fun _ => (hg _).truOp o

theorem KeepsOthers.portOperation {e : Nat} {o : TBun} {g : Blk → Blk} {s t : State} (h : Machine.whileRunning (Machine.truBlk e o g) s = .next t)
    (hg : ∀ b, KeepsOthers e b.dev (g b).dev) : KeepsOthers e s.d t.d := .whileRunning h fun _ => (hg _).truBlk o

/-- A microcode operation of engine e leaves the other engines. -/
theorem keepsOthers_exec {c : Instr} {e : Nat} (hc : c.engineOf = some e) {s t : State} (h : exec c s = .next t) : KeepsOthers e s.d t.d := by
  cases c <;> cases hc
  case mac | macc | mack | macz => exact .operation h fun d => keepsOthers_macOp ..
  case add | sub | mul | min | max => exact .operation h fun d => keepsOthers_vecOp2 ..
  case conj | shr | mag2 => exact .operation h fun d => keepsOthers_vecOp1 ..
  case clracc | norm | exp | bxd | bxclr | agset | agadd | br | call | halt => exact .operation h fun d => (KeepsOthers.refl e d).engine _
  case ldx | ldy | ldk | ldkb => exact .operation h fun d => keepsOthers_loadOp ..
  case st16 | st32 => exact .operation h fun d => keepsOthers_storeOp ..
  case loop | loopR | loopm => exact .operation h fun d => keepsOthers_loopOp ..
  case endl => exact .whileRunning h fun b => keepsOthers_endl e b.dev
  case ret => exact .operation h fun d => keepsOthers_retOp e d
  case get => exact .portOperation h fun b => keepsOthers_getOp ..
  case put => exact .portOperation h fun b => keepsOthers_putOp ..
  case wrcoef => exact .operation h fun d => (KeepsOthers.refl e d).tr (coefWrite_tr ..)
  case wrdyn => exact .portOperation h fun b => keepsOthers_wrdynOp ..
  case waitp => exact .operation h fun d => .refl e d

/-- Settles O59, operation by operation. -/
theorem engineOperationsStayOnTheirEngine : Obligations.EngineOperationsStayOnTheirEngine :=
  fun _ _ _ _ k hc hk h => (keepsOthers_exec hc h).other k hk

end Sys2Proof.Machine
end

section
/-!
PROOF. The operations of an engine: what the end of a bundle leaves (R194, R202), and what a write in every lane does to vector registers, local
memory and accumulators (R196 to R201).
-/
namespace Sys2Proof.Machine

/-! ### Lanes -/

theorem smGet_foldl_smPut_other {α β : Type} [DecidableEq α] (d z : α) {q : Nat} {key : β → Nat} {l : List β} (h : ∀ j ∈ l, q ≠ key j)
    (val : β → α) (m : List (Nat × α)) : smGet z q (l.foldl (fun m j => smPut d (key j) (val j) m) m) = smGet z q m :=
  foldl_keeps (fun m' => smGet z q m' = smGet z q m) _ l (fun m' j hj hm => (smGet_smPut_other d z (h j hj) _ m').trans hm) m rfl

/-- Of writes at different keys each one holds in the end. -/
theorem smGet_foldl_smPut_same {α β : Type} [DecidableEq α] (d : α) {k : β} {key : β → Nat} {l : List β} (hk : k ∈ l)
    (h : ∀ j ∈ l, key j = key k → j = k) (val : β → α) (m : List (Nat × α)) :
    smGet d (key k) (l.foldl (fun m j => smPut d (key j) (val j) m) m) = val k := by
  induction l generalizing m with
  | nil => cases hk
  | cons a r ih =>
    by_cases hr : k ∈ r
    · exact ih hr (fun j hj => h j (List.mem_cons_of_mem a hj)) _
    · obtain rfl | hk := List.mem_cons.mp hk
      · have hother : ∀ j ∈ r, key k ≠ key j := fun j hj he => hr (h j (List.mem_cons_of_mem k hj) he.symm ▸ hj)
        rw [List.foldl_cons, smGet_foldl_smPut_other d d hother, smGet_smPut_same]
      · exact absurd hk hr

/-- A row of 32 words, one a lane. -/
theorem smGet_lanes {α : Type} [DecidableEq α] (d : α) (i : Nat) {k : Nat} (hk : k < 32) (val : Nat → α) (m : List (Nat × α)) :
    smGet d (32 * i + k) (lanes.foldl (fun m lane => smPut d (32 * i + lane) (val lane) m) m) = val k :=
  smGet_foldl_smPut_same d (key := (32 * i + ·)) (List.mem_range.mpr hk) (fun _ _ h => Nat.add_left_cancel h) val m

theorem getD_map_range {α : Type} (z : α) (F : Nat → α) {j n : Nat} (h : j < n) : ((List.range n).map F).getD j z = F j := by
  simp [List.getD, h]

theorem getD_lanes {α : Type} (z : α) (F : Nat → α) {k : Nat} (hk : k < 32) : (lanes.map F).getD k z = F k := getD_map_range z F hk

theorem foldl_lanes {β γ : Type} (z : γ) (F : Nat → γ) (u : Nat → γ → β → β) (b : β) :
    lanes.foldl (fun b lane => u lane ((lanes.map F).getD lane z) b) b = lanes.foldl (fun b lane => u lane (F lane) b) b :=
  List.foldl_ext _ _ _ fun b lane h => by rw [getD_lanes z F (List.mem_range.mp h)]

theorem lanewise_lanes (f : Int × Int → Int × Int → Int × Int) (F G : Nat → Int × Int) :
    lanewise f (lanes.map F) (lanes.map G) = lanes.map fun k => f (F k) (G k) := by
  rw [lanewise, List.zip_map', List.map_map]
  rfl

/-! ### The end of a bundle that leaves nothing else to it -/

/-- The engine after a bundle with neither changes of generators nor a trap. -/
def EngSt.close (x : EngSt) : EngSt := { x.nextBundle with ags := [], trap := false }

/-- The end of the bundle, if the operation is at it, finds nothing to do but to deliver the loads. -/
structure EndsPlainly (o : TBun) (x : EngSt) : Prop where
  run : x.run.isSome = true
  rest : o.last = true → x.ags = [] ∧ x.trap = false

theorem EndsPlainly.of {o : TBun} {x y : EngSt} (h : EndsPlainly o x) (hr : y.run = x.run) (ha : y.ags = x.ags) (ht : y.trap = x.trap) :
    EndsPlainly o y := ⟨hr ▸ h.run, fun hl => ⟨ha ▸ (h.rest hl).1, ht ▸ (h.rest hl).2⟩⟩

theorem runsJob_of_acts {d : Dev} {e stg : Nat} (h : d.acts e stg = true) : d.runsJob e = true := (Bool.and_eq_true_iff.mp h).1

theorem run_of_runsJob {d : Dev} {e : Nat} (h : d.runsJob e = true) : (d.eng e).run.isSome = true := by
  have hrun := (Bool.and_eq_true_iff.mp h).1
  split at hrun
  · next r hr => rw [hr]; rfl
  · exact absurd hrun (by decide)

theorem endsPlainly_of_issues {s : State} {e : Nat} {o : TBun} (h : Issues s e o) : EndsPlainly o (s.d.eng e) := by
  obtain ⟨hacts, -, hlast⟩ := h
  exact ⟨run_of_runsJob (runsJob_of_acts hacts), fun hl => ⟨(hlast hl).1, (hlast hl).2.2⟩⟩

theorem bundleEnd_plain {e : Nat} {d : Dev} (hrun : (d.eng e).run.isSome = true) (hags : (d.eng e).ags = []) (htrap : (d.eng e).trap = false) :
    bundleEnd e d = modEng e EngSt.close d := by
  unfold bundleEnd
  have hsome : (d.eng e).run.isNone = false := by rw [Option.isNone_eq_false_iff]; exact hrun
  simp only [hags, htrap, hsome, Bool.false_eq_true, if_false]
  rfl

theorem truOp_plain {e : Nat} {o : TBun} {g : Dev → Dev} {d : Dev} (ha : d.acts e o.stg = true) (h : EndsPlainly o ((g d).eng e)) :
    truOp e o g d = onlyIf o.last (modEng e EngSt.close) (g d) := by
  have hg : onlyIf (d.acts e o.stg) g d = g d := if_pos ha
  unfold truOp
  simp only [hg, runsJob_of_acts ha, Bool.and_true]
  cases hl : o.last with
  | false => rfl
  | true => exact bundleEnd_plain h.run (h.rest hl).1 (h.rest hl).2

/-- The state s with device d, the engines apart. -/
def EnginesApart (s : State) (d : Dev) (t : State) : Prop := ∃ u, t = s.withDev { d with tr := u }

section
variable {s t : State} {d : Dev}

theorem EnginesApart.f (h : EnginesApart s d t) (x : Fld) : t.d.f x = d.f x := by
  obtain ⟨u, rfl⟩ := h
  rfl

theorem EnginesApart.only (h : EnginesApart s d t) (hd : ∃ u, d = { s.d with tr := u }) : Only [.tr] s t := by
  obtain ⟨u, rfl⟩ := h
  obtain ⟨v, rfl⟩ := hd
  intro p hp
  cases p
  case tr => exact absurd (List.mem_singleton.mpr rfl) hp
  all_goals rfl

theorem EnginesApart.only_draws (h : EnginesApart s d t) (hd : ∃ u n, d = { s.d with tr := u, draws := n }) : Only [.tr, .draws] s t := by
  obtain ⟨u, rfl⟩ := h
  obtain ⟨v, n, rfl⟩ := hd
  intro p hp
  cases p
  case tr | draws => exact absurd (by simp) hp
  all_goals rfl

end

/-- An operation that acts, and leaves nothing else to the end of its bundle. -/
theorem does_op {c : Instr} {s : State} {e : Nat} {o : TBun} {g : Dev → Dev} {P : State → Prop}
    (hc : exec c s = whileRunning (onDev (truOp e o g)) s) (hrun : Running s) (hi : Issues s e o) (hx : EndsPlainly o ((g s.d).eng e))
    (hP : ∀ t : State, t.d.eng e = closed o ((g s.d).eng e) → EnginesApart s (g s.d) t → P t) : Does c s P := by
  refine does_of_dev (hc.trans (whileRunning_running _ hrun.1 hrun.2)) (truOp_plain hi.1 hx) (hP _ ?_ ?_)
  · show Dev.eng (onlyIf o.last _ _) e = _
    unfold closed
    cases o.last with
    | false => rfl
    | true => exact eng_setEng_same ..
  · cases o.last <;> exact ⟨_, rfl⟩

/-- An operation that changes its engine alone. -/
theorem does_engine {c : Instr} {s : State} {e : Nat} {o : TBun} {g : Dev → Dev} {x : EngSt} {P : State → Prop}
    (hc : exec c s = whileRunning (onDev (truOp e o g)) s) (hrun : Running s) (hi : Issues s e o) (hg : g s.d = setEng e x s.d)
    (hx : EndsPlainly o x) (hP : ∀ t : State, t.d.eng e = closed o x → Only [.tr] s t → P t) : Does c s P := by
  have heng : (g s.d).eng e = x := hg ▸ eng_setEng_same ..
  exact does_op hc hrun hi (heng ▸ hx) fun t ht hapart => hP t (heng ▸ ht) (hapart.only ⟨_, hg⟩)

/-! ### What the end of a bundle keeps -/

section
variable (o : TBun) (x : EngSt)

theorem closed_of_kept {α : Type} {p : EngSt → α} (h : p x.close = p x) : p (closed o x) = p x := by
  unfold closed
  split
  · exact h
  · rfl

@[simp] theorem closed_a : (closed o x).a = x.a := closed_of_kept o x (p := EngSt.a) rfl
@[simp] theorem closed_limit : (closed o x).limit = x.limit := closed_of_kept o x (p := EngSt.limit) rfl
@[simp] theorem closed_sat : (closed o x).sat = x.sat := closed_of_kept o x (p := EngSt.sat) rfl
@[simp] theorem closed_s : (closed o x).s = x.s := closed_of_kept o x (p := EngSt.s) rfl
@[simp] theorem closed_bx : (closed o x).bx = x.bx := closed_of_kept o x (p := EngSt.bx) rfl
@[simp] theorem closed_lm : (closed o x).lm = x.lm := closed_of_kept o x (p := EngSt.lm) rfl
@[simp] theorem closed_acc (i k : Nat) : (closed o x).acc i k = x.acc i k := closed_of_kept o x (p := fun x => x.acc i k) rfl
@[simp] theorem closed_agOf (g : Nat) : (closed o x).agOf g = x.agOf g := closed_of_kept o x (p := fun x => x.agOf g) rfl

variable {o x} in
/-- Without loads to deliver the vector registers are kept too. -/
theorem closed_vec (h : o.last = true → x.loads = []) (r k : Nat) : (closed o x).vec r k = x.vec r k := by
  unfold closed
  split
  · next hl =>
    unfold EngSt.vec EngSt.nextBundle
    rw [h hl]
    rfl
  · rfl

end

/-! ### Sources and addresses -/

theorem interlock_ready {e : Nat} {d : Dev} (h : (d.eng e).ready = []) (k : Nat) : interlock e k d = d := by
  unfold interlock
  simp only [h]
  rfl

/-- A vector register that no load is on its way to is read at once. -/
theorem readSrc_ready {e : Nat} {d : Dev} (h : (d.eng e).ready = []) (k : Nat) :
    readSrc e (.v k) d = (lanes.map fun i => comps ((d.eng e).vec k i), d) := by
  have hstall := interlock_ready h k
  exact Prod.ext rfl hstall

theorem agAccess_fst (e g n : Nat) (d : Dev) : (agAccess e g n d).1 = (List.range n).map ((d.eng e).agOf g).fold.1.addr := rfl

theorem eng_agAccess (e g n : Nat) (d : Dev) :
    ∃ q, (agAccess e g n d).2.eng e = { (d.eng e).setAg g (((d.eng e).agOf g).fold.1.move ((d.eng e).agOf g).fold.1.off) with quarters := q } := by
  refine ⟨_, (eng_congr (onlyIf_tr (d := setEng e _ d) rfl) e).trans (eng_setEng_same ..)⟩

theorem fold_off (g : AgSt) : g.fold.1.off = g.off := by
  unfold AgSt.fold
  split <;> rfl

theorem fold_straight {g : AgSt} (h : g.circ = false) : g.fold.1 = g := by
  unfold AgSt.fold
  rw [h]
  rfl

theorem addr_straight {g : AgSt} (h : g.circ = false) (j : Nat) : g.addr j = (g.ptr + j) % 65536 := by
  unfold AgSt.addr
  rw [h]
  rfl

theorem agOf_setAg_same (x : EngSt) (g : Nat) (v : AgSt) : (x.setAg g v).agOf g = v := smGet_smPut_same ..

/-! ### Accumulators (R196, R197) -/

theorem mem_insNat (j k : Nat) (l : List Nat) : j ∈ insNat k l ↔ j = k ∨ j ∈ l := by
  induction l with
  | nil => simp [insNat]
  | cons a r ih =>
    unfold insNat
    split
    · next h => simp [h]
    · split <;> simp [ih]; tauto

/-- A component that holds its limit keeps it. -/
theorem accComp_held {key : Nat} {x : EngSt} (h : key ∈ x.limit) (old v : Int) : accComp key old v x = (old, false) := by
  unfold accComp
  rw [if_pos (List.contains_iff_mem.mpr h)]

/-- Another takes the value, up to the limits. -/
theorem accComp_free {key : Nat} {x : EngSt} (h : key ∉ x.limit) (old v : Int) :
    accComp key old v x = (max accMin (min accMax v), decide (v < accMin ∨ accMax < v)) := by
  have hle : accMin ≤ accMax := by decide
  unfold accComp
  rw [if_neg (by simpa using h)]
  split
  · next hv => exact Prod.ext (by omega) (by simp [hv])
  · split
    · next hv => exact Prod.ext (by omega) (by simp [hv])
    · exact Prod.ext (by omega) (by simp; omega)

theorem accComp_congr {key : Nat} {x y : EngSt} (h : key ∈ x.limit ↔ key ∈ y.limit) (old v : Int) :
    accComp key old v x = accComp key old v y := by
  unfold accComp
  simp only [List.contains_iff_mem, h]

/-- What component 0 and component 1 of a lane of accumulator i become, and whether they pass a limit. -/
def EngSt.re (x : EngSt) (i : Nat) (F : Nat → Int × Int) (k : Nat) : Int × Bool := accComp (64 * i + 2 * k) (x.acc i k).1 (F k).1 x
def EngSt.im (x : EngSt) (i : Nat) (F : Nat → Int × Int) (k : Nat) : Int × Bool := accComp (64 * i + 2 * k + 1) (x.acc i k).2 (F k).2 x

/-- Accumulator i of engine x has taken the values F in its first n lanes: r is the engine, and whether a component saturated. -/
structure AccTaken (i : Nat) (x : EngSt) (F : Nat → Int × Int) (n : Nat) (r : EngSt × Bool) : Prop where
  frame : ∃ a l, r.1 = { x with a := a, limit := l }
  lane : ∀ k < n, r.1.acc i k = ((x.re i F k).1, (x.im i F k).1)
  later : ∀ k, n ≤ k → r.1.acc i k = x.acc i k
  limit : ∀ key, key ∈ r.1.limit ↔
    key ∈ x.limit ∨ ∃ k < n, ((x.re i F k).2 = true ∧ key = 64 * i + 2 * k) ∨ ((x.im i F k).2 = true ∧ key = 64 * i + 2 * k + 1)
  sat : r.2 = true ↔ ∃ k < n, (x.re i F k).2 = true ∨ (x.im i F k).2 = true

theorem AccTaken.step {i : Nat} {x : EngSt} {F : Nat → Int × Int} {n : Nat} {r : EngSt × Bool} (h : AccTaken i x F n r) :
    AccTaken i x F (n + 1) (accLane i n (F n) r) := by
  have hre : accComp (64 * i + 2 * n) (r.1.acc i n).1 (F n).1 r.1 = x.re i F n := by
    rw [h.later n le_rfl]
    refine accComp_congr ((h.limit _).trans (or_iff_left ?_)) ..
    rintro ⟨k, hk, ⟨-, he⟩ | ⟨-, he⟩⟩ <;> omega
  have him : accComp (64 * i + 2 * n + 1) (r.1.acc i n).2 (F n).2 r.1 = x.im i F n := by
    rw [h.later n le_rfl]
    refine accComp_congr ((h.limit _).trans (or_iff_left ?_)) ..
    rintro ⟨k, hk, ⟨-, he⟩ | ⟨-, he⟩⟩ <;> omega
  obtain ⟨a, l, hr⟩ := h.frame
  unfold accLane
  simp only [hre, him]
  refine ⟨⟨_, _, by rw [hr]⟩, fun k hk => ?lane, fun k hk => ?later, fun key => ?limit, ?sat⟩
  case lane =>
    obtain rfl | hne := eq_or_ne k n
    · exact smGet_smPut_same ..
    · exact (smGet_smPut_other _ _ (by omega) ..).trans (h.lane k (by omega))
  case later => exact (smGet_smPut_other _ _ (by omega) ..).trans (h.later k (by omega))
  case limit =>
    have hmem (c : Bool) (j : Nat) (l : List Nat) : key ∈ (if c then insNat j l else l) ↔ (c = true ∧ key = j) ∨ key ∈ l := by
      cases c <;> simp [mem_insNat]
    rw [hmem, hmem, h.limit, Nat.exists_lt_succ_right]
    simp only [or_assoc, or_comm, or_left_comm]
  case sat =>
    rw [Bool.or_eq_true, Bool.or_eq_true, h.sat, Nat.exists_lt_succ_right, or_assoc]

/-- The accumulator takes a value in every lane. -/
def accTake (i : Nat) (F : Nat → Int × Int) (x : EngSt) : EngSt × Bool := lanes.foldl (fun r lane => accLane i lane (F lane) r) (x, false)

theorem accTaken_accTake (i : Nat) (F : Nat → Int × Int) (x : EngSt) : AccTaken i x F 32 (accTake i F x) := by
  have h (n : Nat) : AccTaken i x F n ((List.range n).foldl (fun r lane => accLane i lane (F lane) r) (x, false)) := by
    induction n with
    | zero => exact ⟨⟨_, _, rfl⟩, fun k hk => by omega, fun _ _ => rfl, fun key => by simp, by simp⟩
    | succ n ih =>
      rw [List.range_succ, List.foldl_append]
      exact ih.step
  exact h 32

/-- What of a saturation shows, and what it does to the job (R197). -/
def accShow (e i : Nat) (r : EngSt × Bool) (d : Dev) : Dev :=
  let trap := match r.1.run with | some j => j.trap | none => false
  d |> setEng e { r.1 with sat := if r.2 then r.1.sat ||| 1 <<< i else r.1.sat }
    |> onlyIf r.2 (setBitF (TRUSS_ENG_OVF_acc_ovf e) i)
    |> onlyIf (r.2 && !r.1.sat.testBit i && !trap) (incF (TRUSS_ENG_OVF_ovf_sums e))
    |> onlyIf (r.2 && trap) (modEng e fun x => { x with trap := true })

theorem accWrite_lanes (e i : Nat) (F : Nat → Int × Int) (d : Dev) :
    accWrite e i (lanes.map F) d = accShow e i (accTake i F (d.eng e)) d := by
  have htake : lanes.foldl (fun r lane => accLane i lane ((lanes.map F).getD lane (0, 0)) r) (d.eng e, false) = accTake i F (d.eng e) :=
    foldl_lanes (0, 0) F (fun lane v r => accLane i lane v r) (d.eng e, false)
  unfold accWrite
  rw [htake]
  rfl

section
variable {e i : Nat} {F : Nat → Int × Int} {d : Dev}

/-- No component is held, and none passes a limit: the accumulator alone changes. -/
theorem accWrite_within (hfree : ∀ k < 32, 64 * i + 2 * k ∉ (d.eng e).limit ∧ 64 * i + 2 * k + 1 ∉ (d.eng e).limit)
    (hin : ∀ k < 32, InAcc (F k)) :
    ∃ a l, accWrite e i (lanes.map F) d = setEng e { d.eng e with a := a, limit := l } d ∧ ∀ k < 32, smGet (0, 0) (32 * i + k) a = F k := by
  have htaken := accTaken_accTake i F (d.eng e)
  have hre (k : Nat) (hk : k < 32) : (d.eng e).re i F k = ((F k).1, false) := by
    obtain ⟨h1, h2, -, -⟩ := hin k hk
    refine (accComp_free (hfree k hk).1 ..).trans (Prod.ext (by dsimp only; omega) (decide_eq_false (by omega)))
  have him (k : Nat) (hk : k < 32) : (d.eng e).im i F k = ((F k).2, false) := by
    obtain ⟨-, -, h3, h4⟩ := hin k hk
    refine (accComp_free (hfree k hk).2 ..).trans (Prod.ext (by dsimp only; omega) (decide_eq_false (by omega)))
  have hsat : (accTake i F (d.eng e)).2 = false := by
    rw [← Bool.not_eq_true, htaken.sat]
    rintro ⟨k, hk, h | h⟩
    · exact absurd ((congrArg Prod.snd (hre k hk)).symm.trans h) Bool.false_ne_true
    · exact absurd ((congrArg Prod.snd (him k hk)).symm.trans h) Bool.false_ne_true
  obtain ⟨a, l, hr⟩ := htaken.frame
  refine ⟨a, l, ?_, fun k hk => ?_⟩
  · rw [accWrite_lanes, accShow, hsat, hr]
    rfl
  · have hlane := htaken.lane k hk
    rw [hr, hre k hk, him k hk] at hlane
    exact hlane

variable {r : EngSt × Bool} {b : Bool}

theorem eng_accShow (hrun : r.1.run.map (·.trap) = some b) :
    (accShow e i r d).eng e =
      { r.1 with sat := if r.2 then r.1.sat ||| 1 <<< i else r.1.sat, trap := r.1.trap || r.2 && b } := by
  obtain ⟨j, hj, rfl⟩ := Option.map_eq_some_iff.mp hrun
  unfold accShow
  simp only [hj]
  have hshown (c c' : Bool) (x : EngSt) : (onlyIf c (incF (TRUSS_ENG_OVF_ovf_sums e)) (onlyIf c' (setBitF (TRUSS_ENG_OVF_acc_ovf e) i)
      (setEng e x d))).eng e = x := (eng_congr ((onlyIf_tr rfl).trans (onlyIf_tr rfl)) e).trans (eng_setEng_same ..)
  cases hs : r.2 && j.trap with
  | false => exact (hshown ..).trans (by rw [Bool.or_false])
  | true =>
    refine (eng_setEng_same ..).trans ?_
    rw [hshown, Bool.or_true]

theorem fb_accShow (hi : i < 4) (hr : r.2 = true) : (accShow e i r d).fb (TRUSS_ENG_OVF_acc_ovf e) i = true := by
  have hkey : (TRUSS_ENG_OVF_acc_ovf e).key ≠ (TRUSS_ENG_OVF_ovf_sums e).key := by
    simp only [Fld.key, TRUSS_ENG_OVF_acc_ovf, TRUSS_ENG_OVF_ovf_sums]
    omega
  have hcount (c : Bool) (d : Dev) : (onlyIf c (incF (TRUSS_ENG_OVF_ovf_sums e)) d).f (TRUSS_ENG_OVF_acc_ovf e) =
      d.f (TRUSS_ENG_OVF_acc_ovf e) := by
    cases c
    · rfl
    · exact f_incF_other hkey d
  have htrap (c : Bool) (d : Dev) : (onlyIf c (modEng e fun x => { x with trap := true }) d).f (TRUSS_ENG_OVF_acc_ovf e) =
      d.f (TRUSS_ENG_OVF_acc_ovf e) := by cases c <;> rfl
  unfold accShow Dev.fb
  simp only [htrap, hcount, hr]
  exact fb_setBitF_same (x := TRUSS_ENG_OVF_acc_ovf e) hi _

end

/-! ### Multiplication and accumulation -/

/-- A sum of an operation on two vector registers: what each lane of accumulator i is to hold. -/
def EngSt.sum (x : EngSt) (f : Int × Int → Int × Int → Int × Int) (i r q k : Nat) : Int × Int :=
  cadd (x.acc i k) (f (comps (x.vec r k)) (comps (x.vec q k)))

theorem accAdd_lanes (e i : Nat) (F : Nat → Int × Int) (d : Dev) :
    accAdd e i (lanes.map F) d = accWrite e i (lanes.map fun k => cadd ((d.eng e).acc i k) (F k)) d := by
  have hzip : lanes.zip (lanes.map F) = lanes.map fun k => (k, F k) := by
    simpa using List.zip_map' (f := id) (g := F) (l := lanes)
  rw [accAdd, hzip, List.map_map]
  rfl

theorem macOp_vec {e : Nat} {d : Dev} (h : (d.eng e).ready = []) (i : Nat) (f : Int × Int → Int × Int → Int × Int) (r q : Nat) :
    macOp e i f false (.v r) (.v q) d = accWrite e i (lanes.map ((d.eng e).sum f i r q)) d := by
  unfold macOp
  simp only [readSrc_ready h, lanewise_lanes]
  exact accAdd_lanes ..

end Sys2Proof.Machine
end

section
/-!
PROOF. The job that a trap ends (R197, R210): what the end of a job leaves of its engine, its status and the events pending.
-/
namespace Sys2Proof.Machine

/-! ### A job that a trap ends (R197, R210) -/

theorem bundleEnd_traps {e : Nat} {d : Dev} (hrun : (d.eng e).run.isSome = true) (hags : (d.eng e).ags = []) (htrap : (d.eng e).trap = true) :
    bundleEnd e d = endJob e 2 none (raise 98 e 0 0 (modEng e EngSt.close d)) := by
  unfold bundleEnd
  have hsome : (d.eng e).run.isNone = false := by rw [Option.isNone_eq_false_iff]; exact hrun
  simp only [hags, htrap, hsome, Bool.false_eq_true, if_false]
  rfl

/-- Where the last status of an engine stands, and below the registers of the span map. -/
def BesideJob (x : Fld) : Prop := x.lo < 32 ∧ (x.off < 0x200000 ∨ x.lo = 24 ∧ 0xA01000 ≤ x.off ∧ x.off % 64 = 0)

section
variable {x : Fld} (h : BesideJob x)
include h

/-- The end of a job writes fields above the span map's in other bits than a last status. -/
theorem BesideJob.key_ne_high {off hi lo rst : Nat} (ho : 0x200000 ≤ off) (hl : lo < 32 ∧ lo ≠ 24) : x.key ≠ (⟨off, hi, lo, rst⟩ : Fld).key := by
  unfold BesideJob at h
  simp only [Fld.key]
  omega

theorem BesideJob.key_ne_dpdState (n : Nat) : x.key ≠ (BAY_DPD_state (bayOf n) (posOf n)).key := by
  have hpos := posOf_lt n
  unfold BesideJob at h
  simp only [Fld.key, BAY_DPD_state, bayBase]
  omega

end

section
variable (e : Nat) (d : Dev)

theorem keepsFields_refreshEng : KeepsFields BesideJob d (refreshEng e d) := by
  have hmark (c : Prop) [Decidable c] (x : Fld) (hx : ∀ y, BesideJob y → y.key ≠ x.key) {g : Dev} (hg : KeepsFields BesideJob d g) :
      KeepsFields BesideJob d ((if c then setBitF x e else clrBitF x e) g) := by
    split
    · exact hg.set hx _
    · exact hg.clrBit hx e
  refine hmark _ _ (fun y hy => hy.key_ne_high (by decide) (by decide)) (hmark _ _ (fun y hy => hy.key_ne_high (by decide) (by decide)) ?_)
  exact (KeepsFields.refl _ d).set (fun y hy => hy.key_ne_high (by omega) (by decide)) _

theorem keepsFields_setEngState (st : Nat) : KeepsFields BesideJob d (setEngState e st d) :=
  ((KeepsFields.refl _ d).set (fun y hy => hy.key_ne_high (by omega) (by decide)) _).trans
    (keepsFields_refreshEng ..)

theorem keepsFields_settleEng : KeepsFields BesideJob d (settleEng e d) := by
  have hmod (u : EngSt → EngSt) : KeepsFields BesideJob d (modEng e u d) := .regs (.refl _ d) rfl rfl rfl
  exact .ite _ (.ite _ ((hmod _).trans (keepsFields_setEngState ..)) (keepsFields_setEngState ..)) (keepsFields_refreshEng ..)

theorem keepsFields_ulwModeSettled : KeepsFields BesideJob d (ulwModeSettled d) :=
  .ite _ ((KeepsFields.refl _ d).clrBit (fun _ hy => hy.key_ne_high (by decide) (by decide)) 2) (.refl _ d)

theorem besideJob_dpdModeSettled : KeepsFields BesideJob d (dpdModeSettled d) :=
  .ite _ (((KeepsFields.refl _ d).clrBit (fun _ hy => hy.key_ne_high (by decide) (by decide)) 0).trans
    (keepsFields_dpdModeChanged (fun n _ hy => hy.key_ne_dpdState n) _)) (.refl _ d)

theorem keepsFields_fitLost : KeepsFields BesideJob d (fitLost e d) :=
  (KeepsFields.refl _ d).each (fun n g => (KeepsFields.refl _ g).modDpd n _) _

theorem keepsFields_computedAwait (status : Nat) : KeepsFields BesideJob d (computedAwait e status d) := by
  have hmod (b : Nat) (u : CalBay → CalBay) (g : Dev) : KeepsFields BesideJob g (modCalBay b u g) := .regs (.refl _ g) rfl rfl rfl
  exact (KeepsFields.refl _ d).each (fun b g => hmod b _ g) _

theorem besideJob_lastStatus : BesideJob (TRUSS_ENG_STAT_last_status e) := by
  unfold BesideJob TRUSS_ENG_STAT_last_status
  dsimp only
  omega

theorem besideJob_pending {a : Nat} (ha : a < 160) : BesideJob (DECK_EVT_PEND_pend (a / 32)) := by
  simp only [BesideJob, DECK_EVT_PEND_pend]
  omega

theorem evFree_lastStatus : evFree (TRUSS_ENG_STAT_last_status e) := by
  simp only [evFree, TRUSS_ENG_STAT_last_status]
  omega

/-- The registers of a completion (R210): its status, the count of jobs done or failed, and the event that the descriptor asks for. -/
theorem writeStatus_regs (j status : Nat) (result : Option Nat) : ∃ d' c x, d'.regs = d.regs ∧
    (x = TRUSS_ENG_COUNT_done e ∨ x = TRUSS_ENG_COUNT_failed e) ∧
      writeStatus e j status result d = onlyIf c (raise 111 e 0 j) (incF x (setF (TRUSS_ENG_STAT_last_status e) status d')) := by
  refine ⟨_, _, _, ?_, ?_, rfl⟩
  · cases result <;> rfl
  · split
    · exact .inl rfl
    · exact .inr rfl

end

/-- A completion shows its status, and what is pending stays so. -/
theorem writeStatus_shows (e : Nat) (d : Dev) (j : Nat) {status : Nat} (hs : status < 16) (result : Option Nat) :
    (writeStatus e j status result d).f (TRUSS_ENG_STAT_last_status e) = status ∧ EvMono d (writeStatus e j status result d) := by
  obtain ⟨d', c, x, hd, hx, h⟩ := writeStatus_regs e d j status result
  have hkey : (TRUSS_ENG_STAT_last_status e).key ≠ x.key ∧ ∀ w < 5, (DECK_EVT_PEND_pend w).key ≠ x.key := by
    obtain rfl | rfl := hx <;>
      simp only [Fld.key, TRUSS_ENG_STAT_last_status, TRUSS_ENG_COUNT_done, TRUSS_ENG_COUNT_failed, DECK_EVT_PEND_pend] <;>
      exact ⟨by omega, fun w hw => by omega⟩
  have hpend : ∀ w < 5, (DECK_EVT_PEND_pend w).key ≠ (TRUSS_ENG_STAT_last_status e).key := by
    simp only [Fld.key, TRUSS_ENG_STAT_last_status, DECK_EVT_PEND_pend]
    omega
  have hf : (incF x (setF (TRUSS_ENG_STAT_last_status e) status d')).f (TRUSS_ENG_STAT_last_status e) = status := by
    rw [f_incF_other hkey.1, f_setF_same]
    exact Nat.mod_eq_of_lt hs
  have hm : EvMono d (incF x (setF (TRUSS_ENG_STAT_last_status e) status d')) := (((EvMono.refl d).regs hd).set _ hpend _).set _ hkey.2 _
  rw [h]
  cases c
  · exact ⟨hf, hm⟩
  · rw [onlyIf, if_pos rfl]
    exact ⟨(f_raise (evFree_lastStatus e) (by decide) ..).trans hf, hm.trans (evPending_raise 111 (by decide) ..).2⟩

theorem run_settleEng (e : Nat) (d : Dev) : ((settleEng e d).eng e).run = (d.eng e).run := by
  unfold settleEng
  split
  · split
    · rw [eng_congr (setEngState_tr ..), modEng, eng_setEng_same]
    · rw [eng_congr (setEngState_tr ..)]
  · rw [eng_congr (refreshEng_tr ..)]

/-- The end of a job, up to the modes that settle by it: its completion, and an engine that holds it no more. -/
theorem endJob_running {e : Nat} {d : Dev} {r : RunJob} (hr : (d.eng e).run = some r) (status : Nat) (result : Option Nat) :
    ∃ g, KeepsFields BesideJob (writeStatus e r.desc status result d) g ∧ (g.eng e).run = none ∧
      endJob e status result d = dpdModeSettled (ulwModeSettled (if (g.eng e).queue.isEmpty then settleEng e g else refreshEng e g)) := by
  unfold endJob
  rw [hr]
  refine ⟨_, ?_, congrArg EngSt.run (eng_setEng_same ..), rfl⟩
  have hlost := (KeepsFields.refl BesideJob (writeStatus e r.desc status result d)).when (status != 1 && d.descByte r.desc 2 == 0)
    (keepsFields_fitLost e _)
  have hset := (hlost.when (d.descByte r.desc 2 == 1) (keepsFields_computedAwait e _ status)).set (x := TRUSS_ENG_CYC_busy e)
    (fun y hy => hy.key_ne_high (by omega) (by decide))
  exact (hset _).regs rfl rfl rfl

/-- A job that ends leaves its engine without one and shows its status; what is pending stays so. -/
theorem endJob_shows {e : Nat} {d : Dev} (hrun : (d.eng e).run.isSome = true) {status : Nat} (hs : status < 16) (result : Option Nat) :
    ((endJob e status result d).eng e).run = none ∧ (endJob e status result d).f (TRUSS_ENG_STAT_last_status e) = status ∧
      EvMono d (endJob e status result d) := by
  obtain ⟨r, hr⟩ := Option.isSome_iff_exists.mp hrun
  obtain ⟨hstatus, hmono⟩ := writeStatus_shows e d r.desc hs result
  obtain ⟨g, hg, hgone, heq⟩ := endJob_running hr status result
  rw [heq]
  generalize hh : (if (g.eng e).queue.isEmpty then settleEng e g else refreshEng e g) = h
  have hkeep : KeepsFields BesideJob g h := hh ▸ .ite _ (keepsFields_settleEng ..) (keepsFields_refreshEng ..)
  have hnone : (h.eng e).run = none := by
    subst hh
    split
    · exact (run_settleEng ..).trans hgone
    · rw [eng_congr (refreshEng_tr ..), hgone]
  have hkept := ((hg.trans hkeep).trans (keepsFields_ulwModeSettled h)).trans (besideJob_dpdModeSettled _)
  refine ⟨?_, (hkept.field _ (besideJob_lastStatus e)).trans hstatus, fun a ha hp => ?_⟩
  · rw [eng_congr ((dpdModeSettled_tr _).trans (ulwModeSettled_tr _)), hnone]
  · exact (hkept.evPending (besideJob_pending ha)).trans (hmono a ha hp)

end Sys2Proof.Machine
end

section
/-!
PROOF. Multiplication and accumulation (R194, R196, R197): sums within the limits of an accumulator, beyond them, and in a job whose program traps
that.
-/
namespace Sys2Proof.Machine

/-! ### Sums -/

/-- Both components of a sample are native words, whatever the word. -/
theorem native_comps (w : Nat) : Native (comps w) := by
  have h (v : Nat) : -32768 ≤ signed 16 (v % 65536) ∧ signed 16 (v % 65536) ≤ 32767 := by
    unfold signed
    split <;> omega
  exact ⟨(h _).1, (h _).2, (h _).1, (h _).2⟩

/-- A product of two native samples is far from the limits of an accumulator. -/
theorem inAcc_cmul {u v : Int × Int} (hu : Native u) (hv : Native v) : InAcc (cmul u v) := by
  have h {a b : Int} (ha : -32768 ≤ a ∧ a ≤ 32767) (hb : -32768 ≤ b ∧ b ≤ 32767) : -1073741824 ≤ a * b ∧ a * b ≤ 1073741824 := by
    constructor <;> nlinarith
  obtain ⟨hu1, hu2, hu3, hu4⟩ := hu
  obtain ⟨hv1, hv2, hv3, hv4⟩ := hv
  have h11 := h ⟨hu1, hu2⟩ ⟨hv1, hv2⟩
  have h12 := h ⟨hu1, hu2⟩ ⟨hv3, hv4⟩
  have h21 := h ⟨hu3, hu4⟩ ⟨hv1, hv2⟩
  have h22 := h ⟨hu3, hu4⟩ ⟨hv3, hv4⟩
  simp only [InAcc, cmul, accMin, accMax]
  omega

section
variable {c : Instr} {s : State} {e i : Nat} {o : TBun} {g : Dev → Dev} {F : Nat → Int × Int}

/-- An accumulator takes values that it can hold. -/
theorem does_accWrite (hc : exec c s = whileRunning (onDev (truOp e o g)) s) (hrun : Running s) (hi : Issues s e o) {d : Dev}
    (hg : g s.d = accWrite e i (lanes.map F) d) (hd : ∃ u, d = { s.d with tr := u }) (hx : EndsPlainly o (d.eng e))
    (hfree : ∀ k < 32, 64 * i + 2 * k ∉ (d.eng e).limit ∧ 64 * i + 2 * k + 1 ∉ (d.eng e).limit) (hin : ∀ k < 32, InAcc (F k)) :
    Does c s fun t => (∀ k < 32, (t.d.eng e).acc i k = F k) ∧ Only [.tr] s t := by
  obtain ⟨a, l, hw, hacc⟩ := accWrite_within hfree hin
  have heng : (g s.d).eng e = { d.eng e with a := a, limit := l } := by rw [hg, hw, eng_setEng_same]
  refine does_op hc hrun hi (heng ▸ hx.of rfl rfl rfl) fun t ht hapart => ⟨fun k hk => ?_, hapart.only ?_⟩
  · rw [ht, heng, closed_acc]
    exact hacc k hk
  · obtain ⟨v, rfl⟩ := hd
    exact ⟨_, hg.trans hw⟩

/-- An accumulator without held components takes values that it can hold. -/
theorem does_accWrite_free (hc : exec c s = whileRunning (onDev (truOp e o g)) s) (hrun : Running s) (hi : Issues s e o)
    (hg : g s.d = accWrite e i (lanes.map F) s.d) (hl : (s.d.eng e).limit = []) (hin : ∀ k < 32, InAcc (F k)) :
    Does c s fun t => (∀ k < 32, (t.d.eng e).acc i k = F k) ∧ Only [.tr] s t :=
  does_accWrite hc hrun hi hg ⟨_, rfl⟩ (endsPlainly_of_issues hi) (fun k _ => by simp [hl]) hin

/-- An accumulator takes values, some beyond its limits, in a job whose program does not trap that. -/
theorem does_saturate (hc : exec c s = whileRunning (onDev (truOp e o g)) s) (hrun : Running s) (hi : Issues s e o)
    (hg : g s.d = accWrite e i (lanes.map F) s.d) (htrap : (s.d.eng e).run.map (·.trap) = some false) {P : State → Prop}
    (hP : ∀ t r, AccTaken i (s.d.eng e) F 32 r → (∀ k, (t.d.eng e).acc i k = r.1.acc i k) → (t.d.eng e).limit = r.1.limit →
      (i < 4 → r.2 = true → t.d.fb (TRUSS_ENG_OVF_acc_ovf e) i = true) → P t) : Does c s P := by
  have htaken := accTaken_accTake i F (s.d.eng e)
  have hshow := hg.trans (accWrite_lanes ..)
  generalize accTake i F (s.d.eng e) = r at htaken hshow
  obtain ⟨a, l, hr⟩ := htaken.frame
  have heng : (g s.d).eng e = _ := (congrArg (Dev.eng · e) hshow).trans (eng_accShow (b := false) (by rw [hr]; exact htrap))
  refine does_op hc hrun hi (heng ▸ (endsPlainly_of_issues hi).of ?_ ?_ ?_) fun t ht hapart =>
    hP t _ htaken (fun k => ?_) ?_ fun h4 hsat => ?_
  · rw [hr]
  · rw [hr]
  · dsimp only
    rw [hr, Bool.and_false, Bool.or_false]
  · rw [ht, heng, closed_acc]
    rfl
  · rw [ht, heng, closed_limit]
  · unfold Dev.fb
    rw [hapart.f, hshow]
    exact fb_accShow h4 hsat

/-- An accumulator takes values, some beyond its limits, in the last operation of a bundle whose program traps that. -/
theorem does_trap (hc : exec c s = whileRunning (onDev (truOp e o g)) s) (hrun : Running s) (hi : Issues s e o) (hlast : o.last = true)
    (hg : g s.d = accWrite e i (lanes.map F) s.d) (htrap : (s.d.eng e).run.map (·.trap) = some true) (hl : (s.d.eng e).limit = [])
    {k : Nat} (hk : k < 32) (hout : ¬ InAcc (F k)) :
    Does c s fun t => (t.d.eng e).run = none ∧ t.d.f (TRUSS_ENG_STAT_last_status e) = 2 ∧ Raised 98 t := by
  have htaken := accTaken_accTake i F (s.d.eng e)
  obtain ⟨a, l, hr⟩ := htaken.frame
  have hsat : (accTake i F (s.d.eng e)).2 = true := by
    refine htaken.sat.mpr ⟨k, hk, ?_⟩
    unfold EngSt.re EngSt.im
    rw [accComp_free (by simp [hl]), accComp_free (by simp [hl])]
    simp only [InAcc, decide_eq_true_eq] at hout ⊢
    omega
  have hshow := hg.trans (accWrite_lanes ..)
  have heng : (g s.d).eng e = _ := (congrArg (Dev.eng · e) hshow).trans (eng_accShow (b := true) (by rw [hr]; exact htrap))
  have hplain := endsPlainly_of_issues hi
  have hend : truOp e o g s.d = endJob e 2 none (raise 98 e 0 0 (modEng e EngSt.close (g s.d))) := by
    have hg' : onlyIf (s.d.acts e o.stg) g s.d = g s.d := if_pos hi.1
    unfold truOp
    simp only [hg', runsJob_of_acts hi.1, hlast]
    refine bundleEnd_traps ?_ ?_ ?_ <;> rw [heng, hr]
    · exact hplain.run
    · exact (hplain.rest hlast).1
    · simp [hsat]
  have hrunning : ((raise 98 e 0 0 (modEng e EngSt.close (g s.d))).eng e).run.isSome = true := by
    rw [eng_congr (raise_tr (by decide) ..), modEng, eng_setEng_same, heng, hr]
    exact hplain.run
  obtain ⟨hnone, hstatus, hmono⟩ := endJob_shows hrunning (status := 2) (by decide) none
  exact does_of_dev (hc.trans (whileRunning_running _ hrun.1 hrun.2)) hend
    ⟨hnone, hstatus, hmono 98 (by decide) (evPending_raise 98 (by decide) ..).1⟩

end

/-! ### Sums that read through AG2, or begin anew -/

/-- A broadcast through AG2 multiplies every lane by one word of local memory. -/
theorem macOp_broadcast {e : Nat} {d : Dev} (h : (d.eng e).ready = []) (i : Nat) (f : Int × Int → Int × Int → Int × Int) (r : Nat) :
    macOp e i f false (.v r) .kBroadcast d = accWrite e i (lanes.map fun k => cadd ((d.eng e).acc i k) (f (comps ((d.eng e).vec r k))
      (comps (smGet 0 (((d.eng e).agOf 2).fold.1.addr 0) (d.eng e).lm)))) (agAccess e 2 1 d).2 := by
  obtain ⟨q, hq⟩ := eng_agAccess e 2 1 d
  have hlm : ((agAccess e 2 1 d).2.eng e).lm = (d.eng e).lm := by rw [hq]; rfl
  have hacc (k : Nat) : ((agAccess e 2 1 d).2.eng e).acc i k = (d.eng e).acc i k := by rw [hq]; rfl
  have hword : List.replicate 32 (comps (smGet 0 ((agAccess e 2 1 d).1.getD 0 0) ((agAccess e 2 1 d).2.eng e).lm)) =
      lanes.map fun _ => comps (smGet 0 (((d.eng e).agOf 2).fold.1.addr 0) (d.eng e).lm) := by
    rw [hlm, agAccess_fst]
    rfl
  unfold macOp
  rw [readSrc_ready h]
  show accAdd e i (lanewise f _ (List.replicate 32 _)) (agAccess e 2 1 d).2 = _
  rw [hword, lanewise_lanes, accAdd_lanes]
  simp only [hacc]

theorem acc_accClear (e i : Nat) (d : Dev) {k : Nat} (hk : k < 32) : ((accClear e i d).eng e).acc i k = (0, 0) := by
  unfold EngSt.acc accClear modEng
  rw [eng_setEng_same]
  dsimp only
  exact smGet_lanes (0, 0) i hk (fun _ => (0, 0)) (d.eng e).a

/-- A sum that begins holds the products alone. -/
theorem macOp_clear {e : Nat} {d : Dev} (h : (d.eng e).ready = []) (i : Nat) (f : Int × Int → Int × Int → Int × Int) (r q : Nat) :
    macOp e i f true (.v r) (.v q) d =
      accWrite e i (lanes.map fun k => f (comps ((d.eng e).vec r k)) (comps ((d.eng e).vec q k))) (accClear e i d) := by
  unfold macOp
  simp only [readSrc_ready h, lanewise_lanes]
  refine (accAdd_lanes e i _ (accClear e i d)).trans (congrArg (accWrite e i · (accClear e i d)) (List.map_congr_left fun k hk => ?_))
  rw [acc_accClear e i d (List.mem_range.mp hk)]
  exact Prod.ext (Int.zero_add _) (Int.zero_add _)

end Sys2Proof.Machine
end

section
/-!
PROOF. The stores of an engine (R198, R200, R201), and the multiply-accumulate operations as a whole (O34).
-/
namespace Sys2Proof.Machine

/-! ### Folds with min -/

/-- r is the least of m and of the values of f on l. -/
structure Least {β : Type} (f : β → Nat) (l : List β) (m r : Nat) : Prop where
  le_start : r ≤ m
  le_value : ∀ v ∈ l, r ≤ f v
  attained : r = m ∨ ∃ v ∈ l, r = f v

theorem least_foldl_min {β : Type} (f : β → Nat) (l : List β) (m : Nat) : Least f l m (l.foldl (fun m v => min m (f v)) m) := by
  induction l generalizing m with
  | nil => exact ⟨le_rfl, by simp, .inl rfl⟩
  | cons a r ih =>
    obtain ⟨hstart, hvalue, hatt⟩ := ih (min m (f a))
    refine ⟨hstart.trans (min_le_left ..), List.forall_mem_cons.mpr ⟨hstart.trans (min_le_right ..), hvalue⟩, ?_⟩
    obtain h | ⟨v, hv, h⟩ := hatt
    · obtain hm | ha := min_choice m (f a)
      · exact .inl (h.trans hm)
      · exact .inr ⟨a, List.mem_cons_self, h.trans ha⟩
    · exact .inr ⟨v, List.mem_cons_of_mem a hv, h⟩

/-! ### Stores -/

/-- The values of a store, shifted with rounding and saturated to w bits: component 0 of lane k at 2 * k, component 1 behind it. -/
def EngSt.out (x : EngSt) (w i sh j : Nat) : Int := satS w (shrRound sh (if j % 2 = 0 then (x.acc i (j / 2)).1 else (x.acc i (j / 2)).2))

theorem out_even (x : EngSt) (w i sh k : Nat) : x.out w i sh (2 * k) = satS w (shrRound sh (x.acc i k).1) := by
  unfold EngSt.out
  rw [if_pos (by omega), show 2 * k / 2 = k by omega]

theorem out_odd (x : EngSt) (w i sh k : Nat) : x.out w i sh (2 * k + 1) = satS w (shrRound sh (x.acc i k).2) := by
  unfold EngSt.out
  rw [if_neg (by omega), show (2 * k + 1) / 2 = k by omega]

/-- The words of a store: a sample a lane, or a value a word. -/
def EngSt.storeWord (x : EngSt) (i sh : Nat) (wide : Bool) (j : Nat) : Nat :=
  if wide then toTwos32 (x.out 32 i sh j) else ofComps (x.out 16 i sh (2 * j), x.out 16 i sh (2 * j + 1))

theorem flatMap_pairs {α : Type} (f : Nat → α) (n : Nat) :
    (List.range n).flatMap (fun k => [f (2 * k), f (2 * k + 1)]) = (List.range (2 * n)).map f := by
  induction n with
  | zero => rfl
  | succ n ih =>
    rw [List.range_succ, List.flatMap_append, ih, Nat.mul_succ, List.range_succ, List.range_succ]
    simp

theorem outs_eq (x : EngSt) (w i sh : Nat) :
    (lanes.flatMap fun lane => [shrRound sh (x.acc i lane).1, shrRound sh (x.acc i lane).2]).map (satS w) = (List.range 64).map (x.out w i sh) := by
  rw [List.map_flatMap, ← flatMap_pairs (x.out w i sh) 32]
  simp only [out_even, out_odd]
  rfl

/-- Local memory, the words of a store written through AG3. -/
def EngSt.stored (x : EngSt) (i sh : Nat) (wide : Bool) : List (Nat × Nat) :=
  (List.range (if wide then 64 else 32)).foldl (fun m j => smPut 0 ((x.agOf 3).fold.1.addr j) (x.storeWord i sh wide j) m) x.lm

/-- The block exponent after a store that lowers it, with v the free value of a wide one. -/
def EngSt.lowered (x : EngSt) (i sh : Nat) (wide : Bool) (v : Nat) : Nat :=
  if wide then min x.bx (v % 16) else (List.range 64).foldl (fun m j => min m (expW 16 (x.out 16 i sh j))) x.bx

theorem eng_storeOp (e i sh : Nat) (wide bx : Bool) (d : Dev) : ∃ q, (storeOp e i sh wide bx d).eng e =
    { (d.eng e).setAg 3 (((d.eng e).agOf 3).fold.1.move ((d.eng e).agOf 3).fold.1.off) with
        quarters := q, lm := (d.eng e).stored i sh wide
        bx := if bx then (d.eng e).lowered i sh wide (Config.freeValue d.draws) else (d.eng e).bx } := by
  have hwords : (if wide then ((List.range 64).map ((d.eng e).out (if wide then 32 else 16) i sh)).map toTwos32 else lanes.map fun lane =>
      ofComps (((List.range 64).map ((d.eng e).out (if wide then 32 else 16) i sh)).getD (2 * lane) 0,
        ((List.range 64).map ((d.eng e).out (if wide then 32 else 16) i sh)).getD (2 * lane + 1) 0)) =
      (List.range (if wide then 64 else 32)).map ((d.eng e).storeWord i sh wide) := by
    cases wide
    · refine List.map_congr_left fun k hk => ?_
      have hk : k < 32 := List.mem_range.mp hk
      rw [getD_map_range 0 _ (by omega), getD_map_range 0 _ (by omega)]
      rfl
    · exact List.map_map
  obtain ⟨q, hq⟩ := eng_agAccess e 3 (if wide then 64 else 32) d
  have hlm : (List.range (if wide then 64 else 32)).foldl (fun m j =>
      smPut 0 (((List.range (if wide then 64 else 32)).map ((d.eng e).agOf 3).fold.1.addr).getD j 0)
        (((List.range (if wide then 64 else 32)).map ((d.eng e).storeWord i sh wide)).getD j 0) m) (d.eng e).lm = (d.eng e).stored i sh wide :=
    List.foldl_ext _ _ _ fun m j hj => by rw [getD_map_range 0 _ (List.mem_range.mp hj), getD_map_range 0 _ (List.mem_range.mp hj)]
  have hleast (h : wide = false) : ((List.range 64).map ((d.eng e).out (if wide then 32 else 16) i sh)).foldl (fun m v => min m (expW 16 v)) (d.eng e).bx =
      (d.eng e).lowered i sh wide (Config.freeValue d.draws) := by
    subst h
    exact List.foldl_map
  unfold storeOp
  simp only [outs_eq, hwords, List.length_map, List.length_range]
  refine ⟨q, (eng_congr (onlyIf_tr rfl) e).trans ((eng_setEng_same ..).trans ?_)⟩
  rw [hq, agAccess_fst]
  dsimp only [EngSt.setAg]
  rw [hlm]
  cases wide with
  | false =>
    rw [← hleast rfl]
    simp only [Bool.false_eq_true, if_false]
  | true => simp only [EngSt.lowered, if_true]

/-- A word of a store through a straight AG3. -/
theorem smGet_stored {x : EngSt} (h : (x.agOf 3).circ = false) (i sh : Nat) (wide : Bool) {j : Nat} (hj : j < if wide then 64 else 32) :
    smGet 0 (((x.agOf 3).ptr + j) % 65536) (x.stored i sh wide) = x.storeWord i sh wide j := by
  unfold EngSt.stored
  simp only [fold_straight h, addr_straight h]
  refine smGet_foldl_smPut_same 0 (key := fun j => ((x.agOf 3).ptr + j) % 65536) (List.mem_range.mpr hj) (fun k hk he => ?_) _ _
  have hk := List.mem_range.mp hk
  have hn : (if wide then 64 else 32) ≤ 64 := by split <;> omega
  omega

section
variable {s : State} {e i sh : Nat} {o : TBun}

theorem does_store {c : Instr} {wide bx : Bool} {P : State → Prop}
    (hc : exec c s = whileRunning (onDev (truOp e o (storeOp e i (min sh 39) wide bx))) s) (hrun : Running s) (hi : Issues s e o) (hsh : sh < 40)
    (hP : ∀ t : State, (t.d.eng e).lm = (s.d.eng e).stored i sh wide →
      (t.d.eng e).bx = (if bx then (s.d.eng e).lowered i sh wide (Config.freeValue s.d.draws) else (s.d.eng e).bx) → P t) : Does c s P := by
  rw [min_eq_left (by omega)] at hc
  obtain ⟨q, hq⟩ := eng_storeOp e i sh wide bx s.d
  refine does_op hc hrun hi (hq ▸ (endsPlainly_of_issues hi).of rfl rfl rfl) fun t ht _ => hP t ?_ ?_
  · rw [ht, hq, closed_lm]
  · rw [ht, hq, closed_bx]

/-- A component that is not held takes its value up to the limits. -/
theorem re_free {x : EngSt} {F : Nat → Int × Int} {k : Nat} (h : 64 * i + 2 * k ∉ x.limit) :
    x.re i F k = (max accMin (min accMax (F k).1), decide ((F k).1 < accMin ∨ accMax < (F k).1)) := accComp_free h ..

theorem im_free {x : EngSt} {F : Nat → Int × Int} {k : Nat} (h : 64 * i + 2 * k + 1 ∉ x.limit) :
    x.im i F k = (max accMin (min accMax (F k).2), decide ((F k).2 < accMin ∨ accMax < (F k).2)) := accComp_free h ..

/-- MAC beyond the limits: each component stops at its limit, which it holds from now on and shows. -/
theorem mac_saturates (hrun : Running s) (hi : Issues s e o) (hacc : i < 4) (hl : (s.d.eng e).limit = [])
    (htrap : (s.d.eng e).run.map (·.trap) = some false) {x y : Nat} {F : Nat → Int × Int} (hF : F = (s.d.eng e).sum cmul i x y) :
    Does (.mac e i (.v x) (.v y) o) s fun t => ∀ k < 32,
      (t.d.eng e).acc i k = (max accMin (min accMax (F k).1), max accMin (min accMax (F k).2)) ∧
      (¬ InAcc (F k) → t.d.fb (TRUSS_ENG_OVF_acc_ovf e) i = true) ∧
      ((F k).1 < accMin ∨ accMax < (F k).1 → 64 * i + 2 * k ∈ (t.d.eng e).limit) ∧
      ((F k).2 < accMin ∨ accMax < (F k).2 → 64 * i + 2 * k + 1 ∈ (t.d.eng e).limit) := by
  subst hF
  refine does_saturate rfl hrun hi (macOp_vec hi.2.1 ..) htrap fun t r htaken hlanes hlim hshow k hk => ?_
  have hre := re_free (i := i) (x := s.d.eng e) (F := (s.d.eng e).sum cmul i x y) (k := k) (by simp [hl])
  have him := im_free (i := i) (x := s.d.eng e) (F := (s.d.eng e).sum cmul i x y) (k := k) (by simp [hl])
  refine ⟨?_, fun hout => hshow hacc (htaken.sat.mpr ⟨k, hk, ?_⟩), fun hout => ?_, fun hout => ?_⟩
  · rw [hlanes, htaken.lane k hk, hre, him]
  · rw [hre, him]
    simp only [InAcc, decide_eq_true_eq] at hout ⊢
    omega
  · rw [hlim, htaken.limit]
    exact .inr ⟨k, hk, .inl ⟨by rw [hre]; exact decide_eq_true hout, rfl⟩⟩
  · rw [hlim, htaken.limit]
    exact .inr ⟨k, hk, .inr ⟨by rw [him]; exact decide_eq_true hout, rfl⟩⟩

/-- MAC with component 0 of a lane held: it stays at its limit, and component 1 goes on. -/
theorem mac_held (hrun : Running s) (hi : Issues s e o) {k : Nat} (hk : k < 32) (htrap : (s.d.eng e).run.map (·.trap) = some false)
    (hheld : 64 * i + 2 * k ∈ (s.d.eng e).limit) (hfree : 64 * i + 2 * k + 1 ∉ (s.d.eng e).limit) {x y : Nat} {F : Nat → Int × Int}
    (hF : F = (s.d.eng e).sum cmul i x y) (hlow : accMin ≤ (F k).2) (hhigh : (F k).2 ≤ accMax) :
    Does (.mac e i (.v x) (.v y) o) s fun t =>
      ((t.d.eng e).acc i k).1 = ((s.d.eng e).acc i k).1 ∧ ((t.d.eng e).acc i k).2 = (F k).2 ∧ 64 * i + 2 * k ∈ (t.d.eng e).limit := by
  subst hF
  refine does_saturate rfl hrun hi (macOp_vec hi.2.1 ..) htrap fun t r htaken hlanes hlim _ => ?_
  have hre : (s.d.eng e).re i _ k = _ := accComp_held hheld ((s.d.eng e).acc i k).1 ((s.d.eng e).sum cmul i x y k).1
  rw [hlanes, htaken.lane k hk, hre, im_free hfree, hlim, htaken.limit]
  exact ⟨rfl, by dsimp only; omega, .inl hheld⟩

/-- MACK: every lane's product with the word that AG2 points to, and the pointer moved. -/
theorem mack_broadcast (hrun : Running s) (hi : Issues s e o) (hl : (s.d.eng e).limit = []) {x w : Nat} {F : Nat → Int × Int}
    (hw : w = smGet 0 (((s.d.eng e).agOf 2).fold.1.addr 0) (s.d.eng e).lm)
    (hF : F = fun k => cadd ((s.d.eng e).acc i k) (cmul (comps ((s.d.eng e).vec x k)) (comps w))) (hin : ∀ k < 32, InAcc (F k)) :
    Does (.mack e i (.v x) .kBroadcast o) s fun t =>
      (∀ k < 32, (t.d.eng e).acc i k = F k) ∧ (t.d.eng e).agOf 2 = ((s.d.eng e).agOf 2).fold.1.move ((s.d.eng e).agOf 2).off := by
  obtain ⟨q, hq⟩ := eng_agAccess e 2 1 s.d
  obtain ⟨a, l, hwrite, hlanes⟩ := accWrite_within (e := e) (i := i) (F := F) (d := (agAccess e 2 1 s.d).2)
    (fun k _ => by rw [hq]; simp [EngSt.setAg, hl]) hin
  have hg : macOp e i cmul false (.v x) .kBroadcast s.d = accWrite e i (lanes.map F) (agAccess e 2 1 s.d).2 := by
    rw [macOp_broadcast hi.2.1, ← hw, hF]
  have heng := (congrArg (Dev.eng · e) (hg.trans hwrite)).trans (eng_setEng_same ..)
  refine does_op rfl hrun hi (heng ▸ hq ▸ (endsPlainly_of_issues hi).of rfl rfl rfl) fun t ht _ => ⟨fun k hk => ?_, ?_⟩
  · rw [ht, heng, closed_acc]
    exact hlanes k hk
  · rw [ht, heng, closed_agOf, hq, fold_off]
    exact agOf_setAg_same ..

/-- The engine after the beginning of a sum. -/
theorem eng_accClear (e i : Nat) (d : Dev) : ∃ a, (accClear e i d).eng e =
    { d.eng e with a := a, limit := (d.eng e).limit.filter fun k => k / 64 != i, sat := maskOff (d.eng e).sat (1 <<< i) } := ⟨_, eng_setEng_same ..⟩

/-- MACZ: the products alone, whatever the accumulator held. -/
theorem macz_products (hrun : Running s) (hi : Issues s e o) (x y : Nat) :
    Does (.macz e i (.v x) (.v y) o) s fun t =>
      (∀ k < 32, (t.d.eng e).acc i k = cmul (comps ((s.d.eng e).vec x k)) (comps ((s.d.eng e).vec y k))) ∧ Only [.tr] s t := by
  obtain ⟨a, ha⟩ := eng_accClear e i s.d
  refine does_accWrite rfl hrun hi (macOp_clear hi.2.1 ..) ⟨_, rfl⟩ (ha ▸ (endsPlainly_of_issues hi).of rfl rfl rfl) (fun k hk => ?_)
    fun k _ => inAcc_cmul (native_comps _) (native_comps _)
  have hdiv : (64 * i + 2 * k) / 64 = i ∧ (64 * i + 2 * k + 1) / 64 = i := by omega
  rw [ha]
  simp [hdiv]

/-- CLRACC: 0 in every lane, and no limit held. -/
theorem clracc_clears (hrun : Running s) (hi : Issues s e o) :
    Does (.clracc e i o) s fun t => (∀ k < 32, (t.d.eng e).acc i k = (0, 0)) ∧ (∀ k ∈ (t.d.eng e).limit, k / 64 ≠ i) ∧
      (t.d.eng e).sat.testBit i = false ∧ Only [.tr] s t := by
  obtain ⟨a, ha⟩ := eng_accClear e i s.d
  refine does_op rfl hrun hi (ha ▸ (endsPlainly_of_issues hi).of rfl rfl rfl) fun t ht hapart =>
    ⟨fun k hk => ?_, fun k hk => ?_, ?_, hapart.only ⟨_, rfl⟩⟩
  · rw [ht, closed_acc]
    exact acc_accClear e i s.d hk
  · rw [ht, closed_limit, ha] at hk
    simpa using (List.mem_filter.mp hk).2
  · rw [ht, closed_sat, ha]
    dsimp only [maskOff]
    rw [testBit_sub_and, Nat.one_shiftLeft, Nat.testBit_two_pow_self, Bool.not_true, Bool.and_false]

/-- ST16: a rounded and saturated sample a lane. -/
theorem st16_words (hrun : Running s) (hi : Issues s e o) (hsh : sh < 40) (h3 : ((s.d.eng e).agOf 3).circ = false) (bx : Bool) :
    Does (.st16 e i sh bx o) s fun t => ∀ k < 32, smGet 0 ((((s.d.eng e).agOf 3).ptr + k) % 65536) (t.d.eng e).lm =
      ofComps (satS 16 (shrRound sh ((s.d.eng e).acc i k).1), satS 16 (shrRound sh ((s.d.eng e).acc i k).2)) := by
  refine does_store (wide := false) rfl hrun hi hsh fun t hlm _ k hk => ?_
  rw [hlm, smGet_stored h3 i sh false hk, ← out_even, ← out_odd]
  rfl

/-- ST16 and the block exponent: .bx lowers it to the smallest exp16 stored. -/
theorem st16_bx (hrun : Running s) (hi : Issues s e o) (hsh : sh < 40) (bx : Bool) :
    Does (.st16 e i sh bx o) s fun t => (bx = false → (t.d.eng e).bx = (s.d.eng e).bx) ∧
      (bx = true → (t.d.eng e).bx ≤ (s.d.eng e).bx ∧
        (∀ k < 32, (t.d.eng e).bx ≤ expW 16 (satS 16 (shrRound sh ((s.d.eng e).acc i k).1)) ∧
          (t.d.eng e).bx ≤ expW 16 (satS 16 (shrRound sh ((s.d.eng e).acc i k).2))) ∧
        ((t.d.eng e).bx = (s.d.eng e).bx ∨ ∃ k < 32, (t.d.eng e).bx = expW 16 (satS 16 (shrRound sh ((s.d.eng e).acc i k).1)) ∨
          (t.d.eng e).bx = expW 16 (satS 16 (shrRound sh ((s.d.eng e).acc i k).2)))) := by
  refine does_store (wide := false) rfl hrun hi hsh fun t _ hbx => ⟨fun h => ?_, fun h => ?_⟩ <;> subst h
  · exact hbx
  · obtain ⟨hstart, hvalue, hatt⟩ := least_foldl_min (fun j => expW 16 ((s.d.eng e).out 16 i sh j)) (List.range 64) (s.d.eng e).bx
    rw [show (t.d.eng e).bx = _ from hbx]
    refine ⟨hstart, fun k hk => ⟨?_, ?_⟩, hatt.imp_right ?_⟩
    · exact out_even _ 16 i sh k ▸ hvalue (2 * k) (List.mem_range.mpr (by omega))
    · exact out_odd _ 16 i sh k ▸ hvalue (2 * k + 1) (List.mem_range.mpr (by omega))
    · rintro ⟨j, hj, h⟩
      have hj := List.mem_range.mp hj
      refine ⟨j / 2, by omega, ?_⟩
      obtain h2 | h2 := Nat.mod_two_eq_zero_or_one j
      · exact .inl (by rw [← out_even, show 2 * (j / 2) = j by omega]; exact h)
      · exact .inr (by rw [← out_odd, show 2 * (j / 2) + 1 = j by omega]; exact h)

/-- ST32: two rounded and saturated words a lane. -/
theorem st32_words (hrun : Running s) (hi : Issues s e o) (hsh : sh < 40) (h3 : ((s.d.eng e).agOf 3).circ = false) (bx : Bool) :
    Does (.st32 e i sh bx o) s fun t =>
      (∀ k < 32, smGet 0 ((((s.d.eng e).agOf 3).ptr + 2 * k) % 65536) (t.d.eng e).lm = toTwos32 (satS 32 (shrRound sh ((s.d.eng e).acc i k).1))) ∧
      (∀ k < 32, smGet 0 ((((s.d.eng e).agOf 3).ptr + (2 * k + 1)) % 65536) (t.d.eng e).lm =
        toTwos32 (satS 32 (shrRound sh ((s.d.eng e).acc i k).2))) := by
  refine does_store (wide := true) rfl hrun hi hsh fun t hlm _ => ⟨fun k hk => ?_, fun k hk => ?_⟩
  · rw [hlm, smGet_stored h3 i sh true (show 2 * k < 64 by omega), ← out_even]
    rfl
  · rw [hlm, smGet_stored h3 i sh true (show 2 * k + 1 < 64 by omega), ← out_odd]
    rfl

/-- ST32 and the block exponent: .bx never raises it. -/
theorem st32_bx (hrun : Running s) (hi : Issues s e o) (hsh : sh < 40) (bx : Bool) :
    Does (.st32 e i sh bx o) s fun t => if bx then (t.d.eng e).bx ≤ (s.d.eng e).bx else (t.d.eng e).bx = (s.d.eng e).bx := by
  refine does_store (wide := true) rfl hrun hi hsh fun t _ hbx => ?_
  cases bx with
  | false => exact hbx
  | true => exact hbx.le.trans (min_le_left ..)

end

/-- Settles O34: each operation by the equation of its write, for sums by whether the components pass a limit. -/
theorem multiplyAccumulateOperations : Obligations.MultiplyAccumulateOperations := by
  unfold Obligations.MultiplyAccumulateOperations
  refine fun s hrun => ⟨?mac, ?saturates, ?held, ?traps, ?macc, ?mack, ?macz, ?clracc, ?st16, ?bx16, ?st32, ?bx32⟩
  case mac => exact fun e i x y o ⟨hi, hl, hin⟩ => does_accWrite_free rfl hrun hi (macOp_vec hi.2.1 ..) hl hin
  case saturates => exact fun e i x y o ⟨hi, _, hacc, hl, htrap⟩ => mac_saturates hrun hi hacc hl htrap rfl
  case held => exact fun e i x y k o ⟨hi, _, hk, htrap, hheld, hfree⟩ ⟨hlow, hhigh⟩ => mac_held hrun hi hk htrap hheld hfree rfl hlow hhigh
  case traps => exact fun e i x y k o ⟨hi, hlast, hk, hl, htrap, _⟩ hout => does_trap rfl hrun hi hlast (macOp_vec hi.2.1 ..) htrap hl hk hout
  case macc => exact fun e i x y o ⟨hi, hl, hin⟩ => does_accWrite_free rfl hrun hi (macOp_vec hi.2.1 ..) hl hin
  case mack => exact fun e i x w o ⟨hi, hl, hw, hin⟩ => mack_broadcast hrun hi hl hw rfl hin
  case macz => exact fun e i x y o hi => macz_products hrun hi x y
  case clracc => exact fun e i o hi => clracc_clears hrun hi
  case st16 => exact fun e i sh bx o ⟨hi, hsh, h3⟩ => st16_words hrun hi hsh h3 bx
  case bx16 => exact fun e i sh bx o ⟨hi, hsh⟩ => st16_bx hrun hi hsh bx
  case st32 => exact fun e i sh bx o ⟨hi, hsh, h3⟩ => st32_words hrun hi hsh h3 bx
  case bx32 => exact fun e i sh bx o ⟨hi, hsh⟩ => st32_bx hrun hi hsh bx

end Sys2Proof.Machine
end

section
/-!
PROOF. Vector arithmetic, exponents and loads (O35): what a vector register holds after a write in every lane, what a load delivers, and the
stall of a read that comes before it.
-/
namespace Sys2Proof.Machine

/-! ### Vector arithmetic (R194) -/

theorem vecOp2_vec {e : Nat} {d : Dev} (h : (d.eng e).ready = []) (f : Int × Int → Int × Int → Int × Int) (t : TDst) (x y : Nat) :
    vecOp2 e f t (.v x) (.v y) d = dstWrite e t (lanes.map fun k => f (comps ((d.eng e).vec x k)) (comps ((d.eng e).vec y k))) d := by
  unfold vecOp2
  simp only [readSrc_ready h, lanewise_lanes]

theorem vecOp1_vec {e : Nat} {d : Dev} (h : (d.eng e).ready = []) (f : Int × Int → Int × Int) (t : TDst) (x : Nat) :
    vecOp1 e f t (.v x) d = dstWrite e t (lanes.map fun k => f (comps ((d.eng e).vec x k))) d := by
  unfold vecOp1
  simp only [readSrc_ready h, List.map_map]
  rfl

theorem regComp_native {v : Int} (h : -32768 ≤ v ∧ v ≤ 32767) (n : Nat) : regComp v n = (v % 65536).toNat := if_pos h

/-- The engine after a write in every lane of register r. -/
theorem eng_vregWrite (e r : Nat) (F : Nat → Int × Int) (d : Dev) : ∃ W : Nat → Nat, (∀ k, Native (F k) → W k = ofComps (F k)) ∧
    (vregWrite e r (lanes.map F) d).eng e =
      { d.eng e with v := lanes.foldl (fun m k => smPut 0 (32 * (d.eng e).reg r + k) (W k) m) (d.eng e).v } := by
  refine ⟨fun k => regComp (F k).1 (d.draws + 2 * k) + 65536 * regComp (F k).2 (d.draws + 2 * k + 1), fun k hk => ?_, ?_⟩
  · obtain ⟨h1, h2, h3, h4⟩ := hk
    dsimp only
    rw [regComp_native ⟨h1, h2⟩, regComp_native ⟨h3, h4⟩]
    rfl
  · refine (eng_setEng_same ..).trans ?_
    dsimp only
    rw [foldl_lanes (0, 0) F (fun lane v m => smPut 0 (32 * (d.eng e).reg r + lane)
      (regComp v.1 (d.draws + 2 * lane) + 65536 * regComp v.2 (d.draws + 2 * lane + 1)) m)]

theorem f_vregWrite (e r : Nat) (vals : List (Int × Int)) (d : Dev) (x : Fld) : (vregWrite e r vals d).f x = d.f x := rfl

section
variable {c : Instr} {s : State} {e r : Nat} {o : TBun} {g : Dev → Dev}

/-- A vector register takes native words. -/
theorem does_vregWrite {F : Nat → Int × Int} (hc : exec c s = whileRunning (onDev (truOp e o g)) s) (hrun : Running s) (hi : Issues s e o)
    (hg : g s.d = dstWrite e (.v r) (lanes.map F) s.d) (hn : ∀ k < 32, Native (F k)) :
    Does c s fun t => (∀ k < 32, (t.d.eng e).vec r k = ofComps (F k)) ∧ Only [.tr, .draws] s t := by
  obtain ⟨W, hW, hw⟩ := eng_vregWrite e r F s.d
  have heng := (congrArg (Dev.eng · e) hg).trans hw
  refine does_op hc hrun hi (heng ▸ (endsPlainly_of_issues hi).of rfl rfl rfl) fun t ht hapart =>
    ⟨fun k hk => ?_, hapart.only_draws ⟨_, _, hg⟩⟩
  rw [ht, heng, ← hW k (hn k hk)]
  refine (closed_vec ?_ r k).trans ?_
  · exact fun hl => (hi.2.2 hl).2.1
  · exact smGet_lanes 0 _ hk W _

end

/-- Shifts to the right keep words native. -/
theorem native_vShr {a : Int × Int} (h : Native a) (sh : Nat) : Native (vShr sh a) := by
  have hdiv (v : Int) (hv : -32768 ≤ v ∧ v ≤ 32767) : -32768 ≤ v / (2 ^ sh : Nat) ∧ v / (2 ^ sh : Nat) ≤ 32767 := by
    have hpos : (0 : Int) < (2 ^ sh : Nat) := by positivity
    exact ⟨(Int.le_ediv_iff_mul_le hpos).mpr (by nlinarith), Int.le_of_lt_add_one (Int.ediv_lt_of_lt_mul hpos (by nlinarith))⟩
  obtain ⟨h1, h2, h3, h4⟩ := h
  exact ⟨(hdiv _ ⟨h1, h2⟩).1, (hdiv _ ⟨h1, h2⟩).2, (hdiv _ ⟨h3, h4⟩).1, (hdiv _ ⟨h3, h4⟩).2⟩

theorem native_vMin {a b : Int × Int} (ha : Native a) (hb : Native b) : Native (vMin a b) := by
  simp only [Native, vMin] at *
  omega

theorem native_vMax {a b : Int × Int} (ha : Native a) (hb : Native b) : Native (vMax a b) := by
  simp only [Native, vMax] at *
  omega

/-- The square of a native sample's magnitude is far from the limits of an accumulator. -/
theorem inAcc_vMag2 {a : Int × Int} (h : Native a) : InAcc (vMag2 a) := by
  have hsq (v : Int) (hv : -32768 ≤ v ∧ v ≤ 32767) : 0 ≤ v * v ∧ v * v ≤ 1073741824 := ⟨mul_self_nonneg v, by nlinarith⟩
  obtain ⟨h1, h2, h3, h4⟩ := h
  have hre := hsq a.1 ⟨h1, h2⟩
  have him := hsq a.2 ⟨h3, h4⟩
  simp only [InAcc, vMag2, accMin, accMax]
  omega

/-! ### Exponents (R199, R200) -/

theorem exp40_le (v : Int × Int) : exp40 v ≤ 39 := (min_le_left ..).trans (Nat.sub_le ..)

section
variable {s : State} {e : Nat} {o : TBun} (hrun : Running s) (hi : Issues s e o)
include hrun hi

/-- NORM: each lane's exponent goes to the register, and the lane is shifted by it. -/
theorem norm_shifts (i r : Nat) : Does (.norm e i r o) s fun t => ∀ k < 32, (t.d.eng e).vec r k = exp40 ((s.d.eng e).acc i k) ∧
    (t.d.eng e).acc i k = (((s.d.eng e).acc i k).1 * (2 ^ exp40 ((s.d.eng e).acc i k) : Nat),
      ((s.d.eng e).acc i k).2 * (2 ^ exp40 ((s.d.eng e).acc i k) : Nat)) := by
  refine does_engine rfl hrun hi rfl ((endsPlainly_of_issues hi).of rfl rfl rfl) fun t ht _ k hk => ?_
  rw [ht, closed_acc]
  dsimp only
  refine ⟨(closed_vec ?_ r k).trans ?_, smGet_lanes (0, 0) i hk (fun k =>
    (((s.d.eng e).acc i k).1 * (2 ^ exp40 ((s.d.eng e).acc i k) : Nat), ((s.d.eng e).acc i k).2 * (2 ^ exp40 ((s.d.eng e).acc i k) : Nat))) _⟩
  · exact fun hl => (hi.2.2 hl).2.1
  · unfold EngSt.vec
    dsimp only
    exact smGet_lanes 0 ((s.d.eng e).reg r) hk (fun k => exp40 ((s.d.eng e).acc i k)) (s.d.eng e).v

/-- EXP: the smallest exponent of the lanes. -/
theorem exp_least (r i : Nat) : Does (.exp e r i o) s fun t => (∀ k < 32, smGet 0 r (t.d.eng e).s ≤ exp40 ((s.d.eng e).acc i k)) ∧
    (∃ k < 32, smGet 0 r (t.d.eng e).s = exp40 ((s.d.eng e).acc i k)) ∧ Only [.tr] s t := by
  obtain ⟨-, hvalue, hatt⟩ := least_foldl_min (fun k => exp40 ((s.d.eng e).acc i k)) lanes 39
  refine does_engine rfl hrun hi rfl ((endsPlainly_of_issues hi).of rfl rfl rfl) fun t ht honly => ?_
  have hs : smGet 0 r (t.d.eng e).s = lanes.foldl (fun m k => min m (exp40 ((s.d.eng e).acc i k))) 39 := by
    rw [ht, closed_s]
    dsimp only
    rw [smGet_smPut_same]
  rw [hs]
  refine ⟨fun k hk => hvalue k (List.mem_range.mpr hk), ?_, honly⟩
  obtain h | ⟨k, hk, h⟩ := hatt
  · have hzero : 0 < 32 := Nat.zero_lt_succ 31
    exact ⟨0, hzero, le_antisymm (hvalue 0 (List.mem_range.mpr hzero)) ((exp40_le _).trans h.ge)⟩
  · exact ⟨k, List.mem_range.mp hk, h⟩

/-- BXD: the block exponent goes to a scalar register. -/
theorem bxd_moves (r : Nat) : Does (.bxd e r o) s fun t =>
    smGet 0 r (t.d.eng e).s = (s.d.eng e).bx ∧ (t.d.eng e).bx = (s.d.eng e).bx ∧ Only [.tr] s t := by
  refine does_engine rfl hrun hi rfl ((endsPlainly_of_issues hi).of rfl rfl rfl) fun t ht honly => ⟨?_, ?_, honly⟩
  · rw [ht, closed_s]
    exact smGet_smPut_same ..
  · rw [ht, closed_bx]

/-- BXCLR: the block exponent is reset, and nothing else changes but the end of the bundle. -/
theorem bxclr_resets : Does (.bxclr e o) s fun t => t.d.eng e = closed o { s.d.eng e with bx := 15 } ∧ Only [.tr] s t :=
  does_engine rfl hrun hi rfl ((endsPlainly_of_issues hi).of rfl rfl rfl) fun _ ht honly => ⟨ht, honly⟩

end

/-! ### Loads (R194, R201, R202) -/

/-- What a load through generator g delivers. -/
def EngSt.loaded (x : EngSt) (g : Nat) (broadcast : Bool) (k : Nat) : Nat :=
  smGet 0 ((x.agOf g).fold.1.addr (if broadcast then 0 else k)) x.lm

theorem eng_loadOp (e g r : Nat) (b : Bool) (d : Dev) : ∃ q, (loadOp e g r b d).eng e =
    { (d.eng e).setAg g (((d.eng e).agOf g).fold.1.move ((d.eng e).agOf g).off) with
        quarters := q, loads := (d.eng e).loads ++ [((d.eng e).reg r, lanes.map ((d.eng e).loaded g b))] } := by
  obtain ⟨q, hq⟩ := eng_agAccess e g (if b then 1 else 32) d
  rw [fold_off] at hq
  refine ⟨q, (eng_setEng_same ..).trans ?_⟩
  have hwords : (lanes.map fun k => smGet 0 (((List.range (if b then 1 else 32)).map ((d.eng e).agOf g).fold.1.addr).getD (if b then 0 else k) 0)
      (d.eng e).lm) = lanes.map ((d.eng e).loaded g b) := by
    refine List.map_congr_left fun k hk => ?_
    rw [getD_map_range 0 _ (by cases b; exacts [List.mem_range.mp hk, Nat.one_pos])]
    rfl
  rw [hq, agAccess_fst]
  exact congrArg (fun l => { (d.eng e).setAg g (((d.eng e).agOf g).fold.1.move ((d.eng e).agOf g).off) with
    quarters := q, loads := (d.eng e).loads ++ [((d.eng e).reg r, l)] }) hwords

/-- The end of a bundle delivers its one load. -/
theorem vec_closed_load {o : TBun} {x : EngSt} (hl : o.last = true) {r : Nat} {F : Nat → Nat} (h : x.loads = [(x.reg r, lanes.map F)]) {k : Nat}
    (hk : k < 32) : (closed o x).vec r k = F k := by
  unfold closed
  rw [if_pos hl]
  unfold EngSt.vec EngSt.nextBundle
  simp only [h, List.foldl_cons, List.foldl_nil]
  rw [foldl_lanes 0 F (fun lane w v => smPut 0 (32 * x.reg r + lane) w v)]
  exact smGet_lanes 0 _ hk F _

/-- A loaded register is ready three bundles after its issue. -/
theorem ready_closed_load {o : TBun} {x : EngSt} (hl : o.last = true) {q : Nat} {w : List Nat} (h : x.loads = [(q, w)]) (hr : x.ready = []) :
    smGet 0 q (closed o x).ready = x.cyc + 3 ∧ (closed o x).cyc = x.cyc + 1 := by
  unfold closed
  rw [if_pos hl]
  unfold EngSt.nextBundle
  refine ⟨?_, rfl⟩
  simp only [h, hr, List.foldl_cons, List.foldl_nil]
  simp [smPut, smIns, smGet]

section
variable {c : Instr} {s : State} {e g r : Nat} {b : Bool} {o : TBun}

/-- A load: delivered at the end of its bundle, kept until then, the pointer moved at once. -/
theorem does_load (hc : exec c s = whileRunning (onDev (truOp e o (loadOp e g r b))) s) (hrun : Running s) (hi : Issues s e o) :
    Does c s fun t => (o.last = true → ∀ k < 32, (t.d.eng e).vec r k = (s.d.eng e).loaded g b k) ∧
      (o.last = false → (t.d.eng e).v = (s.d.eng e).v ∧
        (t.d.eng e).loads = (s.d.eng e).loads ++ [((s.d.eng e).reg r, lanes.map ((s.d.eng e).loaded g b))]) ∧
      (t.d.eng e).agOf g = ((s.d.eng e).agOf g).fold.1.move ((s.d.eng e).agOf g).off := by
  obtain ⟨q, hq⟩ := eng_loadOp e g r b s.d
  refine does_op hc hrun hi (hq ▸ (endsPlainly_of_issues hi).of rfl rfl rfl) fun t ht _ => ⟨fun hl k hk => ?_, fun hl => ?_, ?_⟩ <;>
    rw [ht, hq]
  · exact vec_closed_load hl (by rw [(hi.2.2 hl).2.1]; rfl) hk
  · unfold closed
    rw [hl]
    exact ⟨rfl, rfl⟩
  · rw [closed_agOf]
    exact agOf_setAg_same ..

/-- LDX at the end of its bundle: the register is ready three bundles later. -/
theorem ldx_ready (hrun : Running s) (hi : Issues s e o) (hl : o.last = true) :
    Does (.ldx e r o) s fun t => smGet 0 ((s.d.eng e).reg r) (t.d.eng e).ready = (s.d.eng e).cyc + 3 ∧ (t.d.eng e).cyc = (s.d.eng e).cyc + 1 := by
  obtain ⟨q, hq⟩ := eng_loadOp e 0 r false s.d
  refine does_op rfl hrun hi (hq ▸ (endsPlainly_of_issues hi).of rfl rfl rfl) fun t ht _ => ?_
  rw [ht, hq]
  exact ready_closed_load hl (by rw [(hi.2.2 hl).2.1]; rfl) hi.2.1

/-- CONJ of a register that is not ready: the bundle stalls until it is, and the stall counts. -/
theorem conj_stalls (hrun : Running s) (hacts : s.d.acts e o.stg = true) (hl : o.last = false) {x n : Nat}
    (hn : n = smGet 0 ((s.d.eng e).reg x) (s.d.eng e).ready) (h : (s.d.eng e).cyc < n) :
    Does (.conj e (.v r) (.v x) o) s fun t => (t.d.eng e).cyc = n ∧
      t.d.f (TRUSS_ENG_STALL_interlock e) = min (s.d.f (TRUSS_ENG_STALL_interlock e) + (n - (s.d.eng e).cyc)) ((TRUSS_ENG_STALL_interlock e).size - 1) := by
  have hop : truOp e o (vecOp1 e conj (.v r) (.v x)) s.d = vregWrite e r ((lanes.map fun k => comps ((s.d.eng e).vec x k)).map conj)
      (interlock e x s.d) := by
    unfold truOp
    rw [hl]
    exact if_pos hacts
  have hstall : interlock e x s.d =
      addF (TRUSS_ENG_STALL_interlock e) (n - (s.d.eng e).cyc) (modEng e (fun x => { x with cyc := n }) s.d) := by
    subst hn
    exact if_pos h
  rw [hstall] at hop
  refine does_of_dev (whileRunning_running _ hrun.1 hrun.2) hop ⟨?_, ?_⟩
  · exact (congrArg EngSt.cyc (eng_setEng_same ..)).trans (congrArg EngSt.cyc (eng_setEng_same ..))
  · exact (f_vregWrite ..).trans (f_addF_same ..)

end

/-- Settles O35: each operation by what it writes in every lane, the loads by what the end of their bundle delivers. -/
theorem vectorAndScalarOperations : Obligations.VectorAndScalarOperations := by
  unfold Obligations.VectorAndScalarOperations
  refine fun s hrun => ⟨?add, ?sub, ?mul, ?conj, ?shr, ?mag2, ?min, ?max, ?norm, ?exp, ?bxd, ?bxclr, ?ready, ?stall, ?ldx, ?ldy, ?ldk, ?ldkb⟩
  case add | sub => exact fun e r x y o ⟨hi, hn⟩ => does_vregWrite rfl hrun hi (vecOp2_vec hi.2.1 ..) hn
  case conj => exact fun e r x o ⟨hi, hn⟩ => does_vregWrite rfl hrun hi (vecOp1_vec hi.2.1 ..) hn
  case mul =>
    exact fun e i x y o ⟨hi, hl⟩ =>
      does_accWrite_free rfl hrun hi (vecOp2_vec hi.2.1 ..) hl fun _ _ => inAcc_cmul (native_comps _) (native_comps _)
  case mag2 =>
    exact fun e i x o ⟨hi, hl⟩ => does_accWrite_free rfl hrun hi (vecOp1_vec hi.2.1 ..) hl fun _ _ => inAcc_vMag2 (native_comps _)
  case shr => exact fun e r x sh o hi => does_vregWrite rfl hrun hi (vecOp1_vec hi.2.1 ..) fun _ _ => native_vShr (native_comps _) sh
  case min => exact fun e r x y o hi => does_vregWrite rfl hrun hi (vecOp2_vec hi.2.1 ..) fun _ _ => native_vMin (native_comps _) (native_comps _)
  case max => exact fun e r x y o hi => does_vregWrite rfl hrun hi (vecOp2_vec hi.2.1 ..) fun _ _ => native_vMax (native_comps _) (native_comps _)
  case norm => exact fun e i r o hi => norm_shifts hrun hi i r
  case exp => exact fun e r i o ⟨hi, _⟩ => exp_least hrun hi r i
  case bxd => exact fun e r o hi => bxd_moves hrun hi r
  case bxclr => exact fun e o hi => bxclr_resets hrun hi
  case ready => exact fun e r o ⟨hi, hl⟩ => ldx_ready hrun hi hl
  case stall => exact fun e r x o ⟨hacts, hl, h⟩ => conj_stalls hrun hacts hl rfl h
  case ldx => exact fun e r o hi => does_load (g := 0) (b := false) rfl hrun hi
  case ldy => exact fun e r o hi => does_load (g := 1) (b := false) rfl hrun hi
  case ldk => exact fun e r o hi => does_load (g := 2) (b := false) rfl hrun hi
  case ldkb => exact fun e r o hi => does_load (g := 2) (b := true) rfl hrun hi

end Sys2Proof.Machine
end
